-- ==== Sys2Proof/Word.lean ====
section
/-! DEFINITION. Words and bytes, the supplies, and what the outside answers while one word is accessed. -/
namespace Sys2Proof

/-- A 32-bit word, the unit of management access (R424). -/
abbrev Word := BitVec 32

/-- A byte. -/
abbrev Byte := BitVec 8

/-- What the outside of the block decides during one management access of a word: bytes in error of the memory words it
reads (R20, R321), the stall cycles of an instruction it steps (R227), whether a channel's low comparator is low (R147),
and how an MDIO access is answered (R357). -/
structure Outside where
  err0 : Nat := 0
  err1 : Nat := 0
  tagBad : Bool := false
  stall : Nat := 0
  compLow : Bool := true
  turn : Bool := true
  data : Nat := 0
  deriving DecidableEq, Repr

/-- The supplies of Table 22-5. -/
inductive Supply where
  | core | cny | cnyio | fe (q : Nat) | pll | io18 | an | ser | aser | io33 | dram (n : Nat)
  deriving DecidableEq, Repr

end Sys2Proof
end

