-- ==== Sys2Proof/Machine/Store.lean ====
section
/-! DEFINITION. Finite maps as plain data: lists of (key, value) with rising keys, and sparse stores in one canonical
form, in which an entry equal to what an unlisted key reads as is not listed. -/
namespace Sys2Proof.Machine

/-- A finite map from numbers. -/
abbrev Map (α : Type) := List (Nat × α)

/-- The value listed under `k`. -/
def mget {α : Type} (m : Map α) (k : Nat) : Option α := (m.find? (fun p => p.1 == k)).map (·.2)

/-- The value listed under `k`, else `dflt`. -/
def mgetD {α : Type} (m : Map α) (k : Nat) (dflt : α) : α := (mget m k).getD dflt

/-- List `v` under `k`, in key order, in place of what stood there. -/
def mput {α : Type} : Map α → Nat → α → Map α
  | [], k, v => [(k, v)]
  | (k', v') :: r, k, v =>
    if k < k' then (k, v) :: (k', v') :: r
    else if k = k' then (k, v) :: r
    else (k', v') :: mput r k v

/-- Strike the entry of `k`. -/
def mdel {α : Type} (m : Map α) (k : Nat) : Map α := m.filter (fun p => p.1 != k)

/-- Change the entry of `k` (from `dflt` when absent). -/
def mupd {α : Type} (m : Map α) (k : Nat) (dflt : α) (f : α → α) : Map α := mput m k (f (mgetD m k dflt))

/-- Read a sparse store: the listed value, else what the unlisted key reads as. -/
def spGet {α : Type} (d : Nat → α) : List (Nat × α) → Nat → α
  | [], k => d k
  | (k', v) :: r, k => if k = k' then v else spGet d r k

/-- Put an entry at its place in rising key order. -/
def spIns {α : Type} : List (Nat × α) → Nat → α → List (Nat × α)
  | [], k, v => [(k, v)]
  | (k', v') :: r, k, v => if k < k' then (k, v) :: (k', v') :: r else (k', v') :: spIns r k v

/-- Strike the entry of a key. -/
def spDel {α : Type} (m : List (Nat × α)) (k : Nat) : List (Nat × α) := m.filter (fun p => p.1 != k)

/-- Write a sparse store, keeping it canonical: writing what an unlisted key reads as strikes the entry. -/
def spSet {α : Type} [DecidableEq α] (d : Nat → α) (m : List (Nat × α)) (k : Nat) (v : α) : List (Nat × α) :=
  if v = d k then spDel m k else spIns (spDel m k) k v

/-- Return the keys `lo ≤ k < hi` of a sparse store to what they read as when unlisted. -/
def spClear {α : Type} (m : List (Nat × α)) (lo hi : Nat) : List (Nat × α) := m.filter (fun p => !(decide (lo ≤ p.1 ∧ p.1 < hi)))

/-- Every key of the list is above `b`, the keys rise strictly, and no entry reads as the default. -/
def spWfFrom {α : Type} [DecidableEq α] (d : Nat → α) : Option Nat → List (Nat × α) → Bool
  | _, [] => true
  | b, (k, v) :: r => (b.all (· < k)) && decide (v ≠ d k) && spWfFrom d (some k) r

/-- The canonical form of a sparse store. -/
def spWf {α : Type} [DecidableEq α] (d : Nat → α) (m : List (Nat × α)) : Bool := spWfFrom d none m

/-- The bits `msb..lsb` of a word as a number. -/
def bits (w : Word) (msb lsb : Nat) : Nat := w.toNat / 2 ^ lsb % 2 ^ (msb + 1 - lsb)

/-- The word with bits `msb..lsb` replaced by `v`. -/
def setBits (w : Word) (msb lsb : Nat) (v : Nat) : Word :=
  let n := 2 ^ (msb + 1 - lsb)
  BitVec.ofNat 32 (w.toNat - bits w msb lsb * 2 ^ lsb + v % n * 2 ^ lsb)

/-- Bit `i` of a word. -/
def bit (w : Word) (i : Nat) : Bool := w.getLsbD i

/-- The little-endian bytes of a number (R24). -/
def leBytes : Nat → Nat → List Byte
  | 0, _ => []
  | n + 1, v => BitVec.ofNat 8 v :: leBytes n (v / 256)

/-- The number little-endian bytes spell. -/
def ofLe : List Byte → Nat
  | [] => 0
  | b :: r => b.toNat + 256 * ofLe r

/-- `len` bytes of a list from offset `off`, read as a little-endian number. -/
def leAt (l : List Byte) (off len : Nat) : Nat := ofLe ((l.drop off).take len)

/-- The two's-complement reading of the low `w` bits of `v`. -/
def signed (w v : Nat) : Int := if v % 2 ^ w < 2 ^ (w - 1) then (v % 2 ^ w : Nat) else (v % 2 ^ w : Nat) - (2 ^ w : Nat)

/-- The low `w` bits of an integer in two's complement. -/
def unsigned (w : Nat) (v : Int) : Nat := (v % (2 ^ w : Nat)).toNat

/-- A Bool as 0 or 1. -/
def b2n (b : Bool) : Nat := if b then 1 else 0

/-- Saturate an integer. -/
def clampI (lo hi v : Int) : Int := if v < lo then lo else if hi < v then hi else v

/-- Saturate a number from above. -/
def satN (hi v : Nat) : Nat := if hi < v then hi else v

/-- Ceiling of a quotient. -/
def cdiv (a b : Nat) : Nat := (a + b - 1) / b

/-- The first CK_CTL edge at or after tick `t`: one CK_CTL cycle is 4 ticks (R26). -/
def ctlEdge (t : Nat) : Nat := cdiv t 4 * 4

/-- The positions of the set bits of `v` below `n`, rising. -/
def bitList (n v : Nat) : List Nat := (List.range n).filter (fun i => v.testBit i)

end Sys2Proof.Machine
end

