-- ==== Sys2Proof/Syntax.lean ====
section
/-! DEFINITION. The commands of the block: one constructor per row of the opcode table. `t` is the CK_TDC tick, counted
from PLL lock, at which the command takes place (log entry 2); `src` is the requester's source code (Table 20-3). -/
namespace Sys2Proof
open Sys2Proof.Machine

/-- A command of the opcode table. -/
inductive Instr where
  /-- POWER_ON, R437. Supplies rise; power-good is reached after every supply has stayed in range for 1 ms, and the power-on reset holds the device in RESET until then. -/
  | powerOn (cny : Bool)
  /-- RESET_N_ASSERT, R439. RESET_n is held low for at least 1 µs, so the device enters RESET with every output high-impedance. -/
  | resetNAssert (c ns : Nat)
  /-- RESET_RELEASE, R10. RESET_n is high and all supplies are good, so the device leaves RESET and enters HEADFRAME. -/
  | resetRelease (straps safeSw c : Nat)
  /-- PLL_LOCK, R26. The PLL locks to REF, the clock domains start and the time base starts counting. -/
  | pllLock
  /-- IDENTITY_KEY_DERIVATION, R58. Stage 2 completes: the identity key is derived and the production certificate is checked, and a failed check logs 0x0401 and enters HELD. -/
  | identityKeyDerivation (t : Nat)
  /-- FLASH_DISCOVERY, R47. Stage 3 completes: the flash is reset, its JEDEC ID is read and the read mode is chosen from SFDP. -/
  | flashDiscovery (t : Nat) (jedec : List Byte) (sfdpOk : Bool) (modes : List (Nat × Nat)) (sizeLog2 : Nat)
  /-- FLASH_READ_BURST, R48. An image read burst completes or fails; a failure is retried once at half the clock, and a second failure rejects the image with 0x030A. -/
  | flashReadBurst (t : Nat) (data : List Byte) (failed : Bool)
  /-- IMAGE_VERIFY, R55. Digest and signature verification of the image completes, and the image is accepted or rejected. -/
  | imageVerify (t : Nat)
  /-- SOFT_RESET, R56. The 1 ms soft reset that follows a rejected image ends, and the other image is read. -/
  | softReset (t : Nat)
  /-- SECTION_ACTIVATION, R56. Stage 6: the loaded sections take effect and the cores, converters, steering loops and lanes start. -/
  | sectionActivation (t : Nat) (cals : List (Int × Int × Nat × Nat))
  /-- COMMISSIONING_HANDOVER, R57. Stage 7: the commissioning record and the SAFE section are handed to the Canary. -/
  | commissioningHandover (t : Nat) (record : List Byte)
  /-- START, R10. TOP_CMD START: in ARMED the admission check is run and the device enters RANGING when it passes; in other states the command is rejected. -/
  | start (src t : Nat)
  /-- STOP, R14. TOP_CMD STOP: the STOP is made pending in RANGING and rejected in ARMED. -/
  | stop (src t : Nat)
  /-- STOP_COMPLETE, R10. A pending STOP completes once the current frame has ended and every record has left, and the device enters ARMED. -/
  | stopComplete (t : Nat)
  /-- LEAVE_HELD, R12. TOP_CMD LEAVE_HELD: the device enters ARMED when the conditions of R12 and R412 hold, and rejects the command with a reason otherwise. -/
  | leaveHeld (src t : Nat)
  /-- HOLD, R15. TOP_CMD HOLD: fault 0x0101 is logged and the device enters HELD. -/
  | hold (src t : Nat)
  /-- W288_WRITE_BACK, R20. A corrected on-chip SRAM word is written back at the next idle cycle of its bank. -/
  | w288WriteBack (t word : Nat)
  /-- CANARY_CLOCK_GATE, R27. A 48-RC-cycle gate ends and the Canary compares its counts of REF and CK_PER edges. -/
  | canaryClockGate (t c ref per : Nat)
  /-- PLL_UNLOCK, R28. The lock detector finds the PLL unlocked and raises fault 0x0202. -/
  | pllUnlock (t : Nat)
  /-- PLL_RELOCK, R29. REF returns and the PLL relocks; the time base resumes and disc is set. -/
  | pllRelock
  /-- SLEW_CARRY, R31. The fractional rate accumulator passes ±1, so the time base advances by 2 or by 0 on that tick. -/
  | slewCarry (t : Nat)
  /-- STEP_COMMIT, R32. A write of CLK_STEP_HI commits a signed step, which takes effect at once or is held until the next frame boundary. -/
  | stepCommit (src t : Nat) (value : Word)
  /-- PAIR_LOW_WRITE, R33. A write of the low word of a writable 64-bit pair is held for its requester. -/
  | pairLowWrite (src t addr : Nat) (value : Word)
  /-- PAIR_HIGH_WRITE, R426. A write of the high word of a pair commits both halves, or writes the high half alone and sets torn. -/
  | pairHighWrite (src t addr : Nat) (value : Word)
  /-- LOW_WORD_READ, R426. A read of the low word of a 64-bit pair loads the requester's snapshot slot. -/
  | lowWordRead (src t addr : Nat)
  /-- HIGH_WORD_READ, R426. A read of the high word of a pair returns the snapshot, or returns the live half and sets torn. -/
  | highWordRead (src t addr : Nat)
  /-- SYNC_EPOCH_SEND, R36. A source device's SYNC period expires, so it drives an epoch edge and sends the message 1 µs later. -/
  | syncEpochSend (t : Nat)
  /-- SYNC_IN_EDGE, R35. A SYNC epoch edge is captured by a TDC. -/
  | syncInEdge (t phase : Nat)
  /-- SYNC_MESSAGE, R36. A SYNC message is received and checked; the offset is applied as a step or a slew, or a CRC failure discards the epoch. -/
  | syncMessage (t message : Nat)
  /-- SYNC_MESSAGE_TIMEOUT, R37. No message arrives within 2 µs of the edge, so the epoch is discarded and 0x0203 is logged. -/
  | syncMessageTimeout (t : Nat)
  /-- TIME_SOURCE_HOLDOVER, R37. No valid epoch or PPS edge arrives within the limit, so holdover is set and 0x0204 is logged. -/
  | timeSourceHoldover (t : Nat)
  /-- PPS_IN_EDGE, R38. A PPS_IN rising edge disciplines the time base, or is rejected when it lies more than 20 ms from its expected time. -/
  | ppsInEdge (t phase : Nat)
  /-- PPS_OUT_RISE, R39. The time base reaches a whole second after the offset, so PPS_OUT rises. -/
  | ppsOutRise (t : Nat)
  /-- PPS_OUT_FALL, R39. The PPS_OUT width expires and PPS_OUT falls. -/
  | ppsOutFall (t : Nat)
  /-- FRAME_AT_ARM, R40. A write of CLK_FRAME_AT_CTRL.arm arms a scheduled frame start, or refuses it as too late. -/
  | frameAtArm (src t : Nat) (value : Word)
  /-- SCHEDULED_FRAME_START, R40. The time base reaches CLK_FRAME_AT, so the next frame starts and the schedule advances by its period. -/
  | scheduledFrameStart (t : Nat)
  /-- GPTP_MESSAGE, R360. A received gPTP frame is passed to the time function. -/
  | gptpMessage (t ns : Nat)
  /-- GPTP_SYNC_SEND, R360. As grandmaster, the device sends Sync and Follow_Up every 125 ms. -/
  | gptpSyncSend (t : Nat)
  /-- FUSE_KEY, R59. LMP_FUSE_CMD FUSE_KEY starts programming of a customer key slot. -/
  | fuseKey (src t slot confirm : Nat)
  /-- REVOKE, R59. LMP_FUSE_CMD REVOKE starts revocation of a fused slot. -/
  | revoke (src t slot confirm : Nat)
  /-- FUSE_PROGRAMMING_DONE, R59. Fuse programming completes and is read back, and 0x0403 is logged when the readback differs. -/
  | fuseProgrammingDone (t : Nat) (hash : List Word)
  /-- ATTEST, R60. LMP_ATTEST_CMD ATTEST starts generation of a signed report. -/
  | attest (src t : Nat)
  /-- ATTEST_DONE, R60. The attestation report is complete in LMP_ATTEST_BUF. -/
  | attestDone (t : Nat)
  /-- FRAME_FIRST_ENTRY_READ, R66. The sequencer reads a frame's first entry; the frame number, keystream and start tick are fixed and a type 0x04 audit record is written. -/
  | frameFirstEntryRead (t errBytes : Nat)
  /-- SCAN_ENTRY_READ, R63. The sequencer reads and checks a scan entry, skips an invalid or poisoned one, and ends the frame at the end marker. -/
  | scanEntryRead (t errBytes : Nat)
  /-- FRAME_BOUNDARY, R66. The decision tick of a new frame's first shot passes, and shadowed writes, the reserve list and the pool switch. -/
  | frameBoundary (t : Nat) (edgePoisoned : Bool)
  /-- SHOT_ISSUE, R71. A shot is issued into the lowest FREE tally slot, with its shot ID, offset and D. -/
  | shotIssue (t predicted : Nat)
  /-- HANDOVER, R73. At edge H, a slot moves from ISSUED to HANDED and its shot enters the gate pipeline. -/
  | handover (t : Nat)
  /-- STEERING_SETTLED, R118. The port reports settled, and issue of the settle cell resumes. -/
  | steeringSettled (t : Nat)
  /-- SETTLE_TIMEOUT, R118. A port has not settled within its timeout, so it reports settled and 0x0705 is logged. -/
  | settleTimeout (t port : Nat)
  /-- ADMISSION_TEST, R98. At D, the gate admits or refuses a HANDED shot on inhibit, budget and steering. -/
  | admissionTest (t : Nat)
  /-- FIRE, R74. At D + 6 the EMIT edge fires, the slot checks out, the block is assigned and the budget is debited. -/
  | fire (t : Nat)
  /-- CONFIDENCE_FLAG, R78. A confidence flag reaches the sequencer and is held until dwell_min, honoured, or ignored. -/
  | confidenceFlag (t cell frame : Nat)
  /-- SQUASH, R80. At edge S a squash takes the cell's ISSUED slots, cancels unissued shots, audits them and feeds the pool. -/
  | squash (t cell frame : Nat)
  /-- SEQ_SQUASH_CMD, R82. SEQ_SQUASH_CMD SQUASH squashes every qualifying cell with the given index. -/
  | seqSquashCmd (src t : Nat) (value : Word)
  /-- ACCOUNTING_CHECK, R88. Once per round, the shot accounting identities are checked, and a failure raises 0x0506. -/
  | accountingCheck (t : Nat)
  /-- TALLY_PARITY_ERROR, R75. A tally slot parity error raises class H fault 0x0501. -/
  | tallyParityError (t : Nat)
  /-- TALLY_SNAPSHOT_READ, R93. A read of a tally slot's first word loads the requester's tally snapshot. -/
  | tallySnapshotRead (src t slot word : Nat)
  /-- INHIBIT_ASSERT, R99. An external inhibit, such as INHIBIT_n, is captured by the gate within 2 ticks. -/
  | inhibitAssert (t : Nat)
  /-- EN_SETTLE_EXPIRY, R97. EMIT_EN has been high for en_settle µs, so the gate lifts its EMIT_EN inhibit. -/
  | enSettleExpiry (t : Nat)
  /-- MON_CONVERSION, R102. The MON integrator converts a shot's energy result and checks it for mismatch and over-energy. -/
  | monConversion (t emitter result : Nat)
  /-- MON_DEBIT_CORRECTION, R105. The nominal debit is replaced by the measured energy at the later of window open and conversion end. -/
  | monDebitCorrection (t : Nat)
  /-- STRAY_MON_PULSE, R107. A MON pulse outside any gate is counted, and more than 4 in a round raise 0x0605. -/
  | strayMonPulse (t emitter : Nat)
  /-- BUDGET_BUCKET_BOUNDARY, R103. A new bucket begins and the oldest leaves the window sum. -/
  | budgetBucketBoundary (t : Nat)
  /-- EMT_REINSTATE, R107. EMT_CMD REINSTATE returns a removed emitter at the next frame boundary. -/
  | emtReinstate (src t emitter : Nat)
  /-- BUDGET_PARITY_ERROR, R108. A parity error in a budget accumulator or shadow raises 0x0604. -/
  | budgetParityError (t : Nat)
  /-- POSITION_SAMPLE, R111. A demodulated position sample arrives; the position, velocity, bridge check and lock are updated. -/
  | positionSample (t port : Nat) (a b : Int) (unitDone unitOk : Bool)
  /-- RELOCK_TIMEOUT, R119. locked stays 0 for relock ms, so the port is removed with 0x0702. -/
  | relockTimeout (t port : Nat)
  /-- STR_REINSTATE, R119. STR_CMD REINSTATE restarts a removed steering port. -/
  | strReinstate (src t port : Nat)
  /-- POLYGON_INDEX, R117. An index edge is timestamped and the revolution period updated. -/
  | polygonIndex (t port : Nat)
  /-- INDEX_TIMEOUT, R117. No index edge arrives within 1.5 P, so locked falls at once. -/
  | indexTimeout (t port : Nat)
  /-- STR_MODE_WRITE, R116. A mode write takes effect at once, or is refused in RANGING with cfg_rej set. -/
  | strModeWrite (src t port : Nat) (value : Word)
  /-- LEADING_EDGE, R131. A low-threshold crossing is captured as (t, f), or counted as lost in dead time. -/
  | leadingEdge (t ch fine : Nat)
  /-- EVENT_COMPLETE, R128. An event record completes and is passed to gating 4 ticks later. -/
  | eventComplete (t ch width : Nat) (hi : Bool)
  /-- WINDOW_BOUNDARY_APPLY, R135. Pending range, threshold, notch, enable and m_eff changes apply at a channel's window boundary. -/
  | windowBoundaryApply (t ch : Nat)
  /-- SETTLE_END, R135. A channel's 12-tick settle ends. -/
  | settleEnd (t ch : Nat)
  /-- RFE_MODE_WRITE, R136. A write of RFE_CTRLc.mode takes effect with a settle, or is refused in RANGING. -/
  | rfeModeWrite (src t ch : Nat) (value : Word)
  /-- METER_ROUND_CLOSE, R154. 36 ticks after a round ends, the meter counts are copied out and cleared. -/
  | meterRoundClose (t : Nat)
  /-- QUADRANT_SUPPLY_TRIP, R145. VDD_FEq leaves range, so the quadrant is removed with 0x0801. -/
  | quadrantSupplyTrip (t quadrant : Nat)
  /-- LINE_MONITOR_CHECK, R146. The per-round delay-line check flags drift and removes the channel after 64 consecutive rounds of drift. -/
  | lineMonitorCheck (t ch tap : Nat)
  /-- COMPARATOR_STUCK, R146. The low comparator has stayed high for 16,384 ticks, so the channel is removed. -/
  | comparatorStuck (t ch : Nat)
  /-- TRIM_PARITY_ERROR, R146. A parity error in a trim shadow removes the channel with 0x0805. -/
  | trimParityError (t ch : Nat)
  /-- REINSTATE_CH, R147. RFE_CMD REINSTATE_CH returns a removed channel at the next frame boundary. -/
  | reinstateCh (src t ch : Nat) (compLow : Bool)
  /-- REINSTATE_QUAD, R147. RFE_CMD REINSTATE_QUAD returns a quadrant and schedules calibration of its ports. -/
  | reinstateQuad (src t quadrant : Nat)
  /-- WINDOW_OPEN, R151. A shot's window opens on each listening channel. -/
  | windowOpen (t : Nat)
  /-- CHECK_IN, R73. A shot's window closes and its tally slot returns to FREE. -/
  | checkIn (t : Nat)
  /-- EVENT_ARRIVAL, R150. An event record passes the gating stages up to the provisional buffer. -/
  | eventArrival (t ch : Nat)
  /-- VERDICT, R166. At X_b + 48, the block is judged clean, tainted or unchecked, and its events are committed or rolled back. -/
  | verdict (t : Nat)
  /-- EVENT_COMMIT, R165. A committed event leaves its share for the histogram of its cell. -/
  | eventCommit (t errBytes : Nat)
  /-- HISTOGRAM_UPDATE, R179. A queued update writes a committed event into its moment bin. -/
  | histogramUpdate (t half errBytes : Nat)
  /-- HISTOGRAM_CLOSING, R176. A histogram becomes CLOSING once its shots, verdicts and issue are complete. -/
  | histogramClosing (t : Nat)
  /-- SIEVE_LANE_TAKE, R188. A free sieve lane takes a CLOSING histogram and reads and clears it. -/
  | sieveLaneTake (t lane : Nat) (errWords : List Nat) (exportRoom : Bool)
  /-- HISTOGRAM_READOUT_END, R176. The readout ends and the slot becomes FREE. -/
  | histogramReadoutEnd (t lane : Nat)
  /-- CANDIDATE_HANDOFF, R187. A candidate set is written to the candidate buffer, or counted in SIV_CNT_HELD in HELD. -/
  | candidateHandoff (t lane errBytes : Nat)
  /-- LODE_WRITE_BACK, R193. A neighbourhood is accumulated into its lode slot in DRAM. -/
  | lodeWriteBack (t : Nat) (errSlots : List Nat)
  /-- LODE_CLEAR_PASS, R192. A clearing pass of the anchor tables completes. -/
  | lodeClearPass (t : Nat)
  /-- HST_WINDOW_WRITE, R178. A write to the histogram window is ignored and sets wr_rej. -/
  | hstWindowWrite (src t addr : Nat) (value : Word)
  /-- HST_SLOT_SNAPSHOT_READ, R197. A read of a slot table entry's first word loads the requester's snapshot. -/
  | hstSlotSnapshotRead (src t entry word : Nat)
  /-- SLOT_TABLE_PARITY_ERROR, R196. A slot table parity error raises 0x0A06. -/
  | slotTableParityError (t : Nat)
  /-- SET_COPY, R204. A set is copied into the core's set ring and BATCH is raised. -/
  | setCopy (t core : Nat)
  /-- BATCH, R218. The core takes the BATCH event and switches to the shadow set. -/
  | batch (t core : Nat)
  /-- CANARY, R218. The core takes the CANARY event. -/
  | canary (t core : Nat)
  /-- ROUND, R218. The core takes the ROUND event. -/
  | round (t core : Nat)
  /-- BATCH_TIME_LIMIT, R205. A batch time exceeds ASY_BATCH_LIMIT, so 0x0C05 is raised. -/
  | batchTimeLimit (t core : Nat)
  /-- DIVISION_RESULT, R211. A division result is written 7 instructions after its issue. -/
  | divisionResult (t core : Nat)
  /-- LOOP_COUNT_END, R216. A loop's count runs out and the loop is popped. -/
  | loopCountEnd (t core : Nat)
  /-- BACKGROUND_SLICE_EXHAUSTED, R223. Background cycles reach ASY_BG_SLICE and foreground issue holds until the round. -/
  | backgroundSliceExhausted (t core : Nat)
  /-- NOP, R213. Does nothing. -/
  | nop (t core : Nat)
  /-- MPY, R209. Multiplies into the accumulator. -/
  | mpy (t core errU errV stall : Nat)
  /-- MAC, R209. Multiplies and adds into the accumulator. -/
  | mac (t core errU errV stall : Nat)
  /-- MSU, R209. Multiplies and subtracts from the accumulator. -/
  | msu (t core errU errV stall : Nat)
  /-- DMPY, R213. Dual multiply into A0 and A1. -/
  | dmpy (t core errU errV stall : Nat)
  /-- DMAC, R213. Dual multiply-accumulate. -/
  | dmac (t core errU errV stall : Nat)
  /-- DMSU, R213. Dual multiply-subtract. -/
  | dmsu (t core errU errV stall : Nat)
  /-- PLD, R213. Parallel loads only. -/
  | pld (t core errU errV stall : Nat)
  /-- ADD, R208. d = a + b. -/
  | add (t core : Nat)
  /-- SUB, R208. d = a − b. -/
  | sub (t core : Nat)
  /-- CMP, R213. Sets the flags from a − b. -/
  | cmp (t core : Nat)
  /-- AND, R213. Bitwise AND. -/
  | and (t core : Nat)
  /-- OR, R213. Bitwise OR. -/
  | or (t core : Nat)
  /-- XOR, R213. Bitwise XOR. -/
  | xor (t core : Nat)
  /-- ANDN, R213. a AND NOT b. -/
  | andn (t core : Nat)
  /-- SHL, R213. Shift left. -/
  | shl (t core : Nat)
  /-- SHR, R213. Logical shift right. -/
  | shr (t core : Nat)
  /-- SRA, R213. Arithmetic shift right. -/
  | sra (t core : Nat)
  /-- MIN, R213. Signed minimum. -/
  | min (t core : Nat)
  /-- MAX, R213. Signed maximum. -/
  | max (t core : Nat)
  /-- ABS, R213. Absolute value. -/
  | abs (t core : Nat)
  /-- NEG, R213. Negation. -/
  | neg (t core : Nat)
  /-- EXT, R213. Extracts a bit field. -/
  | ext (t core : Nat)
  /-- INS, R213. Inserts a bit field. -/
  | ins (t core : Nat)
  /-- MUL, R213. 32 × 32 multiply, low word. -/
  | mul (t core : Nat)
  /-- NORM, R213. Counts redundant sign bits. -/
  | norm (t core : Nat)
  /-- DIV, R213. Starts a signed division. -/
  | div (t core : Nat)
  /-- DIVU, R213. Starts an unsigned division. -/
  | divu (t core : Nat)
  /-- CLRA, R213. Clears an accumulator. -/
  | clra (t core : Nat)
  /-- ADDA, R213. Adds a shifted register to an accumulator. -/
  | adda (t core : Nat)
  /-- SUBA, R213. Subtracts a shifted register from an accumulator. -/
  | suba (t core : Nat)
  /-- MOVA, R213. Moves a shifted accumulator to a register. -/
  | mova (t core : Nat)
  /-- SHA, R213. Shifts an accumulator. -/
  | sha (t core : Nat)
  /-- ADDAA, R213. acc = A0 + A1. -/
  | addaa (t core : Nat)
  /-- RNDA, R213. Rounds an accumulator. -/
  | rnda (t core : Nat)
  /-- LDI, R213. Loads a sign-extended immediate. -/
  | ldi (t core : Nat)
  /-- LDIH, R213. Loads the high half immediate. -/
  | ldih (t core : Nat)
  /-- ADDI, R213. Adds an immediate. -/
  | addi (t core : Nat)
  /-- CMPI, R213. Compares with an immediate. -/
  | cmpi (t core : Nat)
  /-- LDU, R207. Loads from the U bus. -/
  | ldu (t core errU errV stall : Nat)
  /-- LDV, R207. Loads from the V bus. -/
  | ldv (t core errU errV stall : Nat)
  /-- STU, R207. Stores on the U bus. -/
  | stu (t core errU errV stall : Nat)
  /-- STV, R207. Stores on the V bus. -/
  | stv (t core errU errV stall : Nat)
  /-- SETP, R213. Sets a pointer. -/
  | setp (t core : Nat)
  /-- BR, R214. Conditional branch after 2 delay slots. -/
  | br (t core : Nat)
  /-- CALL, R213. Call, setting LR. -/
  | call (t core : Nat)
  /-- JR, R213. Jump to a register or LR. -/
  | jr (t core : Nat)
  /-- DO, R216. Starts a zero-overhead loop. -/
  | doLoop (t core : Nat)
  /-- RETE, R219. Returns from an event handler. -/
  | rete (t core : Nat)
  /-- MOVS, R215. Moves to or from a special register. -/
  | movs (t core : Nat)
  /-- WAIT, R218. Issues nothing until an enabled event is pending. -/
  | wait (t core : Nat)
  /-- ILLEGAL_INSTRUCTION, R222. An illegal instruction in D stops and removes the core with 0x0C01. -/
  | illegalInstruction (t core : Nat)
  /-- POISONED_FETCH, R202. A fetch from a poisoned I word stops and removes the core with 0x0C02. -/
  | poisonedFetch (t core errBytes : Nat)
  /-- ASY_HALT, R227. A write of ASY_CTRLk.halt halts or resumes the core, subject to the acceptance rule. -/
  | asyHalt (src t core : Nat) (value : Word)
  /-- ASY_DISPATCH_WRITE, R227. A write of dispatch is accepted or refused under the admission rule. -/
  | asyDispatchWrite (src t core : Nat) (value : Word)
  /-- ASY_STEP, R227. A write of step executes one instruction on a halted core. -/
  | asyStep (src t core errU errV stall : Nat)
  /-- BREAKPOINT_HIT, R227. The instruction at ASY_BKPTk reaches D and the core halts. -/
  | breakpointHit (t core : Nat)
  /-- ASY_REGISTER_WINDOW_ACCESS, R227. A register or I window access is performed when the core is halted, and is refused while it runs. -/
  | asyRegisterWindowAccess (src t core off : Nat) (write : Bool) (value : Word) (errBytes : Nat)
  /-- POINT_ACCEPT, R232. The point block checks a commit, fills the H fields and queues it, or refuses it as malformed. -/
  | pointAccept (t core : Nat)
  /-- NO_BATCH_FALLBACK, R234. An accepted cell with no histogram gets a no_batch fallback record. -/
  | noBatchFallback (t : Nat)
  /-- PACKET_CLOSE, R237. A packet closes on max_len, on pack_wait or on an empty Bulk queue. -/
  | packetClose (t stream : Nat) (errRecords : List Nat) (csiRoom ethRoom : Bool)
  /-- BULK_DROP_GAP_RECORD, R241. A gap record of reason 0x02 is queued once room returns. -/
  | bulkDropGapRecord (t stream : Nat)
  /-- LODE_EXPORT, R240. PNT_CMD LODE_EXPORT sends the sealed lode bank. -/
  | lodeExport (src t : Nat)
  /-- JOURNAL_DUMP, R240. PNT_CMD JOURNAL_DUMP sends the change journal. -/
  | journalDump (src t : Nat)
  /-- FLUSH, R242. PNT_CMD FLUSH discards a Bulk queue and sends a gap record of reason 0x05. -/
  | flush (src t stream : Nat)
  /-- ROUND_BOUNDARY, R246. A round begins and every allocation is renewed. -/
  | roundBoundary (t : Nat)
  /-- ACTIVITY_REQUEST, R248. A budgeted request is served, waits for the next round, or is recorded as an overrun. -/
  | activityRequest (t activity units : Nat) (panic : Bool)
  /-- CHECK, R253. FMN_CMD CHECK runs the admission check. -/
  | check (src t : Nat)
  /-- ADMISSION_CHECK_DONE, R252. The admission check completes, passing or recording its failing condition. -/
  | admissionCheckDone (t : Nat)
  /-- FMN_ALLOC_WRITE, R254. A write of FMN_ALLOCa is held pending until a check that includes it passes. -/
  | fmnAllocWrite (src t activity : Nat) (value : Word)
  /-- FOREMAN_PARITY_ERROR, R256. A Foreman parity error raises 0x0E05. -/
  | foremanParityError (t : Nat)
  /-- WAV_TAP_CFG_WRITE, R271. A tap configuration write is held until the record boundary, or applied at once. -/
  | wavTapCfgWrite (src t tap : Nat) (value : Word)
  /-- LEVEL_TRIGGER, R266. The filtered waveform crosses the level, so a primed level source raises. -/
  | levelTrigger (t tap k : Nat) (samples : List Nat)
  /-- TRIG_IN_EDGE, R265. A TRIG_IN rising edge is timestamped and raises source 3. -/
  | trigInEdge (t tick fine : Nat)
  /-- TRIGGER_DECISION, R267. 256 samples after the earliest trigger sample, the tap decides its trigger and starts a record. -/
  | triggerDecision (t tap : Nat)
  /-- WRITE_BUFFER_FULL, R273. A post-trigger sample finds the buffer full, so capture ends truncated. -/
  | writeBufferFull (t tap full : Nat) (samples : List Nat)
  /-- CAPTURE_END, R269. The post-trigger samples are captured and the record ends. -/
  | captureEnd (t tap : Nat) (samples : List Nat)
  /-- RECORD_WRITTEN, R272. The record's header is written and WAV_RING_WR advances. -/
  | recordWritten (t tap preEnd : Nat)
  /-- REARM_END, R262. The re-arm time ends and the tap is ARMED. -/
  | rearmEnd (t tap : Nat)
  /-- WAV_GAP_RECORD, R274. Pending gap counts are written as gap records. -/
  | wavGapRecord (t tap : Nat)
  /-- WAV_FLUSH, R275. WAV_CMD FLUSH requests a flush of the tap's ring. -/
  | wavFlush (src t tap : Nat)
  /-- FLUSH_EXECUTE, R275. After any record in writing, the ring is discarded, the geometry applied and a gap record of reason 0x03 written. -/
  | flushExecute (t tap : Nat)
  /-- RING_DRAIN_APPLY, R275. The ring drains with a geometry pending, so the new geometry starts. -/
  | ringDrainApply (t tap : Nat)
  /-- STREAM_RECORD_READ, R276. The device reads a record from the ring and sends it on stream 10. -/
  | streamRecordRead (t tap : Nat) (errWords : List Nat)
  /-- TAP_PARITY_ERROR, R277. A configuration parity error sends the tap IDLE with 0x0F04. -/
  | tapParityError (t tap : Nat)
  /-- HKA_CONVERSION, R281. A converter delivers a result of its sequence entry. -/
  | hkaConversion (t u : Nat) (value : Int) (overload : Bool)
  /-- HKA_START, R282. HKA_CMD START starts a sequence, or the start is dropped. -/
  | hkaStart (src t u : Nat)
  /-- HKA_TIMER_OVERFLOW, R282. An HKA timer overflows and starts converters. -/
  | hkaTimerOverflow (t timer : Nat)
  /-- START_DELAY_END, R282. The start delay ends and the sequence begins. -/
  | startDelayEnd (t u : Nat)
  /-- INJECT, R283. HKA_CMD INJECT starts an injected burst, or the request is dropped. -/
  | inject (src t u burst input : Nat)
  /-- INJECTION_DONE, R283. The burst ends and its mean appears in HKA_INJ_RESULT. -/
  | injectionDone (t u : Nat) (samples : List Int)
  /-- HKA_CAL, R284. HKA_CMD CAL requests a self-calibration. -/
  | hkaCal (src t u : Nat)
  /-- SELF_CALIBRATION_DONE, R285. Self-calibration ends, passing or removing the converter. -/
  | selfCalibrationDone (t u : Nat) (offset gainPpm : Int) (offCode gainCode : Nat)
  /-- FILTER_OUTPUT, R287. A filter channel produces an output. -/
  | filterOutput (t ch : Nat) (inputs : List (Int × Int))
  /-- SWAP, R289. FLT_CMD SWAP activates the other bank with a fade, or is held pending or rejected. -/
  | swap (src t ch : Nat)
  /-- FADE_END, R289. The fade ends and a pending swap executes. -/
  | fadeEnd (t ch : Nat)
  /-- FLT_SYNC, R291. FLT_CMD SYNC requests a synchronising reset. -/
  | fltSync (src t ch : Nat)
  /-- SYNCHRONISING_RESET, R291. The channel's state is cleared at its next input sample and the settle count starts. -/
  | synchronisingReset (t ch : Nat)
  /-- FLT_REINSTATE, R294. FLT_CMD REINSTATE returns a removed filter channel. -/
  | fltReinstate (src t ch : Nat)
  /-- FLT_BANK_WRITE, R289. A coefficient write is applied to the inactive bank, or ignored during a fade or on the active bank. -/
  | fltBankWrite (src t addr : Nat) (value : Word)
  /-- FILTER_PARITY_ERROR, R294. A filter channel parity error removes the channel. -/
  | filterParityError (t ch : Nat)
  /-- SENSOR_SLOT_END, R300. A sensor slot yields a result that is converted to resistance and temperature. -/
  | sensorSlotEnd (t conv : Nat) (value lead : Int) (tripped : Bool)
  /-- BIAS_SLEW_STEP, R304. The bias code moves towards its target at the slew limit. -/
  | biasSlewStep (t : Nat)
  /-- OPEN_WIRE_TRIP, R303. A compliance comparator trips and the result is replaced by the fault value. -/
  | openWireTrip (t ch : Nat)
  /-- LEAD_TEST_START, R303. The 100 ms timer starts the lead test tone. -/
  | leadTestStart (t ch : Nat)
  /-- LEAD_TEST_END, R303. The tone ends and lead impedance and intermittent contact are judged. -/
  | leadTestEnd (t ch milliOhm first last : Nat)
  /-- HEATER_PERIOD_START, R305. A heater PWM period starts and pending settings apply. -/
  | heaterPeriodStart (t k : Nat)
  /-- HEATER_DUTY_END, R305. The heater duty ends and its output falls. -/
  | heaterDutyEnd (t k : Nat)
  /-- ENCODER_EDGE, R306. A filtered quadrature edge is counted, or counted as illegal. -/
  | encoderEdge (t k : Nat) (a b : Bool)
  /-- ENCODER_INDEX, R306. A rising ENCk_Z latches and optionally clears the count. -/
  | encoderIndex (t k : Nat)
  /-- IMU_TRIGGER, R307. IMU_INT or the period starts an automatic transfer, or is dropped. -/
  | imuTrigger (t : Nat) (byInt : Bool)
  /-- IMU_XFER, R307. SNS_IMU_XFER opcode 0x01 performs one transfer. -/
  | imuXfer (src t : Nat)
  /-- IMU_TRANSFER_DONE, R307. A transfer completes and its sample is stored in the ring. -/
  | imuTransferDone (t : Nat) (data : List Byte)
  /-- CAN_FRAME_RECEIVED, R308. A received frame is filtered into the FIFO with a timestamp, or dropped. -/
  | canFrameReceived (t n id dlc : Nat) (ide fd brs esi : Bool) (data : List Byte) (sof : Nat) (outs : List Outside)
  /-- CAN_FRAME_TRANSMITTED, R308. A transmit buffer's frame is sent. -/
  | canFrameTransmitted (t n : Nat)
  /-- CAN_BUS_OFF, R308. The controller goes bus-off with 0x1701. -/
  | canBusOff (t n : Nat)
  /-- RECOVER, R308. CAN_CMD RECOVER starts bus-off recovery. -/
  | recover (src t n : Nat)
  /-- CAN_AUTO_RECOVERY, R308. Automatic recovery completes after 128 occurrences of 11 recessive bits. -/
  | canAutoRecovery (t n : Nat)
  /-- CAN_CANARY_WRITE, R309. A write to Canary-owned CAN0 resources is ignored and sets canary_wr. -/
  | canCanaryWrite (src t addr : Nat) (value : Word)
  /-- TRAINING_STEP_DONE, R314. A training step completes, is repeated, falls back to 3200 or fails training. -/
  | trainingStepDone (t : Nat) (ok : Bool) (results : List (Nat × Nat × Nat))
  /-- TRAINING_COMPLETE, R317. Step 7 passes, so Hoist is trained and FMN_DRAM_CAP set. -/
  | trainingComplete (t : Nat) (baseline : Bool)
  /-- HOI_RETRAIN, R316. HOI_CMD RETRAIN starts, restarts or reinstates training. -/
  | hoiRetrain (src t : Nat)
  /-- HOI_RATE_WRITE, R316. A rate change starts training, is queued, or is refused in RANGING. -/
  | hoiRateWrite (src t : Nat) (value : Word)
  /-- LANE_TEST, R332. HOI_CMD LANE_TEST starts a lane test of a rank. -/
  | laneTest (src t ch rank : Nat)
  /-- LANE_TEST_DONE, R332. The lane test ends and marks dead devices. -/
  | laneTestDone (t : Nat) (bad : List Nat)
  /-- DRAM_READ, R321. A burst read is decoded and judged by codeword and tag. -/
  | dramRead (t activity addr err0 err1 : Nat) (tagBad : Bool)
  /-- DRAM_WRITE, R322. A burst write or merged write is performed with its tag. -/
  | dramWrite (t activity addr : Nat) (data : List Byte) (poison : Bool) (err0 err1 : Nat)
  /-- CORRECTED_WRITE_BACK, R323. A queued corrected burst is written back in an idle cycle. -/
  | correctedWriteBack (t ch : Nat)
  /-- REFRESH_DUE, R328. tREFI expires, so a refresh is issued or postponed. -/
  | refreshDue (t ch rank bankIdx : Nat) (wavPanic : Bool)
  /-- TEMPERATURE_POLL, R328. The 16 ms mode-register temperature poll runs. -/
  | temperaturePoll (t ch rank : Nat) (asks : Bool)
  /-- NEIGHBOUR_REFRESH, R329. A queued row-disturbance refresh of neighbouring rows is issued. -/
  | neighbourRefresh (t ch : Nat)
  /-- REFRESH_WINDOW_END, R329. The refresh window ends and the activate counts clear. -/
  | refreshWindowEnd (t ch : Nat)
  /-- PARITY_ALERT, R330. ALERT_n starts recovery and replay of the command buffer. -/
  | parityAlert (t ch : Nat) (inReplay : Bool)
  /-- SELF_REFRESH_ENTRY, R331. The idle time expires and the channel enters self-refresh. -/
  | selfRefreshEntry (t ch : Nat) (aborted : Bool)
  /-- SELF_REFRESH_EXIT, R331. A request causes exit from self-refresh. -/
  | selfRefreshExit (t ch : Nat)
  /-- HOIST_QUEUE_PARITY_ERROR, R333. A parity error in Hoist's queues raises 0x1307 and fails Hoist. -/
  | hoistQueueParityError (t : Nat)
  /-- LANE_ENABLE, R340. A write of LNK_CFGn.enable starts bring-up or sends the lane DOWN. -/
  | laneEnable (src t lane : Nat) (value : Word)
  /-- LANE_LOCK, R338. Three consecutive commas lock the receiver. -/
  | laneLock (t lane : Nat)
  /-- LOCK_LOSS, R338. Commas are missing in 2 frames, so lock is lost. -/
  | lockLoss (t lane : Nat)
  /-- LOCK_LOSS_TIMEOUT, R340. Lock is not regained within 1 ms, so the lane leaves UP. -/
  | lockLossTimeout (t lane : Nat)
  /-- CAP, R341. A received CAP symbol leads to agreement and the target generation. -/
  | capSymbol (t lane err version highest dev number : Nat) (seen : Bool) (part : Nat)
  /-- RATE, R342. A received RATE proposal or result advances the step. -/
  | rateSymbol (t lane err op gen : Nat) (pass : Bool)
  /-- PRBS_MARKER, R342. A PRBS marker starts the check. -/
  | prbsMarker (t lane err gen : Nat)
  /-- PRBS_CHECK_END, R342. The PRBS check ends and the step passes or fails. -/
  | prbsCheckEnd (t lane errors : Nat)
  /-- RATE_RESULT_TIMEOUT, R342. No result arrives within 1 ms, so the lane returns to g. -/
  | rateResultTimeout (t lane : Nat)
  /-- DATA, R351. A received DATA symbol is discarded and counted. -/
  | dataSymbol (t lane err : Nat)
  /-- TIME, R351. A received TIME symbol is discarded and counted. -/
  | timeSymbol (t lane err : Nat)
  /-- SAFE, R349. A received SAFE symbol is passed to the Canary, or discarded. -/
  | safeSymbol (t c lane err : Nat) (msg : List Byte)
  /-- UNKNOWN_SYMBOL, R335. A symbol of unlisted type is discarded. -/
  | unknownSymbol (t lane err : Nat)
  /-- STUFFING_ERROR, R337. A stuffing error discards symbols up to the next comma. -/
  | stuffingError (t lane : Nat)
  /-- ELASTIC_BUFFER_ADJUST, R339. At a frame end, a FILL is inserted or deleted, or an overflow logs 0x1403. -/
  | elasticBufferAdjust (t lane fill : Nat) (trailing broken : Bool)
  /-- FRAME_SLOT_TRANSMIT, R347. The transmitter sends the highest-priority ready symbol. -/
  | frameSlotTransmit (t lane dur : Nat)
  /-- TIME_SYMBOL_DUE, R351. time_period frames have passed, so a TIME symbol is due. -/
  | timeSymbolDue (t lane : Nat)
  /-- LNK_RETRAIN, R344. LNK_CMD RETRAIN restarts bring-up, or is queued during a step. -/
  | lnkRetrain (src t lane : Nat)
  /-- LNK_REINSTATE, R352. LNK_CMD REINSTATE returns a removed lane to ALIGN. -/
  | lnkReinstate (src t lane : Nat)
  /-- GEN_CAP_WRITE, R344. A gen_cap write is queued or held until bring-up. -/
  | genCapWrite (src t lane : Nat) (value : Word)
  /-- LANE_PARITY_ERROR, R352. A lane state parity error removes the lane. -/
  | laneParityError (t lane : Nat)
  /-- CSI_ENABLE, R354. CSI_CTRL enable rises and the configuration takes effect. -/
  | csiEnable (src t : Nat) (value : Word)
  /-- DPHY_PLL_UNLOCK, R356. D-PHY PLL unlock stops CSI-2 with 0x1501. -/
  | dphyPllUnlock (t : Nat)
  /-- ARP_REQUEST, R359. An ARP request for the device's address is answered. -/
  | arpRequest (t : Nat) (vid : Option Nat) (target : Word) (sender : List Byte)
  /-- NEIGHBOUR_SOLICITATION, R359. An IPv6 neighbour solicitation is answered. -/
  | neighbourSolicitation (t : Nat) (vid : Option Nat) (target : List Byte)
  /-- MGT_DATAGRAM, R359. A 32-byte management datagram is handled as an MGT request. -/
  | mgtDatagram (t : Nat) (vid : Option Nat) (port srcPort : Nat) (req : List Byte) (outs : List Outside)
  /-- SAFETY_DATAGRAM, R359. A datagram to the safety port is passed to the Canary. -/
  | safetyDatagram (t c : Nat) (vid : Option Nat) (msg : List Byte)
  /-- OTHER_FRAME, R359. Any other received frame is discarded and counted. -/
  | otherFrame (t : Nat)
  /-- ETH_LINK_DOWN, R360. Ethernet link loss logs 0x1601. -/
  | ethLinkDown (t : Nat)
  /-- C22_READ, R357. ETH_MDIO Clause 22 read. -/
  | c22Read (src t phy reg : Nat) (turn : Bool) (data : Nat)
  /-- C22_WRITE, R357. ETH_MDIO Clause 22 write. -/
  | c22Write (src t phy reg : Nat) (turn : Bool)
  /-- C45_ADDRESS, R357. ETH_MDIO Clause 45 address. -/
  | c45Address (src t phy reg : Nat) (turn : Bool)
  /-- C45_READ, R357. ETH_MDIO Clause 45 read. -/
  | c45Read (src t phy reg : Nat) (turn : Bool) (data : Nat)
  /-- C45_WRITE, R357. ETH_MDIO Clause 45 write. -/
  | c45Write (src t phy reg : Nat) (turn : Bool)
  /-- MDIO_TIMEOUT, R360. No turnaround within 1 ms, so 0x1602 is logged. -/
  | mdioTimeout (t : Nat)
  /-- VDD_CNY_LOSS, R364. VDD_CNY leaves range, the Canary outputs release and the device enters HELD with 0x1805. -/
  | vddCnyLoss (t : Nat)
  /-- HEARTBEAT_LOST, R363. 8 consecutive heartbeats are missing, so 0x1803 raises a demand. -/
  | heartbeatLost (t c : Nat)
  /-- SELF_COMPARISON_MISMATCH, R363. The Canary's halves disagree, so 0x1804 raises a demand. -/
  | selfComparisonMismatch (t c : Nat) (present : Bool)
  /-- WATCHDOG_TIMEOUT, R363. HELD is not reported within 1 ms, so the Canary watchdog resets the device. -/
  | watchdogTimeout (t c : Nat)
  /-- SEAL_SWITCH_SAMPLE, R366. SAFE_SW is sampled every 10 ms and a changed value is accepted after 3 equal samples. -/
  | sealSwitchSample (t c value : Nat)
  /-- CNY_PARAM_WRITE, R368. A parameter write raises the safety hold and restarts the recompute timer. -/
  | cnyParamWrite (src t c addr : Nat) (value : Word)
  /-- CHECK_RECOMPUTE, R368. 1 ms after the last write, the check value is recomputed and compared. -/
  | checkRecompute (t c : Nat)
  /-- COMMISSION, R369. CNY_CMD COMMISSION starts writing the commissioning record. -/
  | commission (src t : Nat)
  /-- COMMISSION_DONE, R369. The record is programmed and verified, or fails with 0x1812. -/
  | commissionDone (t c : Nat) (ok : Bool)
  /-- CNY_CLEAR, R378. CNY_CMD CLEAR ends a lockout once its fault is cleared. -/
  | cnyClear (src t : Nat)
  /-- FUNCTIONAL_SAMPLE, R371. Every 250 µs the safety inputs are sampled and their functions evaluated. -/
  | functionalSample (t c levels rb : Nat)
  /-- TEST_PULSE_CHECK, R371. 150 µs into a test pulse, the channels are checked for missing pulses and cross-shorts. -/
  | testPulseCheck (t c j levels : Nat)
  /-- CANARY_ENCODER_EDGE, R377. The Canary's decoder counts an encoder edge. -/
  | canaryEncoderEdge (t c k : Nat) (a b z : Bool)
  /-- AXIS_COMPUTATION, R378. Every 1 ms, axis speed, direction, position and cross-check are judged. -/
  | axisComputation (t c j : Nat)
  /-- ECHO_EVALUATION, R381. A queued record's echoes are judged by both field evaluators. -/
  | echoEvaluation (t c : Nat)
  /-- FIELD_EVALUATION_CLOSE, R380. 1 ms after the next boundary, frame f closes and the fields are judged. -/
  | fieldEvaluationClose (t c : Nat)
  /-- OSSD_READBACK_CHECK, R388. 2 ms after switching, the readback is compared, and a failure raises 0x1810. -/
  | ossdReadbackCheck (t c rb : Nat)
  /-- OSSD_OFF_TEST, R388. The 500 ms off-test pulses a control low and checks its readback. -/
  | ossdOffTest (t c pair : Nat) (high : Bool)
  /-- STATE_SEND, R390. A STATE message is sent each msg_period or on a change. -/
  | stateSend (t c : Nat)
  /-- SELECT, R391. An accepted SELECT message names the next field set. -/
  | select (t c net : Nat) (msg : List Byte)
  /-- MUTE, R393. An accepted MUTE message mutes functions and sets, or is ignored. -/
  | mute (t c net : Nat) (msg : List Byte)
  /-- LONE_COPY_DISCARD, R391. 4 ms after a lone or unequal copy, it is discarded with 0x1811. -/
  | loneCopyDiscard (t c : Nat)
  /-- MESSAGE_TIMEOUT, R392. 20 ms without an accepted message, so fallback is selected and muting ends. -/
  | messageTimeout (t c : Nat)
  /-- MUTE_EXPIRY, R393. The muting duration runs out. -/
  | muteExpiry (t c : Nat)
  /-- LIVENESS_REQUEST, R394. Each ms, a request word is placed in CNY_REQ and CANARY is raised. -/
  | livenessRequest (t c : Nat)
  /-- LIVENESS_DEADLINE, R394. 20 µs pass without a correct answer, so the core is removed with 0x1807. -/
  | livenessDeadline (t c core : Nat)
  /-- CAL_FULL, R400. CAL_CMD FULL starts a full calibration in ARMED. -/
  | calFull (src t : Nat)
  /-- FULL_CALIBRATION_COMPLETE, R401. Full calibration ends and per-unit pass or fail is recorded. -/
  | fullCalibrationComplete (t : Nat) (codes : List (Nat × Word)) (badPorts badEmit badTaps : Nat) (times shots : List (Nat × Nat))
  /-- CAL_PORT, R403. CAL_CMD PORT makes a port pending. -/
  | calPort (src t port : Nat)
  /-- PORT_TURN, R403. The calibration period expires and a port becomes pending. -/
  | portTurn (t : Nat)
  /-- BLIND_INTERVAL_END, R404. At B + 153,600, the port's codes go to shadow or it fails with 0x1902. -/
  | blindIntervalEnd (t : Nat) (ok : Bool) (codes : List (Nat × Word))
  /-- CLEAR, R411. FLG_CMD CLEAR marks one fault log entry cleared. -/
  | clear (src t index : Nat)
  /-- CLEAR_CODE, R411. FLG_CMD CLEAR_CODE clears every entry of a code. -/
  | clearCode (src t : Nat)
  /-- CLEAR_ALL, R411. FLG_CMD CLEAR_ALL clears every valid entry. -/
  | clearAll (src t : Nat)
  /-- CLEAR_JOURNAL, R415. FLG_CMD CLEAR_JOURNAL restarts the journal ring. -/
  | clearJournal (src t : Nat)
  /-- JOURNAL_COPY, R416. A journal entry is copied to the DRAM ring, or counted lost. -/
  | journalCopy (t : Nat)
  /-- LOG_PARITY_ERROR, R419. A log or journal parity error raises 0x1A02. -/
  | logParityError (t : Nat) (journal : Bool) (index : Nat)
  /-- REGISTER_WRITE, R423. A write to a register with no row of its own is applied by access type. -/
  | registerWrite (src t addr : Nat) (value : Word) (out : Outside)
  /-- SHADOWED_REGISTER_WRITE, R422. A write to a shadowed field enters the shadow copy. -/
  | shadowedRegisterWrite (src t addr : Nat) (value : Word)
  /-- SERIAL_WRITE_FRAME, R427. An SPI or I2C write frame writes its words. -/
  | serialWriteFrame (src t command addr room : Nat) (words : List Word) (outs : List Outside)
  /-- SERIAL_READ_FRAME, R428. An SPI or I2C read frame returns words in marker slots. -/
  | serialReadFrame (src t addr count : Nat) (outs : List Outside)
  /-- SERIAL_STATUS_FRAME, R427. The status command returns the last write frame's status. -/
  | serialStatusFrame (src t : Nat)
  /-- I2C_WORD_TIMEOUT, R429. A word is not ready within 1 ms, so 0xFF is returned with status 0x07. -/
  | i2cWordTimeout (t : Nat)
  /-- MGT_READ, R350. An MGT read request is performed and answered. -/
  | mgtRead (t lane err : Nat) (req : List Byte) (outs : List Outside)
  /-- MGT_WRITE, R350. An MGT write request is performed and answered. -/
  | mgtWrite (t lane err : Nat) (req : List Byte) (outs : List Outside)
  /-- DRAM_WINDOW_ACCESS, R431. An access through the requester's DRAM window is served as a Hoist request. -/
  | dramWindowAccess (src t addr : Nat) (write : Bool) (value : Word) (out : Outside)
  /-- MGT_DRAM_WIN_WRITE, R431. A write moves the requester's DRAM window for later accesses. -/
  | mgtDramWinWrite (src t : Nat) (value : Word)
  /-- WINDOW_ACCESS_TIMEOUT, R424. A budgeted window access not served within 1 ms ends with status 0x07. -/
  | windowAccessTimeout (src t addr : Nat) (write : Bool) (value : Word)
  /-- MGT_PARITY_ERROR, R432. A management parity error logs 0x1B01 or 0x1B02. -/
  | mgtParityError (src t : Nat) (window : Bool)
  /-- SUPPLY_MONITOR_TRIP, R438. A supply monitor trips and takes the effect of Table 22-5. -/
  | supplyMonitorTrip (t : Nat) (x : Supply)
  /-- BYPASS, R448. TAP BYPASS instruction. -/
  | bypass
  /-- IDCODE, R448. TAP IDCODE returns 0x1425_6A3D. -/
  | idcode
  /-- SAMPLE_PRELOAD, R448. TAP SAMPLE/PRELOAD instruction. -/
  | samplePreload
  /-- EXTEST, R448. TAP EXTEST in HELD with SAFE_SW[0] = 1, otherwise BYPASS. -/
  | extest
  /-- CLAMP, R448. TAP CLAMP in HELD with SAFE_SW[0] = 1, otherwise BYPASS. -/
  | clamp
  /-- HIGHZ, R448. TAP HIGHZ in HELD with SAFE_SW[0] = 1, otherwise BYPASS. -/
  | highz
  /-- SUPPLY_BACK_IN_RANGE, R438. A supply whose monitor tripped in service returns to its operating range, ending the fault's cause and letting links, quadrants and the Canary recover. -/
  | supplyBackInRange (t : Nat) (x : Supply)
  /-- ETHERNET_LINK_UP, R360. The Ethernet link comes up again after a loss, and copies, gPTP and the UDP safety network resume. -/
  | ethernetLinkUp (t speed : Nat)
  /-- DPHY_PLL_RELOCK, R356. The D-PHY PLL relocks after an unlock, and CSI-2 transmission resumes with a Frame Start at the next frame boundary. -/
  | dphyPllRelock (t : Nat)
  /-- INHIBIT_N_RELEASE, R100. INHIBIT_n returns high, and the captured pin inhibit lifts through the synchroniser. -/
  | inhibitNRelease (t : Nat)
  /-- ALERT_N_RISE, R330. DRAMn_ALERT_n rises during parity recovery, so Hoist clears the parity status, precharges and replays the retry buffer. -/
  | alertNRise (t ch : Nat) (clean : Bool)
  /-- PARITY_RECOVERY_TIMEOUT, R330. A parity-alert recovery lasts longer than 100 µs, so Hoist is failed with fault 0x1305. -/
  | parityRecoveryTimeout (t ch : Nat)
  /-- ROW_CLOSE_ON_IDLE, R327. HOI_CHn_PAGE.idle × 10 ns pass with no request to an open row, or its maximum open time would be passed, so Hoist closes the row. -/
  | rowCloseOnIdle (t ch bank : Nat) (maxOpen : Bool)
  /-- FRAME_PERIOD_OVER_FRAME_MAX, R382. frame_max passes after a frame boundary with no next boundary, so fault 0x1808 is logged and the protective fields are violated. -/
  | framePeriodOverFrameMax (t c : Nat)
  /-- TEST_PULSE, R371. At 2.5i ms into each 10 ms Canary cycle, TPi goes low for 200 µs and then returns high. -/
  | testPulse (t c k : Nat)
  deriving DecidableEq, Repr

end Sys2Proof
end

