-- ==== Sys2Proof/Decode.lean ====
section
/-! DEFINITION. The command a word of the opcode table spells. -/
namespace Sys2Proof

/-- The command of a table word: none, for every row of the table has an empty field list and gives no bits (log
entry 3). -/
def decodeTableWord (_nbits _w : Nat) : Option Instr := none

end Sys2Proof
end

