-- ==== Sys2Proof/Machine/Flags.lean ====
section
/-! DEFINITION. Flags and saturation of the assay cores' arithmetic (R208, R209, Table 10-4). -/
namespace Sys2Proof.Machine

/-- The result of an arithmetic instruction: its value, Z, N, C, V, and whether it was clamped. -/
structure Alu where
  v : Word
  c : Bool := false
  o : Bool := false
  sat : Bool := false
  deriving DecidableEq, Repr

/-- The signed result `x` in 32 bits under the S bit (R208): wrapped, or clamped with SAT. V shows that the exact
result left the signed range. -/
def narrow32 (s : Bool) (x : Int) (c : Bool) : Alu :=
  let out := decide (x < -2147483648 ∨ 2147483647 < x)
  { v := BitVec.ofInt 32 (if s then clampI (-2147483648) 2147483647 x else x), c := c, o := out, sat := s && out }

/-- a + b: C is the carry out (Table 10-4). -/
def aluAdd (s : Bool) (a b : Word) : Alu := narrow32 s (a.toInt + b.toInt) (decide (2 ^ 32 ≤ a.toNat + b.toNat))

/-- a − b: C is set when there is no borrow (Table 10-4). -/
def aluSub (s : Bool) (a b : Word) : Alu := narrow32 s (a.toInt - b.toInt) (decide (b.toNat ≤ a.toNat))

/-- An accumulator result under the S bit (R209): the value, ACC_SAT and ACC_OVF. -/
def narrow40 (s : Bool) (x : Int) : BitVec 40 × Bool × Bool :=
  let out := decide (x < -(2 ^ 39) ∨ 2 ^ 39 - 1 < x)
  if out && s then (BitVec.ofInt 40 (if x < 0 then -(2 ^ 39 - 1) else 2 ^ 39 - 1), true, false)
  else (BitVec.ofInt 40 x, false, out)

/-- Replace the flag bits in `mask` of a STATUS flag word. -/
def putFlags (old mask new : Nat) : Nat := (old &&& (31 - mask % 32)) ||| (new &&& mask)

/-- Z and N of a 32-bit result, with C and V, as STATUS bits 0 to 3. -/
def flagWord (v : Word) (c o : Bool) : Nat := b2n (v == 0#32) + 2 * b2n v.msb + 4 * b2n c + 8 * b2n o

/-- A signed shift: left when `n` is positive, arithmetic right when negative. -/
def shiftInt (x : Int) (n : Int) : Int := if 0 ≤ n then x * 2 ^ n.toNat else x / 2 ^ (-n).toNat

/-- Whether a branch condition holds of flags Z, N, C, V (R214); RE and AN take the ring count and the sign of A0. -/
def condHolds (cond flags ring : Nat) (neg : Bool) : Bool :=
  let z := flags.testBit 0
  let n := flags.testBit 1
  let c := flags.testBit 2
  let v := flags.testBit 3
  match cond with
  | 0 => true
  | 1 => z
  | 2 => !z
  | 3 => n != v
  | 4 => n == v
  | 5 => z || n != v
  | 6 => !z && n == v
  | 7 => !c
  | 8 => c
  | 9 => n
  | 10 => !n
  | 11 => v
  | 12 => !v
  | 13 => ring != 0
  | 14 => neg
  | _ => false

end Sys2Proof.Machine
end

