-- ==== Sys2Proof/Config.lean ====
section
/-! DEFINITION. What one device fixes and what the spec leaves open, as constants without a body: no proof can see a
value of them, so whatever is proved holds for every value. -/
namespace Sys2Proof.Config

/-- A value the spec leaves open, drawn fresh: the argument is the model's own counter `Dev.freeCtr`
(log entry 5). -/
opaque freeValue (w : Nat) : Nat → BitVec w

/-- Words fused at production: certificate, vendor root hash, path constants (Tables 03-12 and 19-6; log entry 6). -/
opaque fusedWord : Nat → Word

/-- Byte `i` of the public half of the identity key the Lamp room derives from the on-die secret (R58). -/
opaque deviceKeyByte : Nat → Byte

/-- The production certificate check of R58: signature valid and vendor root hash equal. -/
opaque certificateOk : Bool

/-- Pure Ed448 verification (RFC 8032, empty context): public key, message, signature (R53). -/
opaque ed448Verify : List Byte → List Byte → List Byte → Bool

/-- Pure Ed448 signature by the identity key over a message: 114 bytes (R60). -/
opaque ed448Sign : List Byte → List Byte

/-- The rounding direction of a quotient the sieve computes "to 1/256 count" (R183): up or down. -/
opaque roundUp : Nat → Nat → Bool

/-- The outcome of a RESET_n pulse between 0.9 µs and 1 µs, in ns (R439). -/
opaque shortResetPulse : Nat → Bool

/-- A quadrature step in which A leads counts up (R306 does not say; log entry 35). -/
opaque encoderUp : Bool

end Sys2Proof.Config
end

