-- ==== Sys2Proof/Machine/RegMap.lean ====
section
/-! DEFINITION. The register map: the address of every named register, and for each the reset value, the bits a
management write sets (RW), the bits a written 1 clears (W1C) and whether it is a command register, as the register
tables of the chapters give them (Tables 01-4 to 21-6). -/
namespace Sys2Proof.Machine

/-- One row of a register table: `n` copies `s` bytes apart, each of `m` words `t` bytes apart. -/
structure RegRow where
  base : Nat
  n : Nat
  s : Nat
  m : Nat
  t : Nat
  /-- reset value -/
  reset : Nat
  /-- bits a write sets -/
  rw : Nat
  /-- bits a written 1 clears -/
  w1c : Nat
  /-- command register (Table 21-1) -/
  cmd : Bool
  deriving DecidableEq, Repr

/-- `d` is one of the offsets `0, s, …, (n-1) s`. -/
def strideHit (d n s : Nat) : Bool := if s = 0 then d == 0 else d % s == 0 && d / s < n

/-- The address `a` lies in the row. -/
def RegRow.hit (r : RegRow) (a : Nat) : Bool :=
  if a < r.base then false
  else
    let d := a - r.base
    if r.n ≤ 1 then strideHit d r.m r.t
    else d / r.s < r.n && strideHit (d % r.s) r.m r.t

namespace R

/-- TOP_DEVICE_STATE, Table 01-4. -/
abbrev TOP_DEVICE_STATE : Nat := 0x10
/-- TOP_CMD, Table 01-5. -/
abbrev TOP_CMD : Nat := 0x14
/-- TOP_RUN_CTRL, Table 01-6. -/
abbrev TOP_RUN_CTRL : Nat := 0x18
/-- TOP_RESET_HELD_MS, Table 22-6. -/
abbrev TOP_RESET_HELD_MS : Nat := 0x20
/-- CLK_STATUS, Table 02-4. -/
abbrev CLK_STATUS : Nat := 0x10000
/-- CLK_TIME_CTRL, Table 02-4. -/
abbrev CLK_TIME_CTRL : Nat := 0x10004
/-- CLK_RATE_ADJ, Table 02-4. -/
abbrev CLK_RATE_ADJ : Nat := 0x10008
/-- CLK_TIME, Table 02-4. -/
abbrev CLK_TIME : Nat := 0x10010
/-- CLK_STEP, Table 02-4. -/
abbrev CLK_STEP : Nat := 0x10018
/-- CLK_SYNC_CTRL, Table 02-4. -/
abbrev CLK_SYNC_CTRL : Nat := 0x10020
/-- CLK_SYNC_RESID, Table 02-4. -/
abbrev CLK_SYNC_RESID : Nat := 0x10024
/-- CLK_EPOCH, Table 02-4. -/
abbrev CLK_EPOCH : Nat := 0x10028
/-- CLK_EPOCH_PHASE, Table 02-4. -/
abbrev CLK_EPOCH_PHASE : Nat := 0x10030
/-- CLK_PPS_NEXT, Table 02-4. -/
abbrev CLK_PPS_NEXT : Nat := 0x10040
/-- CLK_PPS_OUT, Table 02-4. -/
abbrev CLK_PPS_OUT : Nat := 0x10048
/-- CLK_FRAME_AT, Table 02-4. -/
abbrev CLK_FRAME_AT : Nat := 0x10050
/-- CLK_FRAME_AT_CTRL, Table 02-4. -/
abbrev CLK_FRAME_AT_CTRL : Nat := 0x10058
/-- HDF_STATUS, Table 03-10. -/
abbrev HDF_STATUS : Nat := 0x20000
/-- HDF_STRAPS, Table 03-10. -/
abbrev HDF_STRAPS : Nat := 0x20004
/-- HDF_FLASH_CFG, Table 03-10. -/
abbrev HDF_FLASH_CFG : Nat := 0x20008
/-- HDF_FAIL_A, Table 03-10. -/
abbrev HDF_FAIL_A : Nat := 0x2000C
/-- HDF_FAIL_B, Table 03-10. -/
abbrev HDF_FAIL_B : Nat := 0x20010
/-- HDF_IMAGE_VERSION, Table 03-10. -/
abbrev HDF_IMAGE_VERSION : Nat := 0x20014
/-- HDF_TIMING, Table 03-10. -/
abbrev HDF_TIMING : Nat := 0x20018
/-- HDF_DIGEST, R60ff, Table 03-10. -/
abbrev HDF_DIGEST (i : Nat) : Nat := 0x20040 + 0x4 * i
/-- LMP_STATUS, Table 03-12. -/
abbrev LMP_STATUS : Nat := 0x30000
/-- LMP_DEVKEY, R60ff, Table 03-12. -/
abbrev LMP_DEVKEY (i : Nat) : Nat := 0x30040 + 0x4 * i
/-- LMP_DEVCERT, R60ff, Table 03-12. -/
abbrev LMP_DEVCERT (i : Nat) : Nat := 0x30100 + 0x4 * i
/-- LMP_KEYHASH, R60ff, Table 03-12. -/
abbrev LMP_KEYHASH (i : Nat) : Nat := 0x30200 + 0x4 * i
/-- LMP_VROOT_HASH, R60ff, Table 03-12. -/
abbrev LMP_VROOT_HASH (i : Nat) : Nat := 0x30280 + 0x4 * i
/-- LMP_FUSE_DATA, R60ff, Table 03-12. -/
abbrev LMP_FUSE_DATA (i : Nat) : Nat := 0x30300 + 0x4 * i
/-- LMP_FUSE_CMD, Table 03-12. -/
abbrev LMP_FUSE_CMD : Nat := 0x30320
/-- LMP_ATTEST_NONCE, R60ff, Table 03-12. -/
abbrev LMP_ATTEST_NONCE (i : Nat) : Nat := 0x30340 + 0x4 * i
/-- LMP_ATTEST_CMD, Table 03-12. -/
abbrev LMP_ATTEST_CMD : Nat := 0x30360
/-- LMP_ATTEST_BUF, R60ff, Table 03-12. -/
abbrev LMP_ATTEST_BUF (i : Nat) : Nat := 0x30400 + 0x4 * i
/-- SEQ_CTRL, Table 04-7. -/
abbrev SEQ_CTRL : Nat := 0x40000
/-- SEQ_STATUS, Table 04-7. -/
abbrev SEQ_STATUS : Nat := 0x40004
/-- SEQ_TALLY_STATUS, Table 04-7. -/
abbrev SEQ_TALLY_STATUS : Nat := 0x40008
/-- SEQ_PROG_BASE, Table 04-7. -/
abbrev SEQ_PROG_BASE : Nat := 0x4000C
/-- SEQ_FRAME, Table 04-7. -/
abbrev SEQ_FRAME : Nat := 0x40010
/-- SEQ_ENTRY, Table 04-7. -/
abbrev SEQ_ENTRY : Nat := 0x40014
/-- SEQ_CELL, Table 04-7. -/
abbrev SEQ_CELL : Nat := 0x40018
/-- SEQ_NEXT_ID, Table 04-7. -/
abbrev SEQ_NEXT_ID : Nat := 0x4001C
/-- SEQ_FRAME_START, Table 04-7. -/
abbrev SEQ_FRAME_START : Nat := 0x40020
/-- SEQ_SQUASH_CELL, Table 04-7. -/
abbrev SEQ_SQUASH_CELL : Nat := 0x40028
/-- SEQ_SQUASH_CMD, Table 04-7. -/
abbrev SEQ_SQUASH_CMD : Nat := 0x4002C
/-- SEQ_AUDIT_WR, Table 04-7. -/
abbrev SEQ_AUDIT_WR : Nat := 0x40030
/-- SEQ_AUDIT_RD, Table 04-7. -/
abbrev SEQ_AUDIT_RD : Nat := 0x40034
/-- SEQ_EMIT_CFG, R92ff, Table 04-7. -/
abbrev SEQ_EMIT_CFG (i : Nat) : Nat := 0x40040 + 0x4 * i
/-- SEQ_EMIT_RMAP, R92ff, Table 04-7. -/
abbrev SEQ_EMIT_RMAP (i : Nat) : Nat := 0x400C0 + 0x4 * i
/-- SEQ_CODESET, R92ff, Table 04-7. -/
abbrev SEQ_CODESET (i : Nat) : Nat := 0x40140 + 0x4 * i
/-- SEQ_CODE_KEY, R92ff, Table 04-7. -/
abbrev SEQ_CODE_KEY (i : Nat) : Nat := 0x40160 + 0x4 * i
/-- SEQ_CNT_ISSUED, Table 04-7. -/
abbrev SEQ_CNT_ISSUED : Nat := 0x40200
/-- SEQ_CNT_FIRED, Table 04-7. -/
abbrev SEQ_CNT_FIRED : Nat := 0x40208
/-- SEQ_CNT_CHECKED_IN, Table 04-7. -/
abbrev SEQ_CNT_CHECKED_IN : Nat := 0x40210
/-- SEQ_CNT_SQUASHED, Table 04-7. -/
abbrev SEQ_CNT_SQUASHED : Nat := 0x40218
/-- SEQ_CNT_WITHHELD, Table 04-7. -/
abbrev SEQ_CNT_WITHHELD : Nat := 0x40220
/-- SEQ_CNT_REATTR, Table 04-7. -/
abbrev SEQ_CNT_REATTR : Nat := 0x40228
/-- SEQ_CNT_REATTR_LOST, Table 04-7. -/
abbrev SEQ_CNT_REATTR_LOST : Nat := 0x40230
/-- SEQ_CNT_SLIP, Table 04-7. -/
abbrev SEQ_CNT_SLIP : Nat := 0x40238
/-- SEQ_CNT_CELLS, Table 04-7. -/
abbrev SEQ_CNT_CELLS : Nat := 0x40240
/-- SEQ_CNT_MISSED, Table 04-7. -/
abbrev SEQ_CNT_MISSED : Nat := 0x40248
/-- SEQ_CNT_AUDIT_LOST, Table 04-7. -/
abbrev SEQ_CNT_AUDIT_LOST : Nat := 0x40250
/-- EMT_CTRL, Table 05-5. -/
abbrev EMT_CTRL : Nat := 0x50000
/-- EMT_STATUS, Table 05-5. -/
abbrev EMT_STATUS : Nat := 0x50004
/-- EMT_INHIBIT_STICKY, Table 05-5. -/
abbrev EMT_INHIBIT_STICKY : Nat := 0x50008
/-- EMT_REMOVED, Table 05-5. -/
abbrev EMT_REMOVED : Nat := 0x5000C
/-- EMT_CMD, Table 05-5. -/
abbrev EMT_CMD : Nat := 0x50010
/-- EMT_EMIT_CFG, R109ff, Table 05-5. -/
abbrev EMT_EMIT_CFG (i : Nat) : Nat := 0x50040 + 0x4 * i
/-- EMT_MON_CFG, R109ff, Table 05-5. -/
abbrev EMT_MON_CFG (i : Nat) : Nat := 0x500C0 + 0x4 * i
/-- EMT_MON_LAST, R109ff, Table 05-5. -/
abbrev EMT_MON_LAST (i : Nat) : Nat := 0x50140 + 0x4 * i
/-- EMT_CNT_REF_BUDGET, Table 05-5. -/
abbrev EMT_CNT_REF_BUDGET : Nat := 0x50600
/-- EMT_CNT_REF_INHIBIT, Table 05-5. -/
abbrev EMT_CNT_REF_INHIBIT : Nat := 0x50608
/-- EMT_CNT_REF_STEER, Table 05-5. -/
abbrev EMT_CNT_REF_STEER : Nat := 0x50610
/-- EMT_CNT_STRAY, Table 05-5. -/
abbrev EMT_CNT_STRAY : Nat := 0x50618
/-- EMT_GRP_SHORT_LEN, R109ff, Table 05-9. -/
abbrev EMT_GRP_SHORT_LEN (g : Nat) : Nat := 0x50400 + 0x40 * g
/-- EMT_GRP_MED_LEN, R109ff, Table 05-9. -/
abbrev EMT_GRP_MED_LEN (g : Nat) : Nat := 0x50404 + 0x40 * g
/-- EMT_GRP_LONG_LEN, R109ff, Table 05-9. -/
abbrev EMT_GRP_LONG_LEN (g : Nat) : Nat := 0x50408 + 0x40 * g
/-- EMT_GRP_SHORT_LIM, R109ff, Table 05-9. -/
abbrev EMT_GRP_SHORT_LIM (g : Nat) : Nat := 0x50410 + 0x40 * g
/-- EMT_GRP_MED_LIM, R109ff, Table 05-9. -/
abbrev EMT_GRP_MED_LIM (g : Nat) : Nat := 0x50418 + 0x40 * g
/-- EMT_GRP_LONG_LIM, R109ff, Table 05-9. -/
abbrev EMT_GRP_LONG_LIM (g : Nat) : Nat := 0x50420 + 0x40 * g
/-- EMT_GRP_SHORT_SUM, R109ff, Table 05-9. -/
abbrev EMT_GRP_SHORT_SUM (g : Nat) : Nat := 0x50428 + 0x40 * g
/-- EMT_GRP_MED_SUM, R109ff, Table 05-9. -/
abbrev EMT_GRP_MED_SUM (g : Nat) : Nat := 0x50430 + 0x40 * g
/-- EMT_GRP_LONG_SUM, R109ff, Table 05-9. -/
abbrev EMT_GRP_LONG_SUM (g : Nat) : Nat := 0x50438 + 0x40 * g
/-- STR_CTRL, R126ff, Table 06-4. -/
abbrev STR_CTRL (p : Nat) : Nat := 0x60000 + 0x100 * p
/-- STR_STATUS, R126ff, Table 06-4. -/
abbrev STR_STATUS (p : Nat) : Nat := 0x60004 + 0x100 * p
/-- STR_SETPOINT, R126ff, Table 06-4. -/
abbrev STR_SETPOINT (p : Nat) : Nat := 0x60008 + 0x100 * p
/-- STR_FREQ, R126ff, Table 06-4. -/
abbrev STR_FREQ (p : Nat) : Nat := 0x6000C + 0x100 * p
/-- STR_LOOP, R126ff, Table 06-4. -/
abbrev STR_LOOP (p : Nat) : Nat := 0x60010 + 0x100 * p
/-- STR_TOL, R126ff, Table 06-4. -/
abbrev STR_TOL (p : Nat) : Nat := 0x60014 + 0x100 * p
/-- STR_SETTLE, R126ff, Table 06-4. -/
abbrev STR_SETTLE (p : Nat) : Nat := 0x60018 + 0x100 * p
/-- STR_SNS_CFG, R126ff, Table 06-4. -/
abbrev STR_SNS_CFG (p : Nat) : Nat := 0x6001C + 0x100 * p
/-- STR_SNS_LIM, R126ff, Table 06-4. -/
abbrev STR_SNS_LIM (p : Nat) : Nat := 0x60020 + 0x100 * p
/-- STR_TRAJ, R126ff, Table 06-4. -/
abbrev STR_TRAJ (p : Nat) : Nat := 0x60024 + 0x100 * p
/-- STR_PARK, R126ff, Table 06-4. -/
abbrev STR_PARK (p : Nat) : Nat := 0x60028 + 0x100 * p
/-- STR_POS, R126ff, Table 06-4. -/
abbrev STR_POS (p : Nat) : Nat := 0x6002C + 0x100 * p
/-- STR_POS_FIRE, R126ff, Table 06-4. -/
abbrev STR_POS_FIRE (p : Nat) : Nat := 0x60030 + 0x100 * p
/-- STR_ERR, R126ff, Table 06-4. -/
abbrev STR_ERR (p : Nat) : Nat := 0x60034 + 0x100 * p
/-- STR_DRV, R126ff, Table 06-4. -/
abbrev STR_DRV (p : Nat) : Nat := 0x60038 + 0x100 * p
/-- STR_CMD, R126ff, Table 06-4. -/
abbrev STR_CMD (p : Nat) : Nat := 0x6003C + 0x100 * p
/-- STR_MAP_CFG, Table 06-4. -/
abbrev STR_MAP_CFG : Nat := 0x60400
/-- STR_MAP_BASE, Table 06-4. -/
abbrev STR_MAP_BASE : Nat := 0x60404
/-- STR_MAP_STRIDE_X, Table 06-4. -/
abbrev STR_MAP_STRIDE_X : Nat := 0x60408
/-- STR_MAP_STRIDE_Y, Table 06-4. -/
abbrev STR_MAP_STRIDE_Y : Nat := 0x6040C
/-- STR_MAP_STRIDE_F, Table 06-4. -/
abbrev STR_MAP_STRIDE_F : Nat := 0x60410
/-- STR_MAP_X, Table 06-4. -/
abbrev STR_MAP_X : Nat := 0x60414
/-- STR_MAP_X_N, Table 06-4. -/
abbrev STR_MAP_X_N : Nat := 0x60418
/-- STR_MAP_Y, Table 06-4. -/
abbrev STR_MAP_Y : Nat := 0x6041C
/-- STR_MAP_Y_N, Table 06-4. -/
abbrev STR_MAP_Y_N : Nat := 0x60420
/-- STR_MAP_TABLE, Table 06-4. -/
abbrev STR_MAP_TABLE : Nat := 0x60424
/-- STR_MAP_TIMED_LEAD, Table 06-4. -/
abbrev STR_MAP_TIMED_LEAD : Nat := 0x60428
/-- STR_CNT_OUTSIDE, Table 06-4. -/
abbrev STR_CNT_OUTSIDE : Nat := 0x60430
/-- STR_CNT_NOCELL, Table 06-4. -/
abbrev STR_CNT_NOCELL : Nat := 0x60438
/-- RFE_CTRL, R149ff, Table 07-8. -/
abbrev RFE_CTRL (c : Nat) : Nat := 0x80000 + 0x40 * c
/-- RFE_THR, R149ff, Table 07-8. -/
abbrev RFE_THR (c : Nat) : Nat := 0x80004 + 0x40 * c
/-- RFE_AMB_CFG, R149ff, Table 07-8. -/
abbrev RFE_AMB_CFG (c : Nat) : Nat := 0x80008 + 0x40 * c
/-- RFE_AMB_LIM, R149ff, Table 07-8. -/
abbrev RFE_AMB_LIM (c : Nat) : Nat := 0x8000C + 0x40 * c
/-- RFE_TRIM_CMP, R149ff, Table 07-8. -/
abbrev RFE_TRIM_CMP (c : Nat) : Nat := 0x80010 + 0x40 * c
/-- RFE_TRIM_TDC, R149ff, Table 07-8. -/
abbrev RFE_TRIM_TDC (c : Nat) : Nat := 0x80014 + 0x40 * c
/-- RFE_STATUS, R149ff, Table 07-8. -/
abbrev RFE_STATUS (c : Nat) : Nat := 0x80018 + 0x40 * c
/-- RFE_LAST, R149ff, Table 07-8. -/
abbrev RFE_LAST (c : Nat) : Nat := 0x8001C + 0x40 * c
/-- RFE_CNT_EVENT, R149ff, Table 07-8. -/
abbrev RFE_CNT_EVENT (c : Nat) : Nat := 0x80020 + 0x40 * c
/-- RFE_CNT_LOST, R149ff, Table 07-8. -/
abbrev RFE_CNT_LOST (c : Nat) : Nat := 0x80028 + 0x40 * c
/-- RFE_CNT_HI, R149ff, Table 07-8. -/
abbrev RFE_CNT_HI (c : Nat) : Nat := 0x80030 + 0x40 * c
/-- RFE_CNT_PILEUP, R149ff, Table 07-8. -/
abbrev RFE_CNT_PILEUP (c : Nat) : Nat := 0x80034 + 0x40 * c
/-- RFE_CNT_NOTCH, R149ff, Table 07-8. -/
abbrev RFE_CNT_NOTCH (c : Nat) : Nat := 0x80038 + 0x40 * c
/-- RFE_INJ_CFG, R149ff, Table 07-8. -/
abbrev RFE_INJ_CFG (q : Nat) : Nat := 0x84000 + 0x10 * q
/-- RFE_INJ_DELAY, R149ff, Table 07-8. -/
abbrev RFE_INJ_DELAY (q : Nat) : Nat := 0x84004 + 0x10 * q
/-- RFE_PORT_STATUS, R149ff, Table 07-8. -/
abbrev RFE_PORT_STATUS (q : Nat) : Nat := 0x84008 + 0x10 * q
/-- RFE_GLOBAL_STATUS, Table 07-8. -/
abbrev RFE_GLOBAL_STATUS : Nat := 0x88000
/-- RFE_CMD, Table 07-8. -/
abbrev RFE_CMD : Nat := 0x88004
/-- GAT_CTRL, Table 08-10. -/
abbrev GAT_CTRL : Nat := 0xA0000
/-- GAT_STATUS, Table 08-10. -/
abbrev GAT_STATUS : Nat := 0xA0004
/-- GAT_IFC_CFG, Table 08-10. -/
abbrev GAT_IFC_CFG : Nat := 0xA0008
/-- GAT_IFC_EN, Table 08-10. -/
abbrev GAT_IFC_EN : Nat := 0xA000C
/-- GAT_LOG_WR, Table 08-10. -/
abbrev GAT_LOG_WR : Nat := 0xA0010
/-- GAT_LOG_RD, Table 08-10. -/
abbrev GAT_LOG_RD : Nat := 0xA0014
/-- GAT_PAGE, Table 08-10. -/
abbrev GAT_PAGE : Nat := 0xA0018
/-- GAT_LAT, Table 08-10. -/
abbrev GAT_LAT : Nat := 0xA001C
/-- GAT_PORT_CFG, R171ff, Table 08-10. -/
abbrev GAT_PORT_CFG (i : Nat) : Nat := 0xA0040 + 0x4 * i
/-- GAT_PORT_STATUS, R171ff, Table 08-10. -/
abbrev GAT_PORT_STATUS (i : Nat) : Nat := 0xA00C0 + 0x4 * i
/-- GAT_TAIL_TOTAL, R171ff, Table 08-10. -/
abbrev GAT_TAIL_TOTAL (i : Nat) : Nat := 0xA0140 + 0x8 * i
/-- GAT_CNT_SELECTED, Table 08-10. -/
abbrev GAT_CNT_SELECTED : Nat := 0xA01C0
/-- GAT_CNT_COMMITTED, Table 08-10. -/
abbrev GAT_CNT_COMMITTED : Nat := 0xA01C8
/-- GAT_CNT_BLOCKS, Table 08-10. -/
abbrev GAT_CNT_BLOCKS : Nat := 0xA01D0
/-- GAT_CNT_TAINTED, Table 08-10. -/
abbrev GAT_CNT_TAINTED : Nat := 0xA01D8
/-- GAT_CNT_TRUNC, Table 08-10. -/
abbrev GAT_CNT_TRUNC : Nat := 0xA01E0
/-- GAT_CNT_UNCHECKED, Table 08-10. -/
abbrev GAT_CNT_UNCHECKED : Nat := 0xA01E8
/-- GAT_CNT_WIN_DROP, Table 08-10. -/
abbrev GAT_CNT_WIN_DROP : Nat := 0xA01F0
/-- HST_CTRL, Table 09-8. -/
abbrev HST_CTRL : Nat := 0xC0000
/-- HST_STATUS, Table 09-8. -/
abbrev HST_STATUS : Nat := 0xC0004
/-- HST_CONF, Table 09-8. -/
abbrev HST_CONF : Nat := 0xC0008
/-- HST_LODE_BASE, Table 09-8. -/
abbrev HST_LODE_BASE : Nat := 0xC0010
/-- HST_LODE_CFG, Table 09-8. -/
abbrev HST_LODE_CFG : Nat := 0xC0018
/-- HST_LODE_PANIC, Table 09-8. -/
abbrev HST_LODE_PANIC : Nat := 0xC001C
/-- HST_LODE_CELL, Table 09-8. -/
abbrev HST_LODE_CELL : Nat := 0xC0020
/-- HST_LODE_CELL_N, Table 09-8. -/
abbrev HST_LODE_CELL_N : Nat := 0xC0024
/-- HST_LODE_CH, Table 09-8. -/
abbrev HST_LODE_CH : Nat := 0xC0028
/-- HST_LODE_EPOCH, Table 09-8. -/
abbrev HST_LODE_EPOCH : Nat := 0xC002C
/-- HST_LODE_FRAMES, Table 09-8. -/
abbrev HST_LODE_FRAMES : Nat := 0xC0030
/-- HST_CNT_OPENED, Table 09-8. -/
abbrev HST_CNT_OPENED : Nat := 0xC0100
/-- HST_CNT_CLOSED, Table 09-8. -/
abbrev HST_CNT_CLOSED : Nat := 0xC0108
/-- HST_CNT_NOSLOT, Table 09-8. -/
abbrev HST_CNT_NOSLOT : Nat := 0xC0110
/-- HST_CNT_CONF, Table 09-8. -/
abbrev HST_CNT_CONF : Nat := 0xC0118
/-- HST_CNT_SAT, Table 09-8. -/
abbrev HST_CNT_SAT : Nat := 0xC0120
/-- HST_CNT_POISON_FINE, Table 09-8. -/
abbrev HST_CNT_POISON_FINE : Nat := 0xC0128
/-- HST_CNT_LODE_ADDED, Table 09-8. -/
abbrev HST_CNT_LODE_ADDED : Nat := 0xC0130
/-- HST_CNT_LODE_DROP, Table 09-8. -/
abbrev HST_CNT_LODE_DROP : Nat := 0xC0138
/-- HST_CNT_LODE_UNMATCHED, Table 09-8. -/
abbrev HST_CNT_LODE_UNMATCHED : Nat := 0xC0140
/-- HST_CNT_EXPORT_DROP, Table 09-8. -/
abbrev HST_CNT_EXPORT_DROP : Nat := 0xC0148
/-- HST_CNT_RESERVE_SKIP, Table 09-8. -/
abbrev HST_CNT_RESERVE_SKIP : Nat := 0xC0150
/-- SIV_CTRL, Table 09-11. -/
abbrev SIV_CTRL : Nat := 0xD0000
/-- SIV_STATUS, Table 09-11. -/
abbrev SIV_STATUS : Nat := 0xD0004
/-- SIV_PORT_SET0, Table 09-11. -/
abbrev SIV_PORT_SET0 : Nat := 0xD0008
/-- SIV_PORT_SET1, Table 09-11. -/
abbrev SIV_PORT_SET1 : Nat := 0xD000C
/-- SIV_THR, R198ff, Table 09-11. -/
abbrev SIV_THR (i : Nat) : Nat := 0xD0010 + 0x4 * i
/-- SIV_PAGE, Table 09-11. -/
abbrev SIV_PAGE : Nat := 0xD0020
/-- SIV_COEF, R198ff, Table 09-11. -/
abbrev SIV_COEF (i : Nat) : Nat := 0xD0040 + 0x4 * i
/-- SIV_LAT, Table 09-11. -/
abbrev SIV_LAT : Nat := 0xD0100
/-- SIV_CNT_CAND, Table 09-11. -/
abbrev SIV_CNT_CAND : Nat := 0xD0108
/-- SIV_CNT_CAND_CUT, Table 09-11. -/
abbrev SIV_CNT_CAND_CUT : Nat := 0xD0110
/-- SIV_CNT_HELD, Table 09-11. -/
abbrev SIV_CNT_HELD : Nat := 0xD0118
/-- ASY_CTRL, R228ff, Table 10-19. -/
abbrev ASY_CTRL (k : Nat) : Nat := 0x100000 + 0x10000 * k
/-- ASY_STATUS, R228ff, Table 10-19. -/
abbrev ASY_STATUS (k : Nat) : Nat := 0x100004 + 0x10000 * k
/-- ASY_PC, R228ff, Table 10-19. -/
abbrev ASY_PC (k : Nat) : Nat := 0x100008 + 0x10000 * k
/-- ASY_BKPT, R228ff, Table 10-19. -/
abbrev ASY_BKPT (k : Nat) : Nat := 0x10000C + 0x10000 * k
/-- ASY_PAGE, R228ff, Table 10-19. -/
abbrev ASY_PAGE (k : Nat) : Nat := 0x100010 + 0x10000 * k
/-- ASY_LAT, R228ff, Table 10-19. -/
abbrev ASY_LAT (k : Nat) : Nat := 0x100014 + 0x10000 * k
/-- ASY_BG_USED, R228ff, Table 10-19. -/
abbrev ASY_BG_USED (k : Nat) : Nat := 0x100018 + 0x10000 * k
/-- ASY_CNT_BUSY, R228ff, Table 10-19. -/
abbrev ASY_CNT_BUSY (k : Nat) : Nat := 0x100020 + 0x10000 * k
/-- ASY_CNT_BATCH, R228ff, Table 10-19. -/
abbrev ASY_CNT_BATCH (k : Nat) : Nat := 0x100028 + 0x10000 * k
/-- ASY_CNT_SET, R228ff, Table 10-19. -/
abbrev ASY_CNT_SET (k : Nat) : Nat := 0x100030 + 0x10000 * k
/-- ASY_CNT_REC, R228ff, Table 10-19. -/
abbrev ASY_CNT_REC (k : Nat) : Nat := 0x100038 + 0x10000 * k
/-- ASY_CNT_STALL, R228ff, Table 10-19. -/
abbrev ASY_CNT_STALL (k : Nat) : Nat := 0x100040 + 0x10000 * k
/-- ASY_CL_STATUS, Table 10-19. -/
abbrev ASY_CL_STATUS : Nat := 0x101000
/-- ASY_FW_VERSION, Table 10-19. -/
abbrev ASY_FW_VERSION : Nat := 0x101004
/-- ASY_WCET_BATCH, Table 10-19. -/
abbrev ASY_WCET_BATCH : Nat := 0x101008
/-- ASY_WCET_SET, Table 10-19. -/
abbrev ASY_WCET_SET : Nat := 0x10100C
/-- ASY_BATCH_LIMIT, Table 10-19. -/
abbrev ASY_BATCH_LIMIT : Nat := 0x101010
/-- ASY_BG_SLICE, Table 10-19. -/
abbrev ASY_BG_SLICE : Nat := 0x101014
/-- ASY_DISP_WAIT, Table 10-19. -/
abbrev ASY_DISP_WAIT : Nat := 0x101018
/-- ASY_CNT_LOST, Table 10-19. -/
abbrev ASY_CNT_LOST : Nat := 0x101020
/-- PNT_STATUS, Table 11-10. -/
abbrev PNT_STATUS : Nat := 0x200000
/-- PNT_CMD, Table 11-10. -/
abbrev PNT_CMD : Nat := 0x200004
/-- PNT_LAT, Table 11-10. -/
abbrev PNT_LAT : Nat := 0x200008
/-- PNT_STREAM_CFG, R245ff, Table 11-10. -/
abbrev PNT_STREAM_CFG (n : Nat) : Nat := 0x200100 + 0x10 * n
/-- PNT_STREAM_WAIT, R245ff, Table 11-10. -/
abbrev PNT_STREAM_WAIT (n : Nat) : Nat := 0x200104 + 0x10 * n
/-- PNT_STREAM_SEQ, R245ff, Table 11-10. -/
abbrev PNT_STREAM_SEQ (n : Nat) : Nat := 0x200108 + 0x10 * n
/-- PNT_STREAM_STAT, R245ff, Table 11-10. -/
abbrev PNT_STREAM_STAT (n : Nat) : Nat := 0x20010C + 0x10 * n
/-- PNT_CNT_RECORDS, Table 11-10. -/
abbrev PNT_CNT_RECORDS : Nat := 0x200200
/-- PNT_CNT_MALFORMED, Table 11-10. -/
abbrev PNT_CNT_MALFORMED : Nat := 0x200208
/-- PNT_CNT_FALLBACK, Table 11-10. -/
abbrev PNT_CNT_FALLBACK : Nat := 0x200210
/-- PNT_CNT_LATE, Table 11-10. -/
abbrev PNT_CNT_LATE : Nat := 0x200218
/-- PNT_CNT_LANE_DROP, Table 11-10. -/
abbrev PNT_CNT_LANE_DROP : Nat := 0x200220
/-- PNT_CNT_COPY_DROP, Table 11-10. -/
abbrev PNT_CNT_COPY_DROP : Nat := 0x200228
/-- PNT_CNT_SENT, R245ff, Table 11-10. -/
abbrev PNT_CNT_SENT (n : Nat) : Nat := 0x200300 + 0x8 * n
/-- FMN_STATUS, Table 12-5. -/
abbrev FMN_STATUS : Nat := 0x210000
/-- FMN_CMD, Table 12-5. -/
abbrev FMN_CMD : Nat := 0x210004
/-- FMN_ADMIT, Table 12-5. -/
abbrev FMN_ADMIT : Nat := 0x210008
/-- FMN_DRAM_CAP, Table 12-5. -/
abbrev FMN_DRAM_CAP : Nat := 0x21000C
/-- FMN_ROUND, Table 12-5. -/
abbrev FMN_ROUND : Nat := 0x210010
/-- FMN_CORES, Table 12-5. -/
abbrev FMN_CORES : Nat := 0x210018
/-- FMN_DEMAND_SIEVE, Table 12-5. -/
abbrev FMN_DEMAND_SIEVE : Nat := 0x210020
/-- FMN_DEMAND_ASSAY, Table 12-5. -/
abbrev FMN_DEMAND_ASSAY : Nat := 0x210024
/-- FMN_DEMAND_LANE, R257ff, Table 12-5. -/
abbrev FMN_DEMAND_LANE (n : Nat) : Nat := 0x210040 + 0x4 * n
/-- FMN_ALLOC, R257ff, Table 12-5. -/
abbrev FMN_ALLOC (a : Nat) : Nat := 0x210100 + 0x4 * a
/-- FMN_USED, R257ff, Table 12-5. -/
abbrev FMN_USED (a : Nat) : Nat := 0x210180 + 0x4 * a
/-- FMN_PEAK, R257ff, Table 12-5. -/
abbrev FMN_PEAK (a : Nat) : Nat := 0x210200 + 0x4 * a
/-- FMN_CNT_SPENT, R257ff, Table 12-5. -/
abbrev FMN_CNT_SPENT (a : Nat) : Nat := 0x210280 + 0x4 * a
/-- FMN_CNT_BORROW, Table 12-5. -/
abbrev FMN_CNT_BORROW : Nat := 0x210300
/-- FMN_CNT_OVERRUN, Table 12-5. -/
abbrev FMN_CNT_OVERRUN : Nat := 0x210308
/-- WAV_CMD, Table 13-8. -/
abbrev WAV_CMD : Nat := 0x220000
/-- WAV_STATUS, Table 13-8. -/
abbrev WAV_STATUS : Nat := 0x220004
/-- WAV_TAP_CFG, R278ff, Table 13-8. -/
abbrev WAV_TAP_CFG (t : Nat) : Nat := 0x220100 + 0x80 * t
/-- WAV_TAP_LEN, R278ff, Table 13-8. -/
abbrev WAV_TAP_LEN (t : Nat) : Nat := 0x220104 + 0x80 * t
/-- WAV_TAP_TRIG, R278ff, Table 13-8. -/
abbrev WAV_TAP_TRIG (t : Nat) : Nat := 0x220108 + 0x80 * t
/-- WAV_TAP_LEVEL, R278ff, Table 13-8. -/
abbrev WAV_TAP_LEVEL (t : Nat) : Nat := 0x22010C + 0x80 * t
/-- WAV_TAP_EMIT, R278ff, Table 13-8. -/
abbrev WAV_TAP_EMIT (t : Nat) : Nat := 0x220110 + 0x80 * t
/-- WAV_TAP_STATUS, R278ff, Table 13-8. -/
abbrev WAV_TAP_STATUS (t : Nat) : Nat := 0x220114 + 0x80 * t
/-- WAV_RING_BASE, R278ff, Table 13-8. -/
abbrev WAV_RING_BASE (t : Nat) : Nat := 0x220118 + 0x80 * t
/-- WAV_RING_LEN, R278ff, Table 13-8. -/
abbrev WAV_RING_LEN (t : Nat) : Nat := 0x22011C + 0x80 * t
/-- WAV_RING_WR, R278ff, Table 13-8. -/
abbrev WAV_RING_WR (t : Nat) : Nat := 0x220120 + 0x80 * t
/-- WAV_RING_RD, R278ff, Table 13-8. -/
abbrev WAV_RING_RD (t : Nat) : Nat := 0x220124 + 0x80 * t
/-- WAV_SEQ, R278ff, Table 13-8. -/
abbrev WAV_SEQ (t : Nat) : Nat := 0x220128 + 0x80 * t
/-- WAV_CNT_REC, R278ff, Table 13-8. -/
abbrev WAV_CNT_REC (t : Nat) : Nat := 0x220130 + 0x80 * t
/-- WAV_CNT_IGN, R278ff, Table 13-8. -/
abbrev WAV_CNT_IGN (t : Nat) : Nat := 0x220138 + 0x80 * t
/-- WAV_CNT_DROP, R278ff, Table 13-8. -/
abbrev WAV_CNT_DROP (t : Nat) : Nat := 0x220140 + 0x80 * t
/-- WAV_CNT_TRUNC, R278ff, Table 13-8. -/
abbrev WAV_CNT_TRUNC (t : Nat) : Nat := 0x220148 + 0x80 * t
/-- FLT_STATUS, Table 14-6. -/
abbrev FLT_STATUS : Nat := 0x230000
/-- FLT_CMD, Table 14-6. -/
abbrev FLT_CMD : Nat := 0x230004
/-- FLT_CFG, R296ff, Table 14-6. -/
abbrev FLT_CFG (n : Nat) : Nat := 0x230100 + 0x20 * n
/-- FLT_BANK, R296ff, Table 14-6. -/
abbrev FLT_BANK (n : Nat) : Nat := 0x230104 + 0x20 * n
/-- FLT_OUT, R296ff, Table 14-6. -/
abbrev FLT_OUT (n : Nat) : Nat := 0x230108 + 0x20 * n
/-- FLT_GD, R296ff, Table 14-6. -/
abbrev FLT_GD (n : Nat) : Nat := 0x23010C + 0x20 * n
/-- FLT_THR_HI, R296ff, Table 14-6. -/
abbrev FLT_THR_HI (n : Nat) : Nat := 0x230110 + 0x20 * n
/-- FLT_THR_LO, R296ff, Table 14-6. -/
abbrev FLT_THR_LO (n : Nat) : Nat := 0x230114 + 0x20 * n
/-- FLT_THR_CFG, R296ff, Table 14-6. -/
abbrev FLT_THR_CFG (n : Nat) : Nat := 0x230118 + 0x20 * n
/-- FLT_CH_STATUS, R296ff, Table 14-6. -/
abbrev FLT_CH_STATUS (n : Nat) : Nat := 0x23011C + 0x20 * n
/-- FLT_GD_TICKS, R296ff, Table 14-6. -/
abbrev FLT_GD_TICKS (n : Nat) : Nat := 0x230300 + 0x4 * n
/-- HKA_CFG, R297ff, Table 14-8. -/
abbrev HKA_CFG (u : Nat) : Nat := 0x238000 + 0x100 * u
/-- HKA_STATUS, R297ff, Table 14-8. -/
abbrev HKA_STATUS (u : Nat) : Nat := 0x238004 + 0x100 * u
/-- HKA_DEC, R297ff, Table 14-8. -/
abbrev HKA_DEC (u : Nat) : Nat := 0x238008 + 0x100 * u
/-- HKA_TRIM, R297ff, Table 14-8. -/
abbrev HKA_TRIM (u : Nat) : Nat := 0x23800C + 0x100 * u
/-- HKA_SEQ, R297ff, Table 14-8. -/
abbrev HKA_SEQ (u e : Nat) : Nat := 0x238010 + 0x100 * u + 0x4 * e
/-- HKA_RESULT, R297ff, Table 14-8. -/
abbrev HKA_RESULT (u e : Nat) : Nat := 0x238030 + 0x100 * u + 0x4 * e
/-- HKA_INJ_RESULT, R297ff, Table 14-8. -/
abbrev HKA_INJ_RESULT (u : Nat) : Nat := 0x238050 + 0x100 * u
/-- HKA_CNT_INJ_DROP, R297ff, Table 14-8. -/
abbrev HKA_CNT_INJ_DROP (u : Nat) : Nat := 0x238058 + 0x100 * u
/-- HKA_CNT_START_DROP, R297ff, Table 14-8. -/
abbrev HKA_CNT_START_DROP (u : Nat) : Nat := 0x238060 + 0x100 * u
/-- HKA_TIMER, R297ff, Table 14-8. -/
abbrev HKA_TIMER (i : Nat) : Nat := 0x238800 + 0x4 * i
/-- HKA_CMD, Table 14-8. -/
abbrev HKA_CMD : Nat := 0x238810
/-- SNS_CFG, R311ff, Table 15-5. -/
abbrev SNS_CFG (s : Nat) : Nat := 0x240000 + 0x20 * s
/-- SNS_STATUS, R311ff, Table 15-5. -/
abbrev SNS_STATUS (s : Nat) : Nat := 0x240004 + 0x20 * s
/-- SNS_RES, R311ff, Table 15-5. -/
abbrev SNS_RES (s : Nat) : Nat := 0x240008 + 0x20 * s
/-- SNS_VAL, R311ff, Table 15-5. -/
abbrev SNS_VAL (s : Nat) : Nat := 0x24000C + 0x20 * s
/-- SNS_LEAD, R311ff, Table 15-5. -/
abbrev SNS_LEAD (s : Nat) : Nat := 0x240010 + 0x20 * s
/-- SNS_OFF, R311ff, Table 15-5. -/
abbrev SNS_OFF (s : Nat) : Nat := 0x240014 + 0x20 * s
/-- SNS_CTRL, Table 15-5. -/
abbrev SNS_CTRL : Nat := 0x240100
/-- SNS_BIAS_CFG, Table 15-5. -/
abbrev SNS_BIAS_CFG : Nat := 0x240140
/-- SNS_BIAS_BASE, Table 15-5. -/
abbrev SNS_BIAS_BASE : Nat := 0x240144
/-- SNS_BIAS_K, Table 15-5. -/
abbrev SNS_BIAS_K : Nat := 0x240148
/-- SNS_BIAS_LIM, Table 15-5. -/
abbrev SNS_BIAS_LIM : Nat := 0x24014C
/-- SNS_BIAS_STATUS, Table 15-5. -/
abbrev SNS_BIAS_STATUS : Nat := 0x240150
/-- SNS_HTR, R311ff, Table 15-5. -/
abbrev SNS_HTR (k : Nat) : Nat := 0x240160 + 0x10 * k
/-- SNS_HTR_SET, R311ff, Table 15-5. -/
abbrev SNS_HTR_SET (k : Nat) : Nat := 0x240164 + 0x10 * k
/-- SNS_HTR_HYST, R311ff, Table 15-5. -/
abbrev SNS_HTR_HYST (k : Nat) : Nat := 0x240168 + 0x10 * k
/-- SNS_ENC_CFG, R311ff, Table 15-5. -/
abbrev SNS_ENC_CFG (k : Nat) : Nat := 0x240180 + 0x10 * k
/-- SNS_ENC_CNT, R311ff, Table 15-5. -/
abbrev SNS_ENC_CNT (k : Nat) : Nat := 0x240184 + 0x10 * k
/-- SNS_ENC_IDX, R311ff, Table 15-5. -/
abbrev SNS_ENC_IDX (k : Nat) : Nat := 0x240188 + 0x10 * k
/-- SNS_ENC_PER, R311ff, Table 15-5. -/
abbrev SNS_ENC_PER (k : Nat) : Nat := 0x24018C + 0x10 * k
/-- SNS_IMU_CFG, Table 15-5. -/
abbrev SNS_IMU_CFG : Nat := 0x240200
/-- SNS_IMU_CMD, Table 15-5. -/
abbrev SNS_IMU_CMD : Nat := 0x240204
/-- SNS_IMU_PERIOD, Table 15-5. -/
abbrev SNS_IMU_PERIOD : Nat := 0x240208
/-- SNS_IMU_XFER, Table 15-5. -/
abbrev SNS_IMU_XFER : Nat := 0x24020C
/-- SNS_IMU_STAT, Table 15-5. -/
abbrev SNS_IMU_STAT : Nat := 0x240210
/-- CAN_CTRL, R311ff, Table 15-7. -/
abbrev CAN_CTRL (n : Nat) : Nat := 0x26E000 + 0x1000 * n
/-- CAN_NBT, R311ff, Table 15-7. -/
abbrev CAN_NBT (n : Nat) : Nat := 0x26E004 + 0x1000 * n
/-- CAN_DBT, R311ff, Table 15-7. -/
abbrev CAN_DBT (n : Nat) : Nat := 0x26E008 + 0x1000 * n
/-- CAN_STATUS, R311ff, Table 15-7. -/
abbrev CAN_STATUS (n : Nat) : Nat := 0x26E00C + 0x1000 * n
/-- CAN_CMD, R311ff, Table 15-7. -/
abbrev CAN_CMD (n : Nat) : Nat := 0x26E010 + 0x1000 * n
/-- CAN_CNT_DROP, R311ff, Table 15-7. -/
abbrev CAN_CNT_DROP (n : Nat) : Nat := 0x26E014 + 0x1000 * n
/-- CAN_FLT, R311ff, Table 15-7. -/
abbrev CAN_FLT (n w : Nat) : Nat := 0x26E100 + 0x1000 * n + 0x4 * w
/-- CAN_TX, R311ff, Table 15-7. -/
abbrev CAN_TX (n w : Nat) : Nat := 0x26E200 + 0x1000 * n + 0x4 * w
/-- HOI_CTRL, Table 16-8. -/
abbrev HOI_CTRL : Nat := 0x250000
/-- HOI_STATUS, Table 16-8. -/
abbrev HOI_STATUS : Nat := 0x250004
/-- HOI_CMD, Table 16-8. -/
abbrev HOI_CMD : Nat := 0x250008
/-- HOI_EPOCH, Table 16-8. -/
abbrev HOI_EPOCH : Nat := 0x25000C
/-- HOI_TRAIN, Table 16-8. -/
abbrev HOI_TRAIN : Nat := 0x250010
/-- HOI_SR_CFG, Table 16-8. -/
abbrev HOI_SR_CFG : Nat := 0x250014
/-- HOI_RH_CFG, Table 16-8. -/
abbrev HOI_RH_CFG : Nat := 0x250018
/-- HOI_PAGE, Table 16-8. -/
abbrev HOI_PAGE : Nat := 0x25001C
/-- HOI_CH_GEOM, R334ff, Table 16-8. -/
abbrev HOI_CH_GEOM (n : Nat) : Nat := 0x250100 + 0x100 * n
/-- HOI_CH_MAP, R334ff, Table 16-8. -/
abbrev HOI_CH_MAP (n : Nat) : Nat := 0x250104 + 0x100 * n
/-- HOI_CH_PAGE, R334ff, Table 16-8. -/
abbrev HOI_CH_PAGE (n : Nat) : Nat := 0x250108 + 0x100 * n
/-- HOI_CH_STATUS, R334ff, Table 16-8. -/
abbrev HOI_CH_STATUS (n : Nat) : Nat := 0x25010C + 0x100 * n
/-- HOI_CH_DEAD0, R334ff, Table 16-8. -/
abbrev HOI_CH_DEAD0 (n : Nat) : Nat := 0x250110 + 0x100 * n
/-- HOI_CH_DEAD1, R334ff, Table 16-8. -/
abbrev HOI_CH_DEAD1 (n : Nat) : Nat := 0x250114 + 0x100 * n
/-- HOI_CNT_CORR, R334ff, Table 16-8. -/
abbrev HOI_CNT_CORR (n : Nat) : Nat := 0x250120 + 0x100 * n
/-- HOI_CNT_UNCORR, R334ff, Table 16-8. -/
abbrev HOI_CNT_UNCORR (n : Nat) : Nat := 0x250128 + 0x100 * n
/-- HOI_CNT_STALE, R334ff, Table 16-8. -/
abbrev HOI_CNT_STALE (n : Nat) : Nat := 0x250130 + 0x100 * n
/-- HOI_CNT_TAG, R334ff, Table 16-8. -/
abbrev HOI_CNT_TAG (n : Nat) : Nat := 0x250138 + 0x100 * n
/-- HOI_CNT_ALERT, R334ff, Table 16-8. -/
abbrev HOI_CNT_ALERT (n : Nat) : Nat := 0x250140 + 0x100 * n
/-- HOI_CNT_FALLBACK, R334ff, Table 16-8. -/
abbrev HOI_CNT_FALLBACK (n : Nat) : Nat := 0x250148 + 0x100 * n
/-- HOI_CNT_RH_REFRESH, R334ff, Table 16-8. -/
abbrev HOI_CNT_RH_REFRESH (n : Nat) : Nat := 0x250150 + 0x100 * n
/-- HOI_CNT_RH_STALL, R334ff, Table 16-8. -/
abbrev HOI_CNT_RH_STALL (n : Nat) : Nat := 0x250158 + 0x100 * n
/-- HOI_CNT_SR_ENTRY, R334ff, Table 16-8. -/
abbrev HOI_CNT_SR_ENTRY (n : Nat) : Nat := 0x250160 + 0x100 * n
/-- HOI_CNT_SR_ABORT, R334ff, Table 16-8. -/
abbrev HOI_CNT_SR_ABORT (n : Nat) : Nat := 0x250168 + 0x100 * n
/-- HOI_CNT_WB_DROP, R334ff, Table 16-8. -/
abbrev HOI_CNT_WB_DROP (n : Nat) : Nat := 0x250170 + 0x100 * n
/-- LNK_CFG, R353ff, Table 17-6. -/
abbrev LNK_CFG (n : Nat) : Nat := 0x260000 + 0x100 * n
/-- LNK_STATUS, R353ff, Table 17-6. -/
abbrev LNK_STATUS (n : Nat) : Nat := 0x260004 + 0x100 * n
/-- LNK_CMD, R353ff, Table 17-6. -/
abbrev LNK_CMD (n : Nat) : Nat := 0x260008 + 0x100 * n
/-- LNK_PARTNER, R353ff, Table 17-6. -/
abbrev LNK_PARTNER (n : Nat) : Nat := 0x26000C + 0x100 * n
/-- LNK_PRBS, R353ff, Table 17-6. -/
abbrev LNK_PRBS (n : Nat) : Nat := 0x260010 + 0x100 * n
/-- LNK_DOWNS, R353ff, Table 17-6. -/
abbrev LNK_DOWNS (n : Nat) : Nat := 0x260014 + 0x100 * n
/-- LNK_CNT_CORR, R353ff, Table 17-6. -/
abbrev LNK_CNT_CORR (n : Nat) : Nat := 0x260018 + 0x100 * n
/-- LNK_CNT_UNCORR, R353ff, Table 17-6. -/
abbrev LNK_CNT_UNCORR (n : Nat) : Nat := 0x260020 + 0x100 * n
/-- LNK_CNT_STUFF, R353ff, Table 17-6. -/
abbrev LNK_CNT_STUFF (n : Nat) : Nat := 0x260028 + 0x100 * n
/-- LNK_CNT_FILL, R353ff, Table 17-6. -/
abbrev LNK_CNT_FILL (n : Nat) : Nat := 0x260030 + 0x100 * n
/-- LNK_CNT_DISC, R353ff, Table 17-6. -/
abbrev LNK_CNT_DISC (n : Nat) : Nat := 0x260038 + 0x100 * n
/-- LNK_CNT_MGT, R353ff, Table 17-6. -/
abbrev LNK_CNT_MGT (n : Nat) : Nat := 0x260040 + 0x100 * n
/-- CSI_CTRL, Table 17-8. -/
abbrev CSI_CTRL : Nat := 0x268000
/-- CSI_STATUS, Table 17-8. -/
abbrev CSI_STATUS : Nat := 0x268004
/-- CSI_CNT_PKT, Table 17-8. -/
abbrev CSI_CNT_PKT : Nat := 0x268008
/-- CSI_CNT_OVERSIZE, Table 17-8. -/
abbrev CSI_CNT_OVERSIZE : Nat := 0x268010
/-- ETH_CTRL, Table 17-10. -/
abbrev ETH_CTRL : Nat := 0x26C000
/-- ETH_STATUS, Table 17-10. -/
abbrev ETH_STATUS : Nat := 0x26C004
/-- ETH_MAC, Table 17-10. -/
abbrev ETH_MAC : Nat := 0x26C008
/-- ETH_DST_MAC, Table 17-10. -/
abbrev ETH_DST_MAC : Nat := 0x26C010
/-- ETH_IP4, Table 17-10. -/
abbrev ETH_IP4 : Nat := 0x26C018
/-- ETH_DST_IP4, Table 17-10. -/
abbrev ETH_DST_IP4 : Nat := 0x26C01C
/-- ETH_IP6, R360ff, Table 17-10. -/
abbrev ETH_IP6 (i : Nat) : Nat := 0x26C020 + 0x4 * i
/-- ETH_DST_IP6, R360ff, Table 17-10. -/
abbrev ETH_DST_IP6 (i : Nat) : Nat := 0x26C030 + 0x4 * i
/-- ETH_UDP, Table 17-10. -/
abbrev ETH_UDP : Nat := 0x26C040
/-- ETH_VLAN, Table 17-10. -/
abbrev ETH_VLAN : Nat := 0x26C044
/-- ETH_PTP_CFG, Table 17-10. -/
abbrev ETH_PTP_CFG : Nat := 0x26C048
/-- ETH_PTP_LAT, Table 17-10. -/
abbrev ETH_PTP_LAT : Nat := 0x26C04C
/-- ETH_MDIO, Table 17-10. -/
abbrev ETH_MDIO : Nat := 0x26C050
/-- ETH_MDIO_DATA, Table 17-10. -/
abbrev ETH_MDIO_DATA : Nat := 0x26C054
/-- ETH_CNT_TX, Table 17-10. -/
abbrev ETH_CNT_TX : Nat := 0x26C100
/-- ETH_CNT_RX_DISC, Table 17-10. -/
abbrev ETH_CNT_RX_DISC : Nat := 0x26C108
/-- ETH_CNT_MGT, Table 17-10. -/
abbrev ETH_CNT_MGT : Nat := 0x26C110
/-- CNY_STATUS, Table 18-8. -/
abbrev CNY_STATUS : Nat := 0x270000
/-- CNY_CMD, Table 18-8. -/
abbrev CNY_CMD : Nat := 0x270004
/-- CNY_SEAL, Table 18-8. -/
abbrev CNY_SEAL : Nat := 0x270008
/-- CNY_CHECK_COMPUTED, Table 18-8. -/
abbrev CNY_CHECK_COMPUTED : Nat := 0x27000C
/-- CNY_CHECK_CONFIRMED, Table 18-8. -/
abbrev CNY_CHECK_CONFIRMED : Nat := 0x270010
/-- CNY_COMM_CONFIRM, Table 18-8. -/
abbrev CNY_COMM_CONFIRM : Nat := 0x270014
/-- CNY_COMM_COUNT, Table 18-8. -/
abbrev CNY_COMM_COUNT : Nat := 0x270018
/-- CNY_COMM_TAG, R397ff, Table 18-8. -/
abbrev CNY_COMM_TAG (i : Nat) : Nat := 0x270020 + 0x4 * i
/-- CNY_INPUTS, Table 18-8. -/
abbrev CNY_INPUTS : Nat := 0x270040
/-- CNY_FUNC, Table 18-8. -/
abbrev CNY_FUNC : Nat := 0x270044
/-- CNY_OSSD, Table 18-8. -/
abbrev CNY_OSSD : Nat := 0x270048
/-- CNY_FIELDSET, Table 18-8. -/
abbrev CNY_FIELDSET : Nat := 0x27004C
/-- CNY_VIOL, Table 18-8. -/
abbrev CNY_VIOL : Nat := 0x270050
/-- CNY_AXIS0, Table 18-8. -/
abbrev CNY_AXIS0 : Nat := 0x270054
/-- CNY_AXIS1, Table 18-8. -/
abbrev CNY_AXIS1 : Nat := 0x270058
/-- CNY_RESP, Table 18-8. -/
abbrev CNY_RESP : Nat := 0x27005C
/-- CNY_CNT_RX, Table 18-8. -/
abbrev CNY_CNT_RX : Nat := 0x270060
/-- CNY_CNT_MISMATCH, Table 18-8. -/
abbrev CNY_CNT_MISMATCH : Nat := 0x270068
/-- CNY_CNT_TIMEOUT, Table 18-8. -/
abbrev CNY_CNT_TIMEOUT : Nat := 0x270070
/-- CNY_CNT_ECHOES, Table 18-8. -/
abbrev CNY_CNT_ECHOES : Nat := 0x270078
/-- CAL_CTRL, Table 19-6. -/
abbrev CAL_CTRL : Nat := 0x280000
/-- CAL_STATUS, Table 19-6. -/
abbrev CAL_STATUS : Nat := 0x280004
/-- CAL_CMD, Table 19-6. -/
abbrev CAL_CMD : Nat := 0x280008
/-- CAL_RESULT, Table 19-6. -/
abbrev CAL_RESULT : Nat := 0x28000C
/-- CAL_RESULT_EU, Table 19-6. -/
abbrev CAL_RESULT_EU : Nat := 0x280010
/-- CAL_RESULT_EMIT, Table 19-6. -/
abbrev CAL_RESULT_EMIT : Nat := 0x280014
/-- CAL_PENDING, Table 19-6. -/
abbrev CAL_PENDING : Nat := 0x280018
/-- CAL_SKEW_EN, Table 19-6. -/
abbrev CAL_SKEW_EN : Nat := 0x28001C
/-- CAL_SKEW_CFG, Table 19-6. -/
abbrev CAL_SKEW_CFG : Nat := 0x280020
/-- CAL_TZ_SHIFT, Table 19-6. -/
abbrev CAL_TZ_SHIFT : Nat := 0x280024
/-- CAL_PATH, R407ff, Table 19-6. -/
abbrev CAL_PATH (q : Nat) : Nat := 0x280080 + 0x4 * q
/-- CAL_MON_TRIM, R407ff, Table 19-6. -/
abbrev CAL_MON_TRIM (e : Nat) : Nat := 0x280100 + 0x4 * e
/-- CAL_TAP_TRIM, R407ff, Table 19-6. -/
abbrev CAL_TAP_TRIM (t : Nat) : Nat := 0x280180 + 0x4 * t
/-- FLG_STATUS, Table 20-6. -/
abbrev FLG_STATUS : Nat := 0x290000
/-- FLG_CMD, Table 20-6. -/
abbrev FLG_CMD : Nat := 0x290004
/-- FLG_CODE, Table 20-6. -/
abbrev FLG_CODE : Nat := 0x290008
/-- FLG_JSEQ, Table 20-6. -/
abbrev FLG_JSEQ : Nat := 0x290010
/-- FLG_JOURNAL_WR, Table 20-6. -/
abbrev FLG_JOURNAL_WR : Nat := 0x290018
/-- FLG_CNT_LOST, Table 20-6. -/
abbrev FLG_CNT_LOST : Nat := 0x290020
/-- FLG_CNT_JCOPY_LOST, Table 20-6. -/
abbrev FLG_CNT_JCOPY_LOST : Nat := 0x290028
/-- FLG_JCOPY_CTRL, Table 20-6. -/
abbrev FLG_JCOPY_CTRL : Nat := 0x290030
/-- FLG_JCOPY_BASE, Table 20-6. -/
abbrev FLG_JCOPY_BASE : Nat := 0x290034
/-- FLG_JCOPY_LEN, Table 20-6. -/
abbrev FLG_JCOPY_LEN : Nat := 0x290038
/-- FLG_JCOPY_WR, Table 20-6. -/
abbrev FLG_JCOPY_WR : Nat := 0x29003C
/-- FLG_JCOPY_RD, Table 20-6. -/
abbrev FLG_JCOPY_RD : Nat := 0x290040
/-- MGT_STATUS, Table 21-5. -/
abbrev MGT_STATUS : Nat := 0x2A0000
/-- MGT_DRAM_WIN, Table 21-5. -/
abbrev MGT_DRAM_WIN : Nat := 0x2A0004
/-- MGT_CAN_CFG, Table 21-5. -/
abbrev MGT_CAN_CFG : Nat := 0x2A0008
/-- MGT_CNT_RD, R433ff, Table 21-5. -/
abbrev MGT_CNT_RD (s : Nat) : Nat := 0x2A0100 + 0x8 * s
/-- MGT_CNT_WR, R433ff, Table 21-5. -/
abbrev MGT_CNT_WR (s : Nat) : Nat := 0x2A0104 + 0x8 * s
/-- MGT_CNT_ERR, R433ff, Table 21-5. -/
abbrev MGT_CNT_ERR (s : Nat) : Nat := 0x2A0200 + 0x4 * s
end R

/-- The rows of the TOP block. -/
def rowsTOP : List RegRow :=
  [
    ⟨0x10, 1, 0x0, 1, 0x0, 0x1, 0x0, 0x0, false⟩,
    ⟨0x14, 1, 0x0, 1, 0x0, 0x0, 0x0, 0x0, true⟩,
    ⟨0x18, 1, 0x0, 1, 0x0, 0x1, 0x1, 0x0, false⟩,
    ⟨0x20, 1, 0x0, 1, 0x0, 0x0, 0x0, 0x0, false⟩]
/-- The rows of the CLK block. -/
def rowsCLK : List RegRow :=
  [
    ⟨0x10000, 1, 0x0, 1, 0x0, 0x0, 0x0, 0x8, false⟩,
    ⟨0x10004, 1, 0x0, 1, 0x0, 0x0, 0x7, 0x0, false⟩,
    ⟨0x10008, 1, 0x0, 1, 0x0, 0x0, 0xFFFFFFFF, 0x0, false⟩,
    ⟨0x10010, 1, 0x0, 1, 0x0, 0x0, 0x0, 0x0, false⟩,
    ⟨0x10014, 1, 0x0, 1, 0x0, 0x0, 0x0, 0x0, false⟩,
    ⟨0x10018, 1, 0x0, 1, 0x0, 0x0, 0xFFFFFFFF, 0x0, false⟩,
    ⟨0x1001C, 1, 0x0, 1, 0x0, 0x0, 0xFFFFFFFF, 0x0, false⟩,
    ⟨0x10020, 1, 0x0, 1, 0x0, 0x400000, 0xFFFFFFFF, 0x0, false⟩,
    ⟨0x10024, 1, 0x0, 1, 0x0, 0x0, 0x0, 0x0, false⟩,
    ⟨0x10028, 1, 0x0, 1, 0x0, 0x0, 0x0, 0x0, false⟩,
    ⟨0x1002C, 1, 0x0, 1, 0x0, 0x0, 0x0, 0x0, false⟩,
    ⟨0x10030, 1, 0x0, 1, 0x0, 0x0, 0x0, 0x0, false⟩,
    ⟨0x10040, 1, 0x0, 1, 0x0, 0x0, 0xFFFFFFFF, 0x0, false⟩,
    ⟨0x10044, 1, 0x0, 1, 0x0, 0x0, 0xFFFFFFFF, 0x0, false⟩,
    ⟨0x10048, 1, 0x0, 1, 0x0, 0x64, 0xFFFFFFFF, 0x0, false⟩,
    ⟨0x10050, 1, 0x0, 1, 0x0, 0x0, 0xFFFFFFFF, 0x0, false⟩,
    ⟨0x10054, 1, 0x0, 1, 0x0, 0x0, 0xFFFFFFFF, 0x0, false⟩,
    ⟨0x10058, 1, 0x0, 1, 0x0, 0x0, 0xFFFD, 0x2, false⟩]
/-- The rows of the HDF block. -/
def rowsHDF : List RegRow :=
  [
    ⟨0x20000, 1, 0x0, 1, 0x0, 0x0, 0x0, 0x0, false⟩,
    ⟨0x20004, 1, 0x0, 1, 0x0, 0x0, 0x0, 0x0, false⟩,
    ⟨0x20008, 1, 0x0, 1, 0x0, 0x0, 0x0, 0x0, false⟩,
    ⟨0x2000C, 1, 0x0, 1, 0x0, 0x0, 0x0, 0x0, false⟩,
    ⟨0x20010, 1, 0x0, 1, 0x0, 0x0, 0x0, 0x0, false⟩,
    ⟨0x20014, 1, 0x0, 1, 0x0, 0x0, 0x0, 0x0, false⟩,
    ⟨0x20018, 1, 0x0, 1, 0x0, 0x0, 0x0, 0x0, false⟩,
    ⟨0x20040, 16, 0x4, 1, 0x0, 0x0, 0x0, 0x0, false⟩]
/-- The rows of the LMP block. -/
def rowsLMP : List RegRow :=
  [
    ⟨0x30000, 1, 0x0, 1, 0x0, 0x0, 0x0, 0x0, false⟩,
    ⟨0x30040, 15, 0x4, 1, 0x0, 0x0, 0x0, 0x0, false⟩,
    ⟨0x30100, 64, 0x4, 1, 0x0, 0x0, 0x0, 0x0, false⟩,
    ⟨0x30200, 32, 0x4, 1, 0x0, 0x0, 0x0, 0x0, false⟩,
    ⟨0x30280, 8, 0x4, 1, 0x0, 0x0, 0x0, 0x0, false⟩,
    ⟨0x30300, 8, 0x4, 1, 0x0, 0x0, 0xFFFFFFFF, 0x0, false⟩,
    ⟨0x30320, 1, 0x0, 1, 0x0, 0x0, 0x0, 0x0, true⟩,
    ⟨0x30340, 8, 0x4, 1, 0x0, 0x0, 0xFFFFFFFF, 0x0, false⟩,
    ⟨0x30360, 1, 0x0, 1, 0x0, 0x0, 0x0, 0x0, true⟩,
    ⟨0x30400, 132, 0x4, 1, 0x0, 0x0, 0x0, 0x0, false⟩]
/-- The rows of the SEQ block. -/
def rowsSEQ : List RegRow :=
  [
    ⟨0x40000, 1, 0x0, 1, 0x0, 0xFFFF0003, 0xFFFF0007, 0x0, false⟩,
    ⟨0x40004, 1, 0x0, 1, 0x0, 0x0, 0x0, 0xC, false⟩,
    ⟨0x40008, 1, 0x0, 1, 0x0, 0xC00000C0, 0x0, 0x0, false⟩,
    ⟨0x4000C, 1, 0x0, 1, 0x0, 0x0, 0x3FFFF, 0x0, false⟩,
    ⟨0x40010, 1, 0x0, 1, 0x0, 0x0, 0x0, 0x0, false⟩,
    ⟨0x40014, 1, 0x0, 1, 0x0, 0x0, 0x0, 0x0, false⟩,
    ⟨0x40018, 1, 0x0, 1, 0x0, 0x0, 0x0, 0x0, false⟩,
    ⟨0x4001C, 1, 0x0, 1, 0x0, 0x0, 0x0, 0x0, false⟩,
    ⟨0x40020, 1, 0x0, 1, 0x0, 0x0, 0x0, 0x0, false⟩,
    ⟨0x40024, 1, 0x0, 1, 0x0, 0x0, 0x0, 0x0, false⟩,
    ⟨0x40028, 1, 0x0, 1, 0x0, 0x0, 0xFFFFFF, 0x0, false⟩,
    ⟨0x4002C, 1, 0x0, 1, 0x0, 0x0, 0x0, 0x0, true⟩,
    ⟨0x40030, 1, 0x0, 1, 0x0, 0x0, 0x0, 0x0, false⟩,
    ⟨0x40034, 1, 0x0, 1, 0x0, 0x0, 0x3FF, 0x0, false⟩,
    ⟨0x40040, 32, 0x4, 1, 0x0, 0x1CF, 0x1FFFF, 0x0, false⟩,
    ⟨0x400C0, 32, 0x4, 1, 0x0, 0x0, 0xFFFFFFFF, 0x0, false⟩,
    ⟨0x40140, 8, 0x4, 1, 0x0, 0x0, 0x3F3F, 0x0, false⟩,
    ⟨0x40160, 8, 0x4, 1, 0x0, 0x0, 0xFFFFFFFF, 0x0, false⟩,
    ⟨0x40200, 1, 0x0, 1, 0x0, 0x0, 0x0, 0x0, false⟩,
    ⟨0x40204, 1, 0x0, 1, 0x0, 0x0, 0x0, 0x0, false⟩,
    ⟨0x40208, 1, 0x0, 1, 0x0, 0x0, 0x0, 0x0, false⟩,
    ⟨0x4020C, 1, 0x0, 1, 0x0, 0x0, 0x0, 0x0, false⟩,
    ⟨0x40210, 1, 0x0, 1, 0x0, 0x0, 0x0, 0x0, false⟩,
    ⟨0x40214, 1, 0x0, 1, 0x0, 0x0, 0x0, 0x0, false⟩,
    ⟨0x40218, 1, 0x0, 1, 0x0, 0x0, 0x0, 0x0, false⟩,
    ⟨0x4021C, 1, 0x0, 1, 0x0, 0x0, 0x0, 0x0, false⟩,
    ⟨0x40220, 1, 0x0, 1, 0x0, 0x0, 0x0, 0x0, false⟩,
    ⟨0x40224, 1, 0x0, 1, 0x0, 0x0, 0x0, 0x0, false⟩,
    ⟨0x40228, 1, 0x0, 1, 0x0, 0x0, 0x0, 0x0, false⟩,
    ⟨0x4022C, 1, 0x0, 1, 0x0, 0x0, 0x0, 0x0, false⟩,
    ⟨0x40230, 1, 0x0, 1, 0x0, 0x0, 0x0, 0x0, false⟩,
    ⟨0x40234, 1, 0x0, 1, 0x0, 0x0, 0x0, 0x0, false⟩,
    ⟨0x40238, 1, 0x0, 1, 0x0, 0x0, 0x0, 0x0, false⟩,
    ⟨0x4023C, 1, 0x0, 1, 0x0, 0x0, 0x0, 0x0, false⟩,
    ⟨0x40240, 1, 0x0, 1, 0x0, 0x0, 0x0, 0x0, false⟩,
    ⟨0x40244, 1, 0x0, 1, 0x0, 0x0, 0x0, 0x0, false⟩,
    ⟨0x40248, 1, 0x0, 1, 0x0, 0x0, 0x0, 0x0, false⟩,
    ⟨0x4024C, 1, 0x0, 1, 0x0, 0x0, 0x0, 0x0, false⟩,
    ⟨0x40250, 1, 0x0, 1, 0x0, 0x0, 0x0, 0x0, false⟩,
    ⟨0x40254, 1, 0x0, 1, 0x0, 0x0, 0x0, 0x0, false⟩]
/-- The rows of the EMT block. -/
def rowsEMT : List RegRow :=
  [
    ⟨0x50000, 1, 0x0, 1, 0x0, 0xA01, 0xFF01, 0x0, false⟩,
    ⟨0x50004, 1, 0x0, 1, 0x0, 0xF04, 0x0, 0x0, false⟩,
    ⟨0x50008, 1, 0x0, 1, 0x0, 0x0, 0x0, 0x1FFFFF, false⟩,
    ⟨0x5000C, 1, 0x0, 1, 0x0, 0x0, 0x0, 0x0, false⟩,
    ⟨0x50010, 1, 0x0, 1, 0x0, 0x0, 0x0, 0x0, true⟩,
    ⟨0x50040, 32, 0x4, 1, 0x0, 0xC003FF, 0x3FFFFFF, 0x0, false⟩,
    ⟨0x500C0, 32, 0x4, 1, 0x0, 0x1082100, 0x3FFFFFF, 0x0, false⟩,
    ⟨0x50140, 32, 0x4, 1, 0x0, 0x0, 0x0, 0x0, false⟩,
    ⟨0x50600, 1, 0x0, 1, 0x0, 0x0, 0x0, 0x0, false⟩,
    ⟨0x50604, 1, 0x0, 1, 0x0, 0x0, 0x0, 0x0, false⟩,
    ⟨0x50608, 1, 0x0, 1, 0x0, 0x0, 0x0, 0x0, false⟩,
    ⟨0x5060C, 1, 0x0, 1, 0x0, 0x0, 0x0, 0x0, false⟩,
    ⟨0x50610, 1, 0x0, 1, 0x0, 0x0, 0x0, 0x0, false⟩,
    ⟨0x50614, 1, 0x0, 1, 0x0, 0x0, 0x0, 0x0, false⟩,
    ⟨0x50618, 1, 0x0, 1, 0x0, 0x0, 0x0, 0x0, false⟩,
    ⟨0x50400, 8, 0x40, 1, 0x0, 0x640, 0x1FFFFF, 0x0, false⟩,
    ⟨0x50404, 8, 0x40, 1, 0x0, 0x3E8, 0xFFFFF, 0x0, false⟩,
    ⟨0x50408, 8, 0x40, 1, 0x0, 0x3E8, 0x1FFFF, 0x0, false⟩,
    ⟨0x50410, 8, 0x40, 1, 0x0, 0x0, 0xFFFFFFFF, 0x0, false⟩,
    ⟨0x50414, 8, 0x40, 1, 0x0, 0x0, 0xFFFF, 0x0, false⟩,
    ⟨0x50418, 8, 0x40, 1, 0x0, 0x0, 0xFFFFFFFF, 0x0, false⟩,
    ⟨0x5041C, 8, 0x40, 1, 0x0, 0x0, 0xFFFF, 0x0, false⟩,
    ⟨0x50420, 8, 0x40, 1, 0x0, 0x0, 0xFFFFFFFF, 0x0, false⟩,
    ⟨0x50424, 8, 0x40, 1, 0x0, 0x0, 0xFFFF, 0x0, false⟩,
    ⟨0x50428, 8, 0x40, 1, 0x0, 0x0, 0x0, 0x0, false⟩,
    ⟨0x5042C, 8, 0x40, 1, 0x0, 0x0, 0x0, 0x0, false⟩,
    ⟨0x50430, 8, 0x40, 1, 0x0, 0x0, 0x0, 0x0, false⟩,
    ⟨0x50434, 8, 0x40, 1, 0x0, 0x0, 0x0, 0x0, false⟩,
    ⟨0x50438, 8, 0x40, 1, 0x0, 0x0, 0x0, 0x0, false⟩,
    ⟨0x5043C, 8, 0x40, 1, 0x0, 0x0, 0x0, 0x0, false⟩]
/-- The rows of the STR block. -/
def rowsSTR : List RegRow :=
  [
    ⟨0x60000, 4, 0x100, 1, 0x0, 0x286436, 0xFFFFFF7F, 0x0, false⟩,
    ⟨0x60004, 4, 0x100, 1, 0x0, 0x0, 0x0, 0x20, false⟩,
    ⟨0x60008, 4, 0x100, 1, 0x0, 0x0, 0xFFFF, 0x0, false⟩,
    ⟨0x6000C, 4, 0x100, 1, 0x0, 0x0, 0xFFFFFF, 0x0, false⟩,
    ⟨0x60010, 4, 0x100, 1, 0x0, 0x101010, 0xFFFFFF, 0x0, false⟩,
    ⟨0x60014, 4, 0x100, 1, 0x0, 0x400100, 0xFFFFFFFF, 0x0, false⟩,
    ⟨0x60018, 4, 0x100, 1, 0x0, 0x3E808, 0xFFFFFF, 0x0, false⟩,
    ⟨0x6001C, 4, 0x100, 1, 0x0, 0x0, 0xFFFFFFF, 0x0, false⟩,
    ⟨0x60020, 4, 0x100, 1, 0x0, 0xF0001000, 0xFFFFFFFF, 0x0, false⟩,
    ⟨0x60024, 4, 0x100, 1, 0x0, 0x100100, 0xFFFFFFFF, 0x0, false⟩,
    ⟨0x60028, 4, 0x100, 1, 0x0, 0x0, 0xFFFF, 0x0, false⟩,
    ⟨0x6002C, 4, 0x100, 1, 0x0, 0x0, 0x0, 0x0, false⟩,
    ⟨0x60030, 4, 0x100, 1, 0x0, 0x0, 0x0, 0x0, false⟩,
    ⟨0x60034, 4, 0x100, 1, 0x0, 0x0, 0x0, 0x0, false⟩,
    ⟨0x60038, 4, 0x100, 1, 0x0, 0x0, 0x0, 0x0, false⟩,
    ⟨0x6003C, 4, 0x100, 1, 0x0, 0x0, 0x0, 0x0, true⟩,
    ⟨0x60400, 1, 0x0, 1, 0x0, 0x0, 0x7FF, 0x0, false⟩,
    ⟨0x60404, 1, 0x0, 1, 0x0, 0x0, 0xFFFFFF, 0x0, false⟩,
    ⟨0x60408, 1, 0x0, 1, 0x0, 0x0, 0xFFFFFF, 0x0, false⟩,
    ⟨0x6040C, 1, 0x0, 1, 0x0, 0x0, 0xFFFFFF, 0x0, false⟩,
    ⟨0x60410, 1, 0x0, 1, 0x0, 0x0, 0xFFFFFF, 0x0, false⟩,
    ⟨0x60414, 1, 0x0, 1, 0x0, 0x0, 0xFFFFFFFF, 0x0, false⟩,
    ⟨0x60418, 1, 0x0, 1, 0x0, 0x0, 0xFFFF1FFF, 0x0, false⟩,
    ⟨0x6041C, 1, 0x0, 1, 0x0, 0x0, 0xFFFFFFFF, 0x0, false⟩,
    ⟨0x60420, 1, 0x0, 1, 0x0, 0x0, 0xFFFFFFFF, 0x0, false⟩,
    ⟨0x60424, 1, 0x0, 1, 0x0, 0x0, 0x3FFFFF, 0x0, false⟩,
    ⟨0x60428, 1, 0x0, 1, 0x0, 0x0, 0xFFFF, 0x0, false⟩,
    ⟨0x60430, 1, 0x0, 1, 0x0, 0x0, 0x0, 0x0, false⟩,
    ⟨0x60434, 1, 0x0, 1, 0x0, 0x0, 0x0, 0x0, false⟩,
    ⟨0x60438, 1, 0x0, 1, 0x0, 0x0, 0x0, 0x0, false⟩,
    ⟨0x6043C, 1, 0x0, 1, 0x0, 0x0, 0x0, 0x0, false⟩]
/-- The rows of the RFE block. -/
def rowsRFE : List RegRow :=
  [
    ⟨0x80000, 256, 0x40, 1, 0x0, 0x0, 0x1F1F, 0x0, false⟩,
    ⟨0x80004, 256, 0x40, 1, 0x0, 0x2000040, 0x3FF03FF, 0x0, false⟩,
    ⟨0x80008, 256, 0x40, 1, 0x0, 0x401E4, 0xFF01FF, 0x0, false⟩,
    ⟨0x8000C, 256, 0x40, 1, 0x0, 0x177007D0, 0xFFFFFFFF, 0x0, false⟩,
    ⟨0x80010, 256, 0x40, 1, 0x0, 0x8080, 0xFFFF, 0x0, false⟩,
    ⟨0x80014, 256, 0x40, 1, 0x0, 0x202010, 0x3F3F1F, 0x0, false⟩,
    ⟨0x80018, 256, 0x40, 1, 0x0, 0x0, 0x0, 0x40000, false⟩,
    ⟨0x8001C, 256, 0x40, 1, 0x0, 0x0, 0x0, 0x0, false⟩,
    ⟨0x80020, 256, 0x40, 1, 0x0, 0x0, 0x0, 0x0, false⟩,
    ⟨0x80024, 256, 0x40, 1, 0x0, 0x0, 0x0, 0x0, false⟩,
    ⟨0x80028, 256, 0x40, 1, 0x0, 0x0, 0x0, 0x0, false⟩,
    ⟨0x8002C, 256, 0x40, 1, 0x0, 0x0, 0x0, 0x0, false⟩,
    ⟨0x80030, 256, 0x40, 1, 0x0, 0x0, 0x0, 0x0, false⟩,
    ⟨0x80034, 256, 0x40, 1, 0x0, 0x0, 0x0, 0x0, false⟩,
    ⟨0x80038, 256, 0x40, 1, 0x0, 0x0, 0x0, 0x0, false⟩,
    ⟨0x84000, 32, 0x10, 1, 0x0, 0x40000, 0x3F03FF, 0x0, false⟩,
    ⟨0x84004, 32, 0x10, 1, 0x0, 0x0, 0x1FFFFF, 0x0, false⟩,
    ⟨0x84008, 32, 0x10, 1, 0x0, 0x0, 0x0, 0x0, false⟩,
    ⟨0x88000, 1, 0x0, 1, 0x0, 0xF, 0x0, 0x0, false⟩,
    ⟨0x88004, 1, 0x0, 1, 0x0, 0x0, 0x0, 0x0, true⟩]
/-- The rows of the GAT block. -/
def rowsGAT : List RegRow :=
  [
    ⟨0xA0000, 1, 0x0, 1, 0x0, 0x0, 0x3, 0x0, false⟩,
    ⟨0xA0004, 1, 0x0, 1, 0x0, 0x0, 0x0, 0xF, false⟩,
    ⟨0xA0008, 1, 0x0, 1, 0x0, 0x206, 0x70F, 0x0, false⟩,
    ⟨0xA000C, 1, 0x0, 1, 0x0, 0x0, 0xFFFFFFFF, 0x0, false⟩,
    ⟨0xA0010, 1, 0x0, 1, 0x0, 0x0, 0x0, 0x0, false⟩,
    ⟨0xA0014, 1, 0x0, 1, 0x0, 0x0, 0x3FF, 0x0, false⟩,
    ⟨0xA0018, 1, 0x0, 1, 0x0, 0x0, 0xFF, 0x0, false⟩,
    ⟨0xA001C, 1, 0x0, 1, 0x0, 0x0, 0x0, 0x0, false⟩,
    ⟨0xA0040, 32, 0x4, 1, 0x0, 0x1, 0x1FFFFF, 0x0, false⟩,
    ⟨0xA00C0, 32, 0x4, 1, 0x0, 0x1, 0x0, 0x0, false⟩,
    ⟨0xA0140, 10, 0x8, 1, 0x0, 0x0, 0x0, 0x0, false⟩,
    ⟨0xA0144, 10, 0x8, 1, 0x0, 0x0, 0x0, 0x0, false⟩,
    ⟨0xA01C0, 1, 0x0, 1, 0x0, 0x0, 0x0, 0x0, false⟩,
    ⟨0xA01C4, 1, 0x0, 1, 0x0, 0x0, 0x0, 0x0, false⟩,
    ⟨0xA01C8, 1, 0x0, 1, 0x0, 0x0, 0x0, 0x0, false⟩,
    ⟨0xA01CC, 1, 0x0, 1, 0x0, 0x0, 0x0, 0x0, false⟩,
    ⟨0xA01D0, 1, 0x0, 1, 0x0, 0x0, 0x0, 0x0, false⟩,
    ⟨0xA01D4, 1, 0x0, 1, 0x0, 0x0, 0x0, 0x0, false⟩,
    ⟨0xA01D8, 1, 0x0, 1, 0x0, 0x0, 0x0, 0x0, false⟩,
    ⟨0xA01DC, 1, 0x0, 1, 0x0, 0x0, 0x0, 0x0, false⟩,
    ⟨0xA01E0, 1, 0x0, 1, 0x0, 0x0, 0x0, 0x0, false⟩,
    ⟨0xA01E4, 1, 0x0, 1, 0x0, 0x0, 0x0, 0x0, false⟩,
    ⟨0xA01E8, 1, 0x0, 1, 0x0, 0x0, 0x0, 0x0, false⟩,
    ⟨0xA01EC, 1, 0x0, 1, 0x0, 0x0, 0x0, 0x0, false⟩,
    ⟨0xA01F0, 1, 0x0, 1, 0x0, 0x0, 0x0, 0x0, false⟩,
    ⟨0xA01F4, 1, 0x0, 1, 0x0, 0x0, 0x0, 0x0, false⟩]
/-- The rows of the HST block. -/
def rowsHST : List RegRow :=
  [
    ⟨0xC0000, 1, 0x0, 1, 0x0, 0x1, 0x7, 0x0, false⟩,
    ⟨0xC0004, 1, 0x0, 1, 0x0, 0x0, 0x0, 0x25, false⟩,
    ⟨0xC0008, 1, 0x0, 1, 0x0, 0x1100008, 0xFFFF3FFF, 0x0, false⟩,
    ⟨0xC0010, 1, 0x0, 1, 0x0, 0x0, 0xF0000000, 0x0, false⟩,
    ⟨0xC0014, 1, 0x0, 1, 0x0, 0x0, 0xFFFFFFFF, 0x0, false⟩,
    ⟨0xC0018, 1, 0x0, 1, 0x0, 0x8200A01, 0x3FFF1FFF, 0x0, false⟩,
    ⟨0xC001C, 1, 0x0, 1, 0x0, 0x3000100, 0x3FF03FF, 0x0, false⟩,
    ⟨0xC0020, 1, 0x0, 1, 0x0, 0x0, 0xFFFFFF, 0x0, false⟩,
    ⟨0xC0024, 1, 0x0, 1, 0x0, 0x0, 0xFFFFFF, 0x0, false⟩,
    ⟨0xC0028, 1, 0x0, 1, 0x0, 0x2000, 0x1FFFF, 0x0, false⟩,
    ⟨0xC002C, 1, 0x0, 1, 0x0, 0x0, 0x0, 0x0, false⟩,
    ⟨0xC0030, 1, 0x0, 1, 0x0, 0x0, 0x0, 0x0, false⟩,
    ⟨0xC0100, 1, 0x0, 1, 0x0, 0x0, 0x0, 0x0, false⟩,
    ⟨0xC0104, 1, 0x0, 1, 0x0, 0x0, 0x0, 0x0, false⟩,
    ⟨0xC0108, 1, 0x0, 1, 0x0, 0x0, 0x0, 0x0, false⟩,
    ⟨0xC010C, 1, 0x0, 1, 0x0, 0x0, 0x0, 0x0, false⟩,
    ⟨0xC0110, 1, 0x0, 1, 0x0, 0x0, 0x0, 0x0, false⟩,
    ⟨0xC0114, 1, 0x0, 1, 0x0, 0x0, 0x0, 0x0, false⟩,
    ⟨0xC0118, 1, 0x0, 1, 0x0, 0x0, 0x0, 0x0, false⟩,
    ⟨0xC011C, 1, 0x0, 1, 0x0, 0x0, 0x0, 0x0, false⟩,
    ⟨0xC0120, 1, 0x0, 1, 0x0, 0x0, 0x0, 0x0, false⟩,
    ⟨0xC0124, 1, 0x0, 1, 0x0, 0x0, 0x0, 0x0, false⟩,
    ⟨0xC0128, 1, 0x0, 1, 0x0, 0x0, 0x0, 0x0, false⟩,
    ⟨0xC012C, 1, 0x0, 1, 0x0, 0x0, 0x0, 0x0, false⟩,
    ⟨0xC0130, 1, 0x0, 1, 0x0, 0x0, 0x0, 0x0, false⟩,
    ⟨0xC0134, 1, 0x0, 1, 0x0, 0x0, 0x0, 0x0, false⟩,
    ⟨0xC0138, 1, 0x0, 1, 0x0, 0x0, 0x0, 0x0, false⟩,
    ⟨0xC013C, 1, 0x0, 1, 0x0, 0x0, 0x0, 0x0, false⟩,
    ⟨0xC0140, 1, 0x0, 1, 0x0, 0x0, 0x0, 0x0, false⟩,
    ⟨0xC0144, 1, 0x0, 1, 0x0, 0x0, 0x0, 0x0, false⟩,
    ⟨0xC0148, 1, 0x0, 1, 0x0, 0x0, 0x0, 0x0, false⟩,
    ⟨0xC014C, 1, 0x0, 1, 0x0, 0x0, 0x0, 0x0, false⟩,
    ⟨0xC0150, 1, 0x0, 1, 0x0, 0x0, 0x0, 0x0, false⟩,
    ⟨0xC0154, 1, 0x0, 1, 0x0, 0x0, 0x0, 0x0, false⟩]
/-- The rows of the SIV block. -/
def rowsSIV : List RegRow :=
  [
    ⟨0xD0000, 1, 0x0, 1, 0x0, 0x743, 0x7F3, 0x0, false⟩,
    ⟨0xD0004, 1, 0x0, 1, 0x0, 0x0, 0x0, 0x3, false⟩,
    ⟨0xD0008, 1, 0x0, 1, 0x0, 0x0, 0xFFFFFFFF, 0x0, false⟩,
    ⟨0xD000C, 1, 0x0, 1, 0x0, 0x0, 0xFFFFFFFF, 0x0, false⟩,
    ⟨0xD0010, 4, 0x4, 1, 0x0, 0x500800, 0xFFFFFF, 0x0, false⟩,
    ⟨0xD0020, 1, 0x0, 1, 0x0, 0x0, 0xFF, 0x0, false⟩,
    ⟨0xD0040, 16, 0x4, 1, 0x0, 0x0, 0xFFFFFFFF, 0x0, false⟩,
    ⟨0xD0100, 1, 0x0, 1, 0x0, 0x0, 0x0, 0x0, false⟩,
    ⟨0xD0108, 1, 0x0, 1, 0x0, 0x0, 0x0, 0x0, false⟩,
    ⟨0xD010C, 1, 0x0, 1, 0x0, 0x0, 0x0, 0x0, false⟩,
    ⟨0xD0110, 1, 0x0, 1, 0x0, 0x0, 0x0, 0x0, false⟩,
    ⟨0xD0114, 1, 0x0, 1, 0x0, 0x0, 0x0, 0x0, false⟩,
    ⟨0xD0118, 1, 0x0, 1, 0x0, 0x0, 0x0, 0x0, false⟩,
    ⟨0xD011C, 1, 0x0, 1, 0x0, 0x0, 0x0, 0x0, false⟩]
/-- The rows of the ASY block. -/
def rowsASY : List RegRow :=
  [
    ⟨0x100000, 16, 0x10000, 1, 0x0, 0x0, 0xF, 0x0, false⟩,
    ⟨0x100004, 16, 0x10000, 1, 0x0, 0x0, 0x0, 0x78000, false⟩,
    ⟨0x100008, 16, 0x10000, 1, 0x0, 0x0, 0x0, 0x0, false⟩,
    ⟨0x10000C, 16, 0x10000, 1, 0x0, 0x0, 0x3FFF, 0x0, false⟩,
    ⟨0x100010, 16, 0x10000, 1, 0x0, 0x0, 0x7, 0x0, false⟩,
    ⟨0x100014, 16, 0x10000, 1, 0x0, 0x0, 0x0, 0x0, false⟩,
    ⟨0x100018, 16, 0x10000, 1, 0x0, 0x0, 0x0, 0x0, false⟩,
    ⟨0x100020, 16, 0x10000, 1, 0x0, 0x0, 0x0, 0x0, false⟩,
    ⟨0x100024, 16, 0x10000, 1, 0x0, 0x0, 0x0, 0x0, false⟩,
    ⟨0x100028, 16, 0x10000, 1, 0x0, 0x0, 0x0, 0x0, false⟩,
    ⟨0x10002C, 16, 0x10000, 1, 0x0, 0x0, 0x0, 0x0, false⟩,
    ⟨0x100030, 16, 0x10000, 1, 0x0, 0x0, 0x0, 0x0, false⟩,
    ⟨0x100034, 16, 0x10000, 1, 0x0, 0x0, 0x0, 0x0, false⟩,
    ⟨0x100038, 16, 0x10000, 1, 0x0, 0x0, 0x0, 0x0, false⟩,
    ⟨0x10003C, 16, 0x10000, 1, 0x0, 0x0, 0x0, 0x0, false⟩,
    ⟨0x100040, 16, 0x10000, 1, 0x0, 0x0, 0x0, 0x0, false⟩,
    ⟨0x100044, 16, 0x10000, 1, 0x0, 0x0, 0x0, 0x0, false⟩,
    ⟨0x101000, 1, 0x0, 1, 0x0, 0x0, 0x0, 0x0, false⟩,
    ⟨0x101004, 1, 0x0, 1, 0x0, 0x0, 0x0, 0x0, false⟩,
    ⟨0x101008, 1, 0x0, 1, 0x0, 0x0, 0x0, 0x0, false⟩,
    ⟨0x10100C, 1, 0x0, 1, 0x0, 0x0, 0x0, 0x0, false⟩,
    ⟨0x101010, 1, 0x0, 1, 0x0, 0x1900, 0xFFFF, 0x0, false⟩,
    ⟨0x101014, 1, 0x0, 1, 0x0, 0x0, 0x0, 0x0, false⟩,
    ⟨0x101018, 1, 0x0, 1, 0x0, 0x0, 0x0, 0x0, false⟩,
    ⟨0x101020, 1, 0x0, 1, 0x0, 0x0, 0x0, 0x0, false⟩,
    ⟨0x101024, 1, 0x0, 1, 0x0, 0x0, 0x0, 0x0, false⟩]
/-- The rows of the PNT block. -/
def rowsPNT : List RegRow :=
  [
    ⟨0x200000, 1, 0x0, 1, 0x0, 0x0, 0x0, 0x7, false⟩,
    ⟨0x200004, 1, 0x0, 1, 0x0, 0x0, 0x0, 0x0, true⟩,
    ⟨0x200008, 1, 0x0, 1, 0x0, 0x0, 0x0, 0x0, false⟩,
    ⟨0x200100, 32, 0x10, 1, 0x0, 0x2000000, 0xFFFF1FFD, 0x0, false⟩,
    ⟨0x200104, 32, 0x10, 1, 0x0, 0x320, 0x7FF, 0x0, false⟩,
    ⟨0x200108, 32, 0x10, 1, 0x0, 0x0, 0x0, 0x0, false⟩,
    ⟨0x20010C, 32, 0x10, 1, 0x0, 0x0, 0x0, 0x0, false⟩,
    ⟨0x200200, 1, 0x0, 1, 0x0, 0x0, 0x0, 0x0, false⟩,
    ⟨0x200204, 1, 0x0, 1, 0x0, 0x0, 0x0, 0x0, false⟩,
    ⟨0x200208, 1, 0x0, 1, 0x0, 0x0, 0x0, 0x0, false⟩,
    ⟨0x20020C, 1, 0x0, 1, 0x0, 0x0, 0x0, 0x0, false⟩,
    ⟨0x200210, 1, 0x0, 1, 0x0, 0x0, 0x0, 0x0, false⟩,
    ⟨0x200214, 1, 0x0, 1, 0x0, 0x0, 0x0, 0x0, false⟩,
    ⟨0x200218, 1, 0x0, 1, 0x0, 0x0, 0x0, 0x0, false⟩,
    ⟨0x20021C, 1, 0x0, 1, 0x0, 0x0, 0x0, 0x0, false⟩,
    ⟨0x200220, 1, 0x0, 1, 0x0, 0x0, 0x0, 0x0, false⟩,
    ⟨0x200224, 1, 0x0, 1, 0x0, 0x0, 0x0, 0x0, false⟩,
    ⟨0x200228, 1, 0x0, 1, 0x0, 0x0, 0x0, 0x0, false⟩,
    ⟨0x20022C, 1, 0x0, 1, 0x0, 0x0, 0x0, 0x0, false⟩,
    ⟨0x200300, 32, 0x8, 1, 0x0, 0x0, 0x0, 0x0, false⟩,
    ⟨0x200304, 32, 0x8, 1, 0x0, 0x0, 0x0, 0x0, false⟩]
/-- The rows of the FMN block. -/
def rowsFMN : List RegRow :=
  [
    ⟨0x210000, 1, 0x0, 1, 0x0, 0x0, 0x0, 0x1C, false⟩,
    ⟨0x210004, 1, 0x0, 1, 0x0, 0x0, 0x0, 0x0, true⟩,
    ⟨0x210008, 1, 0x0, 1, 0x0, 0x0, 0x0, 0x0, false⟩,
    ⟨0x21000C, 1, 0x0, 1, 0x0, 0x0, 0x0, 0x0, false⟩,
    ⟨0x210010, 1, 0x0, 1, 0x0, 0x0, 0x0, 0x0, false⟩,
    ⟨0x210014, 1, 0x0, 1, 0x0, 0x0, 0x0, 0x0, false⟩,
    ⟨0x210018, 1, 0x0, 1, 0x0, 0x0, 0x0, 0x0, false⟩,
    ⟨0x210020, 1, 0x0, 1, 0x0, 0x0, 0x0, 0x0, false⟩,
    ⟨0x210024, 1, 0x0, 1, 0x0, 0x0, 0x0, 0x0, false⟩,
    ⟨0x210040, 8, 0x4, 1, 0x0, 0x0, 0x0, 0x0, false⟩,
    ⟨0x210100, 24, 0x4, 1, 0x0, 0x0, 0xFFFFFFFF, 0x0, false⟩,
    ⟨0x210180, 24, 0x4, 1, 0x0, 0x0, 0x0, 0x0, false⟩,
    ⟨0x210200, 24, 0x4, 1, 0x0, 0x0, 0x0, 0x0, false⟩,
    ⟨0x210280, 24, 0x4, 1, 0x0, 0x0, 0x0, 0x0, false⟩,
    ⟨0x210300, 1, 0x0, 1, 0x0, 0x0, 0x0, 0x0, false⟩,
    ⟨0x210304, 1, 0x0, 1, 0x0, 0x0, 0x0, 0x0, false⟩,
    ⟨0x210308, 1, 0x0, 1, 0x0, 0x0, 0x0, 0x0, false⟩,
    ⟨0x21030C, 1, 0x0, 1, 0x0, 0x0, 0x0, 0x0, false⟩]
/-- The rows of the WAV block. -/
def rowsWAV : List RegRow :=
  [
    ⟨0x220000, 1, 0x0, 1, 0x0, 0x0, 0x0, 0x0, true⟩,
    ⟨0x220004, 1, 0x0, 1, 0x0, 0x0, 0x0, 0x0, false⟩,
    ⟨0x220100, 8, 0x80, 1, 0x0, 0x104000, 0x3FFFFF, 0x0, false⟩,
    ⟨0x220104, 8, 0x80, 1, 0x0, 0x1F10, 0x3FFFFF, 0x0, false⟩,
    ⟨0x220108, 8, 0x80, 1, 0x0, 0x400, 0xFFFFFF3F, 0x0, false⟩,
    ⟨0x22010C, 8, 0x80, 1, 0x0, 0x4000080, 0xFFFF00FF, 0x0, false⟩,
    ⟨0x220110, 8, 0x80, 1, 0x0, 0x0, 0xFFFFFFFF, 0x0, false⟩,
    ⟨0x220114, 8, 0x80, 1, 0x0, 0x0, 0x0, 0x30, false⟩,
    ⟨0x220118, 8, 0x80, 1, 0x0, 0x0, 0xFFFFFFFF, 0x0, false⟩,
    ⟨0x22011C, 8, 0x80, 1, 0x0, 0x1, 0x7FFFF, 0x0, false⟩,
    ⟨0x220120, 8, 0x80, 1, 0x0, 0x0, 0x0, 0x0, false⟩,
    ⟨0x220124, 8, 0x80, 1, 0x0, 0x0, 0xFFFFFFFF, 0x0, false⟩,
    ⟨0x220128, 8, 0x80, 1, 0x0, 0x0, 0x0, 0x0, false⟩,
    ⟨0x220130, 8, 0x80, 1, 0x0, 0x0, 0x0, 0x0, false⟩,
    ⟨0x220134, 8, 0x80, 1, 0x0, 0x0, 0x0, 0x0, false⟩,
    ⟨0x220138, 8, 0x80, 1, 0x0, 0x0, 0x0, 0x0, false⟩,
    ⟨0x22013C, 8, 0x80, 1, 0x0, 0x0, 0x0, 0x0, false⟩,
    ⟨0x220140, 8, 0x80, 1, 0x0, 0x0, 0x0, 0x0, false⟩,
    ⟨0x220144, 8, 0x80, 1, 0x0, 0x0, 0x0, 0x0, false⟩,
    ⟨0x220148, 8, 0x80, 1, 0x0, 0x0, 0x0, 0x0, false⟩]
/-- The rows of the FLT block. -/
def rowsFLT : List RegRow :=
  [
    ⟨0x230000, 1, 0x0, 1, 0x0, 0x0, 0x0, 0xF, false⟩,
    ⟨0x230004, 1, 0x0, 1, 0x0, 0x0, 0x0, 0x0, true⟩,
    ⟨0x230100, 16, 0x20, 1, 0x0, 0x0, 0xFFFFF, 0x0, false⟩,
    ⟨0x230104, 16, 0x20, 1, 0x0, 0x0, 0x1FFFFFE, 0x0, false⟩,
    ⟨0x230108, 16, 0x20, 1, 0x0, 0x0, 0x0, 0x0, false⟩,
    ⟨0x23010C, 16, 0x20, 1, 0x0, 0x0, 0x0, 0x0, false⟩,
    ⟨0x230110, 16, 0x20, 1, 0x0, 0x7FFFFF, 0xFFFFFF, 0x0, false⟩,
    ⟨0x230114, 16, 0x20, 1, 0x0, 0x800000, 0xFFFFFF, 0x0, false⟩,
    ⟨0x230118, 16, 0x20, 1, 0x0, 0x10000, 0x7FFFFFF, 0x0, false⟩,
    ⟨0x23011C, 16, 0x20, 1, 0x0, 0x0, 0x0, 0x400, false⟩,
    ⟨0x230300, 8, 0x4, 1, 0x0, 0x0, 0x0, 0x0, false⟩]
/-- The rows of the HKA block. -/
def rowsHKA : List RegRow :=
  [
    ⟨0x238000, 6, 0x100, 1, 0x0, 0x0, 0xFFFFFFF, 0x0, false⟩,
    ⟨0x238004, 6, 0x100, 1, 0x0, 0x0, 0x0, 0x0, false⟩,
    ⟨0x238008, 6, 0x100, 1, 0x0, 0x10, 0xFFFF, 0x0, false⟩,
    ⟨0x23800C, 6, 0x100, 1, 0x0, 0x0, 0x0, 0x0, false⟩,
    ⟨0x238010, 6, 0x100, 8, 0x4, 0x0, 0x1FFF, 0x0, false⟩,
    ⟨0x238030, 6, 0x100, 8, 0x4, 0x0, 0x0, 0x0, false⟩,
    ⟨0x238050, 6, 0x100, 1, 0x0, 0x0, 0x0, 0x0, false⟩,
    ⟨0x238058, 6, 0x100, 1, 0x0, 0x0, 0x0, 0x0, false⟩,
    ⟨0x23805C, 6, 0x100, 1, 0x0, 0x0, 0x0, 0x0, false⟩,
    ⟨0x238060, 6, 0x100, 1, 0x0, 0x0, 0x0, 0x0, false⟩,
    ⟨0x238064, 6, 0x100, 1, 0x0, 0x0, 0x0, 0x0, false⟩,
    ⟨0x238800, 4, 0x4, 1, 0x0, 0x0, 0xFFFFFFFF, 0x0, false⟩,
    ⟨0x238810, 1, 0x0, 1, 0x0, 0x0, 0x0, 0x0, true⟩]
/-- The rows of the SNS block. -/
def rowsSNS : List RegRow :=
  [
    ⟨0x240000, 8, 0x20, 1, 0x0, 0x280004, 0xFF0F1F, 0x0, false⟩,
    ⟨0x240004, 8, 0x20, 1, 0x0, 0x0, 0x0, 0x0, false⟩,
    ⟨0x240008, 8, 0x20, 1, 0x0, 0x0, 0x0, 0x0, false⟩,
    ⟨0x24000C, 8, 0x20, 1, 0x0, 0x0, 0x0, 0x0, false⟩,
    ⟨0x240010, 8, 0x20, 1, 0x0, 0x0, 0x0, 0x0, false⟩,
    ⟨0x240014, 8, 0x20, 1, 0x0, 0x0, 0xFFFF, 0x0, false⟩,
    ⟨0x240100, 1, 0x0, 1, 0x0, 0x0, 0x3, 0x0, false⟩,
    ⟨0x240140, 1, 0x0, 1, 0x0, 0x0, 0xFFFF001F, 0x0, false⟩,
    ⟨0x240144, 1, 0x0, 1, 0x0, 0x0, 0xFFFFFFFF, 0x0, false⟩,
    ⟨0x240148, 1, 0x0, 1, 0x0, 0x0, 0xFFFFFFFF, 0x0, false⟩,
    ⟨0x24014C, 1, 0x0, 1, 0x0, 0xFFFF0000, 0xFFFFFFFF, 0x0, false⟩,
    ⟨0x240150, 1, 0x0, 1, 0x0, 0x0, 0x0, 0x0, false⟩,
    ⟨0x240160, 2, 0x10, 1, 0x0, 0x3E80000, 0xFFFF001F, 0x0, false⟩,
    ⟨0x240164, 2, 0x10, 1, 0x0, 0x0, 0xFFFFFFF, 0x0, false⟩,
    ⟨0x240168, 2, 0x10, 1, 0x0, 0x10, 0xFF, 0x0, false⟩,
    ⟨0x240180, 4, 0x10, 1, 0x0, 0x2, 0x1F, 0x0, false⟩,
    ⟨0x240184, 4, 0x10, 1, 0x0, 0x0, 0x0, 0x0, false⟩,
    ⟨0x240188, 4, 0x10, 1, 0x0, 0x0, 0x0, 0x0, false⟩,
    ⟨0x24018C, 4, 0x10, 1, 0x0, 0x0, 0x0, 0x0, false⟩,
    ⟨0x240200, 1, 0x0, 1, 0x0, 0x10, 0xFFFFF, 0x0, false⟩,
    ⟨0x240204, 1, 0x0, 1, 0x0, 0x0, 0xFFFFFFFF, 0x0, false⟩,
    ⟨0x240208, 1, 0x0, 1, 0x0, 0x0, 0xFFFF, 0x0, false⟩,
    ⟨0x24020C, 1, 0x0, 1, 0x0, 0x0, 0x0, 0x0, true⟩,
    ⟨0x240210, 1, 0x0, 1, 0x0, 0x0, 0x0, 0x0, false⟩]
/-- The rows of the HOI block. -/
def rowsHOI : List RegRow :=
  [
    ⟨0x250000, 1, 0x0, 1, 0x0, 0x18, 0x1F, 0x0, false⟩,
    ⟨0x250004, 1, 0x0, 1, 0x0, 0x0, 0x0, 0x18, false⟩,
    ⟨0x250008, 1, 0x0, 1, 0x0, 0x0, 0x0, 0x0, true⟩,
    ⟨0x25000C, 1, 0x0, 1, 0x0, 0x0, 0x0, 0x0, false⟩,
    ⟨0x250010, 1, 0x0, 1, 0x0, 0x0, 0x0, 0x0, false⟩,
    ⟨0x250014, 1, 0x0, 1, 0x0, 0x640000, 0xFFFF0001, 0x0, false⟩,
    ⟨0x250018, 1, 0x0, 1, 0x0, 0x11000, 0x13FFF, 0x0, false⟩,
    ⟨0x25001C, 1, 0x0, 1, 0x0, 0x0, 0x7, 0x0, false⟩,
    ⟨0x250100, 2, 0x100, 1, 0x0, 0x41FB6, 0x33FFF, 0x0, false⟩,
    ⟨0x250104, 2, 0x100, 1, 0x0, 0x3, 0x3, 0x0, false⟩,
    ⟨0x250108, 2, 0x100, 1, 0x0, 0x20, 0xFF, 0x0, false⟩,
    ⟨0x25010C, 2, 0x100, 1, 0x0, 0x0, 0x0, 0x0, false⟩,
    ⟨0x250110, 2, 0x100, 1, 0x0, 0x0, 0x0, 0x0, false⟩,
    ⟨0x250114, 2, 0x100, 1, 0x0, 0x0, 0x0, 0x0, false⟩,
    ⟨0x250120, 2, 0x100, 1, 0x0, 0x0, 0x0, 0x0, false⟩,
    ⟨0x250124, 2, 0x100, 1, 0x0, 0x0, 0x0, 0x0, false⟩,
    ⟨0x250128, 2, 0x100, 1, 0x0, 0x0, 0x0, 0x0, false⟩,
    ⟨0x25012C, 2, 0x100, 1, 0x0, 0x0, 0x0, 0x0, false⟩,
    ⟨0x250130, 2, 0x100, 1, 0x0, 0x0, 0x0, 0x0, false⟩,
    ⟨0x250134, 2, 0x100, 1, 0x0, 0x0, 0x0, 0x0, false⟩,
    ⟨0x250138, 2, 0x100, 1, 0x0, 0x0, 0x0, 0x0, false⟩,
    ⟨0x25013C, 2, 0x100, 1, 0x0, 0x0, 0x0, 0x0, false⟩,
    ⟨0x250140, 2, 0x100, 1, 0x0, 0x0, 0x0, 0x0, false⟩,
    ⟨0x250144, 2, 0x100, 1, 0x0, 0x0, 0x0, 0x0, false⟩,
    ⟨0x250148, 2, 0x100, 1, 0x0, 0x0, 0x0, 0x0, false⟩,
    ⟨0x25014C, 2, 0x100, 1, 0x0, 0x0, 0x0, 0x0, false⟩,
    ⟨0x250150, 2, 0x100, 1, 0x0, 0x0, 0x0, 0x0, false⟩,
    ⟨0x250154, 2, 0x100, 1, 0x0, 0x0, 0x0, 0x0, false⟩,
    ⟨0x250158, 2, 0x100, 1, 0x0, 0x0, 0x0, 0x0, false⟩,
    ⟨0x25015C, 2, 0x100, 1, 0x0, 0x0, 0x0, 0x0, false⟩,
    ⟨0x250160, 2, 0x100, 1, 0x0, 0x0, 0x0, 0x0, false⟩,
    ⟨0x250164, 2, 0x100, 1, 0x0, 0x0, 0x0, 0x0, false⟩,
    ⟨0x250168, 2, 0x100, 1, 0x0, 0x0, 0x0, 0x0, false⟩,
    ⟨0x25016C, 2, 0x100, 1, 0x0, 0x0, 0x0, 0x0, false⟩,
    ⟨0x250170, 2, 0x100, 1, 0x0, 0x0, 0x0, 0x0, false⟩,
    ⟨0x250174, 2, 0x100, 1, 0x0, 0x0, 0x0, 0x0, false⟩]
/-- The rows of the LNK block. -/
def rowsLNK : List RegRow :=
  [
    ⟨0x260000, 8, 0x100, 1, 0x0, 0x100A, 0xFFFFF1F, 0x0, false⟩,
    ⟨0x260004, 8, 0x100, 1, 0x0, 0x0, 0x0, 0x0, false⟩,
    ⟨0x260008, 8, 0x100, 1, 0x0, 0x0, 0x0, 0x0, true⟩,
    ⟨0x26000C, 8, 0x100, 1, 0x0, 0x0, 0x0, 0x0, false⟩,
    ⟨0x260010, 8, 0x100, 1, 0x0, 0x0, 0x0, 0x0, false⟩,
    ⟨0x260014, 8, 0x100, 1, 0x0, 0x0, 0x0, 0x0, false⟩,
    ⟨0x260018, 8, 0x100, 1, 0x0, 0x0, 0x0, 0x0, false⟩,
    ⟨0x26001C, 8, 0x100, 1, 0x0, 0x0, 0x0, 0x0, false⟩,
    ⟨0x260020, 8, 0x100, 1, 0x0, 0x0, 0x0, 0x0, false⟩,
    ⟨0x260024, 8, 0x100, 1, 0x0, 0x0, 0x0, 0x0, false⟩,
    ⟨0x260028, 8, 0x100, 1, 0x0, 0x0, 0x0, 0x0, false⟩,
    ⟨0x26002C, 8, 0x100, 1, 0x0, 0x0, 0x0, 0x0, false⟩,
    ⟨0x260030, 8, 0x100, 1, 0x0, 0x0, 0x0, 0x0, false⟩,
    ⟨0x260034, 8, 0x100, 1, 0x0, 0x0, 0x0, 0x0, false⟩,
    ⟨0x260038, 8, 0x100, 1, 0x0, 0x0, 0x0, 0x0, false⟩,
    ⟨0x26003C, 8, 0x100, 1, 0x0, 0x0, 0x0, 0x0, false⟩,
    ⟨0x260040, 8, 0x100, 1, 0x0, 0x0, 0x0, 0x0, false⟩,
    ⟨0x260044, 8, 0x100, 1, 0x0, 0x0, 0x0, 0x0, false⟩]
/-- The rows of the CSI block. -/
def rowsCSI : List RegRow :=
  [
    ⟨0x268000, 1, 0x0, 1, 0x0, 0xFA4, 0xFFF, 0x0, false⟩,
    ⟨0x268004, 1, 0x0, 1, 0x0, 0x0, 0x0, 0x0, false⟩,
    ⟨0x268008, 1, 0x0, 1, 0x0, 0x0, 0x0, 0x0, false⟩,
    ⟨0x26800C, 1, 0x0, 1, 0x0, 0x0, 0x0, 0x0, false⟩,
    ⟨0x268010, 1, 0x0, 1, 0x0, 0x0, 0x0, 0x0, false⟩,
    ⟨0x268014, 1, 0x0, 1, 0x0, 0x0, 0x0, 0x0, false⟩]
/-- The rows of the ETH block. -/
def rowsETH : List RegRow :=
  [
    ⟨0x26C000, 1, 0x0, 1, 0x0, 0x24, 0x7F, 0x0, false⟩,
    ⟨0x26C004, 1, 0x0, 1, 0x0, 0x0, 0x0, 0x0, false⟩,
    ⟨0x26C008, 1, 0x0, 1, 0x0, 0x0, 0xFFFFFFFF, 0x0, false⟩,
    ⟨0x26C00C, 1, 0x0, 1, 0x0, 0x0, 0xFFFF, 0x0, false⟩,
    ⟨0x26C010, 1, 0x0, 1, 0x0, 0x0, 0xFFFFFFFF, 0x0, false⟩,
    ⟨0x26C014, 1, 0x0, 1, 0x0, 0x0, 0xFFFF, 0x0, false⟩,
    ⟨0x26C018, 1, 0x0, 1, 0x0, 0x0, 0xFFFFFFFF, 0x0, false⟩,
    ⟨0x26C01C, 1, 0x0, 1, 0x0, 0x0, 0xFFFFFFFF, 0x0, false⟩,
    ⟨0x26C020, 4, 0x4, 1, 0x0, 0x0, 0xFFFFFFFF, 0x0, false⟩,
    ⟨0x26C030, 4, 0x4, 1, 0x0, 0x0, 0xFFFFFFFF, 0x0, false⟩,
    ⟨0x26C040, 1, 0x0, 1, 0x0, 0x27102700, 0xFFFFFFFF, 0x0, false⟩,
    ⟨0x26C044, 1, 0x0, 1, 0x0, 0x0, 0x7777FFF, 0x0, false⟩,
    ⟨0x26C048, 1, 0x0, 1, 0x0, 0xF800, 0xFFFF01, 0x0, false⟩,
    ⟨0x26C04C, 1, 0x0, 1, 0x0, 0x0, 0xFFFFFFFF, 0x0, false⟩,
    ⟨0x26C050, 1, 0x0, 1, 0x0, 0x0, 0x0, 0x0, true⟩,
    ⟨0x26C054, 1, 0x0, 1, 0x0, 0x0, 0xFFFF, 0x0, false⟩,
    ⟨0x26C100, 1, 0x0, 1, 0x0, 0x0, 0x0, 0x0, false⟩,
    ⟨0x26C104, 1, 0x0, 1, 0x0, 0x0, 0x0, 0x0, false⟩,
    ⟨0x26C108, 1, 0x0, 1, 0x0, 0x0, 0x0, 0x0, false⟩,
    ⟨0x26C10C, 1, 0x0, 1, 0x0, 0x0, 0x0, 0x0, false⟩,
    ⟨0x26C110, 1, 0x0, 1, 0x0, 0x0, 0x0, 0x0, false⟩,
    ⟨0x26C114, 1, 0x0, 1, 0x0, 0x0, 0x0, 0x0, false⟩]
/-- The rows of the CAN block. -/
def rowsCAN : List RegRow :=
  [
    ⟨0x26E000, 2, 0x1000, 1, 0x0, 0x0, 0x1F, 0x0, false⟩,
    ⟨0x26E004, 2, 0x1000, 1, 0x0, 0x90F03, 0x7F7FFFFF, 0x0, false⟩,
    ⟨0x26E008, 2, 0x1000, 1, 0x0, 0x10F03, 0xFFFFFFFF, 0x0, false⟩,
    ⟨0x26E00C, 2, 0x1000, 1, 0x0, 0x0, 0x0, 0x4, false⟩,
    ⟨0x26E010, 2, 0x1000, 1, 0x0, 0x0, 0x0, 0x0, true⟩,
    ⟨0x26E014, 2, 0x1000, 1, 0x0, 0x0, 0x0, 0x0, false⟩,
    ⟨0x26E100, 2, 0x1000, 64, 0x4, 0x0, 0xBFFFFFFF, 0x0, false⟩,
    ⟨0x26E200, 2, 0x1000, 160, 0x4, 0x0, 0xFFFFFFFF, 0x0, false⟩]
/-- The rows of the CNY block. -/
def rowsCNY : List RegRow :=
  [
    ⟨0x270000, 1, 0x0, 1, 0x0, 0x0, 0x0, 0x600, false⟩,
    ⟨0x270004, 1, 0x0, 1, 0x0, 0x0, 0x0, 0x0, true⟩,
    ⟨0x270008, 1, 0x0, 1, 0x0, 0x0, 0x0, 0x0, false⟩,
    ⟨0x27000C, 1, 0x0, 1, 0x0, 0x0, 0x0, 0x0, false⟩,
    ⟨0x270010, 1, 0x0, 1, 0x0, 0x0, 0x0, 0x0, false⟩,
    ⟨0x270014, 1, 0x0, 1, 0x0, 0x0, 0xFFFFFFFF, 0x0, false⟩,
    ⟨0x270018, 1, 0x0, 1, 0x0, 0x0, 0x0, 0x0, false⟩,
    ⟨0x270020, 8, 0x4, 1, 0x0, 0x0, 0xFFFFFFFF, 0x0, false⟩,
    ⟨0x270040, 1, 0x0, 1, 0x0, 0x0, 0x0, 0x0, false⟩,
    ⟨0x270044, 1, 0x0, 1, 0x0, 0x0, 0x0, 0x0, false⟩,
    ⟨0x270048, 1, 0x0, 1, 0x0, 0x0, 0x0, 0x0, false⟩,
    ⟨0x27004C, 1, 0x0, 1, 0x0, 0x0, 0x0, 0x0, false⟩,
    ⟨0x270050, 1, 0x0, 1, 0x0, 0x0, 0x0, 0x0, false⟩,
    ⟨0x270054, 1, 0x0, 1, 0x0, 0x0, 0x0, 0x0, false⟩,
    ⟨0x270058, 1, 0x0, 1, 0x0, 0x0, 0x0, 0x0, false⟩,
    ⟨0x27005C, 1, 0x0, 1, 0x0, 0x0, 0x0, 0x0, false⟩,
    ⟨0x270060, 1, 0x0, 1, 0x0, 0x0, 0x0, 0x0, false⟩,
    ⟨0x270064, 1, 0x0, 1, 0x0, 0x0, 0x0, 0x0, false⟩,
    ⟨0x270068, 1, 0x0, 1, 0x0, 0x0, 0x0, 0x0, false⟩,
    ⟨0x27006C, 1, 0x0, 1, 0x0, 0x0, 0x0, 0x0, false⟩,
    ⟨0x270070, 1, 0x0, 1, 0x0, 0x0, 0x0, 0x0, false⟩,
    ⟨0x270074, 1, 0x0, 1, 0x0, 0x0, 0x0, 0x0, false⟩,
    ⟨0x270078, 1, 0x0, 1, 0x0, 0x0, 0x0, 0x0, false⟩,
    ⟨0x27007C, 1, 0x0, 1, 0x0, 0x0, 0x0, 0x0, false⟩,
    ⟨0x278000, 8192, 0x4, 1, 0x0, 0x0, 0xFFFFFFFF, 0x0, false⟩]
/-- The rows of the CAL block. -/
def rowsCAL : List RegRow :=
  [
    ⟨0x280000, 1, 0x0, 1, 0x0, 0x3C01, 0xFFFF03, 0x0, false⟩,
    ⟨0x280004, 1, 0x0, 1, 0x0, 0x0, 0x0, 0x100, false⟩,
    ⟨0x280008, 1, 0x0, 1, 0x0, 0x0, 0x0, 0x0, true⟩,
    ⟨0x28000C, 1, 0x0, 1, 0x0, 0x0, 0x0, 0x0, false⟩,
    ⟨0x280010, 1, 0x0, 1, 0x0, 0x0, 0x0, 0x0, false⟩,
    ⟨0x280014, 1, 0x0, 1, 0x0, 0x0, 0x0, 0x0, false⟩,
    ⟨0x280018, 1, 0x0, 1, 0x0, 0x0, 0x0, 0x0, false⟩,
    ⟨0x28001C, 1, 0x0, 1, 0x0, 0x0, 0xFFFFFFFF, 0x0, false⟩,
    ⟨0x280020, 1, 0x0, 1, 0x0, 0x0, 0xFFFFFF, 0x0, false⟩,
    ⟨0x280024, 1, 0x0, 1, 0x0, 0x0, 0x0, 0x0, false⟩,
    ⟨0x280080, 32, 0x4, 1, 0x0, 0x0, 0x0, 0x0, false⟩,
    ⟨0x280100, 32, 0x4, 1, 0x0, 0x20, 0x3F, 0x0, false⟩,
    ⟨0x280180, 8, 0x4, 1, 0x0, 0x201020, 0x3F1F3F, 0x0, false⟩]
/-- The rows of the FLG block. -/
def rowsFLG : List RegRow :=
  [
    ⟨0x290000, 1, 0x0, 1, 0x0, 0x0, 0x0, 0x600, false⟩,
    ⟨0x290004, 1, 0x0, 1, 0x0, 0x0, 0x0, 0x0, true⟩,
    ⟨0x290008, 1, 0x0, 1, 0x0, 0x0, 0xFFFF, 0x0, false⟩,
    ⟨0x290010, 1, 0x0, 1, 0x0, 0x0, 0x0, 0x0, false⟩,
    ⟨0x290014, 1, 0x0, 1, 0x0, 0x0, 0x0, 0x0, false⟩,
    ⟨0x290018, 1, 0x0, 1, 0x0, 0x0, 0x0, 0x0, false⟩,
    ⟨0x290020, 1, 0x0, 1, 0x0, 0x0, 0x0, 0x0, false⟩,
    ⟨0x290024, 1, 0x0, 1, 0x0, 0x0, 0x0, 0x0, false⟩,
    ⟨0x290028, 1, 0x0, 1, 0x0, 0x0, 0x0, 0x0, false⟩,
    ⟨0x29002C, 1, 0x0, 1, 0x0, 0x0, 0x0, 0x0, false⟩,
    ⟨0x290030, 1, 0x0, 1, 0x0, 0x0, 0x1, 0x0, false⟩,
    ⟨0x290034, 1, 0x0, 1, 0x0, 0x0, 0xFFFFFFFF, 0x0, false⟩,
    ⟨0x290038, 1, 0x0, 1, 0x0, 0x1, 0x7FFFF, 0x0, false⟩,
    ⟨0x29003C, 1, 0x0, 1, 0x0, 0x0, 0x0, 0x0, false⟩,
    ⟨0x290040, 1, 0x0, 1, 0x0, 0x0, 0xFFFFFFFF, 0x0, false⟩]
/-- The rows of the MGT block. -/
def rowsMGT : List RegRow :=
  [
    ⟨0x2A0000, 1, 0x0, 1, 0x0, 0x0, 0x0, 0x1F, false⟩,
    ⟨0x2A0004, 1, 0x0, 1, 0x0, 0x0, 0x7F, 0x0, false⟩,
    ⟨0x2A0008, 1, 0x0, 1, 0x0, 0x0, 0xFFFFFF, 0x0, false⟩,
    ⟨0x2A0100, 13, 0x8, 1, 0x0, 0x0, 0x0, 0x0, false⟩,
    ⟨0x2A0104, 13, 0x8, 1, 0x0, 0x0, 0x0, 0x0, false⟩,
    ⟨0x2A0200, 13, 0x4, 1, 0x0, 0x0, 0x0, 0x0, false⟩]

/-- The rows of the block that holds address `a` (Table 01-8). -/
def blockRows (a : Nat) : List RegRow :=
  if a < 0x10000 then rowsTOP else
  if a < 0x20000 then rowsCLK else
  if a < 0x30000 then rowsHDF else
  if a < 0x40000 then rowsLMP else
  if a < 0x50000 then rowsSEQ else
  if a < 0x60000 then rowsEMT else
  if a < 0x80000 then rowsSTR else
  if a < 0xA0000 then rowsRFE else
  if a < 0xC0000 then rowsGAT else
  if a < 0xD0000 then rowsHST else
  if a < 0x100000 then rowsSIV else
  if a < 0x200000 then rowsASY else
  if a < 0x210000 then rowsPNT else
  if a < 0x220000 then rowsFMN else
  if a < 0x230000 then rowsWAV else
  if a < 0x238000 then rowsFLT else
  if a < 0x240000 then rowsHKA else
  if a < 0x250000 then rowsSNS else
  if a < 0x260000 then rowsHOI else
  if a < 0x268000 then rowsLNK else
  if a < 0x26C000 then rowsCSI else
  if a < 0x26E000 then rowsETH else
  if a < 0x270000 then rowsCAN else
  if a < 0x280000 then rowsCNY else
  if a < 0x290000 then rowsCAL else
  if a < 0x2A0000 then rowsFLG else
  if a < 0x2B0000 then rowsMGT else
  []

/-- The row of register address `a`, if a register is defined there; else the location is reserved (R22). -/
def findReg (a : Nat) : Option RegRow := (blockRows a).find? (·.hit a)

/-- Reset value of the register at `a`. The fused words (the production certificate and the vendor root hash of
Table 03-12, the path constants of Table 19-6) are free values of the device; tap 7 of every sieve coefficient set
resets to 127 (Table 09-11); FLT_CFG of the CIC channels 0 to 7 has order_m1 = 1 and ratio_m1 = 9
(Table 14-7); tap 0 of every filter bank resets to 1.0 (Table 14-6). -/
def resetOf (a : Nat) : Word :=
  if (0x30100 ≤ a ∧ a < 0x30200) ∨ (0x30280 ≤ a ∧ a < 0x302A0) ∨ (0x280080 ≤ a ∧ a < 0x280100) then
    Config.fusedWord a
  else if 0xD0040 ≤ a ∧ a < 0xD0080 ∧ a % 16 = 4 then 0x7F000000#32
  else if 0x230100 ≤ a ∧ a < 0x230200 ∧ a % 32 = 0 then 0x00009200#32
  else if 0x231000 ≤ a ∧ a < 0x235000 ∧ a % 0x200 = 0 then 0x00010000#32
  else match findReg a with
    | some r => BitVec.ofNat 32 r.reset
    | none => 0#32


/-- A field whose write outside `lo..hi` reads back the nearer end (the register tables' notes "reads back"). -/
structure Clamp where
  base : Nat
  n : Nat
  s : Nat
  /-- top and bottom bit -/
  msb : Nat
  lsb : Nat
  min : Nat
  max : Nat
  deriving DecidableEq, Repr

/-- The clamped fields, chapter by chapter. -/
def clampTable : List Clamp := [
  ⟨0x40000, 1, 0, 31, 16, 16, 65535⟩, ⟨0x40040, 32, 4, 15, 0, 463, 65535⟩,
  ⟨0x50040, 32, 4, 9, 0, 1, 1023⟩, ⟨0x500C0, 32, 4, 9, 4, 4, 63⟩, ⟨0x500C0, 32, 4, 25, 22, 1, 15⟩,
  ⟨0x50400, 8, 0x40, 31, 0, 1600, 1600000⟩, ⟨0x50404, 8, 0x40, 31, 0, 1000, 1000000⟩, ⟨0x50408, 8, 0x40, 31, 0, 1000, 100000⟩,
  ⟨0x60000, 4, 0x100, 15, 8, 1, 255⟩, ⟨0x60000, 4, 0x100, 19, 16, 1, 15⟩, ⟨0x60000, 4, 0x100, 23, 20, 1, 15⟩,
  ⟨0x80008, 256, 64, 4, 0, 1, 31⟩, ⟨0x80008, 256, 64, 23, 16, 1, 255⟩, ⟨0x84000, 32, 16, 21, 16, 1, 63⟩,
  ⟨0xA0008, 1, 0, 3, 0, 3, 8⟩, ⟨0xA0008, 1, 0, 10, 8, 2, 3⟩, ⟨0xA0040, 32, 4, 1, 0, 1, 3⟩, ⟨0xA0040, 32, 4, 4, 2, 0, 4⟩,
  ⟨0xC0008, 1, 0, 31, 24, 1, 255⟩, ⟨0xC0018, 1, 0, 7, 0, 1, 255⟩, ⟨0xC0018, 1, 0, 23, 16, 16, 255⟩,
  ⟨0xC0018, 1, 0, 29, 24, 1, 63⟩, ⟨0xD0000, 1, 0, 7, 4, 1, 15⟩,
  ⟨0x200104, 32, 16, 10, 0, 0, 1600⟩, ⟨0x200100, 5, 16, 31, 16, 64, 512⟩, ⟨0x200150, 27, 16, 31, 16, 64, 65535⟩,
  ⟨0x220104, 8, 0x80, 7, 0, 0, 128⟩, ⟨0x22010C, 8, 0x80, 31, 16, 1, 65535⟩, ⟨0x22011C, 8, 0x80, 18, 0, 1, 262144⟩,
  ⟨0x220100, 8, 0x80, 11, 9, 0, 6⟩, ⟨0x230118, 16, 0x20, 23, 16, 1, 255⟩, ⟨0x230100, 16, 0x20, 11, 9, 0, 4⟩,
  ⟨0x238000, 6, 0x100, 27, 26, 0, 2⟩, ⟨0x238008, 6, 0x100, 15, 0, 16, 65535⟩, ⟨0x240000, 8, 0x20, 2, 1, 0, 2⟩,
  ⟨0x250014, 1, 0, 31, 16, 1, 65535⟩, ⟨0x250018, 1, 0, 13, 0, 256, 16383⟩,
  ⟨0x250100, 2, 0x100, 7, 6, 1, 3⟩,
  ⟨0x260000, 8, 0x100, 3, 1, 1, 5⟩, ⟨0x260000, 8, 0x100, 15, 8, 1, 255⟩,
  ⟨0x268000, 1, 0, 2, 1, 0, 2⟩, ⟨0x268000, 1, 0, 11, 4, 8, 250⟩, ⟨0x26C000, 1, 0, 2, 1, 0, 2⟩,
  ⟨0x280000, 1, 0, 23, 8, 1, 65535⟩, ⟨0x290038, 1, 0, 18, 0, 1, 262144⟩]

/-- One clamp applied to a written word. -/
def Clamp.apply (c : Clamp) (v : Word) : Word :=
  let w := c.msb + 1 - c.lsb
  let x := v.toNat / 2 ^ c.lsb % 2 ^ w
  let y := if x < c.min then c.min else if c.max < x then c.max else x
  BitVec.ofNat 32 (v.toNat - x * 2 ^ c.lsb + y * 2 ^ c.lsb)

/-- The value a write of `v` to address `a` stores: every clamped field of the register at its nearer end. -/
def clampWrite (a : Nat) (v : Word) : Word :=
  clampTable.foldl (fun v c => if c.base ≤ a && (strideHit (a - c.base) c.n c.s) then c.apply v else v) v

end Sys2Proof.Machine
end

