-- ==== Sys2Proof/Machine/Dev.lean ====
section
/-! DEFINITION. The device's state outside its register words and memories: each block's tables, queues, buffers and
counters as the chapters describe them. Every field's default is its value at reset. -/
namespace Sys2Proof.Machine

/-- The five device states of Table 01-2. -/
inductive DevState where
  | reset | headframe | armed | ranging | held
  deriving DecidableEq, Repr

/-- The fault classes of Table 01-7. -/
inductive FClass where
  | n | d | h
  deriving DecidableEq, Repr

/-- The units a class D fault removes from service (R17, R18). -/
inductive UnitId where
  | quadrant (q : Nat) | channel (c : Nat) | emitter (e : Nat) | steering (p : Nat) | core (k : Nat)
  | filter (n : Nat) | tap (t : Nat) | lane (n : Nat) | hoist | dramDevice (ch rank d : Nat)
  | converter (u : Nat) | sensor (s : Nat) | can (n : Nat) | serial | csi | eth | calTrim | other (code : Nat)
  deriving DecidableEq, Repr

/-- A fault log entry (Table 20-2). `order` is the model's own: the age the replacement rules of R410 compare. -/
structure LogEntry where
  code : Nat := 0
  cls : FClass := .n
  cleared : Bool := false
  active : Bool := false
  retained : Bool := false
  count : Nat := 0
  first : Nat := 0
  last : Nat := 0
  order : Nat := 0
  deriving DecidableEq, Repr

/-- A journal entry (Table 20-3). -/
structure JEntry where
  time : Nat := 0
  addr : Nat := 0
  old : Word := 0
  new : Word := 0
  source : Nat := 0
  flags : Nat := 0
  seq : Nat := 0
  deriving DecidableEq, Repr

/-- Device state, held causes and removed units (Tables 01-2 to 01-7, R412). -/
structure TopState where
  state : DevState := .reset
  heldFromHeadframe : Bool := false
  /-- changes among the reported states, saturating at 255 (Table 01-4) -/
  transitions : Nat := 0
  heldCause : Nat := 0
  /-- codes of every class H fault that counts as a cause of the present HELD (R412) -/
  causes : List Nat := []
  /-- causes that were not logged (R410), until CLEAR_ALL -/
  unloggedCauses : List Nat := []
  removed : List UnitId := []
  /-- a removed unit whose reinstatement was accepted and that rejoins at the next frame boundary -/
  rejoining : List UnitId := []
  /-- the last reset as TOP_RESET_HELD_MS reports it (Table 22-6) -/
  resetHeldMs : Nat := 0
  resetHeldValid : Bool := false
  resetCause : Nat := 0
  /-- RC cycle at which RESET_n went low, while it is low (R365) -/
  lowSince : Option Nat := none
  /-- the internal power-on reset lasts (R437) -/
  por : Bool := true
  /-- supplies now outside their range -/
  suppliesBad : List Supply := []
  /-- die sensors at 125 °C or more, and cause of 0x0103 present (R450) -/
  dieHot : Bool := false
  dieTooHot : Bool := false
  /-- the admission check of stage 10 is due, and TOP_RUN_CTRL.auto_start acts when it passes (R16, R413) -/
  stage10 : Bool := false
  auto : Bool := false
  deriving DecidableEq, Repr

/-- Clocks and the time base (R26 to R40). -/
structure ClkState where
  /-- the PLL has locked since the last reset -/
  locked : Bool := false
  /-- REF-derived clocks run -/
  running : Bool := false
  /-- the 64-bit time base (R30) -/
  timeBase : BitVec 64 := 0
  /-- fraction of a count gathered by the slew, in 10^-9 counts (R31) -/
  frac : Int := 0
  /-- a committed step held until the next frame boundary, and whether a time source asked for it (R32) -/
  stepPend : Option (Int × Bool) := none
  /-- CLK_PPS_NEXT was written since reset, and the time base at the last PPS edge (R38) -/
  ppsWritten : Bool := false
  lastPps : Option Nat := none
  /-- tick of the last valid epoch or edge, for holdover (R37) -/
  lastEpoch : Nat := 0
  /-- captured SYNC edge waiting for its message: tick, time base and phase (R36) -/
  syncEdge : Option (Nat × Nat × Nat) := none
  /-- CLK fault code the Canary holds until CK_PER runs again (R28) -/
  retained : Option Nat := none
  /-- the last SYNC message sent or forwarded, 96 bits, and the tick of the last SYNC_OUT edge (R36) -/
  syncOut : Nat := 0
  syncOutEdge : Option Nat := none
  /-- PPS_OUT is high, and since which tick (R39) -/
  ppsOut : Bool := false
  ppsAt : Nat := 0
  /-- tick of the last Sync sent as grandmaster (R360) -/
  ptpAt : Option Nat := none
  deriving DecidableEq, Repr

/-- One candidate image in the flash and what Headframe knows of it (R49 to R56). -/
structure BootState where
  /-- start-up stages completed (Table 03-1) -/
  stage : Nat := 0
  /-- image being read: false A, true B -/
  current : Bool := false
  /-- the other image has been tried already -/
  second : Bool := false
  /-- bytes of the current image read so far, ascending -/
  image : List Byte := []
  /-- the current burst failed once and is retried at half the clock (R48) -/
  retrying : Bool := false
  /-- the reading of the current image is complete; the tick it began at -/
  readDone : Bool := false
  readFrom : Nat := 0
  /-- the present image failed and its soft reset is due (R56) -/
  softResetDue : Bool := false
  accepted : Bool := false
  activated : Bool := false
  handedOver : Bool := false
  dramDone : Bool := false
  /-- digest of the running image (R53) -/
  digest : List Byte := []
  /-- slot of the running image, 0xFF when open -/
  keySlot : Nat := 255
  /-- the valid commissioning record, as read at stage 7 or programmed since; and as read at stage 7 (Table 03-9) -/
  commission : List Byte := []
  commRead : List Byte := []
  /-- fused customer key slots: hash words are in LMP_KEYHASH; fused and revoked sets at the last start-up -/
  keyed : Bool := false
  /-- fusing in progress: slot and whether it revokes (R59) -/
  fusing : Option (Nat × Bool) := none
  /-- fuse state programmed since the last start-up: fused, revoked bit sets -/
  fused : Nat := 0
  revoked : Nat := 0
  /-- an attestation under way: the nonce taken at the command (R60) -/
  attest : Option (List Word) := none
  deriving DecidableEq, Repr

/-- Tally slot states other than FREE; a FREE slot is not listed (Table 04-2). -/
inductive SlotState where
  | issued | handed | fired
  deriving DecidableEq, Repr

/-- A scan program entry, decoded (Table 04-1). -/
structure Entry where
  firstCell : Nat := 0
  count : Nat := 0
  step : Int := 0
  mask : Nat := 0
  winStart : Nat := 0
  winLen : Nat := 1
  dwellMin : Nat := 1
  dwellMax : Nat := 1
  codeSet : Nat := 0
  steer : Nat := 0
  stream : Nat := 0
  lode : Bool := false
  deriving DecidableEq, Repr

/-- One tally slot (Table 04-13) with the ticks of its shot (Table 04-3). -/
structure Slot where
  st : SlotState := .issued
  shotId : Nat := 0
  /-- the accepted cell it belongs to (the model's own running number, since an index may recur, R64) -/
  uid : Nat := 0
  cell : Nat := 0
  frame : Nat := 0
  emitter : Nat := 0
  offset : Nat := 0
  k : Nat := 0
  reserve : Bool := false
  reattr : Bool := false
  spec : Bool := false
  /-- decision tick D and nominal tick N (R70) -/
  dec : Nat := 0
  nom : Nat := 0
  winStart : Nat := 0
  winLen : Nat := 1
  /-- admitted at D, fires at D + 6 -/
  admitted : Bool := false
  /-- EMIT_EN was high and settled at the fire instant (R105, R107) -/
  emitOk : Bool := true
  blockSeq : Nat := 0
  place : Nat := 0
  /-- measured cell of a reattributed shot, none when the fire samples lie in no bin (R123) -/
  measured : Option Nat := none
  /-- some committed event of the reattributed shot found an open histogram -/
  landed : Bool := false
  deriving DecidableEq, Repr

/-- A cell the sequencer is issuing or has accepted. -/
structure CellRec where
  uid : Nat := 0
  cell : Nat := 0
  frame : Nat := 0
  entry : Entry := {}
  /-- enabled emitters of the mask, ascending -/
  emitters : List Nat := []
  /-- shots per emitter, reserve extra included (R84) -/
  dwell : Nat := 0
  start : Nat := 0
  issued : Map Nat := []
  fired : Map Nat := []
  cancelled : Bool := false
  /-- a confidence flag held until every emitter has fired dwell_min (R78) -/
  flagHeld : Bool := false
  /-- the engine has sent its flag (R181) -/
  flagSent : Bool := false
  /-- open block of each emitter: sequence and shots so far -/
  blocks : Map (Nat × Nat) := []
  firedTotal : Nat := 0
  /-- latest X_b of its judged blocks (R188) -/
  lastX : Nat := 0
  truncated : Bool := false
  poisoned : Bool := false
  reattr : Bool := false
  blind : Bool := false
  saturated : Bool := false
  degraded : Bool := false
  /-- channels on which its histogram was opened, and no_slot channels (R175) -/
  channels : List Nat := []
  noSlot : List Nat := []
  /-- the cell has closed: the number of its candidate sets is known (R176, R203) -/
  closed : Bool := false
  /-- candidate sets handed off for it, and sets not handed off because of HELD -/
  setsDone : Nat := 0
  /-- tick of its last hand-off -/
  lastHand : Nat := 0
  /-- time base at the fire instant of its first fired shot, and at its first issued shot's decision tick plus 6 -/
  firstTime : Nat := 0
  issueTime : Nat := 0
  lastClose : Nat := 0
  /-- its record has been composed, or its accounting is closed by HELD -/
  recorded : Bool := false
  /-- its accounting was closed by HELD: no record is composed any more (R13) -/
  heldClosed : Bool := false
  deriving DecidableEq, Repr

/-- A withheld shot whose audit record is not yet written (R76). -/
structure WRec where
  id : Nat := 0
  reason : Nat := 0
  uid : Nat := 0
  cell : Nat := 0
  emitter : Nat := 0
  frame : Nat := 0
  deriving DecidableEq, Repr

/-- The frame the sequencer reads and issues (R65, R66). -/
structure FrameRec where
  num : Nat := 0
  startTick : Nat := 0
  /-- scan entry to be read next -/
  next : Nat := 0
  /-- the run being issued and the position in it -/
  run : Option (Entry × Nat) := none
  enables : Nat := 0
  issued : Nat := 0
  /-- the pass has reached its end marker -/
  ended : Bool := false
  boundary : Bool := false
  mapInvalid : Bool := false
  /-- tick at which the last entry was read (R66) -/
  lastRead : Nat := 0
  /-- the end marker has been read and every shot of the frame issued -/
  lastIssue : Nat := 0
  /-- its start was scheduled, and the schedule has not yet been taken off or advanced (R40) -/
  sched : Bool := false
  deriving DecidableEq, Repr

/-- The shot sequencer (chapter 4). -/
structure SeqState where
  tally : Map Slot := []
  cells : Map CellRec := []
  frame : Option FrameRec := none
  nextFrame : Nat := 0
  nextUid : Nat := 0
  /-- last nominal tick of each emitter in the present frame, and last decision tick (R68, R70) -/
  lastNom : Map Nat := []
  lastDec : Map Nat := []
  /-- the issue bucket: level at a tick, and reserved consumption ticks after it, rising (R70) -/
  bucketTick : Nat := 0
  bucketLevel : Nat := 4
  resv : List Nat := []
  withheld : List WRec := []
  /-- tick each slot was last released, and the CK_CTL edge of the last issue (R71, R73) -/
  freedAt : Map Nat := []
  lastIssueEdge : Option Nat := none
  /-- ring of audit records by index (R89) -/
  auditRing : Map (List Byte) := []
  /-- an accepted cell's settle command is waiting, and the settled tick (R68, R118) -/
  settleFor : Option Nat := none
  settledAt : Option Nat := none
  blockSeq : Map Nat := []
  freeMin : Nat := 192
  /-- a STOP is pending: no next frame (R86) -/
  stopping : Bool := false
  /-- reserve bank being built has been completed (R83, R195) -/
  bankDone : Bool := true
  enterRanging : Nat := 0
  deriving DecidableEq, Repr

/-- One sliding budget window: energies by bucket index, and the bucket width in ticks (R103). -/
structure BudgetWin where
  buckets : Map Nat := []
  /-- bucket that received a former geometry's sum at the last length change (R105) -/
  inherited : Option Nat := none
  deriving DecidableEq, Repr

/-- A fired shot whose monitor result has not yet been applied (R102, R105). -/
structure MonRec where
  emitter : Nat := 0
  fire : Nat := 0
  /-- tick at which the conversion ends -/
  done : Nat := 0
  /-- tick at which the correction is applied -/
  apply : Nat := 0
  nominal : Nat := 0
  group : Nat := 0
  checked : Bool := true
  result : Option Nat := none
  /-- tick of the group's last length change when it fired, to know whether the debit moved (R105) -/
  geometry : Nat := 0
  deriving DecidableEq, Repr

/-- The emission gate (chapter 5). -/
structure EmtState where
  /-- short, medium and long window of each aperture group, key 3 g + w -/
  wins : Map BudgetWin := []
  /-- count of length changes of each group (R105) -/
  geom : Map Nat := []
  mon : List MonRec := []
  /-- consecutive mismatches of each emitter (R107) -/
  miss : Map Nat := []
  /-- stray pulses of each emitter in the round -/
  stray : Map Nat := []
  /-- EMIT_EN as the Canary drives it, and the tick it went high -/
  emitEn : Bool := false
  enSince : Nat := 0
  /-- INHIBIT_n low; Canary demand -/
  pinLow : Bool := false
  demand : Bool := false
  /-- tick at which the gate captured each inhibit of EMT_STATUS that is set (R99) -/
  capAt : Map Nat := []
  /-- tick from which HELD refuses HANDED shots (R86) -/
  heldCapture : Option Nat := none
  /-- skew step fires emitters in ARMED (R97, R402) -/
  calFire : Bool := false
  deriving DecidableEq, Repr

/-- One steering port (chapter 6). -/
structure StrPort where
  /-- newest position sample, the one before, and its tick -/
  pos : Int := 0
  vel : Int := 0
  tick : Nat := 0
  inTol : Nat := 0
  outTol : Nat := 0
  sumBad : Nat := 0
  /-- tick at which lock was lost, while it stays lost -/
  lostAt : Option Nat := none
  /-- the fault that removed the port -/
  cause : Nat := 0
  target : Int := 0
  settling : Bool := false
  settleCnt : Nat := 0
  settleAt : Nat := 0
  lastIdx : Nat := 0
  period : Nat := 0
  idxSeen : Nat := 0
  loopHeld : Bool := false
  deriving DecidableEq, Repr

/-- An event between its leading edge and the gating block (R128). -/
structure TdcEvent where
  tick : Nat := 0
  fine : Nat := 0
  width : Nat := 0
  hi : Bool := false
  pileup : Bool := false
  settle : Bool := false
  complete : Bool := false
  lost : Bool := false
  /-- notch in force at the leading edge (R155) -/
  notch : Nat := 0
  deriving DecidableEq, Repr

/-- One return channel (chapter 7); its registers hold the rest. -/
structure RfeCh where
  events : List TdcEvent := []
  lastEdge : Option Nat := none
  below : Nat := 0
  upReq : Bool := false
  downReq : Bool := false
  /-- range, thresholds and enable waiting for the next window boundary (R135, R137) -/
  pend : Map Word := []
  settleFrom : Option Nat := none
  driftRounds : Nat := 0
  cause : Nat := 0
  /-- comparator level seen high since -/
  compHigh : Bool := false
  /-- the channel's notch returns to 0 at the next boundary (amb_en written 0) -/
  notchZero : Bool := false
  deriving DecidableEq, Repr

/-- One port's coincidence raise (R140). -/
structure RfePort where
  calm : Nat := 0
  deriving DecidableEq, Repr

/-- A listening window on one channel (R151, R154, R159). -/
structure WinCh where
  survivors : Nat := 0
  groups : Map Nat := []
  deriving DecidableEq, Repr

/-- The listening window of one fired shot, over its channels. -/
structure Win where
  slot : Nat := 0
  uid : Nat := 0
  emitter : Nat := 0
  shotId : Nat := 0
  blockSeq : Nat := 0
  place : Nat := 0
  openT : Nat := 0
  len : Nat := 1
  /-- D − N, for the shadow coordinate (R161) -/
  slip : Nat := 0
  reattr : Bool := false
  measured : Option Nat := none
  chs : Map WinCh := []
  opened : Bool := false
  closed : Bool := false
  deriving DecidableEq, Repr

/-- An event that passed stages 1 to 4 and waits for coincidence and cap (R157, R159). -/
structure GatEvent where
  ch : Nat := 0
  tick : Nat := 0
  fine : Nat := 0
  bin : Nat := 0
  width : Nat := 0
  hi : Bool := false
  pileup : Bool := false
  shotId : Nat := 0
  judged : Bool := false
  deriving DecidableEq, Repr

/-- An entry of the provisional buffer (R160, Table 08-13). -/
structure ProvEntry where
  ch : Nat := 0
  record : Nat := 0
  slot : Nat := 0
  place : Nat := 0
  emitter : Nat := 0
  blockSeq : Nat := 0
  /-- cell the event goes to at commit: accepted cell of the shot, or measured cell index -/
  uid : Nat := 0
  reattr : Bool := false
  measured : Option Nat := none
  shotId : Nat := 0
  committing : Bool := false
  deriving DecidableEq, Repr

/-- A shadow histogram: the shot mask of each shadow bin (R161). -/
structure Shadow where
  emitter : Nat := 0
  blockSeq : Nat := 0
  port : Nat := 0
  masks : Map Nat := []
  max : Nat := 0
  parity : Bool := false
  deriving DecidableEq, Repr

/-- A block of shots of one emitter (R77, R162). -/
structure Block where
  emitter : Nat := 0
  seq : Nat := 0
  uid : Nat := 0
  cell : Nat := 0
  frame : Nat := 0
  shots : Nat := 0
  /-- tick at which it closed under R77 -/
  closedAt : Option Nat := none
  lastClose : Nat := 0
  checked : Bool := false
  unchecked : Bool := false
  k : Nat := 6
  s : Nat := 2
  trunc : Map Nat := []
  judged : Bool := false
  committed : Bool := false
  /-- reference tick X_b (R166) -/
  x : Nat := 0
  deriving DecidableEq, Repr

/-- The gating block (chapter 8). -/
structure GatState where
  wins : List Win := []
  waiting : List GatEvent := []
  prov : List ProvEntry := []
  blocks : List Block := []
  shadows : Map Shadow := []
  /-- ambient meters of the running round: key 16 c + g; last completed round -/
  meter : Map Nat := []
  meterNext : Map Nat := []
  meterLast : Map Nat := []
  round : Nat := 0
  /-- channels that had an open window in the round (R138) -/
  hadWin : List Nat := []
  hadWinNext : List Nat := []
  /-- tailings counters, key 16 c + r -/
  tail : Map Nat := []
  /-- m_eff in force per channel while a change waits for its window boundary (R158) -/
  mEff : Map Nat := []
  /-- GAT_PORT_CFG word in force on a channel while a write waits for its window boundary (R158) -/
  cfgAt : Map Word := []
  /-- tick of each channel's last commit, and the greatest and last commit time after X_b (R165, Table 08-10) -/
  lastCommit : Map Nat := []
  latMax : Nat := 0
  latLast : Nat := 0
  /-- ring of verdict log records by index (R168) -/
  logRing : Map (List Byte) := []
  deriving DecidableEq, Repr

/-- State of a histogram slot other than FREE (Table 09-2). -/
inductive HState where
  | open | closing | readout
  deriving DecidableEq, Repr

/-- A histogram slot (Table 09-10), key 2 c + s; a FREE slot is not listed. -/
structure Hist where
  st : HState := .open
  uid : Nat := 0
  cell : Nat := 0
  frame : Nat := 0
  saturated : Bool := false
  poisoned : Bool := false
  reattr : Bool := false
  confident : Bool := false
  truncated : Bool := false
  windows : Nat := 0
  events : Nat := 0
  nmax : Nat := 0
  metered : Map Nat := []
  winStart : Nat := 0
  winLen : Nat := 1
  lode : Bool := false
  stream : Nat := 0
  /-- SIV_CTRL, threshold word and coefficient words in force when it opened (R186) -/
  ctrl : Word := 0
  thr : Word := 0
  coef : List Word := []
  closeAt : Nat := 0
  lane : Option Nat := none
  deriving DecidableEq, Repr

/-- A committed event's update waiting to be written (R179). -/
structure Update where
  ch : Nat := 0
  slot : Nat := 0
  bin : Nat := 0
  fine : Nat := 0
  emitter : Nat := 0
  blockSeq : Nat := 0
  deriving DecidableEq, Repr

/-- A candidate (Table 09-4). -/
structure Cand where
  bin : Nat := 0
  clipped : Bool := false
  poisonedNb : Bool := false
  satNb : Bool := false
  amb : Nat := 0
  y : Int := 0
  thr : Nat := 0
  bins : List Word := []
  deriving DecidableEq, Repr

/-- A candidate set (Table 09-3). -/
structure CandSet where
  uid : Nat := 0
  cell : Nat := 0
  channel : Nat := 0
  frame : Nat := 0
  windows : Nat := 0
  length : Nat := 0
  winStart : Nat := 0
  flags : Nat := 0
  events : Nat := 0
  metered : Nat := 0
  rho : Nat := 0
  close : Nat := 0
  cands : List Cand := []
  lode : Bool := false
  /-- order and tick of hand-off -/
  order : Nat := 0
  at_ : Nat := 0
  deriving DecidableEq, Repr

/-- Histogram engine, sieve and lode logic (chapter 9). -/
structure HstState where
  hists : Map Hist := []
  /-- closing order: keys 2 c + s -/
  closing : List Nat := []
  updates : List Update := []
  /-- lane buffers: lane to bins as words, with the histogram they came from -/
  lanes : Map (List Word × Hist × Nat) := []
  /-- candidate buffer places 0 to 511; count of sets handed off -/
  handed : Nat := 0
  cbuf : Map CandSet := []
  noSlotSets : List CandSet := []
  /-- lanes whose words were passed to the raw histogram stream (R188) -/
  exporting : List Nat := []
  /-- greatest and last hand-off time (Table 09-11) -/
  latMax : Nat := 0
  latLast : Nat := 0
  lodeQueue : List (CandSet × Cand) := []
  lodeEpoch : Nat := 0
  lodeBank : Nat := 0
  lodeStarted : Bool := false
  lodeSampled : List Word := []
  lodeInvalid : Bool := true
  /-- the sealed bank, its epoch and its sampled map (R192) -/
  sealedBank : Option (Nat × Nat × List Word) := none
  clearing : Bool := false
  /-- slots added to this frame (R193) -/
  lodeAddedFrame : List Nat := []
  /-- last cell appended to the reserve bank being built, and its entry count -/
  lastReserve : Option Nat := none
  reserveCount : Nat := 0
  /-- sets the lode logic has received and not yet judged or queued (R190, R195) -/
  lodeSets : List CandSet := []
  deriving DecidableEq, Repr

end Sys2Proof.Machine
end

