-- ==== Sys2Proof/Machine/DevIo.lean ====
section
/-! DEFINITION. State of the assay cores, the point block, the Foreman and the output links (chapters 10 to 12, 17). -/
namespace Sys2Proof.Machine

/-- A level of the loop stack (Table 10-3). -/
structure LoopRec where
  count : Nat := 0
  start : Nat := 0
  stop : Nat := 0
  deriving DecidableEq, Repr

/-- The shadowed registers of a core (Table 10-3): pointers, steps, modes and windows of PU0 to PU3 and PV0 to PV3. -/
structure RegSet where
  g : List Word := List.replicate 16 0#32
  a0 : BitVec 40 := 0
  a1 : BitVec 40 := 0
  p : List Nat := List.replicate 8 0
  step : List Int := List.replicate 8 0
  wmode : List Nat := List.replicate 8 0
  wlo : List Nat := List.replicate 8 0
  whi : List Nat := List.replicate 8 0
  lr : Nat := 0
  /-- top of the loop stack first -/
  loops : List LoopRec := []
  /-- Z, N, C, V, BG as bits 0 to 4 (Table 10-4) -/
  flags : Nat := 0
  deriving DecidableEq, Repr

/-- Where a delayed write goes: a general register, or a special register by its number (Table 10-12). -/
inductive Dest where
  | gen (n : Nat) | special (n : Nat)
  deriving DecidableEq, Repr

/-- A result not yet visible: instructions still to issue before it is, and the set it belongs to (Table 10-6). -/
structure Delayed where
  left : Nat := 0
  shadow : Bool := false
  dest : Dest := .gen 0
  value : Word := 0
  deriving DecidableEq, Repr

/-- A batch assigned to a core (R203, R205). -/
structure Batch where
  uid : Nat := 0
  cell : Nat := 0
  total : Nat := 0
  copied : Nat := 0
  /-- hand-off tick of its last set -/
  lastAt : Option Nat := none
  late : Bool := false
  /-- tick at which a core took it (Table 10-19, ASY_DISP_WAIT) -/
  assignedAt : Nat := 0
  deriving DecidableEq, Repr

/-- One assay core. -/
structure Core where
  started : Bool := false
  halted : Bool := false
  removed : Bool := false
  /-- a WAIT stands in D -/
  waiting : Bool := false
  inHandler : Bool := false
  pc : Nat := 0
  fg : RegSet := {}
  sh : RegSet := {}
  /-- sticky STATUS bits [13:8] -/
  sticky : Nat := 0
  epc : Nat := 0
  vec : List Nat := [0, 0, 0]
  /-- event enables and pending latches: bit 0 CANARY, 1 BATCH, 2 ROUND -/
  evEn : Nat := 0
  evPend : Nat := 0
  cycHi : Nat := 0
  /-- results not yet visible, oldest first -/
  delayed : List Delayed := []
  /-- the division in flight; with none left to issue its result is due (R211) -/
  div : Option Delayed := none
  /-- flags and the sign of A0 as left two instructions back (Table 10-6) -/
  oldFlags : Nat := 0
  oldNeg : Bool := false
  /-- delay slots still to issue and what follows them -/
  slots : Nat := 0
  target : Option Nat := none
  rete : Bool := false
  batches : List Batch := []
  ringCount : Nat := 0
  ringRd : Nat := 0
  /-- tick at which the full ring last had an entry freed -/
  ringFreedAt : Nat := 0
  staging : List Word := []
  stagingOver : Bool := false
  commitOk : Bool := false
  commitBad : Bool := false
  /-- tick since which a commit has waited for the point block -/
  committing : Option Nat := none
  cnyReq : Word := 0
  cnyAck : Option Word := none
  timeSnap : Option (Word × Word × Bool) := none
  /-- tick since which the core has been busy, for ASY_CNT_BUSY -/
  busySince : Option Nat := none
  bgHeld : Bool := false
  latMax : Nat := 0
  latLast : Nat := 0
  deriving DecidableEq, Repr

/-- The assay cluster. -/
structure AsyState where
  cores : Map Core := []
  /-- semaphore to the core holding it -/
  sems : Map Nat := []
  dispWait : Nat := 0
  deriving DecidableEq, Repr

/-- A record in a stream's queue (R232, R238). -/
structure PntRec where
  kind : Nat := 1
  seq : Nat := 0
  body : List Byte := []
  /-- tick it entered the queue -/
  at_ : Nat := 0
  /-- reference tick X of a point record (R243) -/
  x : Option Nat := none
  /-- fallback body built from the H fields (R235) -/
  fallback : List Byte := []
  deriving DecidableEq, Repr

/-- A closed packet waiting for, or in, transmission (R237, R239). -/
structure Packet where
  stream : Nat := 0
  kind : Nat := 1
  records : Nat := 0
  seq : Nat := 0
  bytes : List Byte := []
  xs : List Nat := []
  order : Nat := 0
  deriving DecidableEq, Repr

/-- A lode export under way (R240). -/
structure LodeExport where
  bank : Nat := 0
  epoch : Nat := 0
  map : List Word := []
  next : Nat := 0
  total : Nat := 0
  deriving DecidableEq, Repr

/-- The point block (chapter 11). -/
structure PntState where
  queues : Map (List PntRec) := []
  /-- closed packets by primary lane, oldest first -/
  lanes : Map (List Packet) := []
  order : Nat := 0
  /-- configuration writes held to the stream's packet boundary (R245) -/
  cfgPend : Map Word := []
  /-- consecutive producer drops of each Bulk stream (R241) -/
  drops : Map Nat := []
  /-- records dropped because the primary lane was down (R241) -/
  laneDrops : Map Nat := []
  export_ : Option LodeExport := none
  latMax : Nat := 0
  latLast : Nat := 0
  deriving DecidableEq, Repr

/-- The Foreman (chapter 12). -/
structure FmnState where
  /-- a check started by FMN_CMD runs; a frame-boundary recheck is due (R253) -/
  checking : Bool := false
  recheckDue : Bool := false
  /-- pending allocations, and whether a check including them has passed (R254) -/
  pend : Map Nat := []
  approved : Bool := false
  used : Map Nat := []
  lent : Map Nat := []
  /-- Bulk requests waiting for the next round: activity and units -/
  waiting : List (Nat × Nat) := []
  /-- activities a request of which has waited in this round -/
  starved : List Nat := []
  overrun : Bool := false
  deriving DecidableEq, Repr

/-- Lane states of Table 17-2. -/
inductive LaneSt where
  | down | align | cap | step | up
  deriving DecidableEq, Repr

/-- One Ixhal lane (chapter 17). -/
structure Lane where
  st : LaneSt := .down
  /-- generation in force and target (R341) -/
  gen : Nat := 0
  target : Nat := 0
  partnerGen : Nat := 0
  partnerVer : Nat := 0
  locked : Bool := false
  /-- tick at which lock was lost in UP -/
  lostAt : Option Nat := none
  /-- a valid CAP has been received; one with seen = 1 has; one with seen = 1 has been sent -/
  capRx : Bool := false
  capSeen : Bool := false
  capTx : Bool := false
  /-- in STEP: proposal received and sent, transmitter switched, marker sent, partner's marker received -/
  propRx : Bool := false
  propTx : Bool := false
  moved : Bool := false
  markTx : Bool := false
  checking : Bool := false
  /-- the local check's result, error count and end; whether it was sent; the partner's result -/
  localRes : Option (Bool × Nat) := none
  localEnd : Nat := 0
  resTx : Bool := false
  partnerRes : Option Bool := none
  /-- a gen_cap write, a RETRAIN, waits (R344) -/
  pendCap : Bool := false
  pendRetrain : Bool := false
  /-- packets in transmission: the packet and how many of its bytes have left -/
  bounded : Option (Packet × Nat) := none
  bulk : Option (Packet × Nat) := none
  /-- SAFE symbols waiting: sequence number and message (R349) -/
  safe : List (Nat × List Byte) := []
  timeDue : Bool := false
  /-- slots sent of the present frame, and frames since the last TIME symbol -/
  slot : Nat := 0
  frames : Nat := 0
  /-- MGT responses waiting, each with whether it is a busy answer to a fifth request (R350) -/
  responses : List (Bool × List Byte) := []
  /-- elastic buffer fill at the last frame end (R339) -/
  elastic : Nat := 4
  /-- discarding up to the next comma (R337) -/
  discarding : Bool := false
  /-- the last symbol sent, its 32 data bytes -/
  last : List Byte := []
  deriving DecidableEq, Repr

/-- A datagram or frame the device sends on Ethernet (R358, R359): its class for the VLAN priority, UDP ports and payload. -/
structure EthTx where
  /-- 0 points, 1 safety, 2 Bulk, 3 management, 4 gPTP, 5 address resolution -/
  cls : Nat := 0
  srcPort : Nat := 0
  dstPort : Nat := 0
  /-- VLAN tag, when one is added -/
  tag : Option Nat := none
  ipv6 : Bool := false
  payload : List Byte := []
  deriving DecidableEq, Repr

/-- CSI-2 and Ethernet (R354 to R360). -/
structure NetState where
  /-- last long packet: virtual channel, data type, payload -/
  csiLast : Nat × Nat × List Byte := (0, 0, [])
  /-- configuration in force since enable rose -/
  csiCfg : Word := 0
  /-- the PLL has relocked and transmission waits for a frame boundary (R356) -/
  csiWait : Bool := false
  /-- last frame sent on Ethernet -/
  ethLast : Option EthTx := none
  deriving DecidableEq, Repr

/-- Tap states of Table 13-2. -/
inductive TapSt where
  | idle | rearm | armed | capturing
  deriving DecidableEq, Repr

/-- A trigger that has reached an armed tap and waits for the decision (R265, R267). -/
structure Trig where
  source : Nat := 0
  tick : Nat := 0
  fine : Nat := 0
  shot : Nat := 0xFFFFFFFF
  cell : Nat := 0xFFFFFF
  deriving DecidableEq, Repr

/-- A waveform record in capture or in writing (R269). -/
structure WavRec where
  sources : Nat := 0
  tick : Nat := 0
  fine : Nat := 0
  /-- trigger sample -/
  k : Nat := 0
  preValid : Nat := 0
  preShort : Bool := false
  post : Nat := 0
  postValid : Nat := 0
  truncated : Bool := false
  chRemoved : Bool := false
  extra : Nat := 0
  resid : Nat := 0
  shot : Nat := 0xFFFFFFFF
  cell : Nat := 0xFFFFFF
  frame : Nat := 0
  /-- WAV_TAP_CFG in force -/
  cfg : Word := 0
  /-- the samples kept, oldest first, at the full rate -/
  samples : List Nat := []
  deriving DecidableEq, Repr

/-- One waveform tap (chapter 13). -/
structure Tap where
  st : TapSt := .idle
  /-- sample at which the re-arm ends, once nothing is in writing -/
  rearmEnd : Nat := 0
  refill : Nat := 0
  trigs : List Trig := []
  cap : Option WavRec := none
  writing : Option WavRec := none
  /-- pending gap counts by reason: count, frame and time base of the first -/
  gaps : Map (Nat × Nat × Nat) := []
  /-- configuration writes held to the record boundary, ring geometry held to the drain -/
  cfgPend : Map Word := []
  ringPend : Map Word := []
  flushing : Bool := false
  /-- records in the ring, oldest first: offset and length -/
  ring : List (Nat × Nat) := []
  /-- removed by a parity error until reset -/
  dead : Bool := false
  /-- the level source: the last 8 samples, newest first, and whether it is primed (R266) -/
  recent : List Nat := []
  primed : Bool := false
  deriving DecidableEq, Repr

/-- What Hoist's tags say of bursts `lo ≤ b < hi`: epoch at the write and the poisoned bits of both words (R320).
Newer tags stand first; a burst without one has not been written since power-on. -/
structure DTag where
  lo : Nat := 0
  hi : Nat := 0
  epoch : Nat := 0
  p0 : Bool := false
  p1 : Bool := false
  deriving DecidableEq, Repr

/-- A training under way (R314 to R316). -/
structure Training where
  target : Nat := 0
  rate : Nat := 0
  rank : Nat := 0
  step : Nat := 0
  /-- this gathering step has failed once -/
  again : Bool := false
  /-- tick at which it began -/
  start : Nat := 0
  /-- it reinstates a failed Hoist or was asked for by RETRAIN -/
  retrain : Bool := false
  deriving DecidableEq, Repr

/-- A parity recovery (R330): attempt, its start, and whether the retry buffer is being replayed. -/
structure Recovery where
  attempt : Nat := 1
  start : Nat := 0
  replaying : Bool := false
  deriving DecidableEq, Repr

/-- One channel of Hoist. -/
structure HoiCh where
  /-- open rows by bank index: row and tick of the last access -/
  openRows : Map (Nat × Nat) := []
  /-- row-disturbance tables by bank index: rows and counts -/
  rh : Map (List (Nat × Nat)) := []
  /-- queued neighbour refreshes: bank and row -/
  rhQueue : List (Nat × Nat) := []
  /-- tick since which an activate has been held (R329) -/
  stallSince : Option Nat := none
  /-- retry buffer, oldest first: command and address, sub-channel and rank, time (Table 16-11) -/
  retry : List (Nat × Nat × Nat) := []
  /-- bursts waiting for corrected write-back -/
  wb : List Nat := []
  recovery : Option Recovery := none
  /-- ticks of the last fall-backs -/
  falls : List Nat := []
  /-- ranks whose temperature asks for the halved interval -/
  hot : Map Bool := []
  /-- uncorrectable reads of each rank: round and count (R332) -/
  uncorr : Map (Nat × Nat) := []
  /-- round, plus 1, of the last 0x1303 -/
  logged : Nat := 0
  lastReq : Nat := 0
  /-- tag cache lines: side-table burst and dirty (R319) -/
  tagCache : List (Nat × Bool) := []
  /-- training results by byte of the page (Table 16-11) -/
  results : Map Nat := []
  deriving DecidableEq, Repr

/-- Hoist (chapter 16). -/
structure HoiState where
  training : Option Training := none
  /-- queued rate, or the rate in force for a queued RETRAIN (R316) -/
  ratePend : Option Nat := none
  failCode : Nat := 0
  /-- lane test under way: channel, rank, and whether HOI_CMD asked for it -/
  laneTest : Option (Nat × Nat × Bool) := none
  tags : List DTag := []
  chs : Map HoiCh := []
  /-- the last burst read: both words and whether each was delivered poisoned -/
  last : List Byte := []
  lastPoison : Bool × Bool := (false, false)
  deriving DecidableEq, Repr

/-- One filter channel (chapter 14); limits, banks and coefficients are registers. -/
structure FltCh where
  /-- CIC integrators and comb memories, first stage first, exact (R287) -/
  integ : List Int := []
  comb : List Int := []
  nIn : Nat := 0
  /-- CIC outputs not yet taken by the FIR, with their ticks -/
  ready : List (Int × Nat) := []
  /-- input history of both banks, newest first -/
  hist : List Int := []
  /-- a synchronising reset waits for the next input sample (R291) -/
  resetPend : Bool := false
  /-- outputs of the settle count still to come -/
  left : Nat := 0
  y : Int := 0
  valid : Bool := false
  level : Bool := false
  outCnt : Nat := 0
  inCnt : Nat := 0
  /-- a fade: its length and the index of the next faded output (R289) -/
  fade : Option (Nat × Nat) := none
  /-- an accepted swap waits for the next output boundary; one requested during a fade waits for its end -/
  swapNow : Bool := false
  swapPend : Bool := false
  lastOut : Option Nat := none
  deriving DecidableEq, Repr

/-- One housekeeping converter: 0 to 3 HKS, 4 and 5 HKA (chapter 14). -/
structure HkaU where
  /-- tick at which the delay of a start ends -/
  delayEnd : Option Nat := none
  /-- the sequence runs: entry and conversions done of it -/
  run : Option (Nat × Nat) := none
  /-- an injected burst: exponent and input code -/
  inj : Option (Nat × Nat) := none
  /-- a start whose delay ended during a burst or a calibration -/
  held : Bool := false
  cal : Bool := false
  calWait : Bool := false
  passed : Bool := false
  /-- writes to the entry being converted, held to its conversion boundary -/
  seqPend : Map Word := []
  deriving DecidableEq, Repr

/-- One temperature-sensor channel's measurement under way (R298, R303). -/
structure SnsCh where
  /-- voltage code of the first slot of a 3-wire pair -/
  first : Option Int := none
  /-- a wire opened during the present slot or pair -/
  affected : Bool := false
  /-- range in force, taken at the start of a slot (R299) -/
  range : Nat := 0
  /-- tick at which a lead test began -/
  tone : Option Nat := none
  deriving DecidableEq, Repr

/-- One window heater (R305): settings in force, the thermostat's last choice and the output. -/
structure Heater where
  on : Bool := false
  choice : Bool := false
  period : Nat := 0
  duty : Nat := 0
  deriving DecidableEq, Repr

/-- One encoder input of the CK_PER decoder (R306): filtered levels, tick of the last counted edge. -/
structure EncSt where
  a : Bool := false
  b : Bool := false
  lastEdge : Option Nat := none
  logged : Bool := false
  deriving DecidableEq, Repr

/-- Sensor bridging (chapter 15). -/
structure SnsState where
  chs : Map SnsCh := []
  /-- channel being measured on HKA0 and HKA1 -/
  scan : Map Nat := []
  /-- user curves: resistance and temperature points (R302) -/
  curves : Map (List (Nat × Int)) := []
  biasTarget : Nat := 0
  parking : Bool := false
  heaters : Map Heater := []
  encs : Map EncSt := []
  /-- IMU transfer under way: time base at its trigger, and whether SNS_IMU_XFER asked for it -/
  imu : Option (Nat × Bool) := none
  imuRing : Map (List Byte) := []
  imuLogged : Bool := false
  deriving DecidableEq, Repr

/-- One CAN controller (R308). -/
structure CanSt where
  /-- receive FIFO, oldest first: 80 bytes each (Table 15-7) -/
  fifo : List (List Byte) := []
  recovering : Bool := false
  /-- MGT answers waiting, the first standing in transmit buffer 7 (R430), with whether each is a busy answer -/
  answers : List (Bool × List Byte) := []
  /-- the words of the last frame sent -/
  sent : List Word := []
  deriving DecidableEq, Repr

end Sys2Proof.Machine
end

