-- ==== Sys2Proof/Machine/DevAll.lean ====
section
/-! DEFINITION. The whole device: register words, every block's state, the running tick and the free-value counter. -/
namespace Sys2Proof.Machine

/-- One requester's own state: its MGT_STATUS bits, its DRAM window, its page registers, its 64-bit snapshot slot and
pair-write slot, its tally and slot-table snapshots, and what its interface last answered (R93, R171, R425, R426, R431). -/
structure Requester where
  status : Word := 0
  dramWin : Nat := 0
  pages : Map Nat := []
  /-- snapshot slot: low address, both halves, and whether the high half has been returned -/
  snap : Option (Nat × Word × Word × Bool) := none
  /-- low word waiting for its high-word write: address and value (R33) -/
  pair : Option (Nat × Word) := none
  tallySnap : Option (Nat × List Word × List Nat) := none
  hstSnap : Option (Nat × List Word × List Nat) := none
  lastStatus : Nat := 0
  lastData : List Word := []
  lastWritten : Nat := 0
  /-- status of the last write frame (R427) -/
  frameStatus : Nat := 0
  deriving DecidableEq, Repr

/-- Management access (chapter 21). -/
structure MgtState where
  reqs : Map Requester := []
  deriving DecidableEq, Repr

/-- Fault log and journal (chapter 20). -/
structure FlgState where
  log : Map LogEntry := []
  order : Nat := 0
  newest : Nat := 0
  ring : Map JEntry := []
  jseq : Nat := 0
  jwr : Nat := 0
  wrapped : Bool := false
  /-- entries whose DRAM copy is due, and the round at which the oldest first found activity 17 spent (R416) -/
  copyQueue : List JEntry := []
  copySpent : Option Nat := none
  /-- ring geometry of the copies held until the ring drains (R275) -/
  copyPend : Map Word := []
  deriving DecidableEq, Repr

/-- One safety input and its function (R371 to R376). -/
structure CnyFn where
  /-- last functional sample of both channels -/
  a : Bool := false
  b : Bool := false
  /-- consecutive low samples of each channel (type 4) -/
  lowA : Nat := 0
  lowB : Nat := 0
  demand : Bool := true
  /-- consecutive disagreeing samples -/
  count : Nat := 0
  locked : Bool := false
  /-- the lockout is of a pulse fault -/
  pulse : Bool := false
  /-- of the things R374 asks: 1 once both channels were seen in demand, 2 once both were released later -/
  stage : Nat := 0
  stageCycle : Nat := 0
  /-- last 10 ms cycle with a missing pulse or cross-short of the input, plus 1 -/
  badCycle : Nat := 0
  /-- last cycle with a missing pulse, and with a cross-short, of each channel, plus 1 -/
  miss : Map Nat := []
  cross : Map Nat := []
  /-- channels that read low at another pulse's check and await their next functional sample -/
  suspect : List Nat := []
  /-- two-hand function: sample of each hand's press, whether both have been seen released, and whether it is released -/
  press1 : Option Nat := none
  press2 : Option Nat := none
  handsOff : Bool := true
  hands : Bool := false
  deriving DecidableEq, Repr

/-- One encoder of the Canary's decoder (R377). -/
structure CnyEnc where
  a : Bool := false
  b : Bool := false
  z : Bool := false
  count : Int := 0
  /-- count at the last rising Z -/
  home : Option Int := none
  /-- counts at the last computations, newest first (R378) -/
  hist : List Int := []
  deriving DecidableEq, Repr

/-- One axis (R378). -/
structure CnyAxis where
  /-- twice the axis speed, in units of 1/655,360 mm/s -/
  speed2 : Int := 0
  viol : Bool := false
  prev : Bool := false
  /-- RC cycle since which the two speeds differ by more than xtol -/
  diffSince : Option Nat := none
  deriving DecidableEq, Repr

/-- A point record in the point tap's queue (R379): its frame and its bytes. -/
structure CnyRec where
  frame : Nat := 0
  body : List Byte := []
  deriving DecidableEq, Repr

/-- A frame under field evaluation (R380 to R384). -/
structure FieldFrame where
  num : Nat := 0
  /-- tick of its boundary, and of the next one -/
  start : Nat := 0
  next : Option Nat := none
  /-- the sets it is evaluated under: the new one, and the old one in the first frame after a change -/
  sets : List Nat := []
  /-- fields hit, as 3 s + i -/
  hits : List Nat := []
  cells : List Nat := []
  blind : List Nat := []
  /-- protective fields whose VIOLATION message was sent for the frame (R390) -/
  told : List Nat := []
  whole : Bool := true
  late : Bool := false
  deriving DecidableEq, Repr

/-- The Canary (chapter 18). The working copy of the parameters is the CNY_PARAM window's words. -/
structure CnyState where
  /-- RC cycles counted so far (R361) -/
  rc : Nat := 0
  /-- VDD_CNY or VDD_CNYIO is outside its range (R364) -/
  lost : Bool := false
  /-- causes of a Canary demand (R363) -/
  clockFault : Bool := false
  heartbeat : Bool := false
  mismatch : Bool := false
  /-- RC cycle from which the 1 ms of the watchdog counts, while a demand has not been answered by HELD -/
  watch : Option Nat := none
  /-- SAFE_SW as accepted and as sampled at reset, and the last samples, newest first (R366) -/
  sw : Nat := 0
  swReset : Nat := 0
  swSeen : List Nat := []
  modeChanged : Bool := false
  /-- active copy of the parameter block, as words by management address -/
  active : Option (List (Nat × Word)) := none
  paramHold : Bool := true
  activate : Bool := false
  /-- RC cycle of the last parameter write, while its recomputation is due -/
  lastWrite : Option Nat := none
  commHold : Bool := false
  /-- record being programmed by COMMISSION -/
  comm : Option (List Byte) := none
  /-- functional samples taken -/
  sample : Nat := 0
  fns : Map CnyFn := []
  /-- RC cycle at which each TP output last went low -/
  tp : Map Nat := []
  ossdOn : List Bool := [false, false]
  /-- a manual pair waits for restart -/
  wait : List Bool := [true, true]
  /-- RC cycle of each pair's last switching -/
  switched : List (Option Nat) := [none, none]
  rb : Nat := 0
  /-- restart button: sample of the press, and the pairs whose conditions held then -/
  press : Option (Nat × List Bool) := none
  encs : Map CnyEnc := []
  axes : Map CnyAxis := []
  /-- codes whose lockout lasts: 0x1809, 0x180A, 0x180F -/
  locks : List Nat := []
  queue : List CnyRec := []
  frames : List FieldFrame := []
  /-- consecutive violated frames of each protective field 3 s + i, and the sets that hold their pairs off (R382) -/
  counts : Map Nat := []
  offSets : List Nat := []
  /-- fields of the last closed frame, and those violated in it -/
  lastProt : Nat := 0
  lastWarn : Nat := 0
  lastBlind : Nat := 0
  closed : Nat := 0
  /-- set in use (R384) -/
  set : Option Nat := none
  fallback : Bool := false
  overlap : Bool := false
  /-- set of the last accepted SELECT -/
  msgSet : Option Nat := none
  lastSeq : Option Nat := none
  /-- RC cycle of the last accepted message, and whether its absence has been reported -/
  lastMsg : Nat := 0
  timedOut : Bool := false
  /-- copies waiting for their partner: network, RC cycle, bytes (R391) -/
  copies : List (Nat × Nat × List Byte) := []
  /-- MUTE in force: functions, sets, RC cycle of its end -/
  mute : Option (Nat × Nat × Nat) := none
  txSeq : Nat := 0
  /-- RC cycle of the last STATE and its payload bytes 4 and 6 -/
  stateAt : Option Nat := none
  stateSent : Nat × Nat := (0, 0)
  /-- last message sent, on both networks -/
  sent : List Byte := []
  /-- liveness request of each core: nonce and RC cycle (R394) -/
  live : Map (Nat × Nat) := []
  deriving DecidableEq, Repr

/-- Calibration (chapter 19). -/
structure CalState where
  /-- a full calibration runs: it was started by CAL_CMD -/
  full : Option Bool := none
  /-- port in its blind interval, and the interval's first tick -/
  turn : Option Nat := none
  turnAt : Nat := 0
  /-- port calibrated last, and the port whose turn under CAL_CTRL.period comes next -/
  last : Nat := 31
  nextTurn : Nat := 0
  /-- tick of the last period turn (R403) -/
  turnTick : Nat := 0
  /-- a host wrote a trim of the port in its interval (R404) -/
  hostWrote : Bool := false
  /-- the calibration counts as passed (R401) -/
  passed : Bool := false
  /-- the trim body of the CALS section loaded, from which the searches start; none was loaded while it is empty
  (R401, R406) -/
  seeds : List Byte := []
  deriving DecidableEq, Repr

/-- The TAP (R448): the instruction in force and what its data register holds after capture. -/
structure TapCtl where
  instr : Nat := 0
  data : Word := 0
  deriving DecidableEq, Repr

/-- The block's device part. -/
structure Dev where
  /-- tick of CK_TDC, counted from PLL lock (R70, R103) -/
  now : Nat := 0
  /-- register words that differ from their reset values, by management address -/
  regs : List (Nat × Word) := []
  /-- writes held in shadow or pending copies, by management address (R423, R453) -/
  shadow : Map Word := []
  /-- how many free values have been drawn: the model's own field (log entry 5) -/
  freeCtr : Nat := 0
  /-- words corrected on a read, by memory (R20) -/
  corrected : Map Nat := []
  top : TopState := {}
  clk : ClkState := {}
  boot : BootState := {}
  seq : SeqState := {}
  emt : EmtState := {}
  str : Map StrPort := []
  rfe : Map RfeCh := []
  rfePorts : Map RfePort := []
  gat : GatState := {}
  hst : HstState := {}
  cny : CnyState := {}
  cal : CalState := {}
  fmn : FmnState := {}
  asy : AsyState := {}
  pnt : PntState := {}
  lanes : Map Lane := []
  taps : Map Tap := []
  net : NetState := {}
  sns : SnsState := {}
  cans : Map CanSt := []
  flts : Map FltCh := []
  hkas : Map HkaU := []
  hoi : HoiState := {}
  flg : FlgState := {}
  mgt : MgtState := {}
  jtag : TapCtl := {}
  deriving DecidableEq, Repr

end Sys2Proof.Machine
end

