-- ==== Sys2Proof/Machine/Ops.lean ====
section
/-! DEFINITION. The named operations every block uses: registers and their fields, 64-bit counters, the time base, free
values, the fault log (R410) and the journal (R414). -/
namespace Sys2Proof.Machine

/-- The register word in force at management address `a`. -/
def Dev.reg (d : Dev) (a : Nat) : Word := spGet resetOf d.regs a

/-- Set the register word at `a`. -/
def Dev.setReg (d : Dev) (a : Nat) (v : Word) : Dev := { d with regs := spSet resetOf d.regs a v }

/-- The field `msb..lsb` of the register at `a`. -/
def Dev.fld (d : Dev) (a msb lsb : Nat) : Nat := bits (d.reg a) msb lsb

/-- Set the field `msb..lsb` of the register at `a`. -/
def Dev.setFld (d : Dev) (a msb lsb : Nat) (v : Nat) : Dev := d.setReg a (setBits (d.reg a) msb lsb v)

/-- Bit `i` of the register at `a`. -/
def Dev.rbit (d : Dev) (a i : Nat) : Bool := d.fld a i i == 1

/-- Set or clear bit `i` of the register at `a`. -/
def Dev.setBit (d : Dev) (a i : Nat) (b : Bool) : Dev := d.setFld a i i (b2n b)

/-- The 64-bit value of the pair whose low word is at `a`. -/
def Dev.reg64 (d : Dev) (a : Nat) : Nat := (d.reg a).toNat + 2 ^ 32 * (d.reg (a + 4)).toNat

/-- Set the 64-bit pair at `a`; counters wrap at 2^64. -/
def Dev.setReg64 (d : Dev) (a v : Nat) : Dev :=
  (d.setReg a (BitVec.ofNat 32 v)).setReg (a + 4) (BitVec.ofNat 32 (v / 2 ^ 32))

/-- What a write of `v` makes of the register word `old` at `a`, by the access types of its fields (Table 21-1). -/
def storedWord (a : Nat) (old v : Word) : Word :=
  match findReg a with
  | none => old
  | some r =>
    let rw := BitVec.ofNat 32 r.rw
    (((old &&& ~~~rw) ||| (clampWrite a v &&& rw)) &&& ~~~(v &&& BitVec.ofNat 32 r.w1c))

/-- A plain write of the register at `a`. -/
def Dev.storeReg (d : Dev) (a : Nat) (v : Word) : Dev := d.setReg a (storedWord a (d.reg a) v)

/-- Count `n` more in the 64-bit counter at `a`. -/
def Dev.inc64 (d : Dev) (a n : Nat) : Dev := d.setReg64 a (d.reg64 a + n)

/-- Count `n` more in the saturating field `msb..lsb` at `a`. -/
def Dev.incSat (d : Dev) (a msb lsb n : Nat) : Dev :=
  d.setFld a msb lsb (satN (2 ^ (msb + 1 - lsb) - 1) (d.fld a msb lsb + n))

/-- The pending value of a register whose write waits for its boundary (R116, R135, R141, R186, R245, R254, R271, R275,
R281). -/
def Dev.pendingAt (d : Dev) (a : Nat) : Option Word :=
  if (mget d.shadow a).isSome then mget d.shadow a
  else if 0x80000 ≤ a ∧ a < 0x84000 then mget (mgetD d.rfe ((a - 0x80000) / 64) {}).pend a
  else if 0x210100 ≤ a ∧ a < 0x210160 then (mget d.fmn.pend ((a - 0x210100) / 4)).map (BitVec.ofNat 32 ·)
  else if 0x220100 ≤ a ∧ a < 0x220500 then
    let t := mgetD d.taps ((a - 0x220100) / 0x80) {}
    if (mget t.ringPend a).isSome then mget t.ringPend a else mget t.cfgPend a
  else if 0x238000 ≤ a ∧ a < 0x238600 ∧ 0x10 ≤ a % 256 ∧ a % 256 < 0x30 then mget (mgetD d.hkas ((a - 0x238000) / 256) {}).seqPend ((a % 256 - 0x10) / 4)
  else if (mget d.flg.copyPend a).isSome then mget d.flg.copyPend a
  else mget d.pnt.cfgPend a

/-- The value a read shows of a register: the pending value where a write waits, else the one in force (R423, log entry
25). Of WAV_TAP_CFGt only the held fields wait. -/
def Dev.shown (d : Dev) (a : Nat) : Word :=
  match d.pendingAt a with
  | some v => if 0x220100 ≤ a ∧ a < 0x220500 ∧ a % 0x80 = 0 then (d.reg a &&& ~~~(0x003F3FFE#32)) ||| (v &&& 0x003F3FFE#32) else v
  | none => d.reg a

/-- A fresh free value of width `w` (log entry 5). -/
def Dev.fresh (d : Dev) (w : Nat) : BitVec w := Config.freeValue w d.freeCtr

/-- The device after a free value has been drawn. -/
def Dev.drew (d : Dev) : Dev := { d with freeCtr := d.freeCtr + 1 }

/-- Words whose bits under `masks` are free and whose other bits are 0: what an unused entry of a table shows
(log entry 45). -/
def Dev.freeWords (d : Dev) (masks : List Word) : List Word :=
  masks.zipIdx.map (fun p => BitVec.ofNat 32 ((d.fresh (32 * masks.length)).toNat / 2 ^ (32 * p.2)) &&& p.1)

/-- Bring the device to tick `t`: while the clocks run, the time base advances by one count per tick, plus what the
slew of CLK_RATE_ADJ carries (R30, R31). A tick already past changes nothing. -/
def Dev.advanceTo (d : Dev) (t : Nat) : Dev :=
  if d.clk.running && d.now < t then
    let n := t - d.now
    let total := d.clk.frac + signed 32 (d.reg R.CLK_RATE_ADJ).toNat * n
    let carry := total.tdiv 1000000000
    { d with
      now := t
      clk := { d.clk with
        timeBase := BitVec.ofInt 64 ((d.clk.timeBase.toNat : Int) + n + carry)
        frac := total - carry * 1000000000 } }
  else d

/-- The time base value. -/
def Dev.time (d : Dev) : Nat := d.clk.timeBase.toNat

/-- The device state is one of those listed. -/
def Dev.inState (d : Dev) (l : List DevState) : Bool := l.contains d.top.state

/-- The device ranges. -/
def Dev.ranging (d : Dev) : Bool := d.top.state == .ranging

/-- Blocks other than the Canary act: the device has left RESET and its clocks run. -/
def Dev.alive (d : Dev) : Bool := d.clk.running && d.top.state != .reset

/-- DEV_ID as sampled (Table 03-10). -/
def Dev.devId (d : Dev) : Nat := d.fld R.HDF_STRAPS 4 1

/-- DRAM or Hoist has failed (R9). -/
def Dev.hoistFailed (d : Dev) : Bool := d.top.removed.contains .hoist

/-- Some unit is removed by a class D fault (Table 01-4). -/
def Dev.degraded (d : Dev) : Bool := !d.top.removed.isEmpty

/-- Remove a unit from service (R17, class D). -/
def Dev.removeUnit (d : Dev) (u : UnitId) : Dev :=
  { d with top := { d.top with
      removed := if d.top.removed.contains u then d.top.removed else d.top.removed ++ [u]
      rejoining := d.top.rejoining.filter (· != u) } }

/-- Put a unit back in service (R18). -/
def Dev.reinstateUnit (d : Dev) (u : UnitId) : Dev :=
  { d with top := { d.top with
      removed := d.top.removed.filter (· != u)
      rejoining := d.top.rejoining.filter (· != u) } }

/-- The unit is removed. -/
def Dev.isRemoved (d : Dev) (u : UnitId) : Bool := d.top.removed.contains u

/-- A supply is outside its range (R438). -/
def Dev.supplyBad (d : Dev) (x : Supply) : Bool := d.top.suppliesBad.contains x

/-- A supply leaves its range. -/
def Dev.supplyOut (d : Dev) (x : Supply) : Dev :=
  { d with top := { d.top with suppliesBad := if d.supplyBad x then d.top.suppliesBad else d.top.suppliesBad ++ [x] } }

/-- The serial links' supplies are in range (Table 22-5). -/
def Dev.serialOk (d : Dev) : Bool := !d.supplyBad .ser && !d.supplyBad .aser

/-- Channel `c` is removed, alone or with its quadrant (R145, R146). -/
def Dev.chRemoved (d : Dev) (c : Nat) : Bool := d.isRemoved (.channel c) || d.isRemoved (.quadrant (c / 64))

/-- A quotient whose rounding the spec leaves open (log entry 28). -/
def openQuot (num : Int) (den : Nat) : Int :=
  let q := num / (den : Int)
  if num % (den : Int) ≠ 0 ∧ Config.roundUp num.natAbs den then q + 1 else q

/-! The fault log (R410, R411). -/

/-- The valid entry of `code` that is not cleared. -/
def openEntry (log : Map LogEntry) (code : Nat) : Option (Nat × LogEntry) :=
  log.find? (fun p => p.2.code == code && !p.2.cleared)

/-- The oldest of some entries. -/
def oldestEntry (l : Map LogEntry) : Option Nat :=
  (l.foldl (fun (b : Option (Nat × Nat)) p => match b with
    | none => some (p.1, p.2.order)
    | some (i, o) => if p.2.order < o then some (p.1, p.2.order) else some (i, o)) none).map (·.1)

/-- The entry a new fault takes: the lowest free one, else the oldest cleared, else the oldest of class N (R410). -/
def logSlot (log : Map LogEntry) : Option Nat :=
  match (List.range 256).find? (fun i => (mget log i).isNone) with
  | some i => some i
  | none => match oldestEntry (log.filter (fun p => p.2.cleared)) with
    | some i => some i
    | none => oldestEntry (log.filter (fun p => p.2.cls == .n))

/-- Log a fault (R410). An entry of the same code that is not cleared counts on; else the fault takes an entry; when
none can be taken FLG_CNT_LOST counts it and log_full is set. -/
def Dev.logFault (d : Dev) (code : Nat) (cls : FClass) (active : Bool := false) (retained : Bool := false) : Dev :=
  let tb := d.time % 2 ^ 48
  match openEntry d.flg.log code with
  | some (i, e) =>
    { d with flg := { d.flg with
        log := mput d.flg.log i { e with count := satN 255 (e.count + 1), last := tb, active := active || e.active } } }
  | none => match logSlot d.flg.log with
    | some i =>
      { d with flg := { d.flg with
          log := mput d.flg.log i { code := code, cls := cls, active := active, retained := retained, count := 1,
                                    first := tb, last := tb, order := d.flg.order }
          order := d.flg.order + 1
          newest := i } }
    | none =>
      let d := if cls == .h then { d with top := { d.top with unloggedCauses := code :: d.top.unloggedCauses } } else d
      (d.inc64 R.FLG_CNT_LOST 1).setBit R.FLG_STATUS 9 true

/-- The cause of `code` is no longer present: its entries show active = 0 (Table 20-2). -/
def Dev.causeGone (d : Dev) (code : Nat) : Dev :=
  { d with flg := { d.flg with
      log := d.flg.log.map (fun p => if p.2.code == code then (p.1, { p.2 with active := false }) else p) } }

/-- The code is cleared in the fault log: every valid entry of it has cleared = 1 (R411). -/
def Dev.faultCleared (d : Dev) (code : Nat) : Bool :=
  d.flg.log.all (fun p => p.2.code != code || p.2.cleared)

/-- Some entry of the code is active. -/
def Dev.faultActive (d : Dev) (code : Nat) : Bool := d.flg.log.any (fun p => p.2.code == code && p.2.active)

/-! The journal (R414, R415). -/

/-- Write one journal entry, before the write takes effect (R414). -/
def Dev.journal (d : Dev) (src addr : Nat) (old new : Word) (ignored window : Bool) : Dev :=
  let seq := d.flg.jseq + 1
  let e : JEntry := { time := d.time, addr := addr, old := old, new := new, source := src,
                      flags := b2n ignored + 2 * b2n window, seq := seq }
  let w := d.flg.jwr
  { d with flg := { d.flg with
      ring := mput d.flg.ring w e
      jseq := seq
      jwr := (w + 1) % 1024
      wrapped := d.flg.wrapped || w + 1 == 1024
      copyQueue := if d.rbit R.FLG_JCOPY_CTRL 0 && d.rbit R.HOI_STATUS 0 && !d.hoistFailed then d.flg.copyQueue ++ [e] else d.flg.copyQueue } }

/-- A requester's own registers and snapshots (R425, R426). -/
def Dev.req (d : Dev) (src : Nat) : Requester := mgetD d.mgt.reqs src {}

/-- Change a requester's own state. -/
def Dev.onReq (d : Dev) (src : Nat) (f : Requester → Requester) : Dev :=
  { d with mgt := { d.mgt with reqs := mput d.mgt.reqs src (f (d.req src)) } }

/-- Set sticky bits of the requester's MGT_STATUS (R425). -/
def Dev.sticky (d : Dev) (src : Nat) (bitNo : Nat) : Dev :=
  d.onReq src (fun r => { r with status := r.status ||| (1#32 <<< bitNo) })

/-- What the interface answers to an access: the status of Table 21-2. -/
def Dev.respond (d : Dev) (src : Nat) (status : Nat) : Dev :=
  let d := d.onReq src (fun r => { r with lastStatus := status })
  let d := if status = 5 then d.sticky src 2 else if status = 6 then d.sticky src 1
    else if status = 7 then d.sticky src 3 else if status = 3 then d.sticky src 4 else d
  if status = 1 ∨ status = 3 ∨ status = 4 ∨ status = 7 then d.incSat (R.MGT_CNT_ERR src) 31 0 1 else d

/-- A read of a window that Table 20-4 charges to activity `act`: with an allocation of 0 it ends with status 0x07 and
returns 0 (R424). -/
def Dev.budgetRead (d : Dev) (src act : Nat) (eff : Dev → Dev) : Dev :=
  if d.reg (R.FMN_ALLOC act) = 0 then (d.onReq src (fun r => { r with lastData := [0#32] })).respond src 7 else eff d

/-- The command register at `a` reads busy or running (0b11), so a write is not accepted (R423). LMP_FUSE_CMD keeps its
status in [11:10], every other command register in [9:8]. Where 0b11 means pending or waiting, the block's own rule judges
the write (R14, R275, R283, R289; log entry 29). -/
def Dev.cmdBusy (d : Dev) (a : Nat) : Bool :=
  if a = R.TOP_CMD ∨ a = R.WAV_CMD ∨ a = R.FLT_CMD ∨ a = R.HKA_CMD then false
  else if a = R.LMP_FUSE_CMD then d.fld a 11 10 == 3 else d.fld a 9 8 == 3

/-- The accepted command word as the register shows it: the written word's opcode and operand bits in `keep`, with
status and reason (Table 21-1). -/
def cmdWord (w : Word) (keep : Nat) (status reason : Nat) : Word :=
  (w &&& BitVec.ofNat 32 keep) ||| BitVec.ofNat 32 (status * 256 + reason * 65536)

/-- One management write of the word at `a` by requester `src` (R414, R423, R43): journaled with the value it showed
before, and refused in HEADFRAME with status 0x02. `eff` is what an accepted write does. -/
def Dev.regWrite (d : Dev) (src a : Nat) (w : Word) (eff : Dev → Dev) : Dev :=
  if !d.alive then d
  else
    let d := d.incSat (R.MGT_CNT_WR src) 31 0 1
    if d.top.state == .headframe then (d.journal src a (d.shown a) w true false).respond src 2
    else (eff (d.journal src a (d.shown a) w false false)).respond src 0

/-- One management write that its target ignores (R414): journaled with flag [0], answered as an accepted one. -/
def Dev.ignoredWrite (d : Dev) (src a : Nat) (w : Word) (window : Bool) : Dev :=
  if !d.alive then d
  else ((d.incSat (R.MGT_CNT_WR src) 31 0 1).journal src a (d.shown a) w true window).respond src (if d.top.state == .headframe then 2 else 0)

/-- One management write of a command register: refused with status 0x03 while it reads busy
(R423). -/
def Dev.cmdWrite (d : Dev) (src a : Nat) (w : Word) (eff : Dev → Dev) : Dev :=
  if d.alive && d.top.state != .headframe && d.cmdBusy a then
    ((d.incSat (R.MGT_CNT_WR src) 31 0 1).journal src a (d.reg a) w true false).respond src 3
  else d.regWrite src a w eff

end Sys2Proof.Machine
end

