-- ==== Sys2Proof/Machine/PntOps.lean ====
section
/-! DEFINITION. Streams and their queues (R236 to R242): what every producer of records uses. -/
namespace Sys2Proof.Machine

/-- The stream composes and sends (Table 11-11). -/
def Dev.streamOn (d : Dev) (n : Nat) : Bool := d.rbit (R.PNT_STREAM_CFG n) 0
/-- The stream's primary output is an Ixhal lane. -/
def Dev.streamLaneEn (d : Dev) (n : Nat) : Bool := d.rbit (R.PNT_STREAM_CFG n) 5
/-- The stream's primary lane. -/
def Dev.streamLane (d : Dev) (n : Nat) : Nat := d.fld (R.PNT_STREAM_CFG n) 4 2

/-- Ixhal lane `n`. -/
def Dev.lane (d : Dev) (n : Nat) : Lane := mgetD d.lanes n {}

/-- Change lane `n`. -/
def Dev.onLane (d : Dev) (n : Nat) (f : Lane → Lane) : Dev := { d with lanes := mput d.lanes n (f (d.lane n)) }

/-- Lane `n` is up: in UP and locked (R340, R241). -/
def Dev.laneUp (d : Dev) (n : Nat) : Bool := (d.lane n).st == .up && (d.lane n).locked

/-- The queue of stream `n`. -/
def Dev.queue (d : Dev) (n : Nat) : List PntRec := mgetD d.pnt.queues n []

/-- A record enters the queue of stream `n` with the stream's next number (R238). -/
def Dev.enqueue (d : Dev) (n : Nat) (r : PntRec) : Dev :=
  let seq := (d.reg (R.PNT_STREAM_SEQ n)).toNat
  let d := { d with pnt := { d.pnt with queues := mput d.pnt.queues n (d.queue n ++ [{ r with seq := seq, at_ := d.now }]) } }
  d.setReg (R.PNT_STREAM_SEQ n) (BitVec.ofNat 32 (seq + 1))

/-- A gap record of stream `n` (R242). -/
def Dev.gap (d : Dev) (n count reason : Nat) : Dev :=
  if !d.streamOn n then d
  else d.enqueue n { kind := 2
                     body := leBytes 4 (satN 0xFFFFFFFF count) ++ leBytes 1 reason ++ leBytes 3 0 ++ leBytes 4 (d.reg R.SEQ_FRAME).toNat ++ leBytes 4 (d.time % 2 ^ 32) }

/-- A Bulk item enters its stream; on a disabled stream it takes no number and goes nowhere (R238). -/
def Dev.bulk (d : Dev) (n kind : Nat) (body : List Byte) : Dev :=
  if d.streamOn n then d.enqueue n { kind := kind, body := body } else d

/-- A Bulk producer drops an item of stream `n`: it is counted towards the gap record that will report it (R241). -/
def Dev.bulkDrop (d : Dev) (n : Nat) : Dev :=
  if d.streamOn n then { d with pnt := { d.pnt with drops := mupd d.pnt.drops n 0 (· + 1) } } else d

end Sys2Proof.Machine
end

