-- ==== Sys2Proof/Machine/WavOps.lean ====
section
/-! DEFINITION. Waveform taps: triggers and states (R261 to R268), shared with the blocks that raise triggers. -/
namespace Sys2Proof.Machine

/-- Tap `t`. -/
def Dev.tap (d : Dev) (t : Nat) : Tap := mgetD d.taps t {}
/-- Change tap `t`. -/
def Dev.onTap (d : Dev) (t : Nat) (f : Tap → Tap) : Dev := { d with taps := mput d.taps t (f (d.tap t)) }

/-- The channel tap `t` selects (R258). -/
def Dev.tapChannel (d : Dev) (t : Nat) : Nat := 64 * (t / 2) + d.fld (R.WAV_TAP_CFG t) 6 1

/-- The trigger sample of a trigger time: the first sample whose fine time 16 k is at or after it (R265). -/
def trigSample (tick fine : Nat) : Nat := cdiv (32 * tick + fine) 16

/-- One missed trigger of a reason is added to the tap's pending gap count (R264, R272). -/
def Dev.wavGap (d : Dev) (t reason : Nat) : Dev :=
  if d.rbit (R.WAV_TAP_CFG t) 14 then
    d.onTap t (fun q => { q with gaps := match mget q.gaps reason with
      | some (n, f, b) => mput q.gaps reason (n + 1, f, b)
      | none => mput q.gaps reason (1, (d.reg R.SEQ_FRAME).toNat, d.time) })
  else d

/-- A trigger reaches tap `t` (R264): ignored and counted when IDLE, in re-arm or while a flush waits, queued for the
decision when ARMED, counted in the record's extra field when its sample lies in the record being captured. -/
def Dev.trigger (d : Dev) (t : Nat) (x : Trig) : Dev :=
  let q := d.tap t
  if !d.rbit (R.WAV_TAP_TRIG t) x.source then d
  else match q.st with
  | .idle => d.inc64 (R.WAV_CNT_IGN t) 1
  | .rearm => (d.inc64 (R.WAV_CNT_IGN t) 1).wavGap t 1
  | .armed => if q.flushing then (d.inc64 (R.WAV_CNT_IGN t) 1).wavGap t 1 else d.onTap t (fun q => { q with trigs := q.trigs ++ [x] })
  | .capturing => d.onTap t (fun q => { q with cap := q.cap.map (fun r => { r with extra := satN 255 (r.extra + 1) }) })

/-- Triggers of source 0 or 2 for a shot of emitter `e` (Table 13-3): every tap whose WAV_TAP_EMIT holds the emitter, and
for source 2 whose channel the window opens on. -/
def Dev.shotTrigger (d : Dev) (source e tick shot cell : Nat) (chs : List Nat) : Dev :=
  (List.range 8).foldl (fun d t =>
    if (d.reg (R.WAV_TAP_EMIT t)).getLsbD e && (source == 0 || chs.contains (d.tapChannel t)) then
      d.trigger t { source := source, tick := tick + d.fld (R.WAV_TAP_TRIG t) 31 16, shot := shot, cell := cell }
    else d) d

/-- The Canary demand reaches every tap (source 4). -/
def Dev.demandTrigger (d : Dev) : Dev := (List.range 8).foldl (fun d t => d.trigger t { source := 4, tick := d.now }) d

/-- The fields of WAV_TAP_CFGt that are held pending (Table 13-9). -/
def tapHeld : Word := 0x003F3FFE#32

/-- What a pending write makes of the register at `a`: of WAV_TAP_CFGt only the held fields. -/
def Dev.tapMerged (d : Dev) (a : Nat) (v : Word) : Word :=
  if a % 0x80 = 0 then (d.reg a &&& ~~~tapHeld) ||| (v &&& tapHeld) else v

/-- Pending configuration of tap `t` takes effect and a re-arm of 64 samples starts (R271). -/
def Dev.tapApply (d : Dev) (t : Nat) : Dev :=
  let l := (d.tap t).cfgPend
  if l.isEmpty then d
  else
    let d := l.foldl (fun d p => d.setReg p.1 (d.tapMerged p.1 p.2)) d
    d.onTap t (fun q => { q with
      cfgPend := []
      st := if q.st == .armed then .rearm else q.st
      trigs := []
      rearmEnd := Nat.max q.rearmEnd (2 * d.now + 64)
      refill := 2 * d.now })

/-- A re-arm of 64 samples begins at the present tick. -/
def Dev.tapRearm (d : Dev) (t : Nat) : Dev :=
  d.onTap t (fun q => { q with st := .rearm, rearmEnd := 2 * d.now + 64, trigs := [] })

/-- Hoist is trained and serves requests (Table 16-10). -/
def Dev.hoistServing (d : Dev) : Bool := d.rbit R.HOI_STATUS 0 && !d.hoistFailed

/-- Tap `t` goes to IDLE; a record in capture or in writing is given up. -/
def Dev.tapIdle (d : Dev) (t : Nat) : Dev :=
  if (mget d.taps t).isSome then d.onTap t (fun q => { q with st := .idle, trigs := [], cap := none, writing := none, primed := false }) else d

/-- Every tap goes to IDLE because Hoist serves no memory (R261). -/
def Dev.tapsDown (d : Dev) : Dev := (List.range 8).foldl (fun d t => d.tapIdle t) d

/-- A tap may run: enabled, in ARMED, RANGING or HELD, with Hoist serving (Table 13-2). -/
def Dev.tapMayRun (d : Dev) (t : Nat) : Bool :=
  d.rbit (R.WAV_TAP_CFG t) 0 && d.inState [.armed, .ranging, .held] && d.hoistServing && !(d.tap t).dead

/-- An idle tap that may run enters REARM for 64 samples (R261, R262). -/
def Dev.tapUp (d : Dev) (t : Nat) : Dev :=
  if (d.tap t).st == .idle && d.tapMayRun t then d.onTap t (fun q => { q with st := .rearm, rearmEnd := 2 * d.now + 64, refill := 2 * d.now, trigs := [], recent := [], primed := false })
  else d

/-- Every tap that may run leaves IDLE. -/
def Dev.tapsUp (d : Dev) : Dev := (List.range 8).foldl (fun d t => d.tapUp t) d

end Sys2Proof.Machine
end

