-- ==== Sys2Proof/Machine/SeqOps.lean ====
section
/-! DEFINITION. The sequencer's shared operations: memory bytes, scan program entries (R61, R62), audit records (R89,
R90), withheld runs (R76), the issue bucket (R70), blocks (R77) and the squash (R79, R80). -/
namespace Sys2Proof.Machine

/-- The region of the model's own addresses that holds the assay I memories; an unwritten I word reads all ones
(log entry 4). -/
def memIBase : Nat := 2 ^ 32

/-- What an unlisted byte of on-chip memory reads as. -/
def memDflt (a : Nat) : Byte := if memIBase ≤ a ∧ a < memIBase + 16 * 65536 then 0xFF#8 else 0#8

/-- One byte of on-chip memory. -/
def memByte (m : List Host.Cell) (a : Nat) : Byte := spGet memDflt m a

/-- `n` bytes of on-chip memory from `a`, as a little-endian number. -/
def memLe (m : List Host.Cell) (a : Nat) : Nat → Nat
  | 0 => 0
  | n + 1 => (memByte m a).toNat + 256 * memLe m (a + 1) n

/-- Write one byte of on-chip memory, keeping the canonical form. -/
def memSet (m : List Host.Cell) (a : Nat) (b : Byte) : List Host.Cell := spSet memDflt m a b

/-- Write consecutive bytes. -/
def memSetBytes (m : List Host.Cell) (a : Nat) : List Byte → List Host.Cell
  | [] => m
  | b :: r => memSetBytes (memSet m a b) (a + 1) r

/-- What an unlisted DRAM byte reads as (log entry 4). -/
def dramDflt (_ : Nat) : Byte := 0#8

/-- `n` bytes of DRAM from `a`, as a little-endian number. -/
def dramLe (m : List Host.Cell) (a : Nat) : Nat → Nat
  | 0 => 0
  | n + 1 => (spGet dramDflt m a).toNat + 256 * dramLe m (a + 1) n

/-- Write consecutive DRAM bytes, keeping the canonical form. -/
def dramSetBytes (m : List Host.Cell) (a : Nat) : List Byte → List Host.Cell
  | [] => m
  | b :: r => dramSetBytes (spSet dramDflt m a b) (a + 1) r

/-- Base of the scan SRAM window (Table 01-8). -/
def scanBase : Nat := 0x01800000
/-- Base of the histogram SRAM window. -/
def histBase : Nat := 0x01000000
/-- Base of the assay cluster SRAM window. -/
def clusterBase : Nat := 0x01C00000

/-- The fields `msb..lsb` of a number. -/
def nbits (v msb lsb : Nat) : Nat := v / 2 ^ lsb % 2 ^ (msb + 1 - lsb)

/-- A scan program entry from its 128-bit value (Table 04-1). -/
def entryOf (v : Nat) : Entry :=
  { firstCell := nbits v 23 0, count := nbits v 39 24, step := signed 8 (nbits v 47 40), mask := nbits v 79 48
    winStart := nbits v 95 80, winLen := nbits v 107 96 + 1, dwellMin := nbits v 113 108, dwellMax := nbits v 119 114
    codeSet := nbits v 122 120, steer := nbits v 124 123, stream := nbits v 126 125, lode := nbits v 127 127 == 1 }

/-- The entry is invalid (R62). -/
def Entry.invalid (e : Entry) : Bool :=
  let last := (e.firstCell : Int) + ((e.count : Int) - 1) * e.step
  e.mask == 0 || e.dwellMin == 0 || e.dwellMax == 0 || decide (e.dwellMax < e.dwellMin) ||
  (e.step == 0 && decide (1 < e.count)) || decide (last < 0) || decide (16777215 < last) || e.steer == 3

/-- The cell index of cell `i` of the run (R64). -/
def Entry.cellAt (e : Entry) (i : Nat) : Nat := ((e.firstCell : Int) + i * e.step).toNat

/-- An audit record (Table 04-6). -/
def auditRec (ty reason count id cell emitter frame : Nat) : List Byte :=
  leBytes 1 ty ++ leBytes 1 reason ++ leBytes 2 count ++ leBytes 4 id ++ leBytes 3 cell ++ leBytes 1 emitter ++ leBytes 4 frame

/-- Write an audit record into the ring and, with the stream on, into stream 12; or drop it when the ring is full
(R89, R241). -/
def Dev.audit (d : Dev) (r : List Byte) : Dev :=
  let w := d.fld R.SEQ_AUDIT_WR 9 0
  let stream := d.rbit R.SEQ_CTRL 2
  if (w + 1) % 1024 == d.fld R.SEQ_AUDIT_RD 9 0 then
    let d := if stream then d.bulkDrop 12 else d
    let d' := (d.inc64 R.SEQ_CNT_AUDIT_LOST 1).setBit R.SEQ_STATUS 2 true
    if d.rbit R.SEQ_STATUS 2 then d' else d'.logFault 0x0504 .n
  else
    let d := if stream then d.bulk 12 7 r else d
    ({ d with seq := { d.seq with auditRing := mput d.seq.auditRing w r } }).setFld R.SEQ_AUDIT_WR 9 0 ((w + 1) % 1024)

/-- Some shot of the cell is still to be issued. -/
def CellRec.left (c : CellRec) : Bool :=
  !c.cancelled && c.emitters.any (fun e => decide (mgetD c.issued e 0 < c.dwell))

/-- The emitter has a shot of the cell left to issue. -/
def CellRec.leftOf (c : CellRec) (e : Nat) : Bool := !c.cancelled && decide (mgetD c.issued e 0 < c.dwell)

/-- The cell has a slot in ISSUED or HANDED. -/
def Dev.cellLive (d : Dev) (uid : Nat) : Bool := d.seq.tally.any (fun p => p.2.uid == uid && p.2.st != .fired)

/-- The accepted cell's record, if it is still held. -/
def Dev.cellOf (d : Dev) (uid : Nat) : Option CellRec := mget d.seq.cells uid

/-- Change an accepted cell's record. -/
def Dev.onCell (d : Dev) (uid : Nat) (f : CellRec → CellRec) : Dev :=
  match mget d.seq.cells uid with
  | some c => { d with seq := { d.seq with cells := mput d.seq.cells uid (f c) } }
  | none => d

/-- The cell can change no more shots: no slot in ISSUED or HANDED and no shot left to issue. -/
def Dev.cellSettled (d : Dev) (uid : Nat) : Bool :=
  !d.cellLive uid && (match d.cellOf uid with | some c => !c.left | none => true)

/-- One maximal run of consecutive shot IDs at the head of a rising list: its length (R76, R80). -/
def runLen : List WRec → Nat
  | [] => 0
  | [_] => 1
  | a :: b :: r => if b.id = a.id + 1 ∧ b.uid = a.uid ∧ b.reason = a.reason then 1 + runLen (b :: r) else 1

/-- The audit record of a run of shots: type, reason and the run itself; emitter 0xFF when it holds several. -/
def runRecord (ty : Nat) (l : List WRec) : List Byte :=
  match l with
  | [] => []
  | a :: _ =>
    let em := if l.all (fun w => w.emitter == a.emitter) then a.emitter else 255
    auditRec ty a.reason l.length a.id a.cell em a.frame

/-- Write the records of every maximal run of a rising list of shots. -/
def Dev.auditRuns (ty : Nat) : Nat → Dev → List WRec → Dev
  | 0, d, _ => d
  | _, d, [] => d
  | n + 1, d, l => Dev.auditRuns ty n (d.audit (runRecord ty (l.take (runLen l)))) (l.drop (runLen l))

/-- A withheld run may be written: the next shot ID is not withheld for the same reason in the same cell, or the cell
has no shot left (R76). -/
def Dev.runClosed (d : Dev) (w : WRec) (len : Nat) : Bool :=
  let x := w.id + len
  if d.cellSettled w.uid then true
  else match d.seq.tally.find? (fun p => p.2.shotId == x) with
    | some p => p.2.uid != w.uid || p.2.st == .fired
    | none => decide (x < (d.reg R.SEQ_NEXT_ID).toNat)

/-- Split the withheld shots into runs, write those that are closed, keep the others (R76). -/
def Dev.flushRunsGo : Nat → Dev → List WRec → List WRec → Dev × List WRec
  | 0, d, l, keep => (d, keep ++ l)
  | _, d, [], keep => (d, keep)
  | n + 1, d, a :: r, keep =>
    let l := a :: r
    let k := runLen l
    if d.runClosed a k then Dev.flushRunsGo n (d.audit (runRecord 2 (l.take k))) (l.drop k) keep
    else Dev.flushRunsGo n d (l.drop k) (keep ++ l.take k)

/-- Write the audit record of every withheld run that is due (R76). -/
def Dev.flushRuns (d : Dev) : Dev :=
  let (d, keep) := Dev.flushRunsGo d.seq.withheld.length d d.seq.withheld []
  { d with seq := { d.seq with withheld := keep } }

/-- Insert a withheld shot in ID order. -/
def insertW (w : WRec) : List WRec → List WRec
  | [] => [w]
  | a :: r => if w.id < a.id then w :: a :: r else a :: insertW w r

/-! The issue bucket (R70). -/

/-- Walk the bucket over rising consumption ticks: a token at every multiple of 25, at most 4 held, one consumed at
each tick; false when a consumption finds none. -/
def bucketOk (tick level : Nat) : List Nat → Bool
  | [] => true
  | c :: r =>
    let l := satN 4 (level + (c / 25 - tick / 25))
    if l = 0 then false else bucketOk c (l - 1) r

/-- The bucket after the consumptions up to tick `t` are gone. -/
def bucketPrune (t tick level : Nat) : List Nat → Nat × Nat × List Nat
  | [] => (tick, level, [])
  | c :: r => if c ≤ t then bucketPrune t c (satN 4 (level + (c / 25 - tick / 25)) - 1) r else (tick, level, c :: r)

/-- Insert a tick in rising order. -/
def insertTick (t : Nat) : List Nat → List Nat
  | [] => [t]
  | a :: r => if t < a then t :: a :: r else a :: insertTick t r

/-- The earliest tick at or after `x` at which one more consumption leaves the bucket non-negative at every tick. -/
def bucketFind (tick level : Nat) (resv : List Nat) : Nat → Nat → Nat
  | 0, x => x
  | n + 1, x => if bucketOk tick level (insertTick x resv) then x else bucketFind tick level resv n ((x / 25 + 1) * 25)

/-- Reserve a decision tick at or after `x` (R70). -/
def SeqState.reserve (q : SeqState) (x : Nat) : Nat × SeqState :=
  let far := (q.resv.getLast?.getD x)
  let t := bucketFind q.bucketTick q.bucketLevel q.resv ((far - x) / 25 + 8) x
  (t, { q with resv := insertTick t q.resv })

/-- Release the reservation of a squashed shot without consuming (R70). -/
def SeqState.release (q : SeqState) (t : Nat) : SeqState := { q with resv := q.resv.erase t }

/-- The decisions up to `t` have consumed their tokens. -/
def SeqState.consume (q : SeqState) (t : Nat) : SeqState :=
  let (a, b, r) := bucketPrune t q.bucketTick q.bucketLevel q.resv
  { q with bucketTick := a, bucketLevel := b, resv := r }

/-- The handover edge H of a decision tick: the last CK_CTL edge at or before D − 4 (Table 04-2). -/
def handEdge (dec : Nat) : Nat := (dec - 4) / 4 * 4

/-! Blocks (R77). -/

/-- Close the open block of emitter `e` at the cell, at tick `t`. -/
def Dev.closeBlock (d : Dev) (uid e t : Nat) : Dev :=
  match d.cellOf uid with
  | none => d
  | some c => match mget c.blocks e with
    | none => d
    | some (sq, _) =>
      let d := d.onCell uid (fun c => { c with blocks := mdel c.blocks e })
      { d with gat := { d.gat with blocks := d.gat.blocks.map (fun b =>
          if b.emitter == e && b.seq == sq && b.uid == uid && b.closedAt.isNone
          then { b with closedAt := some t, x := Nat.max t b.lastClose } else b) } }

/-- Close every open block of the cell whose emitter has no slot in ISSUED or HANDED and no shot left (R77). -/
def Dev.closeBlocks (d : Dev) (uid t : Nat) : Dev :=
  match d.cellOf uid with
  | none => d
  | some c => c.blocks.foldl (fun d p =>
      if d.seq.tally.any (fun q => q.2.uid == uid && q.2.emitter == p.1 && q.2.st != .fired) || c.leftOf p.1 then d
      else d.closeBlock uid p.1 t) d

/-- Free a tally slot at tick `t`. -/
def Dev.freeSlot (d : Dev) (i t : Nat) : Dev :=
  { d with seq := { d.seq with tally := mdel d.seq.tally i, freedAt := mput d.seq.freedAt i t } }

/-- Hand over every ISSUED slot whose handover edge is at or before `t` (Table 04-2). -/
def Dev.handover (d : Dev) (t : Nat) : Dev :=
  { d with seq := { d.seq with tally := d.seq.tally.map (fun p =>
      if p.2.st == .issued && decide (handEdge p.2.dec ≤ t) then (p.1, { p.2 with st := .handed }) else p) } }

/-- Squash the accepted cell at CK_CTL edge `e` with audit reason `reason`: its ISSUED slots (those whose handover
edge is later than `e`) return to FREE, its shots not yet issued are cancelled, runs are recorded, the pool grows, its
open blocks close (R79, R80). -/
def Dev.squash (d : Dev) (uid e reason : Nat) : Dev :=
  let d := d.handover e
  let hit := d.seq.tally.filter (fun p => p.2.uid == uid && p.2.st == .issued)
  let recs := hit.foldl (fun l p => insertW { id := p.2.shotId, reason := reason, uid := uid, cell := p.2.cell, emitter := p.2.emitter, frame := p.2.frame } l) ([] : List WRec)
  let d := hit.foldl (fun d p => { (d.freeSlot p.1 e) with seq := ((d.freeSlot p.1 e).seq).release p.2.dec }) d
  let d := d.onCell uid (fun c => { c with cancelled := true, flagHeld := false })
  let d := d.inc64 R.SEQ_CNT_SQUASHED hit.length
  let d := Dev.auditRuns 1 recs.length d recs
  let d := d.setFld R.SEQ_STATUS 23 16 (satN 255 (d.fld R.SEQ_STATUS 23 16 + hit.length))
  (d.closeBlocks uid e).flushRuns

/-- Slots in ISSUED or HANDED, and in FIRED (Table 04-12). -/
def Dev.tallyCount (d : Dev) (fired : Bool) : Nat := (d.seq.tally.filter (fun p => (p.2.st == .fired) == fired)).length

/-- Remember the lowest number of FREE slots since the last read of SEQ_TALLY_STATUS. -/
def Dev.noteFree (d : Dev) : Dev :=
  { d with seq := { d.seq with freeMin := Nat.min d.seq.freeMin (192 - d.seq.tally.length) } }

end Sys2Proof.Machine
end

