-- ==== Sys2Proof/Machine/Budget.lean ====
section
/-! DEFINITION. The eye-safety budget windows (R103 to R106) and the inhibits of the emission gate (R99, R100). -/
namespace Sys2Proof.Machine

/-- Ticks of one unit of the short, medium and long window (R103). -/
def winUnit : Nat → Nat
  | 0 => 1
  | 1 => 1600
  | _ => 1600000

/-- The length register of window `w` of group `g`. -/
def winLenReg (g w : Nat) : Nat := 0x50400 + 0x40 * g + 4 * w

/-- The limit register (low word) of window `w` of group `g`. -/
def winLimReg (g w : Nat) : Nat := 0x50410 + 0x40 * g + 8 * w

/-- Bucket width of window `w` of group `g` in ticks: ⌈L / 64⌉ units. -/
def Dev.bucketWidth (d : Dev) (g w : Nat) : Nat := Nat.max 1 (cdiv (d.reg (winLenReg g w)).toNat 64 * winUnit w)

/-- The bucket index that holds tick `t`. -/
def Dev.bucketAt (d : Dev) (g w t : Nat) : Nat := t / d.bucketWidth g w

/-- Window `w` of group `g`. -/
def Dev.win (d : Dev) (g w : Nat) : BudgetWin := mgetD d.emt.wins (3 * g + w) {}

/-- Change window `w` of group `g`. -/
def Dev.onWin (d : Dev) (g w : Nat) (f : BudgetWin → BudgetWin) : Dev :=
  { d with emt := { d.emt with wins := mput d.emt.wins (3 * g + w) (f (d.win g w)) } }

/-- A bucket lies in the summed span at tick `t`: the current bucket and the 64 before it (R103). -/
def Dev.inSpan (d : Dev) (g w t b : Nat) : Bool := decide (b ≤ d.bucketAt g w t ∧ d.bucketAt g w t ≤ b + 64)

/-- The window's sum at tick `t` (R103). -/
def Dev.winSum (d : Dev) (g w t : Nat) : Nat :=
  (((d.win g w).buckets.filter (fun p => d.inSpan g w t p.1)).map (·.2)).sum

/-- Add energy to a bucket, dropping buckets that have left the span. -/
def Dev.addEnergy (d : Dev) (g w t b e : Nat) : Dev :=
  let keep := (d.win g w).buckets.filter (fun p => d.inSpan g w t p.1)
  d.onWin g w (fun x => { x with buckets := mupd keep b 0 (· + e) })

/-- The limit of window `w` of group `g` in force. -/
def Dev.winLim (d : Dev) (g w : Nat) : Nat := d.reg64 (winLimReg g w) % 2 ^ 48

/-- A new length comes into force: every bucket is 0 except the current one, which receives the old sum (R106). -/
def Dev.newLength (d : Dev) (g w : Nat) (v : Word) : Dev :=
  let sum := d.winSum g w d.now
  let d := d.setReg (winLenReg g w) v
  let b := d.bucketAt g w d.now
  let d := d.onWin g w (fun _ => { buckets := if sum = 0 then [] else [(b, sum)], inherited := some b })
  { d with emt := { d.emt with geom := mupd d.emt.geom (3 * g + w) 0 (· + 1) } }

/-- Nominal energy, group, steering port and flags of an emitter (Table 05-7). -/
def Dev.emitNominal (d : Dev) (e : Nat) : Nat := d.fld (R.EMT_EMIT_CFG e) 9 0
/-- Aperture group of an emitter. -/
def Dev.emitGroup (d : Dev) (e : Nat) : Nat := d.fld (R.EMT_EMIT_CFG e) 12 10
/-- Steering port of an emitter. -/
def Dev.emitSteer (d : Dev) (e : Nat) : Nat := d.fld (R.EMT_EMIT_CFG e) 14 13
/-- The emitter has no steering test. -/
def Dev.emitSteerNone (d : Dev) (e : Nat) : Bool := d.rbit (R.EMT_EMIT_CFG e) 15

/-- Set or clear an inhibit bit of EMT_STATUS at the present tick; a rise is latched in EMT_INHIBIT_STICKY and
captured by the gate on the second tick edge after it (R99, R100). -/
def Dev.setInhibit (d : Dev) (i : Nat) (on : Bool) : Dev :=
  if on then
    if d.rbit R.EMT_STATUS i then d
    else
      let d := ((d.setBit R.EMT_STATUS i true).setBit R.EMT_INHIBIT_STICKY i true)
      { d with emt := { d.emt with capAt := mput d.emt.capAt i (d.now + 2) } }
  else d.setBit R.EMT_STATUS i false

/-- The inhibit bit is set and the gate has captured it by tick `t`. -/
def Dev.captured (d : Dev) (i t : Nat) : Bool := d.rbit R.EMT_STATUS i && decide (mgetD d.emt.capAt i 0 ≤ t)

/-- The Canary demand drops EMIT_EN (R97) and inhibits the gate (Table 05-1). -/
def Dev.emitEnLow (d : Dev) : Dev :=
  let d := { d with emt := { d.emt with emitEn := false } }
  d.setInhibit 2 true

/-- EMIT_EN goes high at the present tick (R97). It stays an inhibit until it has been high for en_settle µs. -/
def Dev.emitEnHigh (d : Dev) : Dev :=
  if d.emt.emitEn then d
  else
    let d := { d with emt := { d.emt with emitEn := true, enSince := d.now } }
    if d.fld R.EMT_CTRL 15 8 = 0 then d.setInhibit 2 false else d

end Sys2Proof.Machine
end

