-- ==== Sys2Proof/Machine/CnyOps.lean ====
section
/-! DEFINITION. The Canary's parameters, its holds and its outputs (R361 to R368, R387): what every block's state change
and every Canary command uses. -/
namespace Sys2Proof.Machine

/-- First address of the CNY_PARAM window. -/
def paramBase : Nat := 0x278000

/-- The words of the working copy that are not 0. -/
def Dev.workWords (d : Dev) : List (Nat × Word) := d.regs.filter (fun p => decide (paramBase ≤ p.1 ∧ p.1 < paramBase + 0x8000))

/-- Byte `off` of a parameter block held as words. -/
def blockByte (m : List (Nat × Word)) (off : Nat) : Byte :=
  BitVec.ofNat 8 ((spGet (fun _ => (0#32 : Word)) m (paramBase + off / 4 * 4)).toNat / 256 ^ (off % 4))

/-- `n` bytes of a block as a little-endian number. -/
def blockLe (m : List (Nat × Word)) (off : Nat) : Nat → Nat
  | 0 => 0
  | n + 1 => (blockByte m off).toNat + 256 * blockLe m (off + 1) n

/-- A field of the active copy; 0 while there is none (Table 18-2). -/
def Dev.prm (d : Dev) (off n : Nat) : Nat := match d.cny.active with | some m => blockLe m off n | none => 0

/-- The safety mode in force: the value sampled at reset (R366). -/
def Dev.safetyMode (d : Dev) : Nat := d.cny.swReset / 2 % 4

/-- The mode includes the input functions of types 1 to 5 (Table 18-1). -/
def Dev.inputMode (d : Dev) : Bool := d.safetyMode % 2 == 1

/-- The mode includes native: field evaluation and motion limits (Table 18-1). -/
def Dev.nativeMode (d : Dev) : Bool := decide (2 ≤ d.safetyMode)

/-- A safety hold lasts (R362): a seal switch asks for it, the mode switches differ from reset, or the parameters are
not confirmed (R366, R368, R369). -/
def Dev.safetyHold (d : Dev) : Bool :=
  d.cny.sw % 2 == 1 || 8 ≤ d.cny.sw || d.cny.modeChanged || (d.safetyMode != 0 && (d.cny.paramHold || d.cny.commHold))

/-- A lockout lasts (R362, R378, R379, R381). -/
def Dev.lockout (d : Dev) : Bool := !d.cny.locks.isEmpty

/-- A Canary demand is raised (R363). -/
def Dev.demanding (d : Dev) : Bool := d.cny.clockFault || d.cny.heartbeat || d.cny.mismatch

/-- FAULT_n is driven low (R362, R364, R441). -/
def Dev.faultLow (d : Dev) : Bool :=
  d.top.state != .reset && !d.cny.lost && (d.safetyHold || d.lockout || d.demanding || d.inState [.headframe, .held])

/-- The entry of input `k` (R372): offset `o`, `n` bytes. -/
def Dev.inputField (d : Dev) (k o n : Nat) : Nat := d.prm (0x100 + 16 * k + o) n

/-- The function of input `k`. -/
def Dev.cnyFn (d : Dev) (k : Nat) : CnyFn := mgetD d.cny.fns k {}

/-- The set entry `s` of the active copy, offset `o`, `n` bytes (R383). -/
def Dev.setField (d : Dev) (s o n : Nat) : Nat := d.prm (0x200 + 16 * s + o) n

/-- Set `s` is muted (R393). -/
def Dev.setMuted (d : Dev) (s : Nat) : Bool := match d.cny.mute with | some (_, m, _) => m.testBit s | none => false

/-- A protective field of a set that is not muted holds pair `p` off (R382, R393). -/
def Dev.fieldsOff (d : Dev) (p : Nat) : Bool := d.cny.offSets.any (fun s => (d.setField s 1 1).testBit p && !d.setMuted s)

/-- Function `k` is muted (R393). -/
def Dev.fnMuted (d : Dev) (k : Nat) : Bool := match d.cny.mute with | some (f, _, _) => f.testBit k | none => false

/-- Function `k` is released, or muted, or has no state of its own (Table 18-4). -/
def Dev.fnReleased (d : Dev) (k : Nat) : Bool :=
  let ty := d.inputField k 0 1
  ty == 0 || ty == 5 || d.fnMuted k || (!(d.cnyFn k).demand && !(d.cnyFn k).locked)

/-- Every function whose mask holds pair `p` is released or muted; `two` leaves the two-hand functions out. -/
def Dev.inputsAllow (d : Dev) (p : Nat) (two : Bool) : Bool :=
  !d.inputMode || (List.range 8).all (fun k =>
    !(d.inputField k 4 1).testBit p || (two && d.inputField k 0 1 == 3) || d.fnReleased k)

/-- Axis `j` holds pair `p` off: two consecutive computations were violated (R378). -/
def Dev.axisOff (d : Dev) (j p : Nat) : Bool :=
  let x := mgetD d.cny.axes j {}
  (d.prm (0x400 + 32 * j + 24) 1).testBit 0 && (d.prm (0x400 + 32 * j + 11) 1).testBit p && x.viol && x.prev

/-- The conditions of R387 for pair `p`; `two` leaves the two-hand functions out. -/
def Dev.ossdMay (d : Dev) (p : Nat) (two : Bool) : Bool :=
  d.safetyMode != 0 && !d.cny.lost && !d.safetyHold && !d.lockout && !d.demanding && d.inState [.armed, .ranging] &&
  d.inputsAllow p two &&
  (!d.nativeMode || (!d.axisOff 0 p && !d.axisOff 1 p && !d.fieldsOff p))

/-- Pair `p` restarts manually (Table 18-2). -/
def Dev.manualPair (d : Dev) (p : Nat) : Bool := (d.prm 0x14 1).testBit p

/-- Switch pair `p` (R386, R388). -/
def Dev.ossdSwitch (d : Dev) (p : Nat) (on : Bool) : Dev :=
  if d.cny.ossdOn.getD p false == on then d
  else { d with cny := { d.cny with ossdOn := d.cny.ossdOn.set p on, switched := d.cny.switched.set p (some d.cny.rc) } }

/-- Turn off what R387 no longer allows; a pair that something other than a two-hand function holds off waits for a
restart (R376, R387). -/
def Dev.ossdDrop (d : Dev) : Dev :=
  [0, 1].foldl (fun (d : Dev) p =>
    let d := if d.ossdMay p false then d else d.ossdSwitch p false
    if d.ossdMay p true then d else { d with cny := { d.cny with wait := d.cny.wait.set p true } }) d

/-- EMIT_EN follows R97. -/
def Dev.emitEnFollow (d : Dev) : Dev :=
  if (d.ranging || d.emt.calFire) && !d.demanding && !d.cny.lost then d.emitEnHigh
  else if d.emt.emitEn then d.emitEnLow else d

/-- The Canary's demand on the gate ends when the device is not in HELD and no demand is raised (R101, R362). -/
def Dev.demandFollow (d : Dev) : Dev :=
  if d.emt.demand && d.top.state != .held && !d.demanding then
    ({ d with emt := { d.emt with demand := false, heldCapture := none } }).setInhibit 1 false
  else d

/-- Network B of the safety messages is Ixhal lane 0 (Table 18-2). -/
def Dev.netB (d : Dev) : Bool := d.prm 0x11 1 == 1

/-- The Canary's outputs after a change (R97, R362, R387). -/
def Dev.safetyFollow (d : Dev) : Dev := d.demandFollow.emitEnFollow.ossdDrop

/-- Set `s` matches the motion of axis 0 (R383, R384). -/
def Dev.setMatches (d : Dev) (s : Nat) : Bool :=
  let v := (mgetD d.cny.axes 0 {}).speed2
  let lo := signed 16 (d.setField s 2 2) * 1310720
  let hi := signed 16 (d.setField s 4 2) * 1310720
  let dir := d.setField s 6 1
  decide (s < 32 ∧ lo ≤ v ∧ v ≤ hi) && (dir == 0 || (dir == 1 && decide (0 ≤ v)) || (dir == 2 && decide (v < 0)))

/-- The set R384 chooses for a new frame, and whether it is the fallback. -/
def Dev.chooseSet (d : Dev) : Nat × Bool :=
  let fb := (d.prm 0x13 1, true)
  match d.prm 0x12 1 with
  | 0 => match (List.range 32).find? (fun s => d.setMatches s) with | some s => (s, false) | none => fb
  | 1 => match d.cny.msgSet with | some s => if s < 32 then (s, false) else fb | none => fb
  | _ => match d.cny.msgSet with | some s => if d.setMatches s then (s, false) else fb | none => fb

/-- A frame boundary as the Canary sees it (R380, R382, R384): the former frame's period is judged and the new frame's
set chosen. -/
def Dev.cnyBoundary (d : Dev) (num : Nat) : Dev :=
  if !d.nativeMode || d.cny.active.isNone || d.cny.lost then d
  else
    let late := d.cny.frames.any (fun f => f.next.isNone && !f.late && decide (f.start + 1600 * d.prm 0x0C 4 < d.now))
    let d := if late then d.logFault 0x1808 .n else d
    let (s, fb) := d.chooseSet
    let sets := match d.cny.set with | some o => if s = o then [s] else [s, o] | none => [s]
    let upd := fun (f : FieldFrame) =>
      if f.next.isSome then f
      else { f with next := some d.now, late := f.late || decide (f.start + 1600 * d.prm 0x0C 4 < d.now) }
    { d with cny := { d.cny with
        frames := d.cny.frames.map upd ++ [{ num := num, start := d.now, sets := sets, whole := d.ranging }]
        set := some s, fallback := fb, overlap := decide (1 < sets.length) } }

/-- Leaving RANGING: the open frames were not in RANGING throughout (R382). -/
def Dev.cnyLeave (d : Dev) : Dev :=
  { d with cny := { d.cny with frames := d.cny.frames.map (fun f => if f.next.isNone then { f with whole := false } else f) } }

/-- The point tap (R379): an accepted record whose cell lies in the safety range enters the queue, or finds it full. -/
def Dev.pointTap (d : Dev) (frame cell : Nat) (body : List Byte) : Dev :=
  if !d.ranging || !d.nativeMode || d.cny.active.isNone || d.cny.lost then d
  else if !(decide (d.prm 0x2C 4 % 2 ^ 24 ≤ cell ∧ cell ≤ d.prm 0x30 4 % 2 ^ 24)) then d
  else if 256 ≤ d.cny.queue.length then
    let d := d.logFault 0x180A .n
    ({ d with cny := { d.cny with locks := if d.cny.locks.contains 0x180A then d.cny.locks else d.cny.locks ++ [0x180A] } }).ossdDrop
  else { d with cny := { d.cny with queue := d.cny.queue ++ [{ frame := frame, body := body }] } }

/-- A round as the Canary sees it (R363, R368): its heartbeat arrives, and a parameter copy whose conditions held
becomes active; CNY_RESP reports its response time (R385) and CAN0's filters take its identifier (R391). -/
def Dev.cnyRound (d : Dev) : Dev :=
  if d.cny.lost then d
  else
    let d := if d.cny.heartbeat then (({ d with cny := { d.cny with heartbeat := false } }).causeGone 0x1803).safetyFollow else d
    if d.cny.activate then
      let d := { d with cny := { d.cny with activate := false, paramHold := false, active := some d.workWords } }
      let d := d.setReg R.CNY_RESP (BitVec.ofInt 32 (openQuot (d.prm 7 1 * d.prm 0x0C 4 + 1000 : Nat) 100))
      let d := [0, 1, 2, 3].foldl (fun (d : Dev) f => (d.setReg (R.CAN_FLT 0 (2 * f)) (BitVec.ofNat 32 (2 ^ 31 + d.prm 0x1A 2 % 2048))).setReg (R.CAN_FLT 0 (2 * f + 1)) 0x1FFFFFFF) d
      d.safetyFollow
    else d

end Sys2Proof.Machine
end

