-- ==== Sys2Proof/Machine/Held.lean ====
section
/-! DEFINITION. Changes of the device state (R10 to R18): entering HELD, leaving RANGING, and raising a fault with the
effect of its class. -/
namespace Sys2Proof.Machine

/-- A channel's analogue settle of 12 ticks begins at tick `t` (R135). -/
def Dev.startSettle (d : Dev) (c t : Nat) : Dev :=
  let ch := mgetD d.rfe c {}
  let evs := ch.events.map (fun e => if e.complete then e else { e with settle := true })
  { d with rfe := mput d.rfe c { ch with settleFrom := some t, events := evs } }

/-- One pending or shadowed register write comes into force (R106, R116, R141, R186, R453). -/
def Dev.applyOne (d : Dev) (a : Nat) (v : Word) : Dev :=
  if 0x50400 ≤ a ∧ a < 0x50600 ∧ a % 0x40 < 0x0C then
    if d.reg a = v then d else d.newLength ((a - 0x50400) / 0x40) (a % 0x40 / 4) v
  else if 0x80000 ≤ a ∧ a < 0x84000 ∧ a % 64 = 0x14 then
    let old := d.reg a
    let d := d.setReg a v
    if d.ranging && (bits old 13 8 != bits v 13 8 || bits old 21 16 != bits v 21 16) then
      d.startSettle ((a - 0x80000) / 64) d.now
    else d
  else d.setReg a v

/-- Every pending or shadowed write comes into force, in address order. -/
def Dev.applyShadow (d : Dev) : Dev :=
  let l := d.shadow
  l.foldl (fun d p => d.applyOne p.1 p.2) { d with shadow := [] }

/-- The step from `a` to `b` jumps over a value at which PPS_OUT would rise (R39). -/
def ppsJump (a b off : Int) : Bool := (a - off) / 1600000000 != (b - off) / 1600000000

/-- A committed step is applied in one tick; `stepped` is set, disc clears when a time source stepped, and PPS_OUT rises
when the step jumps over its value (R29, R32, R39). -/
def Dev.applyStep (d : Dev) (n : Int) (fromSource : Bool) : Dev :=
  let old : Int := d.clk.timeBase.toNat
  let rise := d.fld R.CLK_PPS_OUT 7 0 != 0 && ppsJump old (old + n) (d.fld R.CLK_PPS_OUT 31 8)
  let d := { d with clk := { d.clk with
    timeBase := BitVec.ofInt 64 (old + n), stepPend := none
    ppsOut := d.clk.ppsOut || rise, ppsAt := if rise then d.now else d.clk.ppsAt } }
  let d := d.setBit R.CLK_STATUS 3 true
  if fromSource then d.setBit R.CLK_STATUS 1 false else d

/-- Units whose reinstatement was accepted rejoin (R107, R147). -/
def Dev.rejoin (d : Dev) : Dev :=
  let l := d.top.rejoining
  l.foldl (fun d u => match u with
    | .emitter e =>
      let d := (d.reinstateUnit u).setBit R.EMT_REMOVED e false
      let d := { d with emt := { d.emt with miss := mdel d.emt.miss e } }
      if d.reg R.EMT_REMOVED = 0 then d.setInhibit 20 false else d
    | .channel c =>
      let d := (d.reinstateUnit u).setBit (R.RFE_STATUS c) 20 false
      if d.isRemoved (.quadrant (c / 64)) then d else d.setBit (R.RFE_STATUS c) 1 false
    | .quadrant q =>
      let d := (d.reinstateUnit u).setBit R.RFE_GLOBAL_STATUS (4 + q) false
      let d := d.setReg R.CAL_PENDING (d.reg R.CAL_PENDING ||| BitVec.ofNat 32 (255 * 2 ^ (8 * q)))
      (List.range 64).foldl (fun d j => if d.isRemoved (.channel (64 * q + j)) then d else d.setBit (R.RFE_STATUS (64 * q + j)) 1 false) d
    | _ => d.reinstateUnit u) d

/-- A per-port calibration under way is aborted: its port stays pending (R405). -/
def Dev.calStop (d : Dev) : Dev :=
  if d.cal.turn.isSome then (({ d with cal := { d.cal with turn := none } }).setFld R.CAL_STATUS 6 1 0) else d

/-- A full calibration under way is aborted; one CAL_CMD started reports it (R400). -/
def Dev.calAbort (d : Dev) : Dev :=
  match d.cal.full with
  | none => d
  | some byCmd =>
    let d := ({ d with cal := { d.cal with full := none }, emt := { d.emt with calFire := false } }).setBit R.CAL_STATUS 0 false
    if byCmd then (d.setFld R.CAL_CMD 9 8 2).setFld R.CAL_CMD 23 16 4 else d

/-- What leaving RANGING does at once: pending writes take effect (R453), a held step is applied (R32), rejoining
units rejoin. -/
def Dev.leaveRanging (d : Dev) : Dev :=
  let d := d.applyShadow
  let d := match d.clk.stepPend with | some (n, src) => d.applyStep n src | none => d
  let d := d.rejoin.calStop.cnyLeave
  { d with seq := { d.seq with frame := none, stopping := false } }

/-- The state changes among the reported states, counted (Table 01-4). -/
def Dev.goState (d : Dev) (st : DevState) : Dev :=
  let counted := d.top.state != .reset && d.top.state != st
  let d := { d with top := { d.top with state := st, transitions := if counted then satN 255 (d.top.transitions + 1) else d.top.transitions } }
  let d := (if st == DevState.held then { d with cny := { d.cny with watch := none } } else { d with sns := { d.sns with parking := false } }).safetyFollow
  if d.inState [.armed, .ranging, .held] then d.tapsUp else d

/-- The Canary's demand on entry to HELD: EMIT_EN low, OSSDs off, FAULT_n low (R11, R27, Table 01-2). -/
def Dev.safeOutputs (d : Dev) : Dev :=
  let d := d.emitEnLow
  let d := if d.emt.demand then d else d.demandTrigger
  let d := d.setInhibit 1 true
  { d with emt := { d.emt with demand := true, calFire := false } }

/-- On entry to HELD from RANGING each enabled point stream gets its gap record of reason 0x01: the accepted cells left
without a record; no further points are composed for them (R13, R242). -/
def Dev.heldGaps (d : Dev) : Dev :=
  let left := (d.seq.cells.map (·.2)).filter (fun c => !c.recorded)
  let d := (List.range 4).foldl (fun d n => d.gap n (left.filter (fun c => c.entry.stream == n)).length 1) d
  { d with seq := { d.seq with cells := d.seq.cells.map (fun p => (p.1, { p.2 with recorded := true, heldClosed := p.2.heldClosed || !p.2.recorded })) } }

/-- HEADFRAME's duration in ms, counted from PLL lock (Table 03-10, log entry 41). -/
def Dev.headframeTimed (d : Dev) : Dev := d.setFld R.HDF_TIMING 15 0 (satN 65535 (d.now / 1600000))

/-- Entry to HELD with the class H fault `code` (R10 to R13, R86). In HELD already, the fault counts as one more cause
(R412). -/
def Dev.enterHeld (d : Dev) (code : Nat) : Dev :=
  match d.top.state with
  | .reset => d
  | .held => { d with top := { d.top with causes := if d.top.causes.contains code then d.top.causes else d.top.causes ++ [code] } }
  | st =>
    let wasRanging := st == .ranging
    let stopPending := d.fld R.TOP_CMD 9 8 == 3
    let d := d.safeOutputs
    let cap := d.now + 2
    -- R86: squash at the first CK_CTL edge at or after the capture
    let d := if wasRanging then d.seq.cells.foldl (fun d p => d.squash p.1 (ctlEdge cap) 3) d else d
    let d := if stopPending then d.setReg R.TOP_CMD 0x00070202#32 else d
    let d := d.calAbort
    let d := if wasRanging then d.heldGaps.leaveRanging else d
    let d := if st == .headframe then d.headframeTimed else d
    let d := d.goState .held
    let park := d.rbit R.SNS_BIAS_CFG 1
    { d with
      sns := if park then { d.sns with parking := true, biasTarget := d.fld R.SNS_BIAS_LIM 15 0 } else d.sns
      top := { d.top with stage10 := false, auto := false, heldFromHeadframe := st == .headframe, heldCause := code, causes := [code] }
      emt := { d.emt with heldCapture := some cap }
      cal := { d.cal with passed := false }
      fmn := { d.fmn with checking := false, recheckDue := false } }

/-- Start-up stage 9 (R400, R413): a full calibration begins on entry to ARMED from HEADFRAME or HELD. -/
def Dev.stage9 (d : Dev) : Dev :=
  ({ d with cal := { d.cal with full := some false, passed := false }, top := { d.top with auto := true, stage10 := false } }).setBit R.CAL_STATUS 0 true

/-- Entry to ARMED from HEADFRAME or HELD (R10, R16, R413). -/
def Dev.enterArmed (d : Dev) : Dev := (d.goState .armed).stage9

/-- HEADFRAME ends once the image is accepted and handed over and DRAM is trained or has failed (Table 01-3). -/
def Dev.armIfReady (d : Dev) : Dev :=
  if d.top.state == .headframe && d.boot.handedOver && d.hoi.training.isNone then ((d.setFld R.HDF_STATUS 2 0 7).headframeTimed).enterArmed else d

/-- Entry to RANGING (Table 01-3): a new frame begins at SEQ_PROG_BASE (R66, R86). -/
def Dev.enterRanging (d : Dev) : Dev :=
  let d := { d with top := { d.top with stage10 := false, auto := false }
                    seq := { d.seq with frame := none, stopping := false, enterRanging := d.now } }
  d.calAbort.goState .ranging

/-- Raise a fault: log it, and for class H enter HELD (R17). Class D's removal of the unit is the caller's. -/
def Dev.raise (d : Dev) (code : Nat) (cls : FClass) (active : Bool := false) : Dev :=
  let d := d.logFault code cls active
  if cls == .h then d.enterHeld code else d

/-- Raise a class D fault and remove its unit (R17). -/
def Dev.raiseD (d : Dev) (code : Nat) (u : UnitId) (active : Bool := false) : Dev :=
  (d.logFault code .d active).removeUnit u

/-- Log a class N fault once until its status bit is cleared, and set the bit. -/
def Dev.onceFault (d : Dev) (a i code : Nat) : Dev :=
  if d.rbit a i then d else (d.setBit a i true).logFault code .n

end Sys2Proof.Machine
end

