-- ==== Sys2Proof/Machine/BoundOps.lean ====
section
/-! DEFINITION. What calibration and CSI-2 do at a frame boundary (R356, R403). -/
namespace Sys2Proof.Machine

/-- The pending port that comes next, round-robin upward from the port after the last one calibrated (R403). -/
def Dev.nextPort (d : Dev) : Option Nat :=
  ((List.range 32).map (fun i => (d.cal.last + 1 + i) % 32)).find? (fun q => d.rbit R.CAL_PENDING q)

/-- A pending port's blind interval begins at the boundary when no per-port calibration runs (R403). -/
def Dev.calBoundary (d : Dev) : Dev :=
  if !d.ranging || d.cal.turn.isSome then d
  else match d.nextPort with
    | none => d
    | some q => (({ d with cal := { d.cal with turn := some q, turnAt := d.now } }).setBit R.CAL_STATUS 1 true).setFld R.CAL_STATUS 6 2 q

/-- Virtual channels an enabled copy uses (R356). -/
def Dev.csiChannels (d : Dev) : List Nat :=
  (List.range 4).filter (fun v => (List.range 14).any (fun n => n != 4 && d.streamOn n && d.rbit (R.PNT_STREAM_CFG n) 6 && d.fld (R.PNT_STREAM_CFG n) 8 7 == v))

/-- Frame End and Frame Start on every virtual channel in use (R356). -/
def Dev.csiBoundary (d : Dev) (num : Nat) : Dev :=
  if !d.rbit R.CSI_CTRL 0 || !d.rbit R.CSI_STATUS 0 then d
  else
    let vs := d.csiChannels
    let d := { d with net := { d.net with csiWait := false } }
    let d := (List.range 4).foldl (fun (d : Dev) v => d.setBit R.CSI_STATUS (2 + v) (vs.contains v)) d
    let d := d.setBit R.CSI_STATUS 1 true
    if vs.isEmpty then d else d.setFld R.CSI_STATUS 31 16 (num % 65535 + 1)

end Sys2Proof.Machine
end

