-- ==== Sys2Proof/Machine/Crypto.lean ====
section
/-! DEFINITION. The fixed functions the spec names by standard: SHAKE256 (FIPS 202; R53, R60, R72), the CRC-16 of the
SYNC message (R36), and the W288 code (R19). PRESUMED: the standards' own definitions (log entry 7). -/
namespace Sys2Proof.Machine

/-- The round constants of Keccak-f[1600]. -/
def keccakRc : List (BitVec 64) := [
  0x0000000000000001#64, 0x0000000000008082#64, 0x800000000000808A#64, 0x8000000080008000#64,
  0x000000000000808B#64, 0x0000000080000001#64, 0x8000000080008081#64, 0x8000000000008009#64,
  0x000000000000008A#64, 0x0000000000000088#64, 0x0000000080008009#64, 0x000000008000000A#64,
  0x000000008000808B#64, 0x800000000000008B#64, 0x8000000000008089#64, 0x8000000000008003#64,
  0x8000000000008002#64, 0x8000000000000080#64, 0x000000000000800A#64, 0x800000008000000A#64,
  0x8000000080008081#64, 0x8000000000008080#64, 0x0000000080000001#64, 0x8000000080008008#64]

/-- The rotation offsets, lane `x + 5 y`. -/
def keccakRot : List Nat := [0, 1, 62, 28, 27, 36, 44, 6, 55, 20, 3, 10, 43, 25, 39, 41, 45, 15, 21, 8, 18, 2, 61, 56, 14]

/-- Lane `i` of a Keccak state. -/
def lane (s : List (BitVec 64)) (i : Nat) : BitVec 64 := s.getD i 0#64

/-- One round of Keccak-f[1600]. -/
def keccakRound (s : List (BitVec 64)) (rc : BitVec 64) : List (BitVec 64) :=
  let c := (List.range 5).map (fun x => lane s x ^^^ lane s (x + 5) ^^^ lane s (x + 10) ^^^ lane s (x + 15) ^^^ lane s (x + 20))
  let dd := (List.range 5).map (fun x => lane c ((x + 4) % 5) ^^^ (lane c ((x + 1) % 5)).rotateLeft 1)
  let t := (List.range 25).map (fun i => lane s i ^^^ lane dd (i % 5))
  -- rho and pi: lane (y, 2x + 3y) takes the rotated lane (x, y)
  let b := (List.range 25).map (fun j =>
    let x' := j % 5
    let y' := j / 5
    let x := (x' + 3 * y') % 5
    let y := x'
    (lane t (x + 5 * y)).rotateLeft (keccakRot.getD (x + 5 * y) 0))
  let e := (List.range 25).map (fun i =>
    let x := i % 5
    let y := i / 5
    lane b i ^^^ (~~~ (lane b ((x + 1) % 5 + 5 * y)) &&& lane b ((x + 2) % 5 + 5 * y)))
  match e with
  | [] => []
  | h :: r => (h ^^^ rc) :: r

/-- Keccak-f[1600]. -/
def keccakF (s : List (BitVec 64)) : List (BitVec 64) := keccakRc.foldl keccakRound s

/-- XOR a block of bytes into the state, lane by lane. -/
def absorbBlock (s : List (BitVec 64)) (blk : List Byte) : List (BitVec 64) :=
  keccakF ((List.range 25).map (fun i => lane s i ^^^ BitVec.ofNat 64 (leAt blk (8 * i) 8)))

/-- Absorb all blocks of 136 bytes (rate of SHAKE256). -/
def absorbAll : Nat → List (BitVec 64) → List Byte → List (BitVec 64)
  | 0, s, _ => s
  | n + 1, s, m => absorbAll n (absorbBlock s (m.take 136)) (m.drop 136)

/-- Squeeze `n` blocks. -/
def squeezeAll : Nat → List (BitVec 64) → List Byte
  | 0, _ => []
  | n + 1, s => (s.flatMap (fun l => leBytes 8 l.toNat)).take 136 ++ squeezeAll n (keccakF s)

/-- SHAKE256 of a message, `n` output bytes (FIPS 202). -/
def shake256 (m : List Byte) (n : Nat) : List Byte :=
  let blocks := m.length / 136 + 1
  let pad := 136 * blocks - m.length
  let m' := if pad = 1 then m ++ [0x9F#8] else m ++ [0x1F#8] ++ List.replicate (pad - 2) 0#8 ++ [0x80#8]
  (squeezeAll (n / 136 + 1) (absorbAll blocks (List.replicate 25 0#64) m')).take n

/-- One bit of a CRC-16 with polynomial 0x1021, the register's top bit leading. -/
def crc16Step (c : BitVec 16) (b : Bool) : BitVec 16 :=
  let fb := c.msb != b
  if fb then (c <<< 1) ^^^ 0x1021#16 else c <<< 1

/-- CRC-16, polynomial 0x1021, initial value 0xFFFF, over bits in transmission order (R36). -/
def crc16 (bs : List Bool) : BitVec 16 := bs.foldl crc16Step 0xFFFF#16

/-- The low `n` bits of a number, bit 0 first. -/
def bitsOf (n v : Nat) : List Bool := (List.range n).map (fun i => v.testBit i)

/-- One bit of the reflected CRC-32C (polynomial 0x1EDC6F41, reflected 0x82F63B78). -/
def crc32cStep (c : BitVec 32) : Nat → BitVec 32
  | 0 => c
  | n + 1 => crc32cStep (if c.getLsbD 0 then (c >>> 1) ^^^ 0x82F63B78#32 else c >>> 1) n

/-- CRC-32C of bytes, initial value and final XOR all ones. -/
def crc32c (bs : List Byte) : BitVec 32 :=
  ~~~ (bs.foldl (fun c b => crc32cStep (c ^^^ b.zeroExtend 32) 8) 0xFFFFFFFF#32)

/-- Multiply by α = 0x02 in GF(2^8) with field polynomial 0x11D (R19). -/
def gfTimes2 (a : Byte) : Byte := if a.msb then (a <<< 1) ^^^ 0x1D#8 else a <<< 1

/-- Product in GF(2^8), field polynomial 0x11D: Horner over the bits of the second factor. -/
def gfMul (a b : Byte) : Byte :=
  (List.range 8).foldl (fun acc i => gfTimes2 acc ^^^ (if b.getLsbD (7 - i) then a else 0#8)) 0#8

/-- The coefficients of x^3 .. x^0 of the generator (x + 1)(x + 2)(x + 4)(x + 8) of R19. -/
def w288Gen : List Byte := [0x0F#8, 0x36#8, 0x78#8, 0x40#8]

/-- One step of the division by the generator: feed a data byte to the 4-byte remainder (x^3 first). -/
def w288Step (r : List Byte) (b : Byte) : List Byte :=
  match r, w288Gen with
  | [r3, r2, r1, r0], [g3, g2, g1, g0] =>
    let q := b ^^^ r3
    [r2 ^^^ gfMul q g3, r1 ^^^ gfMul q g2, r0 ^^^ gfMul q g1, gfMul q g0]
  | _, _ => r

/-- The four W288 check bytes of 32 data bytes: the remainder of data × x^4 by the generator (R19). -/
def w288Check (data : List Byte) : List Byte := data.foldl w288Step [0#8, 0#8, 0#8, 0#8]

/-- The 36-byte W288 codeword of 32 data bytes (R19). -/
def w288Encode (data : List Byte) : List Byte := data ++ w288Check data

end Sys2Proof.Machine
end

