-- ==== Sys2Proof/Machine/Steer.lean ====
section
/-! DEFINITION. Steering: position estimates (R113, R117), the cell map (R121 to R124) and lock reporting (R114). -/
namespace Sys2Proof.Machine

/-- Steering port `p`. -/
def Dev.port (d : Dev) (p : Nat) : StrPort := mgetD d.str p {}

/-- Change steering port `p`. -/
def Dev.onPort (d : Dev) (p : Nat) (f : StrPort → StrPort) : Dev := { d with str := mput d.str p (f (d.port p)) }

/-- Mode of port `p` (Table 06-2). -/
def Dev.strMode (d : Dev) (p : Nat) : Nat := d.fld (R.STR_CTRL p) 2 1

/-- The port runs: run = 1, not mode 3, not removed. -/
def Dev.strRuns (d : Dev) (p : Nat) : Bool :=
  d.rbit (R.STR_CTRL p) 0 && d.strMode p != 3 && !d.isRemoved (.steering p)

/-- Facets of a polygon port. -/
def Dev.facets (d : Dev) (p : Nat) : Nat := d.fld (R.STR_CTRL p) 27 24 + 1

/-- The polygon estimate at tick `t`: facet number and facet code (R117). -/
def Dev.polyAt (d : Dev) (p t : Nat) : Nat × Int :=
  let q := d.port p
  if q.period = 0 then (0, 0)
  else
    let f := d.facets p
    let off := d.fld (R.STR_SNS_CFG p) 27 12
    let e := (t : Int) - q.lastIdx - off
    let x := (e % (q.period : Int)).toNat * f     -- position in the revolution, times the facet count
    let facet := x / q.period
    let frac := x % q.period
    (facet % f, -32768 + (frac * 65536 / q.period : Nat))

/-- The position estimate of port `p` at tick `t`: x_k + v (t − t_k + lead) / 1,600, saturated (R113); rounding of the
quotient is the model's floor (log entry 16). -/
def Dev.posAt (d : Dev) (p t : Nat) : Int :=
  if d.strMode p = 2 then (d.polyAt p t).2
  else
    let q := d.port p
    let lead := d.fld (R.STR_SNS_CFG p) 11 0
    clampI (-32767) 32767 (q.pos + (q.vel * ((t : Int) - q.tick + lead)) / 1600)

/-- One axis of the cell map: 0 X, 1 Y, 2 facet. -/
structure Axis where
  kind : Nat
  port : Nat
  n : Nat
  stride : Nat
  first : Int
  width : Nat
  tol : Nat
  table : Bool
  tableOff : Nat
  deriving DecidableEq, Repr

/-- The mapped axes (STR_MAP_CFG and its companions, Table 06-4). -/
def Dev.axes (d : Dev) : List Axis :=
  let c := d.reg R.STR_MAP_CFG
  let nx := d.fld R.STR_MAP_X_N 12 0
  let off := d.fld R.STR_MAP_TABLE 21 0
  let x : Axis := { kind := 0, port := bits c 1 0, n := nx, stride := d.fld R.STR_MAP_STRIDE_X 23 0
                    first := signed 16 (d.fld R.STR_MAP_X 15 0), width := d.fld R.STR_MAP_X 31 16
                    tol := d.fld R.STR_MAP_X_N 31 16, table := bit c 6, tableOff := off }
  let y : Axis := { kind := 1, port := bits c 4 3, n := d.fld R.STR_MAP_Y_N 12 0, stride := d.fld R.STR_MAP_STRIDE_Y 23 0
                    first := signed 16 (d.fld R.STR_MAP_Y 15 0), width := d.fld R.STR_MAP_Y 31 16
                    tol := d.fld R.STR_MAP_Y_N 31 16, table := bit c 7
                    tableOff := off + (if bit c 6 && bit c 2 then 2 * (nx + 1) else 0) }
  let f : Axis := { kind := 2, port := bits c 1 0, n := d.facets (bits c 1 0), stride := d.fld R.STR_MAP_STRIDE_F 23 0
                    first := 0, width := 1, tol := 0, table := false, tableOff := 0 }
  (if bit c 2 then [x] else []) ++ (if bit c 5 then [y] else []) ++ (if bit c 8 then [f] else [])

/-- Edge `i` of a table axis, in scan SRAM (R121). -/
def Axis.edge (x : Axis) (m : List Host.Cell) (i : Nat) : Int := signed 16 (memLe m (scanBase + x.tableOff + 2 * i) 2)

/-- Lower edge of bin `i`; the lower edge of bin n is the upper end of the last. -/
def Axis.lo (x : Axis) (m : List Host.Cell) (i : Nat) : Int :=
  if x.table then x.edge m i else x.first + i * x.width

/-- The bin a code lies in (R121). -/
def Axis.binOf (x : Axis) (m : List Host.Cell) (v : Int) : Option Nat :=
  (List.range x.n).find? (fun i => decide (x.lo m i ≤ v ∧ v < x.lo m (i + 1)))

/-- Insert an axis in descending order of stride. -/
def insertAxis (x : Axis) : List Axis → List Axis
  | [] => [x]
  | a :: r => if a.stride < x.stride then x :: a :: r else a :: insertAxis x r

/-- The planned bins of a cell, by the procedure of R122: none when the cell is not valid. -/
def plannedBins (axes : List Axis) (base cell : Nat) : Option (List (Axis × Nat)) :=
  let sorted := axes.foldl (fun l a => insertAxis a l) []
  let r0 := (cell + 2 ^ 24 - base % 2 ^ 24) % 2 ^ 24
  let (r, l) := sorted.foldl (fun (p : Nat × List (Axis × Nat)) a =>
    if a.stride = 0 then (p.1, p.2 ++ [(a, 0)]) else (p.1 % a.stride, p.2 ++ [(a, p.1 / a.stride)])) (r0, [])
  if r = 0 ∧ l.all (fun p => decide (p.2 < p.1.n)) then some l else none

/-- Inside tolerance on one axis for the planned bin (R123); `v` is the axis code, `f` the facet. -/
def Axis.inside (x : Axis) (m : List Host.Cell) (i : Nat) (v : Int) (f : Nat) : Bool :=
  if x.kind = 2 then f == i
  else decide (x.lo m i - x.tol ≤ v ∧ v < x.lo m (i + 1) + x.tol)

/-- The measured code and facet of an axis's port at tick `t`. -/
def Dev.axisAt (d : Dev) (x : Axis) (t : Nat) : Int × Nat := (d.posAt x.port t, (d.polyAt x.port t).1)

/-- The admission test of one port: only the axis of that port is tested; a port that is no mapped axis is inside; a
cell with no valid bins, or an invalid map, is outside (R122 to R124). -/
def Dev.admitInside (d : Dev) (m : List Host.Cell) (mapBad : Bool) (p cell t : Nat) : Bool :=
  let axes := d.axes
  if axes.all (fun x => x.port != p) then true
  else if mapBad then false
  else match plannedBins axes (d.fld R.STR_MAP_BASE 23 0) cell with
    | none => false
    | some l => l.all (fun q => q.1.port != p || (let (v, f) := d.axisAt q.1 t; q.1.inside m q.2 v f))

/-- Every mapped axis inside for the planned cell at tick `t`. -/
def Dev.allInside (d : Dev) (m : List Host.Cell) (mapBad : Bool) (cell t : Nat) : Bool :=
  let axes := d.axes
  if axes.isEmpty then true
  else if mapBad then false
  else match plannedBins axes (d.fld R.STR_MAP_BASE 23 0) cell with
    | none => false
    | some l => l.all (fun q => let (v, f) := d.axisAt q.1 t; q.1.inside m q.2 v f)

/-- The measured cell of the fire samples, none when one lies in no bin (R121, R123). -/
def Dev.measuredCell (d : Dev) (m : List Host.Cell) (t : Nat) : Option Nat :=
  d.axes.foldl (fun (acc : Option Nat) x =>
    match acc with
    | none => none
    | some c =>
      let (v, f) := d.axisAt x t
      let b := if x.kind = 2 then (if f < x.n then some f else none) else x.binOf m v
      b.map (fun i => (c + i * x.stride) % 2 ^ 24)) (some (d.fld R.STR_MAP_BASE 23 0))

/-- The map is invalid (R124): a count or uniform width of 0, or table edges not ascending. A poisoned edge word is
the caller's. -/
def Dev.mapInvalid (d : Dev) (m : List Host.Cell) : Bool :=
  d.axes.any (fun x => x.kind != 2 &&
    (x.n == 0 || (if x.table then (List.range x.n).any (fun i => decide (x.lo m (i + 1) ≤ x.lo m i)) else x.width == 0)))

/-- Centre code of a planned bin: the floor of the middle (log entry 16). -/
def Axis.centre (x : Axis) (m : List Host.Cell) (i : Nat) : Int := (x.lo m i + x.lo m (i + 1)) / 2

/-- The port's lock state changes: STR_STATUS.locked and the out-of-lock inhibit follow it; a fall logs 0x0701 and
counts (R114). -/
def Dev.setLocked (d : Dev) (p : Nat) (on : Bool) : Dev :=
  let was := d.rbit (R.STR_STATUS p) 0
  let d := (d.setBit (R.STR_STATUS p) 0 on).setInhibit (8 + p) (!on)
  if was && !on then
    let d := ((d.logFault 0x0701 .n).incSat (R.STR_STATUS p) 31 16 1)
    d.onPort p (fun q => { q with inTol := 0, outTol := 0, lostAt := some d.now })
  else if on then d.onPort p (fun q => { q with lostAt := none, outTol := 0 })
  else d

/-- One in-tolerance or out-of-tolerance unit of Table 06-2 (R114). -/
def Dev.lockUnit (d : Dev) (p : Nat) (ok : Bool) : Dev :=
  if !d.strRuns p then d.setLocked p false
  else if ok then
    let d := d.onPort p (fun q => { q with inTol := q.inTol + 1, outTol := 0 })
    if !d.rbit (R.STR_STATUS p) 0 && decide (d.fld (R.STR_CTRL p) 19 16 ≤ (d.port p).inTol) then d.setLocked p true else d
  else
    let d := d.onPort p (fun q => { q with outTol := q.outTol + 1, inTol := 0 })
    if d.rbit (R.STR_STATUS p) 0 && decide (d.fld (R.STR_CTRL p) 23 20 ≤ (d.port p).outTol) then d.setLocked p false else d

/-- The drive at the park code (R110). The ramp's instants are out of scope; the code it ends at is held. -/
def Dev.park (d : Dev) (p : Nat) : Dev := d.setFld (R.STR_DRV p) 15 0 (d.fld (R.STR_PARK p) 15 0)

/-- Remove a steering port with fault `code` (R119). -/
def Dev.removePort (d : Dev) (p code : Nat) (active : Bool) : Dev :=
  let d := (d.setLocked p false).raiseD code (.steering p) active
  ((d.setBit (R.STR_STATUS p) 2 true).onPort p (fun q => { q with cause := code, settling := false })).park p

end Sys2Proof.Machine
end

