-- ==== Sys2Proof/Machine/Gate.lean ====
section
/-! DEFINITION. Gating: listening windows (R151 to R153), meters (R154), selection stages (R155 to R160), the shadow
store and verdicts (R161 to R166), tailings (R167) and the verdict log (R168). -/
namespace Sys2Proof.Machine

/-- A verdict log record (Table 08-8). -/
def logRec (ty wh count block cell shots frame : Nat) : List Byte :=
  leBytes 1 ty ++ leBytes 1 wh ++ leBytes 2 count ++ leBytes 4 block ++ leBytes 3 cell ++ leBytes 1 shots ++ leBytes 4 frame

/-- Write a verdict log record into the ring and, with the stream on, into stream 13; or drop it when the ring is full
(R168, R89, R241). -/
def Dev.verdictLog (d : Dev) (r : List Byte) : Dev :=
  let w := d.fld R.GAT_LOG_WR 9 0
  let stream := d.rbit R.GAT_CTRL 1
  if (w + 1) % 1024 == d.fld R.GAT_LOG_RD 9 0 then (if stream then d.bulkDrop 13 else d).onceFault R.GAT_STATUS 0 0x0905
  else
    let d := if stream then d.bulk 13 8 r else d
    ({ d with gat := { d.gat with logRing := mput d.gat.logRing w r } }).setFld R.GAT_LOG_WR 9 0 ((w + 1) % 1024)

/-- Count one event of channel `c` rejected for reason `r` (R167). -/
def Dev.tailing (d : Dev) (c r : Nat) : Dev :=
  let d := { d with gat := { d.gat with tail := mupd d.gat.tail (16 * c + r) 0 (fun n => satN 0xFFFFFFFF (n + 1)) } }
  d.inc64 (R.GAT_TAIL_TOTAL r) 1

/-- The block ID of Table 01-9: emitter × 2^24 + sequence. -/
def blockId (e sq : Nat) : Nat := e * 2 ^ 24 + sq % 2 ^ 24

/-- The return ports that listen to emitter `e` (SEQ_EMIT_RMAP). -/
def Dev.rmap (d : Dev) (e : Nat) : List Nat := bitList 32 (d.reg (R.SEQ_EMIT_RMAP e)).toNat

/-- Port `q` is under per-port calibration (R87): no window opens on its channels. -/
def Dev.portBlind (d : Dev) (q : Nat) : Bool := d.cal.turn == some q

/-- The channels on which a fired shot of emitter `e` opens a window (R151). -/
def Dev.listenChannels (d : Dev) (e : Nat) : List Nat :=
  (d.rmap e).flatMap (fun q =>
    if d.portBlind q then []
    else ((List.range 8).map (fun j => 8 * q + j)).filter (fun c => d.rbit (R.RFE_CTRL c) 0))

/-- The windows open on channel `c` at tick `t`: a window is tracked from its open tick to its close tick. -/
def Dev.tracked (d : Dev) (c t : Nat) : Nat :=
  (d.gat.wins.filter (fun w => decide (w.openT ≤ t ∧ t < w.openT + w.len) && (mget w.chs c).isSome)).length

/-- The block of emitter `e` with sequence `sq`. -/
def Dev.blockOf (d : Dev) (e sq : Nat) : Option Block := d.gat.blocks.find? (fun b => b.emitter == e && b.seq == sq)

/-- Change a block. -/
def Dev.onBlock (d : Dev) (e sq : Nat) (f : Block → Block) : Dev :=
  { d with gat := { d.gat with blocks := d.gat.blocks.map (fun b => if b.emitter == e && b.seq == sq then f b else b) } }

/-- Free shadow histogram numbers, lowest first. -/
def Dev.freeShadows (d : Dev) : List Nat := (List.range 256).filter (fun h => (mget d.gat.shadows h).isNone)

/-- Open a block at the check-out of its first shot: shadow histograms are allocated, one for each port of the
emitter, or the block is unchecked (R162). -/
def Dev.openBlock (d : Dev) (e sq uid cell frame : Nat) : Dev :=
  let en := d.rbit R.GAT_IFC_EN e
  let ports := d.rmap e
  let free := d.freeShadows
  let enough := decide (ports.length ≤ free.length)
  let b : Block := { emitter := e, seq := sq, uid := uid, cell := cell, frame := frame, checked := en && enough
                     unchecked := en && !enough, k := d.fld R.GAT_IFC_CFG 3 0, s := d.fld R.GAT_IFC_CFG 10 8 }
  let d := { d with gat := { d.gat with blocks := d.gat.blocks ++ [b] } }
  if en && enough then
    { d with gat := { d.gat with shadows := (ports.zip free).foldl (fun m p =>
        mput m p.2 { emitter := e, blockSeq := sq, port := p.1 }) d.gat.shadows } }
  else if en then (d.inc64 R.GAT_CNT_UNCHECKED 1).onceFault R.GAT_STATUS 1 0x0903
  else d

/-- Release the block's shadow histograms. -/
def Dev.releaseShadows (d : Dev) (e sq : Nat) : Dev :=
  { d with gat := { d.gat with shadows := d.gat.shadows.filter (fun p => !(p.2.emitter == e && p.2.blockSeq == sq)) } }

/-- The neighbourhood of position `k` in its port for setting `n` (Table 08-3). -/
def neighbours (k n : Nat) : List Nat :=
  (if k = 0 then [1, 2, 3, 4] else if k = 1 then [0, 2, 3, 4] else if k = 6 then [5, 7, 4, 3]
   else if k = 7 then [6, 5, 4, 3] else [k - 1, k + 1, k - 2, k + 2]).take n

/-- m_eff of a port as the settings and the raise request give it (R158). -/
def Dev.mEffOf (d : Dev) (q : Nat) : Nat :=
  let m := d.fld (R.GAT_PORT_CFG q) 1 0
  let n := d.fld (R.GAT_PORT_CFG q) 4 2
  if d.rbit (R.RFE_PORT_STATUS q) 0 && d.rbit (R.GAT_PORT_CFG q) 5 then Nat.min 3 (Nat.min (m + 1) (n + 1)) else m

/-- The port settings in force on channel `c` (R158). -/
def Dev.portCfgAt (d : Dev) (c : Nat) : Word := mgetD d.gat.cfgAt c (d.reg (R.GAT_PORT_CFG (c / 8)))

/-- m_eff in force on channel `c`: the value taken at its last window boundary (R158). -/
def Dev.mEffAt (d : Dev) (c : Nat) : Nat := mgetD d.gat.mEff c (d.mEffOf (c / 8))

/-- Fine time of an event (R150). -/
def fineTime (t f : Nat) : Nat := 32 * t + f

/-- The earliest-opened window of channel `c` that contains tick `t`; ties go to the lower emitter, then the earlier
shot (R152). -/
def Dev.takingWin (d : Dev) (c t : Nat) : Option Win :=
  (d.gat.wins.filter (fun w => (mget w.chs c).isSome && decide (w.openT ≤ t ∧ t < w.openT + w.len))).foldl
    (fun (b : Option Win) w => match b with
      | none => some w
      | some v => if w.openT < v.openT ∨ (w.openT = v.openT ∧ (w.emitter < v.emitter ∨ (w.emitter = v.emitter ∧ w.shotId < v.shotId)))
                  then some w else some v) none

/-- Change the window of a shot. -/
def Dev.onWindow (d : Dev) (id : Nat) (f : Win → Win) : Dev :=
  { d with gat := { d.gat with wins := d.gat.wins.map (fun w => if w.shotId == id then f w else w) } }

/-- The window of a shot. -/
def Dev.windowOf (d : Dev) (id : Nat) : Option Win := d.gat.wins.find? (fun w => w.shotId == id)

/-- Count an event in the ambient meter of the round of its leading edge, and in its window's own groups (R154). -/
def Dev.meterEvent (d : Dev) (c t g id : Nat) : Dev :=
  let r := t / 16384
  let key := 16 * c + g
  let cnt := fun m => mupd m key 0 (fun n => satN 65535 (n + 1))
  let d := if r = d.gat.round then { d with gat := { d.gat with meter := cnt d.gat.meter } }
           else { d with gat := { d.gat with meterNext := cnt d.gat.meterNext } }
  d.onWindow id (fun w => { w with chs := mupd w.chs c {} (fun x => { x with groups := mupd x.groups g 0 (· + 1) }) })

/-- Stages 1 to 4 of Table 08-1 for an event record that has reached the gating block. -/
def Dev.gateIn (d : Dev) (c : Nat) (e : TdcEvent) : Dev :=
  match d.takingWin c e.tick with
  | none => d.tailing c 0
  | some w =>
    if e.settle then d.tailing c 1
    else
      let bin := e.tick - w.openT
      let d := d.meterEvent c e.tick (16 * bin / w.len) w.shotId
      let wmin := if bits (d.portCfgAt c) 15 12 ≤ e.notch then bits (d.portCfgAt c) 20 16 else 0
      if e.width < wmin then d.tailing c 2
      else
        let g : GatEvent := { ch := c, tick := e.tick, fine := e.fine, bin := bin, width := e.width, hi := e.hi
                              pileup := e.pileup, shotId := w.shotId }
        { d with gat := { d.gat with waiting := d.gat.waiting ++ [g] } }

/-- Enough distinct neighbours have a partner within τ fine steps (R157). -/
def Dev.coincident (d : Dev) (g : GatEvent) : Bool :=
  let q := g.ch / 8
  let m := d.mEffAt g.ch
  if m ≤ 1 then true
  else
    let tau := bits (d.portCfgAt g.ch) 11 6
    let x := fineTime g.tick g.fine
    let ns := neighbours (g.ch % 8) (bits (d.portCfgAt g.ch) 4 2)
    let hits := ns.filter (fun k => d.gat.waiting.any (fun h => h.ch == 8 * q + k &&
      decide (fineTime h.tick h.fine ≤ x + tau ∧ x ≤ fineTime h.tick h.fine + tau)))
    decide (m - 1 ≤ hits.length)

/-- Enter an event in its block's shadow histogram of the port: bit `place` of shadow bin ⌊a / 2^s⌋ (R161). -/
def Dev.shadowIn (d : Dev) (g : GatEvent) (w : Win) : Dev :=
  match d.blockOf w.emitter w.blockSeq with
  | none => d
  | some b =>
    if !b.checked then d
    else
      let a := g.bin + Nat.min w.slip 255
      let bin := a / 2 ^ b.s
      { d with gat := { d.gat with shadows := d.gat.shadows.map (fun p =>
          if p.2.emitter == w.emitter && p.2.blockSeq == w.blockSeq && p.2.port == g.ch / 8 then
            let mask := mgetD p.2.masks bin 0 ||| 2 ^ w.place
            (p.1, { p.2 with masks := mput p.2.masks bin mask, max := Nat.max p.2.max (bitList 8 mask).length })
          else p) } }

/-- Entries of channel `c` in the provisional buffer. -/
def Dev.provCount (d : Dev) (c : Nat) : Nat := (d.gat.prov.filter (fun e => e.ch == c)).length

/-- The event record of Table 07-1. -/
def eventRecord (bin fine width : Nat) (hi pileup : Bool) : Nat :=
  bin % 4096 + 2 ^ 12 * (fine % 32) + 2 ^ 17 * satN 31 width + 2 ^ 22 * b2n hi + 2 ^ 23 * b2n pileup

/-- Stages 5 to 7 for one waiting event whose partners have all arrived (R157, R159, R160). -/
def Dev.selectOne (d : Dev) (g : GatEvent) : Dev :=
  match d.windowOf g.shotId with
  | none => d.tailing g.ch 0
  | some w =>
    if !d.coincident g then d.tailing g.ch 3
    else
      let n := (mgetD w.chs g.ch {}).survivors
      if 8 ≤ n then d.tailing g.ch 4
      else
        let d := d.onWindow g.shotId (fun w => { w with chs := mupd w.chs g.ch {} (fun x => { x with survivors := x.survivors + 1 }) })
        let d := d.shadowIn g w
        let truncated := match d.blockOf w.emitter w.blockSeq with | some b => (mget b.trunc g.ch).isSome | none => false
        if truncated || decide (160 ≤ d.provCount g.ch) then
          let d := d.tailing g.ch 5
          let d := if truncated then d else
            -- R139: the first drop raises the channel's truncation request
            if d.rbit (R.RFE_CTRL g.ch) 3 then { d with rfe := mupd d.rfe g.ch {} (fun x => { x with upReq := true }) } else d
          d.onBlock w.emitter w.blockSeq (fun b => { b with trunc := mupd b.trunc g.ch 0 (· + 1) })
        else
          let p : ProvEntry := { ch := g.ch, record := eventRecord g.bin g.fine g.width g.hi g.pileup, slot := w.slot
                                 place := w.place, emitter := w.emitter, blockSeq := w.blockSeq, uid := w.uid
                                 reattr := w.reattr, measured := w.measured, shotId := w.shotId }
          ({ d with gat := { d.gat with prov := d.gat.prov ++ [p] } }).inc64 R.GAT_CNT_SELECTED 1

/-- Judge every waiting event whose partners have arrived by tick `t`: an edge at tick x passes the cap by the end of
tick x + 38 (Table 08-5). A judged event stays listed as a partner until no later event can need it. -/
def Dev.gateSettle (d : Dev) (t : Nat) : Dev :=
  let due := d.gat.waiting.filter (fun g => !g.judged && decide (g.tick + 39 ≤ t))
  let d := due.foldl (fun d g => d.selectOne g) d
  { d with gat := { d.gat with
      waiting := (d.gat.waiting.map (fun g => if g.tick + 39 ≤ t then { g with judged := true } else g)).filter
        (fun g => decide (t < g.tick + 80)) } }

/-- A window closes when its shot checks in; once its block is judged it is dropped. -/
def Dev.pruneWins (d : Dev) : Dev :=
  { d with gat := { d.gat with wins := d.gat.wins.filter (fun w => !(w.closed && (d.blockOf w.emitter w.blockSeq).isNone)) } }

/-- The threshold K_b of a block of `b` shots (R163). -/
def kOf (k b : Nat) : Nat := Nat.max 3 (cdiv (k * b) 8)

/-- The next block whose verdict is due at tick `t`: closed, all its windows checked in, X_b + 48 reached (R166). -/
def Dev.dueBlock (d : Dev) (t : Nat) : Option Block :=
  d.gat.blocks.find? (fun b => !b.judged && b.closedAt.isSome && decide (b.x + 48 ≤ t) &&
    d.gat.wins.all (fun w => !(w.emitter == b.emitter && w.blockSeq == b.seq) || w.closed))

/-- The shadow histogram that taints the block: of the lowest port at or over the threshold (R163). -/
def taintOf (l : List Shadow) (kb : Nat) : Option (Nat × Nat × Nat) :=
  let hot := l.filter (fun s => decide (kb ≤ s.max))
  match hot with
  | [] => none
  | a :: r =>
    let best := r.foldl (fun b s => if s.port < b.port then s else b) a
    let bin := (best.masks.find? (fun p => (bitList 8 p.2).length == best.max)).map (·.1) |>.getD 0
    some (best.port, bin, best.max)

end Sys2Proof.Machine
end

