-- ==== Sys2Proof/Machine/State.lean ====
section
/-! DEFINITION. The machine's state: the device, its on-chip memories, its DRAM and the queue of waiting commands. -/
namespace Sys2Proof.Machine

/-- What stops the block with a fault. No rule of the spec stops the block itself: a fault of the device is an entry
of its fault log and an effect of its class (R17), which is a next state. -/
inductive Fault where
  /-- Raised by nothing; the type must be inhabited for the host's interface. Safe. -/
  | noFault
  deriving DecidableEq, Repr

/-- What the model refuses. -/
inductive Refusal where
  /-- Raised by exec for a command without a meaning; every command has one. Safe. -/
  | notModelled (mnemonic : String)
  deriving DecidableEq, Repr

/-- The whole state. -/
structure State where
  /-- registers, queues, buffers and counters of every block -/
  dev : Dev := {}
  /-- on-chip memories by management address: histogram, scan and cluster SRAM, and the assay memories at the
  model's own addresses from 2^32 -/
  sram : List Host.Cell := []
  /-- DRAM by byte address -/
  dram : List Host.Cell := []
  /-- 32-byte words of on-chip memory marked poisoned (R20), by address -/
  sramPoison : List Nat := []
  /-- 32-byte words corrected on a read and waiting for write-back (R20) -/
  writeBacks : List Nat := []
  /-- commands waiting, first in first out -/
  pending : List Instr := []
  deriving DecidableEq, Repr

/-- The block right after reset: RESET, every register at its reset value, memories with nothing listed. -/
def State.reset : State := {}

end Sys2Proof.Machine
end

