-- ==== Sys2Proof/Machine/Lift.lean ====
section
/-! DEFINITION. How a command's effect on the device becomes its outcome: a next state that leaves the queue alone. -/
namespace Sys2Proof.Machine

/-- The outcome of one command. -/
abbrev Out : Type := Host.Outcome State Fault Refusal

/-- A command that acts on the device alone. -/
def State.mapDev (s : State) (f : Dev → Dev) : Out := .next { s with dev := f s.dev }

/-- An event at tick `t` inside the device: nothing happens in RESET or while the clocks are stopped; else the tick
advances first. -/
def State.atTick (s : State) (t : Nat) (f : Dev → Dev) : Out :=
  s.mapDev (fun d => if d.alive then f (d.advanceTo t) else d)

/-- A command that acts on the device and the on-chip memories, at tick `t`. -/
def State.atTickMem (s : State) (t : Nat) (f : State → State) : Out :=
  if s.dev.alive then .next { f { s with dev := s.dev.advanceTo t } with pending := s.pending } else .next s

/-- The memory an on-chip word lies in (R21): 0 histogram, 1 scan, 2 cluster SRAM, else one of the cores' I, U and V. -/
def memoryOf (word : Nat) : Nat :=
  if memIBase ≤ word then word / 65536 else if word < 0x01800000 then 0 else if word < 0x01C00000 then 1 else 2

/-- A corrected word counts in its memory's counter (R20). -/
def Dev.countCorr (d : Dev) (m : Nat) : Dev := { d with corrected := mupd d.corrected m 0 (· + 1) }

/-- A read of an on-chip word with `err` bytes in error: one is corrected and written back later, two or three poison
it (R20). -/
def State.noteErr (s : State) (word err : Nat) : State :=
  if err = 1 then { s with dev := s.dev.countCorr (memoryOf word), writeBacks := if s.writeBacks.contains word then s.writeBacks else s.writeBacks ++ [word] }
  else if 2 ≤ err ∧ err ≤ 3 then { s with sramPoison := if s.sramPoison.contains word then s.sramPoison else s.sramPoison ++ [word] }
  else s

/-- Change the device inside a state. -/
def State.onDev (s : State) (f : Dev → Dev) : State := { s with dev := f s.dev }

end Sys2Proof.Machine
end

