-- ==== Sys2Proof/Machine/Sequencer.lean ====
section
/-! DEFINITION. The shot sequencer's commands (chapter 4): reading the scan program, issue, handover, confidence and
squash, frame boundaries, check-in, accounting. -/
namespace Sys2Proof.Machine

/-! Reading the scan program (R62 to R66). -/

/-- Write one audit record of type 0x03 for `count` cells not accepted and count them (R63, R68, R69). -/
def Dev.notAccepted (d : Dev) (reason count cell frame : Nat) : Dev :=
  (d.audit (auditRec 3 reason count (d.reg R.SEQ_NEXT_ID).toNat cell 255 frame)).inc64 R.SEQ_CNT_MISSED count

/-- The emitters of a run that take part: the mask bits whose enable was sampled 1 (R69). -/
def runEmitters (e : Entry) (enables : Nat) : List Nat := (bitList 32 e.mask).filter (fun i => enables.testBit i)

/-- The sequencer takes the entry value `v` at index `i` of the frame (R62 to R69). -/
def Dev.takeEntry (d : Dev) (f : FrameRec) (i v : Nat) : Dev :=
  let put := fun (d : Dev) (f : FrameRec) => { d with seq := { d.seq with frame := some f } }
  let e := entryOf v
  let f := { f with next := i + 1, lastRead := d.now }
  let atEnd := i == 262143
  let d := (d.setFld R.SEQ_ENTRY 17 0 i)
  if e.count = 0 then put d { f with ended := true }
  else
    let d := if atEnd then d.logFault 0x0507 .n else d
    let f := if atEnd then { f with ended := true } else f
    if e.invalid then put ((d.logFault 0x0502 .n).notAccepted 2 e.count e.firstCell f.num) f
    else if (runEmitters e f.enables).isEmpty then
      put ((List.range e.count).foldl (fun d j => d.notAccepted 4 1 (e.cellAt j) f.num) d) f
    else put d { f with run := some (e, 0) }

/-- A poisoned entry word is skipped: logged, and recorded with reason 0x03; the entry's cells are not known, so the
record's count and cell are free values (R21, R63; log entry 5). -/
def Dev.poisonEntry (d : Dev) (f : FrameRec) (i : Nat) : Dev :=
  let n := (d.fresh 16).toNat
  let d := d.drew
  let c := (d.fresh 24).toNat
  let d := d.drew
  let f := { f with next := i + 1, lastRead := d.now, ended := f.ended || i == 262143 }
  let d := ((d.setFld R.SEQ_ENTRY 17 0 i).logFault 0x0503 .n).notAccepted 3 n c f.num
  let d := if i == 262143 then d.logFault 0x0507 .n else d
  { d with seq := { d.seq with frame := some f } }

/-- Read scan entry `i` with `err` bytes of its W288 word in error (R20, R63). -/
def State.readEntry (s : State) (f : FrameRec) (i err : Nat) : State :=
  let word := (scanBase + 16 * i) / 32 * 32
  let s := s.noteErr word err
  if s.sramPoison.contains word then s.onDev (fun d => d.poisonEntry f i)
  else if 4 ≤ err then s.onDev (fun d => d.drew.takeEntry f i (d.fresh 128).toNat)
  else
    let v := memLe s.sram (scanBase + 16 * i) 16
    s.onDev (fun d => d.takeEntry f i v)

/-- Every shot of the running frame has been issued: its pass has ended and no run or cell has shots left. -/
def Dev.frameIssued (d : Dev) : Bool :=
  match d.seq.frame with
  | none => true
  | some f => f.ended && f.run.isNone && d.seq.cells.all (fun p => p.2.frame != f.num || !p.2.left)

/-- The enables sampled at the read of a frame's first entry (R69). -/
def Dev.enables (d : Dev) : Nat := ((List.range 32).map (fun e => if d.rbit (R.SEQ_EMIT_CFG e) 16 then 2 ^ e else 0)).sum

/-- pri of an emitter. -/
def Dev.pri (d : Dev) (e : Nat) : Nat := d.fld (R.SEQ_EMIT_CFG e) 15 0

/-- The unscheduled start tick of the next frame (R66). -/
def Dev.startTick (d : Dev) : Nat :=
  match d.seq.frame with
  | none => (d.seq.enterRanging / 4 + 1) * 4
  | some f => d.seq.lastNom.foldl (fun t p => Nat.max t (p.2 + d.pri p.1)) (ctlEdge (f.lastIssue + 1))

/-- Ticks until the time base has advanced by `n` more counts at the present rate (R31). -/
def Dev.ticksFor (d : Dev) (n : Int) : Nat :=
  let r := 1000000000 + signed 32 (d.reg R.CLK_RATE_ADJ).toNat
  let x := n * 1000000000 - d.clk.frac
  (if r ≤ 1000000000 then (x - 1000000000).fdiv r + 1 else -((-x).fdiv r)).toNat

/-- The tick at which the time base, with the step held for the boundary in it, reaches CLK_FRAME_AT; the present tick
when it has (R40). -/
def Dev.frameAtTick (d : Dev) : Nat :=
  let left : Int := (d.reg64 R.CLK_FRAME_AT : Int) - (d.time + ((d.clk.stepPend.map (·.1)).getD 0))
  if left ≤ 0 then d.now else d.now + d.ticksFor left

/-- The start tick of the next frame: a scheduled start takes the tick at which the time base reaches CLK_FRAME_AT,
or the end of the current frame when that is later (R40, R66). -/
def Dev.frameStart (d : Dev) : Nat :=
  let u := d.startTick
  if d.rbit R.CLK_FRAME_AT_CTRL 0 then Nat.max u d.frameAtTick else u

/-- A new frame can begin to be read: RANGING, no STOP pending, the frame before issued and past its boundary. -/
def Dev.canStartFrame (d : Dev) : Bool :=
  d.ranging && !d.seq.stopping && d.frameIssued && (match d.seq.frame with | none => true | some f => f.boundary)

/-- FRAME_FIRST_ENTRY_READ (R65, R66): the frame's number and start tick are fixed, SEQ_PROG_BASE and the enables are
sampled, its audit record is written, and the entry is taken. -/
def execFrameFirstEntryRead (t errBytes : Nat) (s : State) : Out :=
  s.atTickMem t (fun s =>
    let d := s.dev
    if !d.canStartFrame then s
    else
      let base := d.fld R.SEQ_PROG_BASE 17 0
      let f : FrameRec := { num := d.seq.nextFrame, startTick := d.frameStart, next := base, enables := d.enables, lastIssue := d.now
                            sched := d.rbit R.CLK_FRAME_AT_CTRL 0 }
      let s := s.onDev (fun d =>
        let d := d.audit (auditRec 4 0 0 (d.reg R.SEQ_NEXT_ID).toNat 0 255 f.num)
        { d with seq := { d.seq with frame := some f, nextFrame := (d.seq.nextFrame + 1) % 2 ^ 32, lastNom := [] } })
      s.readEntry f base errBytes)

/-- SCAN_ENTRY_READ (R63, R65): the next entry of the pass is read and checked once the run before it is issued. -/
def execScanEntryRead (t errBytes : Nat) (s : State) : Out :=
  s.atTickMem t (fun s =>
    match s.dev.seq.frame with
    | none => s
    | some f => if f.ended || f.run.isSome || !s.dev.ranging then s else s.readEntry f f.next errBytes)

/-! Issue (R68 to R72). -/

/-- The cap of the reserve list in use for a cell: entries ascend and end at the first out of order or of cap 0 (R83). -/
def Dev.reserveCapGo (d : Dev) (base cell : Nat) : Nat → Nat → Option Nat → Nat
  | 0, _, _ => 0
  | n + 1, i, last =>
    let w := d.reg (base + 4 * i)
    let c := bits w 23 0
    let cap := bits w 29 24
    if cap = 0 ∨ last.any (fun l => decide (c ≤ l)) then 0
    else if c = cell then cap
    else d.reserveCapGo base cell n (i + 1) (some c)

/-- The cap of `cell` in the reserve bank in use, 0 when it is not listed or the list is empty this frame. -/
def Dev.reserveCap (d : Dev) (cell : Nat) : Nat :=
  if d.rbit R.SEQ_STATUS 3 && !d.seq.bankDone then 0
  else d.reserveCapGo (0x48000 + 0x4000 * d.fld R.SEQ_STATUS 4 4) cell 4096 0 none

/-- The hold tick of the cell about to start (R68). -/
def Dev.holdTick (d : Dev) (f : FrameRec) (emitters : List Nat) : Nat :=
  emitters.foldl (fun t e => Nat.max t (match mget d.seq.lastNom e with | some n => n + d.pri e | none => f.startTick)) 0

/-- What the next unstarted cell would do: wait, be missed, or start at C (R68). -/
inductive CellStart where
  | wait | missed | at (c : Nat)
  deriving DecidableEq, Repr

/-- C of the next unstarted cell. It starts only when no earlier cell still has a shot to issue for one of its
emitters (log entry 11). -/
def Dev.cellStart (d : Dev) (f : FrameRec) (e : Entry) (emitters : List Nat) (predicted : Nat) : CellStart :=
  if d.seq.cells.any (fun p => emitters.any (fun x => p.2.leftOf x && p.2.emitters.contains x)) then .wait
  else
    let hold := d.holdTick f emitters
    match e.steer with
    | 0 => .at hold
    | 1 => match d.seq.settledAt with | some x => .at (Nat.max hold (x + 16)) | none => .wait
    | _ =>
      let p := d.fld R.STR_MAP_CFG 10 9
      if !d.rbit (R.STR_STATUS p) 0 then .missed
      else
        let c := predicted - d.fld R.STR_MAP_TIMED_LEAD 15 0
        if c < d.now + 8 ∨ c < hold then .missed else .at c

/-- The next shot of the cells already started: the least nominal tick, then the least emitter (R71). -/
def Dev.nextShot (d : Dev) : Option (Nat × Nat × Nat) :=
  let l := d.seq.cells.flatMap (fun p => (p.2.emitters.filter (fun e => p.2.leftOf e)).map
    (fun e => (p.2.start + mgetD p.2.issued e 0 * d.pri e, e, p.1)))
  l.foldl (fun (b : Option (Nat × Nat × Nat)) x => match b with
    | none => some x
    | some y => if x.1 < y.1 ∨ (x.1 = y.1 ∧ x.2.1 < y.2.1) then some x else some y) none

/-- Byte `n` of the frame's keystream (R72). -/
def Dev.keystream (d : Dev) (frame n : Nat) : Nat :=
  let key := (List.range 8).flatMap (fun i => leBytes 4 (d.reg (R.SEQ_CODE_KEY i)).toNat)
  ((shake256 (key ++ leBytes 1 d.devId ++ leBytes 4 frame) (n + 1)).getD n 0#8).toNat

/-- The pulse-position offset of the frame's n-th shot (R72). -/
def Dev.offset (d : Dev) (frame n codeSet : Nat) : Nat :=
  let cs := d.reg (R.SEQ_CODESET codeSet)
  let mask := bits cs 13 8
  (bits cs 5 0 + (if mask = 0 then 0 else d.keystream frame n &&& mask)) % 64

/-- The lowest-numbered FREE slot usable at edge `t`: a slot released at a tick can be issued into at the first edge
after it (R71, R73). -/
def Dev.freeSlotAt (d : Dev) (t : Nat) : Option Nat :=
  (List.range 192).find? (fun i => (mget d.seq.tally i).isNone && (match mget d.seq.freedAt i with | some x => decide (x < t) | none => true))

/-- Issue one shot of emitter `e` at accepted cell `uid`, nominal tick `n`, into slot `i` (R70 to R72). -/
def Dev.issueShot (d : Dev) (f : FrameRec) (uid e n i : Nat) : Dev :=
  match d.cellOf uid with
  | none => d
  | some c =>
    let k := mgetD c.issued e 0
    let o := d.offset f.num f.issued c.entry.codeSet
    let spaced := match mget d.seq.lastDec e with | some x => x + 400 | none => 0
    let (dec, q) := d.seq.reserve (Nat.max (n + o) (Nat.max spaced (d.now + 8)))
    let id := (d.reg R.SEQ_NEXT_ID).toNat
    let sl : Slot := { shotId := id, uid := uid, cell := c.cell, frame := c.frame, emitter := e, offset := o, k := k
                       reserve := decide (c.entry.dwellMax ≤ k), spec := decide (c.entry.dwellMin ≤ k), dec := dec, nom := n
                       winStart := c.entry.winStart, winLen := c.entry.winLen }
    let q := { q with tally := mput q.tally i sl, lastNom := mput q.lastNom e n, lastDec := mput q.lastDec e dec
                      lastIssueEdge := some d.now, frame := some { f with issued := f.issued + 1, lastIssue := d.now } }
    let d := { d with seq := q }
    let at6 := (d.time + (dec + 6 - d.now)) % 2 ^ 48
    let d := d.onCell uid (fun c => { c with issued := mput c.issued e (k + 1), issueTime := if c.issued.isEmpty then at6 else c.issueTime })
    let d := (d.setReg R.SEQ_NEXT_ID (BitVec.ofNat 32 (id + 1))).inc64 R.SEQ_CNT_ISSUED 1
    let d := if n + o < dec then d.inc64 R.SEQ_CNT_SLIP 1 else d
    let d := (d.setFld R.SEQ_CELL 23 0 c.cell)
    d.noteFree

/-- Accept the next cell of the run at C and take its extra shots from the pool (R68, R84). -/
def Dev.startCell (d : Dev) (f : FrameRec) (e : Entry) (i c : Nat) (emitters : List Nat) : Dev × FrameRec × Nat :=
  let cell := e.cellAt i
  let n := emitters.length
  let pool := d.fld R.SEQ_STATUS 23 16
  let x := if d.rbit R.SEQ_CTRL 1 then Nat.min (d.reserveCap cell) (Nat.min (63 - e.dwellMax) (pool / n)) else 0
  let uid := d.seq.nextUid
  let rec' : CellRec := { uid := uid, cell := cell, frame := f.num, entry := e, emitters := emitters, dwell := e.dwellMax + x
                          start := c }
  let f := { f with run := if i + 1 < e.count then some (e, i + 1) else none }
  let d := { d with seq := { d.seq with nextUid := uid + 1, cells := mput d.seq.cells uid rec', frame := some f, settledAt := none } }
  (((d.setFld R.SEQ_STATUS 23 16 (pool - x * n)).inc64 R.SEQ_CNT_CELLS 1).setBit R.SEQ_STATUS 1 false, f, uid)

/-- SHOT_ISSUE (R71): at one CK_CTL edge the first shot in order is issued, when it lies within the horizon and a slot
is free. `predicted` is the tick the timed port predicts (R118), used for a timed cell only. -/
def Dev.shotIssue (d : Dev) (predicted : Nat) : Dev :=
  match d.seq.frame with
  | none => d
  | some f =>
    if !d.ranging || d.now % 4 != 0 || d.seq.lastIssueEdge == some d.now then d
    else
      let horizon := d.now + d.fld R.SEQ_CTRL 31 16
      let next := d.nextShot
      -- the next unstarted cell's first shot competes when its C is known
      let start := match f.run with
        | some (e, _) => d.cellStart f e (runEmitters e f.enables) predicted
        | none => .wait
      match start, f.run with
      | .missed, some (e, i) =>
        let f := { f with run := if i + 1 < e.count then some (e, i + 1) else none }
        let d := { d with seq := { d.seq with frame := some f } }
        d.notAccepted 1 1 (e.cellAt i) f.num
      | .at c, some (e, i) =>
        let ems := runEmitters e f.enables
        let first := match next with
          | some (n, em, _) => decide (c < n ∨ (c = n ∧ ems.headD 0 < em))
          | none => true
        if first then
          if horizon < c then d
          else match d.freeSlotAt d.now with
            | none => d
            | some sl =>
              let (d, f, uid) := d.startCell f e i c ems
              d.issueShot f uid (ems.headD 0) c sl
        else match next, d.freeSlotAt d.now with
          | some (n, em, uid), some sl => if horizon < n then d else d.issueShot f uid em n sl
          | _, _ => d
      | _, _ => match next, d.freeSlotAt d.now with
        | some (n, em, uid), some sl => if horizon < n then d else d.issueShot f uid em n sl
        | _, _ => d

/-- SHOT_ISSUE (R71). -/
def execShotIssue (t predicted : Nat) (s : State) : Out := s.atTick t (fun d => d.shotIssue predicted)

/-! Handover, settle cells (R68, R73, R118). -/

/-- The next cell is a settle cell and the previous cell's last shot has been handed over: its target is commanded to
every mapped quasi-static axis (R68, R118). -/
def Dev.commandSettle (d : Dev) (m : List Host.Cell) : Dev :=
  match d.seq.frame with
  | none => d
  | some f => match f.run with
    | none => d
    | some (e, i) =>
      if e.steer != 1 || d.seq.settleFor.isSome || d.seq.settledAt.isSome ||
         d.seq.cells.any (fun p => p.2.left) || d.seq.tally.any (fun p => p.2.st == .issued) then d
      else
        let cell := e.cellAt i
        let bins := (plannedBins d.axes (d.fld R.STR_MAP_BASE 23 0) cell).getD []
        let d := bins.foldl (fun d p =>
          if d.strMode p.1.port = 1 && p.1.kind != 2 then
            let c := p.1.centre m p.2
            (d.onPort p.1.port (fun q => { q with target := c, settling := true, settleCnt := 0, settleAt := d.now })).setFld
              (R.STR_SETPOINT p.1.port) 15 0 (unsigned 16 c) |>.setBit (R.STR_STATUS p.1.port) 1 false
          else d) d
        ({ d with seq := { d.seq with settleFor := some cell } }).setBit R.SEQ_STATUS 1 true

/-- HANDOVER (R73): at edge `t` every ISSUED slot whose H has come is HANDED. -/
def execHandover (t : Nat) (s : State) : Out :=
  s.atTick t (fun d => (d.handover d.now).commandSettle s.sram)

/-- Every commanded axis reports settled (R118). -/
def Dev.allSettled (d : Dev) : Bool := (List.range 4).all (fun p => !(d.port p).settling)

/-- The waiting settle cell may issue from the present tick (R68). -/
def Dev.settledNow (d : Dev) : Dev :=
  if d.seq.settleFor.isSome && d.allSettled then
    { d with seq := { d.seq with settleFor := none, settledAt := some d.now } }
  else d

/-- STEERING_SETTLED (R118). -/
def execSteeringSettled (t : Nat) (s : State) : Out := s.atTick t (fun d => d.settledNow)

/-- SETTLE_TIMEOUT (R118): a port still approaching its target after its timeout reports settled anyway. -/
def execSettleTimeout (t port : Nat) (s : State) : Out :=
  s.atTick t (fun d =>
    if (d.port port).settling && decide ((d.port port).settleAt + 1600 * d.fld (R.STR_SETTLE port) 23 8 ≤ d.now) then
      let d := (d.onPort port (fun q => { q with settling := false })).setBit (R.STR_STATUS port) 1 true
      (d.logFault 0x0705 .n).settledNow
    else d)

/-! Confidence and squash (R78 to R82). -/

/-- Every emitter of the cell has fired dwell_min shots at it (R78). -/
def CellRec.minFired (c : CellRec) : Bool := c.emitters.all (fun e => decide (c.entry.dwellMin ≤ mgetD c.fired e 0))

/-- The cell has a slot in ISSUED or a shot left to issue. -/
def Dev.cellOpen (d : Dev) (c : CellRec) : Bool :=
  c.left || d.seq.tally.any (fun p => p.2.uid == c.uid && p.2.st == .issued)

/-- The accepted cells with an index and frame. -/
def Dev.cellsAt (d : Dev) (cell frame : Nat) : List CellRec :=
  (d.seq.cells.map (·.2)).filter (fun c => c.cell == cell && c.frame == frame)

/-- CONFIDENCE_FLAG (R78): the flag is held for the cell until it may be honoured; it has no effect when the cell has
no slot in ISSUED state and no shot left to issue, and is ignored while squash_en = 0. -/
def execConfidenceFlag (t cell frame : Nat) (s : State) : Out :=
  s.atTick t (fun d =>
    if !d.rbit R.SEQ_CTRL 0 then d
    else (d.cellsAt cell frame).foldl (fun d c => if d.cellOpen c then d.onCell c.uid (fun c => { c with flagHeld := true }) else d) d)

/-- SQUASH (R78 to R80): at the first CK_CTL edge from `t`, a cell whose flag is held and whose every emitter has fired
dwell_min shots is squashed with reason 0x01. -/
def execSquash (t cell frame : Nat) (s : State) : Out :=
  s.atTick t (fun d =>
    (d.cellsAt cell frame).foldl (fun d c => if c.flagHeld && c.minFired && d.rbit R.SEQ_CTRL 0 then d.squash c.uid (ctlEdge d.now) 1 else d) d)

/-- What an accepted write of SEQ_SQUASH_CMD does (R82, Table 04-7). -/
def Dev.squashCmd (d : Dev) (w : Word) : Dev :=
  let a := R.SEQ_SQUASH_CMD
  if bits w 7 0 != 1 then d.setReg a (cmdWord w 0xFF 2 2)
  else if !d.ranging then d.setReg a (cmdWord w 0xFF 2 3)
  else
    let l := (d.seq.cells.map (·.2)).filter (fun c => c.cell == d.fld R.SEQ_SQUASH_CELL 23 0 && d.cellOpen c)
    if l.isEmpty then d.setReg a (cmdWord w 0xFF 2 1)
    else (l.foldl (fun d c => d.squash c.uid (ctlEdge d.now) 2) d).setReg a (cmdWord w 0xFF 1 0)

/-- SEQ_SQUASH_CMD (R82). -/
def execSeqSquashCmd (src t : Nat) (value : Word) (s : State) : Out :=
  s.atTick t (fun d => d.cmdWrite src R.SEQ_SQUASH_CMD value (fun d => d.squashCmd value))

/-! Check-in and accounting (R73, R88). -/

/-- One FIRED slot checks in at its window's close (R73). -/
def Dev.checkInOne (d : Dev) (i : Nat) (sl : Slot) : Dev :=
  let t := sl.dec + 6 + sl.winStart + sl.winLen
  let d := (d.freeSlot i t).inc64 R.SEQ_CNT_CHECKED_IN 1
  let d := d.onWindow sl.shotId (fun w => { w with closed := true })
  let d := d.onBlock sl.emitter sl.blockSeq (fun b =>
    let l := Nat.max b.lastClose t
    { b with lastClose := l, x := match b.closedAt with | some c => Nat.max c l | none => b.x })
  d.onCell sl.uid (fun c => { c with lastClose := Nat.max c.lastClose t })

/-- CHECK_IN (R73): every FIRED slot whose window has closed returns to FREE. -/
def execCheckIn (t : Nat) (s : State) : Out :=
  s.atTick t (fun d =>
    (d.seq.tally.filter (fun p => p.2.st == .fired && decide (p.2.dec + 6 + p.2.winStart + p.2.winLen ≤ d.now))).foldl
      (fun d p => d.checkInOne p.1 p.2) d)

/-- The accounting identities of R88. -/
def Dev.accountingHolds (d : Dev) : Bool :=
  let live := d.tallyCount false
  let fired := d.tallyCount true
  d.reg64 R.SEQ_CNT_ISSUED == d.reg64 R.SEQ_CNT_FIRED + d.reg64 R.SEQ_CNT_SQUASHED + d.reg64 R.SEQ_CNT_WITHHELD + live &&
  d.reg64 R.SEQ_CNT_FIRED == d.reg64 R.SEQ_CNT_CHECKED_IN + fired

/-- ACCOUNTING_CHECK (R88). -/
def execAccountingCheck (t : Nat) (s : State) : Out :=
  s.atTick t (fun d => if d.accountingHolds then d else d.raise 0x0506 .h)

/-- TALLY_PARITY_ERROR (R75). -/
def execTallyParityError (t : Nat) (s : State) : Out := s.atTick t (fun d => d.raise 0x0501 .h)

/-- The four words of a tally window slot (Table 04-13); of a FREE slot only the state is given. -/
def Dev.tallyWords (d : Dev) (i : Nat) : List Word :=
  match mget d.seq.tally i with
  | none => d.freeWords [0xFFFFFFFF#32, 0x1FFFFFFF#32, 0xFFFF7FFF#32, 0xFFFFFFFF#32]
  | some q =>
    let st := match q.st with | .issued => 1 | .handed => 2 | .fired => 3
    let w2 := q.offset % 64 + 64 * (q.k % 64) + 4096 * b2n q.reserve + 8192 * b2n (q.reattr && q.st == .fired) + 16384 * b2n q.spec
    let dt := (d.time + (q.dec - d.now) - (d.now - q.dec)) % 2 ^ 32
    [BitVec.ofNat 32 q.shotId, BitVec.ofNat 32 (q.cell + 2 ^ 24 * q.emitter + 2 ^ 29 * st),
     BitVec.ofNat 32 (w2 + 65536 * (dt % 65536)), BitVec.ofNat 32 (dt / 65536 + 65536 * (if q.st == .fired then q.blockSeq % 65536 else 0))]

/-- A window read under the snapshot rule of R93: word 0 loads the snapshot; a later word of the same entry comes from
it, and once more sets torn; any other read returns the live word and sets torn. `old` is the snapshot held. -/
def snapRead (old : Option (Nat × List Word × List Nat)) (live : List Word) (i w : Nat) :
    Word × Option (Nat × List Word × List Nat) × Bool :=
  if w = 0 then (live.getD 0 0, some (i, live, [0]), false)
  else match old with
    | some (j, ws, seen) =>
      if j = i then (ws.getD w 0, some (j, ws, w :: seen), seen.contains w) else (live.getD w 0, old, true)
    | none => (live.getD w 0, none, true)

/-- TALLY_SNAPSHOT_READ (R93): requester `src` reads word `word` of tally slot `slot`. -/
def Dev.tallyRead (d : Dev) (src slot word : Nat) : Dev :=
  let (v, sn, torn) := snapRead (d.req src).tallySnap (d.tallyWords slot) slot word
  let d := d.onReq src (fun r => { r with tallySnap := sn, lastData := [v] })
  let d := if torn then d.sticky src 0 else d
  (d.drew.incSat (R.MGT_CNT_RD src) 31 0 1).respond src 0

/-- TALLY_SNAPSHOT_READ (R93). -/
def execTallySnapshotRead (src t slot word : Nat) (s : State) : Out := s.atTick t (fun d => d.budgetRead src 21 (fun d => d.tallyRead src slot word))

/-! Frame boundary (R66, R83, R106, R116, R124, R141, R186, R192, R195). -/

/-- The reserve list switches banks and the pool is emptied (R83, R84, R195). -/
def Dev.switchReserve (d : Dev) : Dev :=
  let building := 1 - d.fld R.SEQ_STATUS 4 4
  let base := 0x48000 + 0x4000 * building
  let off := !d.rbit R.HST_CTRL 2 || d.hoistFailed
  let complete := off || !d.rbit R.HST_STATUS 1
  -- the lode logic ends the bank with an entry of cap 0, unless it is full
  let n := if off then 0 else d.hst.reserveCount
  let d := if n < 4096 then d.setReg (base + 4 * n) 0 else d
  let d := (d.setFld R.SEQ_STATUS 23 16 0).setFld R.SEQ_STATUS 4 4 building
  let d := { d with seq := { d.seq with bankDone := complete }, hst := { d.hst with lastReserve := none, reserveCount := 0, lodeAddedFrame := [] } }
  if complete then d else (d.setBit R.SEQ_STATUS 3 true).logFault 0x0505 .n

/-- The lode map words sampled at a bank start (R192). -/
def Dev.lodeSample (d : Dev) : List Word :=
  [d.reg R.HST_LODE_CELL, d.reg R.HST_LODE_CELL_N, d.reg R.HST_LODE_CH, d.reg R.HST_LODE_CFG]

/-- A sampled map is invalid (R190). -/
def lodeBad (l : List Word) : Bool :=
  let n := bits (l.getD 1 0) 23 0
  let ch := l.getD 2 0
  let cands := 2 ^ bits (l.getD 3 0) 12 11
  n == 0 || decide (256 < bits ch 7 0 + bits ch 16 8) || decide (2 ^ 20 < n * bits ch 16 8 * cands)

/-- A lode bank starts accumulating: the epoch grows, map and configuration are sampled; when the epoch wraps to 0 the
anchor tables are cleared first (R192). -/
def Dev.lodeStart (d : Dev) (bank : Nat) : Dev :=
  let ep := (d.hst.lodeEpoch + 1) % 2 ^ 32
  let sm := d.lodeSample
  let bad := lodeBad sm
  -- an export of this bank stops, and a gap record gives the slots not examined (R240)
  let d := match d.pnt.export_ with
    | some x => if x.bank = bank then (({ d with pnt := { d.pnt with export_ := none } }).setBit R.PNT_STATUS 3 false).gap 9 (x.total - x.next) 4 else d
    | none => d
  let d := { d with hst := { d.hst with lodeEpoch := ep, lodeBank := bank, lodeStarted := true, lodeSampled := sm
                                        lodeInvalid := bad, lodeAddedFrame := [], clearing := d.hst.clearing || ep == 0 } }
  let d := (d.setReg R.HST_LODE_EPOCH (BitVec.ofNat 32 ep)).setReg R.HST_LODE_FRAMES 0
  let d := d.setBit R.HST_STATUS 3 (bank == 1)
  let d := if ep = 0 then d.setBit R.HST_STATUS 4 true else d
  if bad then d.logFault 0x0A05 .n else d

/-- The lode logic at a frame boundary (R192). -/
def Dev.lodeBoundary (d : Dev) : Dev :=
  if !d.rbit R.HST_CTRL 2 || d.hoistFailed then d
  else if !d.hst.lodeStarted then d.lodeStart 0
  else
    let n := d.fld R.HST_LODE_FRAMES 7 0
    if bits (d.hst.lodeSampled.getD 3 0) 7 0 ≤ n then
      ({ d with hst := { d.hst with sealedBank := some (d.hst.lodeBank, d.hst.lodeEpoch, d.hst.lodeSampled) } }).lodeStart (1 - d.hst.lodeBank)
    else d.setReg R.HST_LODE_FRAMES (BitVec.ofNat 32 (n + 1))

/-- The present frame's boundary is due: its first shot has reached its decision tick, or it has ended with no shot
and its start tick has come (R66). -/
def Dev.boundaryDue (d : Dev) (f : FrameRec) : Bool :=
  if f.boundary then false
  else if f.issued = 0 then f.ended && decide (Nat.max f.startTick (ctlEdge f.lastRead) ≤ d.now)
  else d.seq.tally.any (fun p => p.2.frame == f.num && decide (p.2.dec ≤ d.now)) ||
       !d.seq.tally.any (fun p => p.2.frame == f.num)

/-- What passes at a frame boundary. -/
def Dev.frameBoundary (d : Dev) (m : List Host.Cell) (edgePoisoned : Bool) (f : FrameRec) : Dev :=
  let d := d.applyShadow
  let d := match d.clk.stepPend with | some (n, src) => d.applyStep n src | none => d
  let d := d.rejoin
  let d := d.switchReserve
  let d := d.lodeBoundary
  let bad := d.mapInvalid m || (edgePoisoned && d.axes.any (·.table))
  let d := if bad then d.logFault 0x0706 .n else d
  let d := { d with seq := { d.seq with frame := some { f with boundary := true, mapInvalid := bad } }
                    fmn := { d.fmn with recheckDue := d.ranging } }
  let d := (d.setReg R.SEQ_FRAME (BitVec.ofNat 32 f.num)).setReg64 R.SEQ_FRAME_START d.time
  ((d.cnyBoundary f.num).calBoundary).csiBoundary f.num

/-- FRAME_BOUNDARY (R66). -/
def execFrameBoundary (t : Nat) (edgePoisoned : Bool) (s : State) : Out :=
  s.atTick t (fun d => match d.seq.frame with
    | none => d
    | some f => if d.boundaryDue f then d.frameBoundary s.sram edgePoisoned f else d)

end Sys2Proof.Machine
end

