-- ==== Sys2Proof/Machine/Emission.lean ====
section
/-! DEFINITION. The emission gate's commands (chapter 5): inhibits, admission, fire, the monitor, budget windows. -/
namespace Sys2Proof.Machine

/-- An inhibit of Table 05-1 that applies to emitter `e` is captured at tick `t` (R98 condition 1). -/
def Dev.inhibited (d : Dev) (e t : Nat) : Bool :=
  let p := d.emitSteer e
  d.captured 0 t || d.captured 1 t || d.captured 2 t ||
  (!d.emitSteerNone e && (d.captured (4 + p) t || d.captured (8 + p) t)) ||
  d.rbit R.EMT_REMOVED e || (match d.emt.heldCapture with | some c => decide (c ≤ t) && d.top.state == .held | none => false)

/-- Nominal energy admitted and not yet fired in group `g` (R104). -/
def Dev.pendingEnergy (d : Dev) (g : Nat) : Nat :=
  ((d.seq.tally.filter (fun p => p.2.admitted && p.2.st == .handed && d.emitGroup p.2.emitter == g)).map
    (fun p => d.emitNominal p.2.emitter)).sum

/-- The budget test of R104. -/
def Dev.budgetPasses (d : Dev) (e t : Nat) : Bool :=
  let g := d.emitGroup e
  (List.range 3).all (fun w => decide (d.winSum g w t + d.pendingEnergy g + d.emitNominal e ≤ d.winLim g w))

/-- A HANDED shot is withheld at D for audit reason `r` (R76, R98). -/
def Dev.withhold (d : Dev) (i : Nat) (sl : Slot) (r : Nat) : Dev :=
  let d := ((d.freeSlot i sl.dec).inc64 R.SEQ_CNT_WITHHELD 1).inc64
    (if r = 1 then R.EMT_CNT_REF_BUDGET else if r = 2 then R.EMT_CNT_REF_INHIBIT else R.EMT_CNT_REF_STEER) 1
  let d := if r = 1 then d.setInhibit (12 + d.emitGroup sl.emitter) true else d
  let w : WRec := { id := sl.shotId, reason := r, uid := sl.uid, cell := sl.cell, emitter := sl.emitter, frame := sl.frame }
  let d := { d with seq := { d.seq with withheld := insertW w d.seq.withheld } }
  (d.closeBlocks sl.uid d.now).flushRuns

/-- The gate's decision on one HANDED shot at its D (R98). -/
def Dev.admitOne (d : Dev) (m : List Host.Cell) (i : Nat) (sl : Slot) : Dev :=
  let mapBad := match d.seq.frame with | some f => f.mapInvalid && f.num == sl.frame | none => false
  let d := { d with seq := d.seq.consume sl.dec }
  if d.inhibited sl.emitter sl.dec then d.withhold i sl 2
  else if !d.budgetPasses sl.emitter sl.dec then d.withhold i sl 1
  else if !d.emitSteerNone sl.emitter && !d.admitInside m mapBad (d.emitSteer sl.emitter) sl.cell (sl.dec + 6) then d.withhold i sl 3
  else { d with seq := { d.seq with tally := mput d.seq.tally i { sl with admitted := true } } }

/-- Insert a slot in order of decision tick, then emitter (R104). -/
def insertDec (x : Nat × Slot) : List (Nat × Slot) → List (Nat × Slot)
  | [] => [x]
  | a :: r => if x.2.dec < a.2.dec ∨ (x.2.dec = a.2.dec ∧ x.2.emitter < a.2.emitter) then x :: a :: r else a :: insertDec x r

/-- ADMISSION_TEST (R98): every HANDED shot whose D has come is admitted or withheld, in order of D and then of emitter
number. -/
def execAdmissionTest (t : Nat) (s : State) : Out :=
  s.atTick t (fun d =>
    let due := (d.seq.tally.filter (fun p => p.2.st == .handed && !p.2.admitted && decide (p.2.dec ≤ d.now))).foldl
      (fun l p => insertDec p l) []
    due.foldl (fun d p => d.admitOne s.sram p.1 p.2) d)

/-- Assign the fired shot its block: the open block of its emitter at its cell, or the next sequence (R77). Answers
the sequence and the shot's place. -/
def Dev.assignBlock (d : Dev) (sl : Slot) : Dev × Nat × Nat :=
  match d.cellOf sl.uid with
  | none => (d, 0, 0)
  | some c => match mget c.blocks sl.emitter with
    | some (sq, n) => ((d.onCell sl.uid (fun c => { c with blocks := mput c.blocks sl.emitter (sq, n + 1) })).onBlock sl.emitter sq
        (fun b => { b with shots := b.shots + 1 }), sq, n)
    | none =>
      let sq := mgetD d.seq.blockSeq sl.emitter 0
      let d := { d with seq := { d.seq with blockSeq := mput d.seq.blockSeq sl.emitter ((sq + 1) % 2 ^ 24) } }
      let d := (d.openBlock sl.emitter sq sl.uid sl.cell sl.frame).onBlock sl.emitter sq (fun b => { b with shots := 1 })
      (d.onCell sl.uid (fun c => { c with blocks := mput c.blocks sl.emitter (sq, 1) }), sq, 0)

/-- Open the histograms of an accepted cell on the channels of its first fired shot (R175): the lower-numbered FREE
slot of each channel, or a no_slot pair. -/
def Dev.openHists (d : Dev) (uid : Nat) (chs : List Nat) : Dev :=
  match d.cellOf uid with
  | none => d
  | some c => (chs.filter (fun x => !c.channels.contains x && !c.noSlot.contains x)).foldl (fun d ch =>
      let free := [2 * ch, 2 * ch + 1].find? (fun k => (mget d.hst.hists k).isNone)
      match free with
      | some k =>
        let q := ch / 8
        let set := bits (d.reg (R.SIV_PORT_SET0 + 4 * (q / 16))) (2 * (q % 16) + 1) (2 * (q % 16))
        let h : Hist := { uid := uid, cell := c.cell, frame := c.frame, winStart := c.entry.winStart, winLen := c.entry.winLen
                          lode := c.entry.lode, stream := c.entry.stream, ctrl := d.reg R.SIV_CTRL, thr := d.reg (R.SIV_THR set)
                          coef := (List.range 4).map (fun j => d.reg (R.SIV_COEF (4 * set + j))) }
        let d := { d with hst := { d.hst with hists := mput d.hst.hists k h } }
        (d.onCell uid (fun c => { c with channels := c.channels ++ [ch] })).inc64 R.HST_CNT_OPENED 1
      | none =>
        let d := d.onCell uid (fun c => { c with noSlot := c.noSlot ++ [ch] })
        (d.inc64 R.HST_CNT_NOSLOT 1).onceFault R.HST_STATUS 0 0x0A02) d

/-- The fire sample decides whether the shot stays with its planned cell (R85, R123). -/
def Dev.fireSample (d : Dev) (m : List Host.Cell) (sl : Slot) : Dev × Slot :=
  let mapBad := match d.seq.frame with | some f => f.mapInvalid && f.num == sl.frame | none => false
  let t := sl.dec + 6
  let d := (List.range 4).foldl (fun d p =>
    (d.setFld (R.STR_POS_FIRE p) 15 0 (unsigned 16 (d.posAt p t))).setFld (R.STR_POS_FIRE p) 19 16 (d.polyAt p t).1) d
  if d.allInside m mapBad sl.cell t then (d, sl)
  else
    let mc := if mapBad then none else d.measuredCell m t
    let d := (d.inc64 R.SEQ_CNT_REATTR 1).inc64 R.STR_CNT_OUTSIDE 1
    let d := if mc.isNone then (d.inc64 R.STR_CNT_NOCELL 1).inc64 R.SEQ_CNT_REATTR_LOST 1 else d
    (d, { sl with reattr := true, measured := mc })

/-- Debit the nominal energy at the fire instant (R105). -/
def Dev.debit (d : Dev) (sl : Slot) (ok : Bool) : Dev :=
  let g := d.emitGroup sl.emitter
  let t := sl.dec + 6
  let nom := d.emitNominal sl.emitter
  let d := (List.range 3).foldl (fun d w => d.addEnergy g w t (d.bucketAt g w t) nom) d
  let mc := d.reg (R.EMT_MON_CFG sl.emitter)
  let done := t + bits mc 3 0 + bits mc 9 4 + 8
  let r : MonRec := { emitter := sl.emitter, fire := t, done := done, apply := Nat.max done (t + sl.winStart), nominal := nom, group := g
                      checked := ok, geometry := ((List.range 3).map (fun w => mgetD d.emt.geom (3 * g + w) 0)).sum }
  { d with emt := { d.emt with mon := d.emt.mon ++ [r] } }

/-- One admitted shot fires (R74, R77, R85, R94, R105). -/
def Dev.fireOne (d : Dev) (m : List Host.Cell) (i : Nat) (sl : Slot) : Dev :=
  let t := sl.dec + 6
  let ok := !d.rbit R.EMT_STATUS 2
  let (d, sl) := d.fireSample m sl
  let (d, sq, pl) := d.assignBlock sl
  let d := d.debit sl ok
  let sl := { sl with st := .fired, admitted := false, emitOk := ok, blockSeq := sq, place := pl }
  let d := { d with seq := { d.seq with tally := mput d.seq.tally i sl } }
  let d := (d.inc64 R.SEQ_CNT_FIRED 1).onCell sl.uid (fun c => 
    { c with fired := mupd c.fired sl.emitter 0 (· + 1), firedTotal := c.firedTotal + 1
             firstTime := if c.firedTotal = 0 then (d.time + t - d.now) % 2 ^ 48 else c.firstTime })
  let chs := d.listenChannels sl.emitter
  let w : Win := { slot := i, uid := sl.uid, emitter := sl.emitter, shotId := sl.shotId, blockSeq := sq, place := pl
                   openT := t + sl.winStart, len := sl.winLen, slip := sl.dec - sl.nom, reattr := sl.reattr, measured := sl.measured
                   chs := chs.map (fun c => (c, {})) }
  let d := { d with gat := { d.gat with wins := d.gat.wins ++ [w] } }
  let d := d.shotTrigger 0 sl.emitter t sl.shotId sl.cell []
  -- a blind port's cells carry port_blind (R404)
  let d := if (d.rmap sl.emitter).any (fun q => d.portBlind q) then d.onCell sl.uid (fun c => { c with blind := true }) else d
  let minHit := match d.cellOf sl.uid with | some c => mgetD c.fired sl.emitter 0 == c.entry.dwellMin | none => false
  let d := if pl + 1 == 8 || minHit then d.closeBlock sl.uid sl.emitter t else d
  let d := d.closeBlocks sl.uid t
  d.flushRuns

/-- FIRE (R74): every admitted shot whose fire instant D + 6 has come checks out. -/
def execFire (t : Nat) (s : State) : Out :=
  s.atTick t (fun d =>
    let due := (d.seq.tally.filter (fun p => p.2.admitted && p.2.st == .handed && decide (p.2.dec + 6 ≤ d.now))).foldl
      (fun l p => insertDec p l) []
    due.foldl (fun d p => d.fireOne s.sram p.1 p.2) d)

/-- INHIBIT_ASSERT (R99, R100): INHIBIT_n falls; every emitter is inhibited from the capture on. -/
def execInhibitAssert (t : Nat) (s : State) : Out :=
  s.atTick t (fun d => ({ d with emt := { d.emt with pinLow := true } }).setInhibit 0 true)

/-- INHIBIT_N_RELEASE (R100): the pin inhibit ends with its source. -/
def execInhibitNRelease (t : Nat) (s : State) : Out :=
  s.atTick t (fun d => ({ d with emt := { d.emt with pinLow := false } }).setInhibit 0 false)

/-- EN_SETTLE_EXPIRY (R97): EMIT_EN has been high for en_settle µs. -/
def execEnSettleExpiry (t : Nat) (s : State) : Out :=
  s.atTick t (fun d =>
    if d.emt.emitEn && decide (d.emt.enSince + 1600 * d.fld R.EMT_CTRL 15 8 ≤ d.now) then d.setInhibit 2 false else d)

/-! The emission monitor (R102, R105, R107). -/

/-- The result is a mismatch below the low limit, or above the high one (R107). -/
def Dev.monLow (d : Dev) (e nom result : Nat) : Bool := decide (result * 64 + nom * d.fld (R.EMT_MON_CFG e) 15 10 < nom * 64)
/-- Above the high limit. -/
def Dev.monHigh (d : Dev) (e nom result : Nat) : Bool := decide (nom * (64 + d.fld (R.EMT_MON_CFG e) 21 16) < result * 64)

/-- Remove an emitter (R107): 0x0602, its inhibit at once. -/
def Dev.removeEmitter (d : Dev) (e : Nat) : Dev :=
  ((d.raiseD 0x0602 (.emitter e)).setBit R.EMT_REMOVED e true).setInhibit 20 true

/-- One conversion result and its checks (R102, R107). -/
def Dev.monResult (d : Dev) (r : MonRec) (result : Nat) : Dev :=
  let e := r.emitter
  let chk := d.rbit R.EMT_CTRL 0 && r.checked
  let lo := chk && d.monLow e r.nominal result
  let hi := chk && d.monHigh e r.nominal result
  let d := d.setFld (R.EMT_MON_LAST e) 15 0 (result + 1024 + 2048 * b2n lo + 4096 * b2n hi)
  if !chk then d
  else
    let d := if lo || hi then
        let d := d.incSat (R.EMT_MON_LAST e) 31 16 1
        let n := mgetD d.emt.miss e 0 + 1
        let d := { d with emt := { d.emt with miss := mput d.emt.miss e n } }
        if d.fld (R.EMT_MON_CFG e) 25 22 ≤ n && !d.rbit R.EMT_REMOVED e then d.removeEmitter e else d
      else { d with emt := { d.emt with miss := mdel d.emt.miss e } }
    if result = 1023 ∨ 2 * r.nominal ≤ result then d.raise 0x0603 .h else d

/-- MON_CONVERSION (R102): the oldest unconverted shot of the emitter gets its result, 0 to 1,023 energy units. -/
def execMonConversion (t emitter result : Nat) (s : State) : Out :=
  s.atTick t (fun d =>
    let result := satN 1023 result
    match d.emt.mon.find? (fun r => r.emitter == emitter && r.result.isNone && decide (r.done ≤ d.now)) with
    | none => d
    | some r =>
      let d := { d with emt := { d.emt with mon := d.emt.mon.map (fun x => if x == r then { x with result := some result } else x) } }
      d.monResult r result)

/-- The correction of one shot's debit in one window (R105). -/
def Dev.correct (d : Dev) (r : MonRec) (result w : Nat) : Dev :=
  let g := r.group
  let t := d.now
  if r.nominal < result then d.addEnergy g w t (d.bucketAt g w t) (result - r.nominal)
  else if result < r.nominal then
    let moved := r.geometry != ((List.range 3).map (fun w => mgetD d.emt.geom (3 * g + w) 0)).sum
    let b := if moved && (d.win g w).inherited.isSome then (d.win g w).inherited.getD 0 else d.bucketAt g w r.fire
    if d.inSpan g w t b then d.onWin g w (fun x => { x with buckets := mupd x.buckets b 0 (fun e => e - (r.nominal - result)) }) else d
  else d

/-- MON_DEBIT_CORRECTION (R105): the nominal of every shot whose correction is due is replaced by its result. Shots
fired while EMIT_EN was low or unsettled, and every shot while mon_check = 0, keep the nominal. -/
def execMonDebitCorrection (t : Nat) (s : State) : Out :=
  s.atTick t (fun d =>
    let due := d.emt.mon.filter (fun r => r.result.isSome && decide (r.apply ≤ d.now))
    let d := { d with emt := { d.emt with mon := d.emt.mon.filter (fun r => !(r.result.isSome && decide (r.apply ≤ d.now))) } }
    due.foldl (fun d r => if d.rbit R.EMT_CTRL 0 && r.checked then
        (List.range 3).foldl (fun d w => d.correct r (r.result.getD 0) w) d else d) d)

/-- A MON pulse at tick `t` lies inside a gate of the emitter. -/
def Dev.inMonGate (d : Dev) (e t : Nat) : Bool :=
  d.emt.mon.any (fun r => r.emitter == e && decide (r.done ≤ t + 8 + d.fld (R.EMT_MON_CFG e) 9 4 ∧ t + 8 < r.done))

/-- STRAY_MON_PULSE (R107): a pulse outside any gate of the emitter is counted; more than 4 on one emitter within one
round raise 0x0605. -/
def execStrayMonPulse (t emitter : Nat) (s : State) : Out :=
  s.atTick t (fun d =>
    if !d.rbit R.EMT_CTRL 0 || d.inMonGate emitter d.now then d
    else
      let n := mgetD d.emt.stray emitter 0 + 1
      let d := (d.incSat R.EMT_CNT_STRAY 31 0 1)
      let d := { d with emt := { d.emt with stray := mput d.emt.stray emitter n } }
      if n = 5 then d.raise 0x0605 .h else d)

/-- BUDGET_BUCKET_BOUNDARY (R103): buckets that have left the summed span are dropped from every window. -/
def execBudgetBucketBoundary (t : Nat) (s : State) : Out :=
  s.atTick t (fun d =>
    { d with emt := { d.emt with wins := d.emt.wins.map (fun p =>
        (p.1, { p.2 with buckets := p.2.buckets.filter (fun b => d.inSpan (p.1 / 3) (p.1 % 3) d.now b.1) })) } })

/-- What EMT_CMD does (R107, Table 05-5). -/
def Dev.emtCmd (d : Dev) (w : Word) : Dev :=
  let a := R.EMT_CMD
  let keep := 0x1F0000FF
  let e := bits w 28 24
  if bits w 7 0 != 1 then d.setReg a (cmdWord w keep 2 4)
  else if !d.inState [.armed, .ranging] then d.setReg a (cmdWord w keep 2 1)
  else if !d.rbit R.EMT_REMOVED e then d.setReg a (cmdWord w keep 2 3)
  else if !d.faultCleared 0x0602 then d.setReg a (cmdWord w keep 2 2)
  else
    let d := d.setReg a (cmdWord w keep 1 0)
    { d with top := { d.top with rejoining := d.top.rejoining ++ [.emitter e] } }

/-- EMT_REINSTATE (R107): EMT_CMD opcode 0x01 for an emitter. -/
def execEmtReinstate (src t emitter : Nat) (s : State) : Out :=
  let w := BitVec.ofNat 32 (1 + 2 ^ 24 * (emitter % 32))
  s.atTick t (fun d => d.cmdWrite src R.EMT_CMD w (fun d => d.emtCmd w))

/-- BUDGET_PARITY_ERROR (R108). -/
def execBudgetParityError (t : Nat) (s : State) : Out := s.atTick t (fun d => d.raise 0x0604 .h)

end Sys2Proof.Machine
end

