-- ==== Sys2Proof/Machine/FrontEnd.lean ====
section
/-! DEFINITION. The return front end's commands (chapter 7) and listening windows (R151, R153). -/
namespace Sys2Proof.Machine

/-- Channel `c`. -/
def Dev.ch (d : Dev) (c : Nat) : RfeCh := mgetD d.rfe c {}

/-- Change channel `c`. -/
def Dev.onCh (d : Dev) (c : Nat) (f : RfeCh → RfeCh) : Dev := { d with rfe := mput d.rfe c (f (d.ch c)) }

/-- The effective low threshold (R137). -/
def Dev.thrEff (d : Dev) (c : Nat) : Nat :=
  Nat.min 1023 (d.fld (R.RFE_THR c) 9 0 + d.fld (R.RFE_STATUS c) 7 4 * d.fld (R.RFE_AMB_CFG c) 4 0)

/-- Report thr_eff, range and active of channel `c` (Table 07-11). -/
def Dev.chReport (d : Dev) (c : Nat) : Dev :=
  let d := (d.setFld (R.RFE_STATUS c) 17 8 (d.thrEff c)).setBit (R.RFE_STATUS c) 2 (d.rbit (R.RFE_CTRL c) 2)
  d.setBit (R.RFE_STATUS c) 0 (d.rbit (R.RFE_CTRL c) 0 && !d.chRemoved c)

/-- A window is scheduled for channel `c`: one is open or will open on it (R135). For a disabled channel the windows it
would take count. -/
def Dev.scheduled (d : Dev) (c : Nat) : Bool :=
  d.gat.wins.any (fun w => !w.closed && (d.rmap w.emitter).contains (c / 8))

/-- The edge becomes an event; a settle marks it (R135). -/
def Dev.captureEdge (d : Dev) (c t fine : Nat) : Dev :=
  let q := d.ch c
  let settle := match q.settleFrom with | some x => decide (x ≤ t ∧ t < x + 12) | none => false
  let e : TdcEvent := { tick := t, fine := fine % 32, settle := settle, notch := d.fld (R.RFE_STATUS c) 7 4 }
  let d := d.onCh c (fun q => { q with lastEdge := some t, events := q.events ++ [e] })
  d.inc64 (R.RFE_CNT_EVENT c) 1

/-- One leading edge at (t, fine) on channel `c` (R129 to R131): captured, or lost in the dead time. A removed or
disabled channel captures nothing. -/
def Dev.leadingEdge (d : Dev) (c fine : Nat) : Dev :=
  if c ≥ 256 || !d.rbit (R.RFE_CTRL c) 0 || d.chRemoved c then d
  else
    let t := d.now
    let q := d.ch c
    match q.lastEdge with
    | some x =>
      if t < x + 12 then
        let d := d.inc64 (R.RFE_CNT_LOST c) 1
        d.onCh c (fun q => { q with events := q.events.map (fun e => if e.tick = x then { e with lost := true, pileup := true } else e) })
      else d.captureEdge c t fine
    | none => d.captureEdge c t fine
/-- LEADING_EDGE (R131). -/
def execLeadingEdge (t ch fine : Nat) (s : State) : Out := s.atTick t (fun d => d.leadingEdge ch fine)

/-- EVENT_COMPLETE (R128, R130): the oldest incomplete event of the channel completes with its width and hi flag, not
before its dead time has ended. -/
def execEventComplete (t ch width : Nat) (hi : Bool) (s : State) : Out :=
  s.atTick t (fun d =>
    match (d.ch ch).events.find? (fun e => !e.complete) with
    | none => d
    | some e =>
      let w := satN 31 width
      let pw := d.fld (R.RFE_CTRL ch) 12 8
      let pile := e.pileup || (pw != 0 && decide (pw ≤ w))
      if d.now < Nat.min (e.tick + Nat.max 12 w) (e.tick + 31) then d
      else
        let e' := { e with width := w, hi := hi, pileup := pile, complete := true }
        let d := d.onCh ch (fun q => { q with events := q.events.map (fun x => if x == e then e' else x) })
        let d := d.setReg (R.RFE_LAST ch) (BitVec.ofNat 32 (eventRecord (e.tick % 4096) e.fine w hi pile))
        let d := if hi then d.incSat (R.RFE_CNT_HI ch) 31 0 1 else d
        if pile then d.incSat (R.RFE_CNT_PILEUP ch) 31 0 1 else d)

/-- EVENT_ARRIVAL (R128, R150): 4 ticks after it completes, the oldest complete record reaches the gating block and
passes its stages. A record of a channel removed meanwhile is not delivered (R145); events judged already due are
settled first. -/
def execEventArrival (t ch : Nat) (s : State) : Out :=
  s.atTick t (fun d =>
    let d := d.gateSettle d.now
    match (d.ch ch).events with
    | [] => d
    | e :: r =>
      if !e.complete then d
      else
        let d := d.onCh ch (fun q => { q with events := r })
        if d.chRemoved ch then d else d.gateIn ch e)

/-! Window boundaries (R135, R137, R139, R158). -/

/-- Pending notch requests are applied: up wins over down; each applied step is counted (R139). -/
def Dev.applyNotch (d : Dev) (c : Nat) : Dev :=
  let q := d.ch c
  let n := d.fld (R.RFE_STATUS c) 7 4
  let d := d.onCh c (fun q => { q with upReq := false, downReq := false, notchZero := false })
  if q.notchZero then (d.setFld (R.RFE_STATUS c) 7 4 0).onCh c (fun q => { q with below := 0 })
  else if q.upReq && decide (n < d.fld (R.RFE_AMB_CFG c) 8 5) then
    ((d.setFld (R.RFE_STATUS c) 7 4 (n + 1)).incSat (R.RFE_CNT_NOTCH c) 15 0 1).onCh c (fun q => { q with below := 0 })
  else if q.upReq then d
  else if q.downReq && 0 < n then (d.setFld (R.RFE_STATUS c) 7 4 (n - 1)).incSat (R.RFE_CNT_NOTCH c) 31 16 1
  else d

/-- Pending writes of channel `c` take effect; a change of range switches the input and settles it for 12 ticks (R135,
R137). -/
def Dev.applyCh (d : Dev) (c : Nat) : Dev :=
  let p := (d.ch c).pend
  let oldRange := d.rbit (R.RFE_CTRL c) 2
  let oldAmb := d.rbit (R.RFE_CTRL c) 3
  let d := p.foldl (fun d x => d.setReg x.1 x.2) (d.onCh c (fun q => { q with pend := [] }))
  let d := if d.rbit (R.RFE_CTRL c) 2 != oldRange then (d.startSettle c d.now).setBit (R.RFE_STATUS c) 3 true else d
  let d := if oldAmb && !d.rbit (R.RFE_CTRL c) 3 then d.onCh c (fun q => { q with notchZero := true, below := 0 }) else d
  let d := d.applyNotch c
  let d := { d with gat := { d.gat with mEff := mput d.gat.mEff c (d.mEffOf (c / 8)), cfgAt := mdel d.gat.cfgAt c } }
  let q := c / 8
  let d := (d.setFld (R.GAT_PORT_STATUS q) 1 0 (d.mEffOf q)).setBit (R.GAT_PORT_STATUS q) 2 (d.rbit (R.RFE_PORT_STATUS q) 0)
  d.chReport c

/-- WINDOW_BOUNDARY_APPLY (R135): a scheduled window of the channel opens or closes at `t`. -/
def execWindowBoundaryApply (t ch : Nat) (s : State) : Out :=
  s.atTick t (fun d => if ch < 256 then d.applyCh ch else d)

/-- SETTLE_END (R135): 12 ticks after the switch. -/
def execSettleEnd (t ch : Nat) (s : State) : Out :=
  s.atTick t (fun d => match (d.ch ch).settleFrom with
    | some x => if x + 12 ≤ d.now then (d.onCh ch (fun q => { q with settleFrom := none })).setBit (R.RFE_STATUS ch) 3 false else d
    | none => d)

/-- A write of one of channel `c`'s configuration words: mode only outside RANGING (R136); range, enable, thresholds
and step wait for the next window boundary while a window is scheduled (R135, R137); the rest takes effect at once. -/
def Dev.rfeWrite (d : Dev) (c a : Nat) (v : Word) : Dev :=
  let old := d.reg a
  let off := a % 64
  if off = 0 then
    let v := v &&& 0x1F1F#32
    let modeCh := bits v 1 1 != bits old 1 1
    let refuse := modeCh && d.ranging
    let v := if refuse then setBits v 1 1 (bits old 1 1) else v
    let d := if refuse then d.setBit (R.RFE_STATUS c) 18 true else d
    -- amb_en, coinc_req_en and pile_width act at once; enable and range wait
    let now := setBits (setBits v 0 0 (bits old 0 0)) 2 2 (bits old 2 2)
    let d := d.setReg a now
    let d := if modeCh && !refuse then (d.startSettle c d.now).setBit (R.RFE_STATUS c) 3 true else d
    let d := if bits old 3 3 = 1 ∧ bits v 3 3 = 0 then d.onCh c (fun q => { q with notchZero := true, below := 0 }) else d
    let d := d.onCh c (fun q => { q with pend := mput q.pend a v })
    if d.ranging && d.scheduled c then d else d.applyCh c
  else if off = 4 ∨ off = 8 then
    let v := clampWrite a v &&& (if off = 4 then 0x03FF03FF#32 else 0x00FF01FF#32)
    let now := if off = 8 then setBits v 4 0 (bits old 4 0) else old
    let d := d.setReg a now
    let d := d.onCh c (fun q => { q with pend := mput q.pend a v })
    if d.ranging && d.scheduled c then d else d.applyCh c
  else d.setReg a v

/-- A write of GAT_PORT_CFGq: in force on each channel of the port at its next window boundary, at once where no window
is scheduled (R158). -/
def Dev.portCfgWrite (d : Dev) (q : Nat) (v : Word) : Dev :=
  let chs := (List.range 8).map (fun j => 8 * q + j)
  let d := chs.foldl (fun (d : Dev) c => { d with gat := { d.gat with
    mEff := mput d.gat.mEff c (d.mEffAt c), cfgAt := mput d.gat.cfgAt c (d.portCfgAt c) } }) d
  let d := d.storeReg (R.GAT_PORT_CFG q) v
  chs.foldl (fun d c => if d.ranging && d.scheduled c then d else d.applyCh c) d

/-- RFE_MODE_WRITE (R136): a write of RFE_CTRLc. -/
def execRfeModeWrite (src t ch : Nat) (value : Word) (s : State) : Out :=
  s.atTick t (fun d => d.regWrite src (R.RFE_CTRL ch) value (fun d => d.rfeWrite ch (R.RFE_CTRL ch) value))

/-! The ambient controller (R138 to R140) and the meters' round close (R154). -/

/-- The meter count of channel `c` in the round being closed: the sum of its 16 groups. -/
def Dev.meterSum (d : Dev) (c : Nat) : Nat := ((List.range 16).map (fun g => mgetD d.gat.meter (16 * c + g) 0)).sum

/-- The channel is saturated in the round (R140). -/
def Dev.saturatedCh (d : Dev) (c : Nat) : Bool :=
  d.rbit (R.RFE_CTRL c) 3 && d.fld (R.RFE_STATUS c) 7 4 == d.fld (R.RFE_AMB_CFG c) 8 5 &&
  decide (d.fld (R.RFE_AMB_LIM c) 31 16 < d.meterSum c)

/-- One channel's evaluation of the round (R138). -/
def Dev.evalCh (d : Dev) (c : Nat) : Dev :=
  if !d.rbit (R.RFE_CTRL c) 3 then d
  else
    let n := d.meterSum c
    let hi := d.fld (R.RFE_AMB_LIM c) 31 16
    let lo := d.fld (R.RFE_AMB_LIM c) 15 0
    let notch := d.fld (R.RFE_STATUS c) 7 4
    if hi < n then (if notch < d.fld (R.RFE_AMB_CFG c) 8 5 then d.onCh c (fun q => { q with upReq := true }) else d)
    else if n < lo then
      let b := (d.ch c).below + 1
      if d.fld (R.RFE_AMB_CFG c) 23 16 ≤ b ∧ 0 < notch then d.onCh c (fun q => { q with below := 0, downReq := true })
      else d.onCh c (fun q => { q with below := b })
    else d.onCh c (fun q => { q with below := 0 })

/-- One port's coincidence request (R140). -/
def Dev.evalPort (d : Dev) (q : Nat) (evaluated : List Nat) : Dev :=
  let chs := ((List.range 8).map (fun j => 8 * q + j)).filter (fun c => d.rbit (R.RFE_CTRL c) 4)
  if chs.all (fun c => !evaluated.contains c) then d
  else
    let sat := (chs.filter (fun c => evaluated.contains c && d.saturatedCh c)).length
    let d := d.setFld (R.RFE_PORT_STATUS q) 15 8
      ((List.range 8).map (fun j => if evaluated.contains (8 * q + j) && d.saturatedCh (8 * q + j) then 2 ^ j else 0)).sum
    let p := mgetD d.rfePorts q {}
    let put := fun (d : Dev) n => { d with rfePorts := mput d.rfePorts q { calm := n } }
    if 4 ≤ chs.length ∧ 4 ≤ sat then (put d 0).setBit (R.RFE_PORT_STATUS q) 0 true |>.setBit (R.GAT_PORT_STATUS q) 2 true
    else if d.rbit (R.RFE_PORT_STATUS q) 0 then
      let n := if sat < 2 then p.calm + 1 else 0
      if 16 ≤ n then (put d 0).setBit (R.RFE_PORT_STATUS q) 0 false |>.setBit (R.GAT_PORT_STATUS q) 2 false else put d n
    else d

/-- METER_ROUND_CLOSE (R138, R154): 36 ticks after the metered round ends, the channels that had an open window are
evaluated, the counts become readable and the next round's counts take their place. -/
def execMeterRoundClose (t : Nat) (s : State) : Out :=
  s.atTick t (fun d =>
    if d.now < (d.gat.round + 1) * 16384 + 36 then d
    else
      let ev := d.gat.hadWin
      let d := (List.range 32).foldl (fun d q => d.evalPort q ev) d
      let d := ev.foldl (fun d c => d.evalCh c) d
      let skip := d.now < (d.gat.round + 2) * 16384 + 36
      { d with gat := { d.gat with
          meterLast := d.gat.meter, meter := if skip then d.gat.meterNext else []
          meterNext := [], round := if skip then d.gat.round + 1 else (d.now - 36) / 16384
          hadWin := if skip then d.gat.hadWinNext else [], hadWinNext := [] } })

/-! Removal and reinstatement (R145 to R147). -/

/-- QUADRANT_SUPPLY_TRIP (R145). -/
def Dev.quadrantTrip (d : Dev) (q : Nat) : Dev :=
  let d := (d.raiseD 0x0801 (.quadrant q) true)
  let d := (d.setBit R.RFE_GLOBAL_STATUS q false).setBit R.RFE_GLOBAL_STATUS (4 + q) true
  (List.range 64).foldl (fun d j =>
    let c := 64 * q + j
    ((d.setBit (R.RFE_STATUS c) 1 true).setBit (R.RFE_STATUS c) 0 false).onCh c (fun x => { x with events := [] })) d

/-- QUADRANT_SUPPLY_TRIP (R145). -/
def execQuadrantSupplyTrip (t quadrant : Nat) (s : State) : Out :=
  s.atTick t (fun d => if quadrant < 4 then
      (d.supplyOut (.fe quadrant)).quadrantTrip quadrant else d)

/-- Remove one channel with fault `code` (R146). -/
def Dev.removeCh (d : Dev) (c code : Nat) (active : Bool) : Dev :=
  let d := d.raiseD code (.channel c) active
  ((d.setBit (R.RFE_STATUS c) 1 true).setBit (R.RFE_STATUS c) 0 false).onCh c (fun q => { q with cause := code, events := [] })

/-- LINE_MONITOR_CHECK (R146): the tap the monitor's edge reached at the next tick edge. -/
def execLineMonitorCheck (t ch tap : Nat) (s : State) : Out :=
  s.atTick t (fun d =>
    if ch ≥ 256 then d
    else
      let bad := tap < 29 || 33 < tap
      let d := d.setBit (R.RFE_STATUS ch) 19 bad
      if !bad then d.onCh ch (fun q => { q with driftRounds := 0 })
      else
        let n := (d.ch ch).driftRounds + 1
        let d := (d.logFault 0x0802 .n).onCh ch (fun q => { q with driftRounds := n })
        if n = 64 && !d.isRemoved (.channel ch) then d.removeCh ch 0x0803 false else d)

/-- COMPARATOR_STUCK (R146). -/
def execComparatorStuck (t ch : Nat) (s : State) : Out :=
  s.atTick t (fun d => if ch < 256 && !d.isRemoved (.channel ch) then
      ((d.setBit (R.RFE_STATUS ch) 20 true).onCh ch (fun q => { q with compHigh := true })).removeCh ch 0x0804 true else d)

/-- TRIM_PARITY_ERROR (R146). -/
def execTrimParityError (t ch : Nat) (s : State) : Out :=
  s.atTick t (fun d => if ch < 256 && !d.isRemoved (.channel ch) then d.removeCh ch 0x0805 false else d)

/-- What RFE_CMD does (R147, Table 07-10); `compLow`: the addressed channel's low comparator is low now. -/
def Dev.rfeCmd (d : Dev) (w : Word) (compLow : Bool) : Dev :=
  let a := R.RFE_CMD
  let keep := 0xFF0000FF
  let tg := bits w 31 24
  let rej := fun r => d.setReg a (cmdWord w keep 2 r)
  let acc := fun (u : UnitId) => ({ d with top := { d.top with rejoining := d.top.rejoining ++ [u] } }).setReg a (cmdWord w keep 1 0)
  match bits w 7 0 with
  | 1 =>
    if !d.inState [.armed, .ranging] then rej 1
    else if d.isRemoved (.quadrant (tg / 64)) then rej 5
    else if !d.isRemoved (.channel tg) then rej 3
    else if !d.faultCleared (d.ch tg).cause then rej 2
    else if (d.ch tg).cause = 0x0804 ∧ !compLow then rej 5
    else acc (.channel tg)
  | 2 =>
    if !d.inState [.armed, .ranging] then rej 1
    else if tg ≥ 4 || !d.isRemoved (.quadrant tg) then rej 3
    else if !d.faultCleared 0x0801 then rej 2
    else if d.supplyBad (.fe tg) then rej 5
    else acc (.quadrant tg)
  | _ => rej 4

/-- REINSTATE_CH (R147). -/
def execReinstateCh (src t ch : Nat) (compLow : Bool) (s : State) : Out :=
  let w := BitVec.ofNat 32 (1 + 2 ^ 24 * (ch % 256))
  s.atTick t (fun d => d.cmdWrite src R.RFE_CMD w (fun d => d.rfeCmd w compLow))

/-- REINSTATE_QUAD (R147). -/
def execReinstateQuad (src t quadrant : Nat) (s : State) : Out :=
  let w := BitVec.ofNat 32 (2 + 2 ^ 24 * (quadrant % 256))
  s.atTick t (fun d => d.cmdWrite src R.RFE_CMD w (fun d => d.rfeCmd w true))

/-! Windows open (R151, R153, R175). -/

/-- One channel on which the window would be the 17th open at once: it is not opened there (R153). -/
def Dev.dropWindow (d : Dev) (w : Win) (c : Nat) : Dev :=
  let d := (d.inc64 R.GAT_CNT_WIN_DROP 1).onceFault R.GAT_STATUS 2 0x0904
  let (cell, frame) := match d.cellOf w.uid with | some x => (x.cell, x.frame) | none => (0, 0)
  let d := d.verdictLog (logRec 4 c 1 (blockId w.emitter w.blockSeq) cell 0 frame)
  let d := d.onCell w.uid (fun x => { x with truncated := true })
  d.onWindow w.shotId (fun w => { w with chs := mdel w.chs c })

/-- One window opens (R151): channels with 16 windows open drop it, the cell's histograms open on the others, and the
channels are marked as having had a window in the round. -/
def Dev.openWindow (d : Dev) (w : Win) : Dev :=
  let full := (w.chs.map (·.1)).filter (fun c =>
    decide (16 ≤ (d.gat.wins.filter (fun v => v.opened && decide (v.openT ≤ w.openT ∧ w.openT < v.openT + v.len) && (mget v.chs c).isSome)).length))
  let d := full.foldl (fun d c => d.dropWindow w c) d
  let chs := (w.chs.map (·.1)).filter (fun c => !full.contains c)
  let d := d.onWindow w.shotId (fun w => { w with opened := true })
  let d := d.openHists w.uid chs
  let d := d.shotTrigger 2 w.emitter w.openT w.shotId ((d.cellOf w.uid).map (·.cell) |>.getD 0) chs
  let r := w.openT / 16384
  let merge := fun (l : List Nat) => l ++ chs.filter (fun c => !l.contains c)
  if r ≤ d.gat.round then { d with gat := { d.gat with hadWin := merge d.gat.hadWin, hadWinNext := if d.gat.round * 16384 + 16384 < w.openT + w.len then merge d.gat.hadWinNext else d.gat.hadWinNext } }
  else { d with gat := { d.gat with hadWinNext := merge d.gat.hadWinNext } }

/-- WINDOW_OPEN (R151): every fired shot's window whose open tick has come opens. -/
def execWindowOpen (t : Nat) (s : State) : Out :=
  s.atTick t (fun d => (d.gat.wins.filter (fun w => !w.opened && decide (w.openT ≤ d.now))).foldl (fun d w => d.openWindow w) d)

end Sys2Proof.Machine
end

