-- ==== Sys2Proof/Machine/Gating.lean ====
section
/-! DEFINITION. Verdicts, commits and rollback (chapter 8). -/
namespace Sys2Proof.Machine

/-- The OPEN histogram of accepted cell `uid` on channel `c` (R165). -/
def Dev.openHist (d : Dev) (c uid : Nat) : Option Nat :=
  ([2 * c, 2 * c + 1].find? (fun k => match mget d.hst.hists k with | some h => h.st == .open && h.uid == uid | none => false))

/-- The OPEN histogram of cell index `cell` on channel `c`, for a reattributed event (R85). -/
def Dev.openHistCell (d : Dev) (c cell : Nat) : Option Nat :=
  ([2 * c, 2 * c + 1].find? (fun k => match mget d.hst.hists k with | some h => h.st == .open && h.cell == cell | none => false))

/-- The histogram that events of a shot go to on channel `c` (R165). -/
def Dev.targetHist (d : Dev) (c uid : Nat) (reattr : Bool) (measured : Option Nat) : Option Nat :=
  if reattr then (match measured with | some m => d.openHistCell c m | none => none) else d.openHist c uid

/-- Change a histogram. -/
def Dev.onHist (d : Dev) (k : Nat) (f : Hist → Hist) : Dev :=
  match mget d.hst.hists k with
  | some h => { d with hst := { d.hst with hists := mput d.hst.hists k (f h) } }
  | none => d

/-- The windows of a committed block are handed to the histogram engine: each counts in W of the histogram its shot's
events go to, with its own group counts, and a truncated channel marks its histogram (R154, R160, R182). -/
def Dev.handWindow (d : Dev) (b : Block) (w : Win) : Dev :=
  w.chs.foldl (fun d p =>
    match d.targetHist p.1 w.uid w.reattr w.measured with
    | none => d
    | some k => d.onHist k (fun h => { h with
        windows := h.windows + 1
        truncated := h.truncated || (mget b.trunc p.1).isSome
        metered := p.2.groups.foldl (fun m g => mupd m g.1 0 (· + g.2)) h.metered })) d

/-- A reattributed shot for whose measured cell no histogram is open on any channel is counted (R85); one that maps to
no cell was counted when it fired. -/
def Dev.reattrLost (d : Dev) (w : Win) : Dev :=
  match w.measured with
  | none => d
  | some m =>
    if w.reattr && w.chs.all (fun p => (d.openHistCell p.1 m).isNone) then d.inc64 R.SEQ_CNT_REATTR_LOST 1 else d

/-- The accepted cell's confidence over its OPEN histograms (R181). -/
def Dev.confident (d : Dev) (uid : Nat) : Bool :=
  let hs := (d.hst.hists.map (·.2)).filter (fun h => h.st == .open && h.uid == uid)
  let good := hs.filter (fun h => decide (d.fld R.HST_CONF 13 0 ≤ h.nmax ∧ d.fld R.HST_CONF 23 16 * h.events ≤ h.nmax * h.winLen))
  !hs.isEmpty && decide (Nat.min (d.fld R.HST_CONF 31 24) hs.length ≤ good.length)

/-- The engine evaluates the cell of a committed block whose last update has been written; at most one flag per cell
(R181). -/
def Dev.evaluate (d : Dev) (uid : Nat) : Dev :=
  match d.cellOf uid with
  | none => d
  | some c =>
    if d.rbit R.HST_CTRL 0 && !c.flagSent && d.confident uid then
      let d := (d.onCell uid (fun c => { c with flagSent := true })).inc64 R.HST_CNT_CONF 1
      { d with hst := { d.hst with hists := d.hst.hists.map (fun p =>
          if p.2.st == .open && p.2.uid == uid then (p.1, { p.2 with confident := true }) else p) } }
    else d

/-- Entries of a block in the provisional buffer. -/
def Dev.blockProv (d : Dev) (b : Block) : List ProvEntry :=
  d.gat.prov.filter (fun e => e.emitter == b.emitter && e.blockSeq == b.seq)

/-- Updates of a block not yet written. -/
def Dev.blockUpdates (d : Dev) (b : Block) : List Update :=
  d.hst.updates.filter (fun e => e.emitter == b.emitter && e.blockSeq == b.seq)

/-- Judged blocks whose commit and updates are complete leave; a committed one is evaluated (R181). -/
def Dev.retireBlocks (d : Dev) : Dev :=
  let gone := d.gat.blocks.filter (fun b => b.judged && (d.blockProv b).isEmpty && (d.blockUpdates b).isEmpty)
  let d := { d with gat := { d.gat with blocks := d.gat.blocks.filter (fun b => !gone.contains b) } }
  gone.foldl (fun d b => if b.committed then d.evaluate b.uid else d) d

/-- The commit of a block completes at the present tick: its time after X_b, and the bound (R166). -/
def Dev.commitDone (d : Dev) (b : Block) : Dev :=
  let lat := d.now - b.x
  let l := satN 65535 lat
  let d := { d with gat := { d.gat with latLast := l, latMax := Nat.max l d.gat.latMax } }
  if 1280 < lat then (d.setBit R.GAT_STATUS 3 true).raise 0x0906 .h else d

/-- The verdict of one block (R162 to R167). -/
def Dev.judge (d : Dev) (b : Block) : Dev :=
  let sh := (d.gat.shadows.map (·.2)).filter (fun s => s.emitter == b.emitter && s.blockSeq == b.seq)
  let id := blockId b.emitter b.seq
  let d := d.inc64 R.GAT_CNT_BLOCKS 1
  let d := b.trunc.foldl (fun d p =>
    (d.verdictLog (logRec 1 p.1 (satN 65535 p.2) id b.cell b.shots b.frame)).inc64 R.GAT_CNT_TRUNC 1) d
  let d := if b.trunc.isEmpty then d else d.onCell b.uid (fun c => { c with truncated := true })
  let hot := taintOf sh (kOf b.k b.shots)
  let bad := sh.filter (·.parity)
  let tainted := b.checked && (hot.isSome || !bad.isEmpty)
  let d := if b.checked && !bad.isEmpty then d.logFault 0x0902 .n else d
  let es := d.blockProv b
  let d := if tainted then
      let (port, bin, mx) := match hot with
        | some x => x
        | none => ((bad.map (·.port)).foldl Nat.min ((bad.head?.map (·.port)).getD 0), 0, 0)
      (d.inc64 R.GAT_CNT_TAINTED 1).verdictLog (logRec 2 port (mx + 16 * bin) id b.cell b.shots b.frame)
    else if b.unchecked then d.verdictLog (logRec 3 255 es.length id b.cell b.shots b.frame)
    else d
  let commit := !tainted && (!b.unchecked || d.rbit R.GAT_CTRL 0)
  let d := (d.releaseShadows b.emitter b.seq).onBlock b.emitter b.seq (fun b => { b with judged := true, committed := commit })
  let d := d.onCell b.uid (fun c => { c with lastX := Nat.max c.lastX b.x })
  let ws := d.gat.wins.filter (fun w => w.emitter == b.emitter && w.blockSeq == b.seq)
  let rest := d.gat.wins.filter (fun w => !(w.emitter == b.emitter && w.blockSeq == b.seq))
  let other := d.gat.prov.filter (fun e => !(e.emitter == b.emitter && e.blockSeq == b.seq))
  let d := ws.foldl (fun d w => d.reattrLost w) d
  let d := if commit then
      let d := ws.foldl (fun d w => d.handWindow b w) d
      { d with gat := { d.gat with
          wins := rest
          prov := other.filter (·.committing) ++ es.map (fun e => { e with committing := true }) ++ other.filter (fun e => !e.committing) } }
    else
      let d := es.foldl (fun d e => d.tailing e.ch (if tainted then 6 else 7)) d
      { d with gat := { d.gat with wins := rest, prov := other } }
  let d := if commit && es.isEmpty then d.commitDone b else d
  d.retireBlocks

/-- Judge every block whose verdict is due. -/
def Dev.judgeAll : Nat → Dev → Dev
  | 0, d => d
  | n + 1, d => match d.dueBlock d.now with
    | none => d
    | some b => Dev.judgeAll n (d.judge b)

/-- VERDICT (R163, R165, R166). -/
def execVerdict (t : Nat) (s : State) : Out :=
  s.atTick t (fun d => let d := d.gateSettle d.now; Dev.judgeAll d.gat.blocks.length d)

/-- One event leaves its share: to its histogram's update queue, or to tailings 0x8 or 0x9 (R165). `err` bytes of its
word are in error: two or three poison it (R21). -/
def Dev.commitOne (d : Dev) (e : ProvEntry) (err : Nat) : Dev :=
  let d := { d with gat := { d.gat with prov := d.gat.prov.erase e, lastCommit := mput d.gat.lastCommit e.ch d.now } }
  let d :=
    if 2 ≤ err then
      let cells := if e.reattr then (match e.measured with | some m => (d.seq.cells.filter (fun p => p.2.cell == m)).map (·.1) | none => []) else [e.uid]
      let d := cells.foldl (fun d u => d.onCell u (fun c => { c with poisoned := true })) d
      (d.tailing e.ch 9).logFault 0x0901 .n
    else match d.targetHist e.ch e.uid e.reattr e.measured with
      | none => d.tailing e.ch 8
      | some k =>
        let d := (d.inc64 R.GAT_CNT_COMMITTED 1).onHist k (fun h => { h with events := satN 0xFFFFFFFF (h.events + 1), reattr := h.reattr || e.reattr })
        let d := if e.reattr then (match mget d.hst.hists k with | some h => d.onCell h.uid (fun c => { c with reattr := true }) | none => d) else d
        let u : Update := { ch := e.ch, slot := k % 2, bin := nbits e.record 11 0, fine := nbits e.record 16 12, emitter := e.emitter, blockSeq := e.blockSeq }
        { d with hst := { d.hst with updates := d.hst.updates ++ [u] } }
  match d.blockOf e.emitter e.blockSeq with
  | none => d
  | some b => (if (d.blockProv b).isEmpty then d.commitDone b else d).retireBlocks

/-- EVENT_COMMIT (R165): the first committing event, in verdict order, whose channel's last commit lies at least 4 ticks
back. -/
def execEventCommit (t errBytes : Nat) (s : State) : Out :=
  s.atTick t (fun d =>
    match d.gat.prov.find? (fun e => e.committing && (match mget d.gat.lastCommit e.ch with | some x => decide (x + 4 ≤ d.now) | none => true)) with
    | none => d
    | some e => d.commitOne e errBytes)

end Sys2Proof.Machine
end

