-- ==== Sys2Proof/Machine/AsyOps.lean ====
section
/-! DEFINITION. Cores and their batches (R199, R203 to R205, R226): what the sieve, the point block and the Canary use of
the assay cluster. -/
namespace Sys2Proof.Machine

/-- Core `k`. -/
def Dev.core (d : Dev) (k : Nat) : Core := mgetD d.asy.cores k {}

/-- Change core `k`. -/
def Dev.onCore (d : Dev) (k : Nat) (f : Core → Core) : Dev := { d with asy := { d.asy with cores := mput d.asy.cores k (f (d.core k)) } }

/-- The core runs: started and neither halted nor removed (Table 10-21). -/
def Core.running (c : Core) : Bool := c.started && !c.halted && !c.removed

/-- The core that holds the batch of accepted cell `uid`. -/
def Dev.coreOf (d : Dev) (uid : Nat) : Option Nat :=
  (d.asy.cores.find? (fun p => p.2.batches.any (fun b => b.uid == uid))).map (·.1)

/-- The cores a new cell may be assigned to (R203). -/
def Dev.freeCores (d : Dev) : List Nat :=
  (List.range 16).filter (fun k => (d.core k).running && d.rbit (R.ASY_CTRL k) 0 && decide ((d.core k).batches.length < 4))

/-- The core a new cell is assigned to: fewest batches, lowest number (R203). -/
def Dev.pickCore (d : Dev) : Option Nat :=
  d.freeCores.foldl (fun (b : Option Nat) k => match b with
    | none => some k
    | some j => if (d.core k).batches.length < (d.core j).batches.length then some k else some j) none

/-- The number of channels of an accepted cell's batch: its set count (R203). -/
def CellRec.setCount (c : CellRec) : Nat := c.channels.length + c.noSlot.length

/-- Assign the cell of a handed-off set to a core, if it has none and one can take it (R203). A cell whose record has
been composed already takes no core again (log entry 23). -/
def Dev.dispatch (d : Dev) (s : CandSet) : Dev :=
  match d.coreOf s.uid with
  | some _ => d
  | none => match d.cellOf s.uid, d.pickCore with
    | some c, some k =>
      if c.recorded && !c.heldClosed then d
      else d.onCore k (fun q => { q with batches := q.batches ++ [{ uid := s.uid, cell := s.cell, total := c.setCount, lastAt := if c.setCount ≤ c.setsDone then some c.lastHand else none, assignedAt := d.now }] })
    | _, _ => d

/-- A set of the cell has been handed off; the last one starts the batch time (R205). -/
def Dev.noteHandoff (d : Dev) (uid : Nat) : Dev :=
  let done := match d.cellOf uid with | some c => decide (c.setCount ≤ c.setsDone) | none => true
  match d.coreOf uid with
  | none => d
  | some k => d.onCore k (fun c => { c with batches := c.batches.map (fun b =>
      if b.uid == uid && done then { b with lastAt := some d.now } else b) })

/-- Account the busy cycles up to now when a core stops being, or goes on being, busy (Table 10-19). -/
def Dev.setBusy (d : Dev) (k : Nat) (on : Bool) : Dev :=
  let d := match (d.core k).busySince with
    | some t => d.inc64 (R.ASY_CNT_BUSY k) ((d.now - t) / 2)
    | none => d
  d.onCore k (fun c => { c with busySince := if on then some d.now else none })

/-- The status register of core `k` as its state gives it (Table 10-21). -/
def Dev.coreReport (d : Dev) (k : Nat) : Dev :=
  let c := d.core k
  let a := R.ASY_STATUS k
  let low := b2n c.running + 2 * b2n c.halted + 4 * b2n c.removed + 8 * b2n c.inHandler + 16 * b2n c.waiting
    + 32 * b2n (c.fg.flags.testBit 4) + 64 * b2n c.bgHeld
  let d := ((d.setFld a 6 0 low).setFld a 11 8 c.ringCount).setFld a 14 12 c.batches.length
  ((d.setBit R.ASY_CL_STATUS k c.running).setBit R.ASY_CL_STATUS (16 + k) c.removed)

/-- A fault of core `k`: logged, its low byte shown as the core's cause (Table 10-21). -/
def Dev.coreFault (d : Dev) (k code : Nat) (cls : FClass) : Dev := (d.setFld (R.ASY_STATUS k) 31 24 (code % 256)).raise code cls

/-! Point records (R229, R230, R232, R234, R241). -/

/-- A cause of the degraded flag that the cell itself shows (Table 11-3). -/
def Dev.cellDegraded (d : Dev) (c : CellRec) : Bool :=
  c.degraded || (c.channels ++ c.noSlot).any (fun x => d.chRemoved x) || (bitList 32 c.entry.mask).any (fun e => d.rbit R.EMT_REMOVED e)

/-- The 16-byte header of a point record (Table 11-1). -/
def Dev.pntHeader (d : Dev) (c : CellRec) (channel echoes : Nat) (contam noBatch poisoned degraded : Bool) : List Byte :=
  let flags := b2n poisoned + 2 * b2n c.truncated + 4 * b2n c.reattr + 8 * b2n contam + 16 * b2n degraded + 32 * b2n c.saturated
    + 64 * b2n c.blind + 128 * b2n (c.firedTotal == 0)
  let lo := c.frame % 2 ^ 16 + 2 ^ 16 * (c.cell % 2 ^ 24) + 2 ^ 40 * channel + 2 ^ 48 * echoes + 2 ^ 52 * flags + 2 ^ 60 * d.devId
  let hi := satN 4095 c.firedTotal + 2 ^ 12 * b2n noBatch + 2 ^ 16 * (if c.firedTotal = 0 then c.issueTime else c.firstTime)
  leBytes 8 lo ++ leBytes 8 hi

/-- The record of an accepted cell is accepted: counted, and queued on its stream, or discarded on a disabled stream,
or dropped when the primary lane is down (R13, R232, R238, R241). -/
def Dev.acceptRecord (d : Dev) (c : CellRec) (body fallback : List Byte) (x : Nat) : Dev :=
  let n := c.entry.stream
  let d := ((d.inc64 R.PNT_CNT_RECORDS 1).onCell c.uid (fun c => { c with recorded := true })).pointTap c.frame c.cell body
  if !d.streamOn n then d
  else if d.streamLaneEn n && !d.laneUp (d.streamLane n) then
    let d := (d.inc64 R.PNT_CNT_LANE_DROP 1).onceFault R.PNT_STATUS 1 0x0D05
    { d with pnt := { d.pnt with laneDrops := mupd d.pnt.laneDrops n 0 (· + 1) } }
  else d.enqueue n { kind := 1, body := body, x := some x, fallback := fallback }

/-- The lowest channel of a cell's batch, or 0xFF (Table 11-1). -/
def CellRec.lowest (c : CellRec) : Nat :=
  match c.channels ++ c.noSlot with
  | [] => 255
  | a :: r => r.foldl Nat.min a

/-- Compose the fallback record of a cell (R234). -/
def Dev.fallback (d : Dev) (c : CellRec) (noBatch degraded : Bool) (x : Nat) : Dev :=
  let body := d.pntHeader c c.lowest 0 false noBatch c.poisoned (degraded || d.cellDegraded c)
  let worst := d.pntHeader c c.lowest 0 false noBatch true true
  (d.inc64 R.PNT_CNT_FALLBACK 1).acceptRecord c body worst x

/-- Strike the cells that are complete: recorded, closed, all sets out, and in no batch. -/
def Dev.retireCells (d : Dev) : Dev :=
  { d with seq := { d.seq with cells := d.seq.cells.filter (fun p =>
      !(p.2.recorded && p.2.closed && decide (p.2.setCount ≤ p.2.setsDone) && (d.coreOf p.1).isNone && !d.hst.cbuf.any (fun q => q.2.uid == p.1))) } }

/-- Remove core `k` (R226): it stops at once; each of its batches not ended yields a fallback record with the degraded
flag, in every state in which points are composed. -/
def Dev.removeCore (d : Dev) (k code : Nat) : Dev :=
  let c := d.core k
  let d := (d.setBusy k false).coreFault k code .d
  let d := (d.removeUnit (.core k)).onCore k (fun c => { c with removed := true, waiting := false, batches := [], committing := none })
  let d := d.inc64 R.ASY_CNT_LOST c.batches.length
  let d := c.batches.foldl (fun d b => match d.cellOf b.uid with
    | some r => if r.recorded then d else d.fallback r false true r.lastX
    | none => d) d
  (d.retireCells).coreReport k

/-- End a batch: its time is reported, the batch leaves the core (R205). -/
def Dev.endBatch (d : Dev) (k : Nat) (b : Batch) : Dev :=
  let cyc := match b.lastAt with | some t => (d.now - t) / 2 | none => 0
  let l := satN 65535 cyc
  let d := d.onCore k (fun c => { c with batches := c.batches.filter (· != b), latLast := l, latMax := Nat.max l c.latMax, sticky := c.sticky &&& 0x2F })
  let d := d.inc64 (R.ASY_CNT_BATCH k) 1
  let d := if d.fld R.ASY_BATCH_LIMIT 15 0 < cyc && !b.late then (d.setBit (R.ASY_STATUS k) 18 true).coreFault k 0x0C05 .h else d
  let d := match d.cellOf b.uid with
    | some r => if r.recorded then d else (d.logFault 0x0D02 .n).fallback r false true r.lastX
    | none => d
  (d.retireCells).coreReport k

end Sys2Proof.Machine
end

