-- ==== Sys2Proof/Machine/HoiOps.lean ====
section
/-! DEFINITION. Hoist as the other blocks use it (R312, R313, R320 to R325, R333): addresses, tags, words in DRAM, the
start of a training and its failure. -/
namespace Sys2Proof.Machine

/-! Geometry (R313, R325). -/

/-- The rate in force is one of DDR5 (Table 16-9). -/
def Dev.ddr5 (d : Dev) : Bool := decide (d.fld R.HOI_STATUS 9 8 < 2)

/-- The widths of the burst address fields of channel `n`: sc, bg, ba, col, rank, row. -/
structure Geom where
  sc : Nat
  bg : Nat
  ba : Nat
  col : Nat
  rank : Nat
  row : Nat

/-- The geometry of channel `n` (Table 16-8). -/
def Dev.geom (d : Dev) (n : Nat) : Geom :=
  let w := d.reg (R.HOI_CH_GEOM n)
  { sc := bits w 18 18, bg := bits w 5 4, ba := bits w 7 6, col := bits w 3 0, rank := bits w 8 8, row := bits w 13 9 }

/-- Bytes of channel `n` (R313). -/
def Dev.chBytes (d : Dev) (n : Nat) : Nat :=
  let g := d.geom n
  64 * 2 ^ (g.col + g.bg + g.ba + g.rank + g.row + g.sc)

/-- The Hoist capacity (Table 16-1): DDR4 keeps an eighth for the side table. -/
def Dev.hoistBytes (d : Dev) : Nat := if d.ddr5 then 2 * d.chBytes 0 else 2 * d.chBytes 0 / 8 * 7

/-- The channel of a DRAM byte address, and its channel burst (R325). -/
def chanOf (a : Nat) : Nat := a / 256 % 2
/-- The channel burst of a DRAM byte address. -/
def chanBurst (a : Nat) : Nat := (a / 512 * 256 + a % 256) / 64

/-- Where a channel burst lies. -/
structure BurstLoc where
  sc : Nat := 0
  bg : Nat := 0
  ba : Nat := 0
  col : Nat := 0
  rank : Nat := 0
  row : Nat := 0

/-- The fields of channel burst `b` under address order `order`, low field first (Table 16-4). -/
def locate (g : Geom) (order b : Nat) : BurstLoc :=
  let f := fun (lo w : Nat) => b / 2 ^ lo % 2 ^ w
  match order with
  | 0 =>
    { col := f 0 g.col, sc := f g.col g.sc, bg := f (g.col + g.sc) g.bg, ba := f (g.col + g.sc + g.bg) g.ba
      rank := f (g.col + g.sc + g.bg + g.ba) g.rank, row := b / 2 ^ (g.col + g.sc + g.bg + g.ba + g.rank) }
  | 2 =>
    { sc := f 0 g.sc, bg := f g.sc g.bg, ba := f (g.sc + g.bg) g.ba, col := f (g.sc + g.bg + g.ba) g.col
      rank := f (g.sc + g.bg + g.ba + g.col) g.rank, row := b / 2 ^ (g.col + g.sc + g.bg + g.ba + g.rank) }
  | _ =>
    let row := b / 2 ^ (g.col + g.sc + g.bg + g.ba + g.rank)
    let bg := f g.sc g.bg
    let ba := f (g.sc + g.bg + g.col) g.ba
    let x := order == 3
    { sc := f 0 g.sc, bg := if x then bg ^^^ row % 2 ^ g.bg else bg, col := f (g.sc + g.bg) g.col
      ba := if x then ba ^^^ row / 2 ^ g.bg % 2 ^ g.ba else ba
      rank := f (g.sc + g.bg + g.col + g.ba) g.rank, row := row }

/-- The bank index of a location (Table 16-11). -/
def BurstLoc.bank (l : BurstLoc) : Nat := ((l.sc * 2 + l.rank) * 8 + l.bg) * 4 + l.ba

/-- Where the burst of DRAM address `a` lies. -/
def Dev.locOf (d : Dev) (a : Nat) : BurstLoc :=
  locate (d.geom (chanOf a)) (d.fld (R.HOI_CH_MAP (chanOf a)) 1 0) (chanBurst a)

/-- Channel `n` of Hoist. -/
def Dev.hoiCh (d : Dev) (n : Nat) : HoiCh := mgetD d.hoi.chs n {}
/-- Change channel `n`. -/
def Dev.onHoiCh (d : Dev) (n : Nat) (f : HoiCh → HoiCh) : Dev := { d with hoi := { d.hoi with chs := mput d.hoi.chs n (f (d.hoiCh n)) } }

/-! Tags (R320 to R322). -/

/-- The newest tag of a burst. -/
def Dev.tagOf (d : Dev) (b : Nat) : Option DTag := d.hoi.tags.find? (fun t => decide (t.lo ≤ b ∧ b < t.hi))

/-- The low 8 bits of HOI_EPOCH. -/
def Dev.epoch8 (d : Dev) : Nat := d.fld R.HOI_EPOCH 7 0

/-- Write a tag. -/
def Dev.putTag (d : Dev) (t : DTag) : Dev :=
  { d with hoi := { d.hoi with tags := t :: d.hoi.tags.filter (fun x => !(decide (t.lo ≤ x.lo ∧ x.hi ≤ t.hi))) } }

/-- DRAM word `w` (32 bytes) is delivered poisoned when nothing is in error: Hoist has failed, it was not written since
the last training, or its poisoned bit is set (R321, R333). -/
def Dev.wordPoison (d : Dev) (w : Nat) : Bool :=
  d.hoistFailed || match d.tagOf (w / 2) with
  | none => true
  | some t => t.epoch != d.epoch8 || (if w % 2 = 0 then t.p0 else t.p1)

/-- The bytes of a DRAM range. -/
def dramBytes (m : List Host.Cell) (a n : Nat) : List Byte := leBytes n (dramLe m a n)

/-- Write one DRAM word; the burst's other word is kept when it is good, else it becomes zeros with its poisoned bit
set (R322). Nothing is written while Hoist does not serve, or at or above the capacity (R317, R325, R333). -/
def State.dramPutWord (s : State) (w : Nat) (bytes : List Byte) (poison : Bool) : State :=
  let d := s.dev
  if !d.hoistServing || d.hoistBytes ≤ 32 * w then s
  else
    let other := if w % 2 = 0 then w + 1 else w - 1
    let bad := d.wordPoison other
    let m := dramSetBytes s.dram (32 * w) bytes
    let m := if bad then dramSetBytes m (32 * other) (List.replicate 32 0#8) else m
    { s with
      dram := m
      dev := d.putTag { lo := w / 2, hi := w / 2 + 1, epoch := d.epoch8, p0 := if w % 2 = 0 then poison else bad, p1 := if w % 2 = 0 then bad else poison } }

/-- A list in pieces of `n`. -/
def pieces (n : Nat) : Nat → List Byte → List (List Byte)
  | 0, _ => []
  | k + 1, l => l.take n :: pieces n k (l.drop n)

/-- Write whole DRAM words from byte address `a`, a multiple of 32. -/
def State.dramWrite (s : State) (a : Nat) (bytes : List Byte) : State :=
  ((pieces 32 (bytes.length / 32) bytes).foldl (fun (p : State × Nat) l => (p.1.dramPutWord p.2 l false, p.2 + 1)) (s, a / 32)).1

/-- Write some bytes of one DRAM word. The word's other bytes are kept when it reads good; of a poisoned word they are
not stated and free (R322, log entry 27). -/
def State.dramMerge (s : State) (a : Nat) (bytes : List Byte) : State :=
  let w := a / 32
  let bad := s.dev.wordPoison w
  let old := if bad then leBytes 32 (s.dev.fresh 256).toNat else dramBytes s.dram (32 * w) 32
  let s := if bad then { s with dev := s.dev.drew } else s
  s.dramPutWord w (old.take (a % 32) ++ bytes ++ old.drop (a % 32 + bytes.length)) false

/-- A range of DRAM becomes zeros, written in the present epoch. `lo` and `hi` are multiples of 64. -/
def State.dramClear (s : State) (lo hi : Nat) : State :=
  { s with dram := spClear s.dram lo hi, dev := s.dev.putTag { lo := lo / 64, hi := hi / 64, epoch := s.dev.epoch8 } }

/-! Failure and the start of training (R314, R316, R333). -/

/-- Hoist fails (R333): every read is poisoned, every write fails, the taps go to IDLE (R276). -/
def Dev.failHoist (d : Dev) (code : Nat) : Dev :=
  let d := (d.raiseD code .hoist).tapsDown.setBit R.WAV_STATUS 8 true
  let d := (d.setFld R.HOI_STATUS 2 0 2).setBit R.HOI_STATUS 7 false
  let d := if d.fld R.HOI_CMD 9 8 == 3 then (d.setFld R.HOI_CMD 9 8 2).setFld R.HOI_CMD 23 16 1 else d
  let d := (d.setBit (R.HOI_CH_STATUS 0) 0 false).setBit (R.HOI_CH_STATUS 1) 0 false
  Dev.armIfReady { d.setReg R.FMN_DRAM_CAP 0 with hoi := { d.hoi with training := none, ratePend := none, failCode := code, laneTest := none } }

/-- The first rate trained for a target: 3200 for 6400 (R314). -/
def firstRate (target : Nat) : Nat := if target = 0 then 1 else target
/-- The first gathering step at a rate: chip-select training is DDR5 only (Table 16-2). -/
def firstStep (rate : Nat) : Nat := if rate < 2 then 1 else 2

/-- HOI_TRAIN shows the training (Table 16-8). -/
def Dev.showTraining (d : Dev) : Dev :=
  match d.hoi.training with
  | none => d
  | some x => ((d.setFld R.HOI_TRAIN 3 0 x.step).setFld R.HOI_TRAIN 5 4 x.rate).setFld R.HOI_TRAIN 6 6 x.rank

/-- Training towards `target` begins at step 0: requests wait and FMN_DRAM_CAP reads 0 (R317). -/
def Dev.startTraining (d : Dev) (target : Nat) (retrain : Bool) : Dev :=
  let d := d.tapsDown
  let d := ((d.setBit R.HOI_STATUS 0 false).setBit R.HOI_STATUS 2 true).setBit R.HOI_STATUS 7 false
  let d := (d.setFld R.HOI_TRAIN 15 8 0).setReg R.FMN_DRAM_CAP 0
  let d := [0, 1].foldl (fun (d : Dev) n => ((d.setBit (R.HOI_CH_STATUS n) 0 false).setFld (R.HOI_CH_GEOM n) 18 18 (b2n (target < 2))).onHoiCh n (fun c => { c with openRows := [], recovery := none, results := [] })) d
  ({ d with hoi := { d.hoi with
    training := some { target := target, rate := firstRate target, start := d.now, retrain := retrain }, ratePend := none, laneTest := none } }).showTraining

end Sys2Proof.Machine
end

