-- ==== Sys2Proof/Machine/Histogram.lean ====
section
/-! DEFINITION. Moment bins (R172 to R174), histogram slots (R175 to R180), the sieve (R182 to R188) and the lode store
(R190 to R195). -/
namespace Sys2Proof.Machine

/-! The moment bin. -/

/-- The count of a moment bin word (Table 09-1). -/
def binCount (w : Word) : Nat := bits w 13 0
/-- The signed fsum of a moment bin word. -/
def binSum (w : Word) : Int := signed 18 (bits w 31 14)
/-- The bin is poisoned (R172). -/
def binPoisoned (w : Word) : Bool := bits w 31 14 == 131072
/-- A moment bin word from its count and fsum. -/
def binWord (n : Nat) (f : Int) : Word := BitVec.ofNat 32 (n % 16384 + 16384 * unsigned 18 f)
/-- Count 0 with fsum poisoned (R180). -/
def binBad : Word := binWord 0 (-131072)

/-- Two fsums added under the poisoning rule of R173. -/
def addSum (a b : Int) : Int :=
  if a = -131072 ∨ b = -131072 then -131072
  else if -131071 ≤ a + b ∧ a + b ≤ 131071 then a + b else -131072

/-- One event with fine value `f` enters a bin (R173). -/
def binAdd (w : Word) (f : Nat) : Word :=
  if binCount w = 16383 then w else binWord (binCount w + 1) (addSum (binSum w) ((f : Int) - 16))

/-- The address of bin `i` of slot `k % 2` of channel `k / 2` (R178). -/
def binAddr (k i : Nat) : Nat := histBase + 16384 * k + 4 * i

/-- One update of half `half`: the first queued event of its four channels is written (R173, R179, R180). A half is
numbered 2 × bank + slot. -/
def State.histUpdate (s : State) (half err : Nat) : State :=
  match s.dev.hst.updates.find? (fun u => 2 * (u.ch / 4) + u.slot == half) with
  | none => s
  | some u =>
    let k := 2 * u.ch + u.slot
    let word := binAddr k (u.bin / 8 * 8)
    let s := s.noteErr word err
    let bad := s.sramPoison.contains word
    let s := if bad then
        { s with sram := memSetBytes s.sram word ((List.replicate 8 (leBytes 4 binBad.toNat)).flatten)
                 sramPoison := s.sramPoison.erase word
                 dev := (s.dev.onHist k (fun h => { h with poisoned := true })).logFault 0x0A01 .n }
      else s
    let old : Word := BitVec.ofNat 32 (memLe s.sram (binAddr k u.bin) 4)
    let new := binAdd old u.fine
    let sat := binCount old == 16383
    let ovf := binPoisoned new && !binPoisoned old
    let d := s.dev
    let d := { d with hst := { d.hst with updates := d.hst.updates.erase u } }
    let d := d.onHist k (fun h => { h with saturated := h.saturated || sat, poisoned := h.poisoned || ovf, nmax := Nat.max h.nmax (binCount new) })
    let d := if ovf then d.inc64 R.HST_CNT_POISON_FINE 1 else d
    { s with sram := memSetBytes s.sram (binAddr k u.bin) (leBytes 4 new.toNat), dev := d.retireBlocks }

/-- HISTOGRAM_UPDATE (R173, R179). -/
def execHistogramUpdate (t half errBytes : Nat) (s : State) : Out := s.atTickMem t (fun s => s.histUpdate half errBytes)

/-! Closing (R175, R176). -/

/-- The accepted cell may close: all its shots have checked in, every block of it has had its verdict applied, and no
shot is ISSUED, HANDED or left to issue (R176). -/
def Dev.cellClosable (d : Dev) (uid : Nat) : Bool :=
  d.cellSettled uid && d.seq.tally.all (fun p => p.2.uid != uid) &&
  d.gat.blocks.all (fun b => b.uid != uid || (b.judged && (d.blockProv b).isEmpty))

/-- The empty candidate set of a no_slot pair (R175, R187). -/
def Dev.noSlotSet (d : Dev) (c : CellRec) (ch : Nat) : CandSet :=
  { uid := c.uid, cell := c.cell, channel := ch, frame := c.frame, length := c.entry.winLen, winStart := c.entry.winStart
    flags := 4 + 128 * b2n (d.chRemoved ch), close := d.time % 2 ^ 32, lode := c.entry.lode }

/-- One cell closes: its histograms become CLOSING in channel order, its no_slot pairs get their empty sets. -/
def Dev.closeCell (d : Dev) (c : CellRec) : Dev :=
  let keys := (d.hst.hists.filter (fun p => p.2.uid == c.uid && p.2.st == .open)).map (·.1)
  let d := keys.foldl (fun d k => d.onHist k (fun h => { h with st := .closing, closeAt := d.time % 2 ^ 32 })) d
  let sets := c.noSlot.map (fun ch => d.noSlotSet c ch)
  let d := { d with hst := { d.hst with closing := d.hst.closing ++ keys, noSlotSets := d.hst.noSlotSets ++ sets } }
  d.onCell c.uid (fun c => { c with closed := true })

/-- HISTOGRAM_CLOSING (R176): every histogram whose conditions hold becomes CLOSING. -/
def execHistogramClosing (t : Nat) (s : State) : Out :=
  s.atTick t (fun d =>
    ((d.seq.cells.map (·.2)).filter (fun c => !c.closed && decide (0 < c.firedTotal) && d.cellClosable c.uid)).foldl (fun d c => d.closeCell c) d)

/-- A free lane takes the first CLOSING histogram once its last update is written: it reads and clears every word
(R176, R180, R188). `errWords` are the words read with two or three bytes in error. -/
def State.laneTake (s : State) (lane : Nat) (errWords : List Nat) (exportRoom : Bool) : State :=
  if 16 ≤ lane || (mget s.dev.hst.lanes lane).isSome then s
  else match s.dev.hst.closing with
  | [] => s
  | k :: rest =>
    match mget s.dev.hst.hists k with
    | none => { s with dev := { s.dev with hst := { s.dev.hst with closing := rest } } }
    | some h =>
      if s.dev.hst.updates.any (fun u => 2 * u.ch + u.slot == k) then s
      else
        let n := cdiv h.winLen 8
        let bad := (List.range n).filter (fun w => errWords.contains w || s.sramPoison.contains (binAddr k (8 * w)))
        let words : List Word := (List.range h.winLen).map (fun i =>
          if bad.contains (i / 8) then binBad else BitVec.ofNat 32 (memLe s.sram (binAddr k i) 4))
        let d := bad.foldl (fun d _ => d.logFault 0x0A01 .n) s.dev
        let h := { h with st := .readout, lane := some lane, poisoned := h.poisoned || !bad.isEmpty }
        let d := { d with hst := { d.hst with closing := rest, hists := mput d.hst.hists k h, lanes := mput d.hst.lanes lane (words, h, k) } }
        let d := if !d.rbit R.HST_CTRL 1 then d
          else if exportRoom then { d with hst := { d.hst with exporting := lane :: d.hst.exporting } }
          else (d.inc64 R.HST_CNT_EXPORT_DROP 1).bulkDrop 8
        { s with dev := d, sram := spClear s.sram (binAddr k 0) (binAddr k 4096)
                 sramPoison := s.sramPoison.filter (fun a => !(decide (binAddr k 0 ≤ a ∧ a < binAddr k 4096))) }

/-- SIEVE_LANE_TAKE (R188). -/
def execSieveLaneTake (t lane : Nat) (errWords : List Nat) (exportRoom : Bool) (s : State) : Out :=
  s.atTickMem t (fun s => s.laneTake lane errWords exportRoom)

/-- HISTOGRAM_READOUT_END (R176): the lane has read its last word; the slot is FREE. -/
def execHistogramReadoutEnd (t lane : Nat) (s : State) : Out :=
  s.atTick t (fun d =>
    match mget d.hst.lanes lane with
    | none => d
    | some (_, h, k) =>
      match mget d.hst.hists k with
      | some h' =>
        if h'.lane == some lane && h'.st == .readout then
          let d := { d with hst := { d.hst with hists := mdel d.hst.hists k } }
          let d := d.inc64 R.HST_CNT_CLOSED 1
          if h.saturated then d.inc64 R.HST_CNT_SAT 1 else d
        else d
      | none => d)

/-! The sieve (R182 to R187). -/

/-- The nearest integer of a quotient; the direction of a tie is open (log entry 8). -/
def nearest (num : Int) (den : Nat) : Int :=
  let q := num / (den : Int)
  let r := (num % (den : Int)).toNat
  if den < 2 * r then q + 1 else if 2 * r = den ∧ Config.roundUp q.natAbs den then q + 1 else q

/-- Bin group of bin `i` (R154, R182). -/
def groupOf (i l : Nat) : Nat := 16 * i / l

/-- Sum of a list's entries `lo ≤ j < hi`. -/
def sumRange (l : List Nat) (lo hi : Nat) : Nat := ((l.drop lo).take (hi - lo)).sum

/-- Insert a group by its ratio C_g / M_g, ties to the lower group. -/
def insertGroup (c m : List Nat) (g : Nat) : List Nat → List Nat
  | [] => [g]
  | a :: r => if c.getD g 0 * m.getD a 0 < c.getD a 0 * m.getD g 0 then g :: a :: r else a :: insertGroup c m g r

/-- The ambient estimate of a histogram: numerators over one denominator, and ρ as a fraction (R182, R183). -/
structure Ambient where
  nums : List Nat
  den : Nat
  rhoNum : Nat
  rhoDen : Nat

/-- Compute it from the bin counts `n`, the meter groups, W and the histogram's SIV_CTRL. -/
def ambientOf (n : List Nat) (m : List Nat) (w : Nat) (ctrl : Word) : Ambient :=
  let l := n.length
  let c := (List.range 16).map (fun g => ((List.range l).filter (fun i => groupOf i l == g)).map (fun i => n.getD i 0) |>.sum)
  let b := (List.range 16).map (fun g => ((List.range l).filter (fun i => groupOf i l == g)).length)
  let kept := (((List.range 16).filter (fun g => decide (0 < m.getD g 0))).foldl (fun acc g => insertGroup c m g acc) []).take 8
  let sc := (kept.map (fun g => c.getD g 0)).sum
  let sm := (kept.map (fun g => m.getD g 0)).sum
  if sm = 0 || w = 0 || !bit ctrl 0 then { nums := List.replicate l 0, den := 1, rhoNum := sc, rhoDen := Nat.max 1 sm }
  else
    let p := b.foldl (fun a x => if x = 0 then a else Nat.lcm a x) 1
    { nums := (List.range l).map (fun i =>
        let g := groupOf i l
        let dI := sumRange n (i - 11) i
        sc * m.getD g 0 * (p / Nat.max 1 (b.getD g 0)) * (if bit ctrl 1 then w - dI else w))
      den := sm * p * w, rhoNum := sc, rhoDen := sm }

/-- The 16 signed taps of a coefficient set (R184). -/
def taps (coef : List Word) : List Int :=
  (List.range 16).map (fun k => signed 8 (bits (coef.getD (k / 4) 0) (8 * (k % 4) + 7) (8 * (k % 4))))

/-- The sum over k of h_k times value i + k − 7, terms outside the window being 0. -/
def filterAt (h : List Int) (v : List Int) (i : Nat) : Int :=
  ((List.range 16).map (fun k => if 7 ≤ i + k ∧ i + k - 7 < v.length then h.getD k 0 * v.getD (i + k - 7) 0 else 0)).sum

/-- What the sieve computes of one histogram: per bin y and σ² over the common denominator. -/
structure Filtered where
  amb : Ambient
  y : List Int
  s2 : List Int

/-- The matched filter (R184). -/
def filtered (n : List Nat) (m : List Nat) (w : Nat) (ctrl : Word) (coef : List Word) : Filtered :=
  let a := ambientOf n m w ctrl
  let h := taps coef
  let r : List Int := (List.range n.length).map (fun i => (n.getD i 0 : Int) * a.den - a.nums.getD i 0)
  let b : List Int := a.nums.map (fun x => (x : Int))
  { amb := a, y := (List.range n.length).map (filterAt h r), s2 := (List.range n.length).map (filterAt (h.map (fun x => x * x)) b) }

/-- y_i ≥ T_i, exactly (R184, R185). -/
def overThreshold (f : Filtered) (thr : Word) (i : Nat) : Bool :=
  let a := 16 * f.y.getD i 0 - (bits thr 15 0 : Int) * f.amb.den
  decide (0 ≤ a) && decide ((bits thr 23 16 : Int) ^ 2 * f.amb.den * f.s2.getD i 0 ≤ a ^ 2)

/-- Bin `i` is a peak (R185). -/
def isPeak (f : Filtered) (thr : Word) (i : Nat) : Bool :=
  let y := f.y.getD i 0
  overThreshold f thr i && (i == 0 || decide (f.y.getD (i - 1) 0 ≤ y)) && (i + 1 == f.y.length || decide (f.y.getD (i + 1) 0 < y))

/-- Insert a peak in descending y, ties to the lower bin. -/
def insertPeak (y : List Int) (p : Nat) : List Nat → List Nat
  | [] => [p]
  | a :: r => if y.getD a 0 < y.getD p 0 then p :: a :: r else a :: insertPeak y p r

/-- Accept peaks in order until the list is full: the accepted bins, and the peaks left over (R185). -/
def selectPeaks (sep mx : Nat) : List Nat → List Nat → List Nat × Nat
  | [], acc => (acc, 0)
  | p :: r, acc =>
    if mx ≤ acc.length then (acc, (p :: r).length)
    else if acc.any (fun a => decide (p < a + sep ∧ a < p + sep)) then selectPeaks sep mx r acc
    else selectPeaks sep mx r (acc ++ [p])

/-- T_p in units of 1/256 (R184, Table 09-4). -/
def thr256 (f : Filtered) (thr : Word) (p : Nat) : Nat :=
  let ts := bits thr 23 16
  let num := 256 * ts * ts * (f.s2.getD p 0).toNat
  let r := Nat.sqrt (num / f.amb.den)
  let up := decide ((2 * r + 1) ^ 2 * f.amb.den < 4 * num) || (decide ((2 * r + 1) ^ 2 * f.amb.den = 4 * num) && Config.roundUp r f.amb.den)
  16 * bits thr 15 0 + r + b2n up

/-- The candidate at peak `p` (Table 09-4); y is in units of 1/256. -/
def candAt (bins : List Word) (f : Filtered) (thr : Word) (p : Nat) : Cand :=
  let l := bins.length
  let idx := (List.range 16).map (fun k => p + k)
  let nb := idx.map (fun j => if 7 ≤ j ∧ j - 7 < l then bins.getD (j - 7) 0 else 0#32)
  { bin := p, clipped := idx.any (fun j => decide (j < 7 ∨ l ≤ j - 7)), poisonedNb := nb.any binPoisoned
    satNb := nb.any (fun w => binCount w == 16383), amb := satN 65535 (nearest (256 * (f.amb.nums.getD p 0 : Int)) f.amb.den).toNat
    y := nearest (256 * f.y.getD p 0) f.amb.den, thr := thr256 f thr p, bins := nb }

/-- The candidate set of a lane's histogram, and the count of peaks cut (R182 to R187). -/
def Dev.sieve (d : Dev) (words : List Word) (h : Hist) (k : Nat) : CandSet × Nat :=
  let n := words.map binCount
  let m := (List.range 16).map (fun g => mgetD h.metered g 0)
  let f := filtered n m h.windows h.ctrl h.coef
  let peaks := ((List.range n.length).filter (isPeak f h.thr)).foldl (fun l p => insertPeak f.y p l) []
  let (sel, cut) := selectPeaks (bits h.ctrl 7 4) (bits h.ctrl 10 8 + 1) peaks []
  let flags := b2n h.saturated + 2 * b2n h.poisoned + 8 * b2n h.reattr + 16 * b2n h.confident + 64 * b2n h.truncated + 128 * b2n (d.chRemoved (k / 2))
  ({ uid := h.uid, cell := h.cell, channel := k / 2, frame := h.frame, windows := satN 65535 h.windows, length := h.winLen, winStart := h.winStart
     flags := flags, events := h.events, metered := satN 0xFFFFFFFF m.sum, rho := satN 65535 (nearest (65536 * (f.amb.rhoNum : Int)) f.amb.rhoDen).toNat
     close := h.closeAt, cands := sel.map (candAt words f h.thr), lode := h.lode }, cut)

/-- The 32-byte header of a candidate set (Table 09-3). -/
def CandSet.header (s : CandSet) : List Byte :=
  leBytes 3 s.cell ++ leBytes 1 s.channel ++ leBytes 4 s.frame ++ leBytes 2 s.windows ++ leBytes 2 s.length ++ leBytes 2 s.winStart
  ++ leBytes 1 s.cands.length ++ leBytes 1 s.flags ++ leBytes 4 s.events ++ leBytes 4 s.metered ++ leBytes 2 s.rho ++ leBytes 2 0 ++ leBytes 4 s.close

/-- An 80-byte candidate record (Table 09-4). -/
def Cand.record (c : Cand) : List Byte :=
  leBytes 2 (c.bin % 4096 + 4096 * b2n c.clipped + 8192 * b2n c.poisonedNb + 16384 * b2n c.satNb) ++ leBytes 2 c.amb
  ++ leBytes 4 (unsigned 32 c.y) ++ leBytes 4 c.thr ++ leBytes 4 0 ++ c.bins.flatMap (fun w => leBytes 4 w.toNat)

/-- A candidate set as handed off. -/
def CandSet.bytes (s : CandSet) : List Byte := s.header ++ s.cands.flatMap Cand.record

/-- A y outside the record's 32 signed bits has no stated value: it is free (log entry 5). -/
def Dev.freeY (d : Dev) (s : CandSet) : Dev × CandSet :=
  if s.cands.any (fun c => decide (c.y < -2147483648 ∨ 2147483647 < c.y)) then
    (d.drew, { s with cands := s.cands.map (fun c => if c.y < -2147483648 ∨ 2147483647 < c.y then { c with y := (d.fresh 32).toInt } else c) })
  else (d, s)

/-! The lode store (R190 to R195). -/

/-- The lode configuration sampled at the bank's start. -/
structure LodeMap where
  cellBase : Nat
  cellCount : Nat
  chFirst : Nat
  chCount : Nat
  cands : Nat
  tol : Nat
  weakMul : Nat
  cap : Nat

/-- The sampled map (R192). -/
def Dev.lodeMap (d : Dev) : LodeMap :=
  let w := fun i => d.hst.lodeSampled.getD i 0
  { cellBase := bits (w 0) 23 0, cellCount := bits (w 1) 23 0, chFirst := bits (w 2) 7 0, chCount := bits (w 2) 16 8
    cands := 2 ^ bits (w 3) 12 11, tol := bits (w 3) 10 8, weakMul := bits (w 3) 23 16, cap := bits (w 3) 29 24 }

/-- The cell lies in the map. -/
def LodeMap.hasCell (l : LodeMap) (x : Nat) : Bool := decide (l.cellBase ≤ x ∧ x < l.cellBase + l.cellCount)
/-- The pair lies in the map. -/
def LodeMap.has (l : LodeMap) (x c : Nat) : Bool := l.hasCell x && decide (l.chFirst ≤ c ∧ c < l.chFirst + l.chCount)
/-- Slot index of candidate place `j` of a pair (R190). -/
def LodeMap.slot (l : LodeMap) (x c j : Nat) : Nat := ((x - l.cellBase) * l.chCount + (c - l.chFirst)) * l.cands + j

/-- The panic output of the write-back port and the queue's fill (R194). -/
def Dev.lodePanic (d : Dev) : Dev :=
  let n := d.hst.lodeQueue.length
  let d := d.setFld R.HST_STATUS 26 16 n
  if d.fld R.HST_LODE_PANIC 25 16 ≤ n then d.setBit R.HST_STATUS 1 true
  else if n ≤ d.fld R.HST_LODE_PANIC 9 0 then d.setBit R.HST_STATUS 1 false else d

/-- Queue one neighbourhood, or drop it (R192, R194). -/
def Dev.lodePut (d : Dev) (s : CandSet) (c : Cand) : Dev :=
  if d.hst.clearing then d.inc64 R.HST_CNT_LODE_DROP 1
  else if 1024 ≤ d.hst.lodeQueue.length then (d.inc64 R.HST_CNT_LODE_DROP 1).onceFault R.HST_STATUS 2 0x0A03
  else ({ d with hst := { d.hst with lodeQueue := d.hst.lodeQueue ++ [(s, c)] } }).lodePanic

/-- The cell is weak (R195). -/
def weakCell (sets : List CandSet) (mul : Nat) : Bool :=
  sets.any (fun s => !s.cands.isEmpty) && !sets.any (fun s => s.cands.any (fun c => decide ((c.thr : Int) * mul ≤ c.y * 16)))

/-- Append a weak cell to the reserve bank under construction (R195, Table 04-5). -/
def Dev.reserveAppend (d : Dev) (cell : Nat) : Dev :=
  let bad := match d.hst.lastReserve with | some x => decide (cell ≤ x) | none => false
  if bad || decide (4096 ≤ d.hst.reserveCount) then d.inc64 R.HST_CNT_RESERVE_SKIP 1
  else
    let base := 0x48000 + 0x4000 * (1 - d.fld R.SEQ_STATUS 4 4)
    let d := d.setReg (base + 4 * d.hst.reserveCount) (BitVec.ofNat 32 (cell % 2 ^ 24 + 2 ^ 24 * d.lodeMap.cap))
    { d with hst := { d.hst with lastReserve := some cell, reserveCount := d.hst.reserveCount + 1 } }

/-- The lode logic receives a set (R190, R195); a cell is judged once all its sets have come. Answers whether some
neighbourhood of the set was queued. -/
def Dev.lodeReceive (d : Dev) (s : CandSet) : Dev × Bool :=
  if !s.lode || !d.rbit R.HST_CTRL 2 || d.hoistFailed || !d.hst.lodeStarted || d.hst.lodeInvalid then (d, false)
  else
    let l := d.lodeMap
    let n0 := d.hst.lodeQueue.length
    let d := if l.has s.cell s.channel then s.cands.foldl (fun d c => d.lodePut s c) d
             else d.inc64 R.HST_CNT_LODE_UNMATCHED s.cands.length
    let queued := decide (n0 < d.hst.lodeQueue.length)
    let sets := d.hst.lodeSets ++ [s]
    let mine := sets.filter (fun x => x.uid == s.uid)
    let total := match d.cellOf s.uid with | some c => c.channels.length + c.noSlot.length | none => mine.length
    if l.hasCell s.cell && decide (total ≤ mine.length) then
      let d := { d with hst := { d.hst with lodeSets := sets.filter (fun x => x.uid != s.uid) } }
      (if weakCell mine l.weakMul then d.reserveAppend s.cell else d, queued)
    else ({ d with hst := { d.hst with lodeSets := if l.hasCell s.cell then sets else d.hst.lodeSets } }, queued)

/-! Hand-off (R177, R187, R188). -/

/-- Lowest free place of the candidate buffer. -/
def Dev.freePlace (d : Dev) : Option Nat := (List.range 512).find? (fun n => (mget d.hst.cbuf n).isNone)

/-- The causes of Table 11-3 that a handed-off set brings to its cell. -/
def CandSet.mark (s : CandSet) (c : CellRec) : CellRec :=
  { c with
    setsDone := c.setsDone + 1
    poisoned := c.poisoned || s.flags.testBit 1
    truncated := c.truncated || s.flags.testBit 6
    reattr := c.reattr || s.flags.testBit 3
    saturated := c.saturated || s.flags.testBit 0
    degraded := c.degraded || s.flags.testBit 2 || s.flags.testBit 7 }

/-- Hand off a set composed at this tick: nothing when the buffer is full; counted when the device is in HELD. The
answer is whether the set has left the lane. -/
def Dev.handOff (d : Dev) (s : CandSet) (cut : Nat) : Dev × Bool :=
  if d.top.state == .held then
    (((d.inc64 R.SIV_CNT_HELD 1).onCell s.uid (fun c => { c with setsDone := c.setsDone + 1 })).retireCells, true)
  else match d.freePlace with
  | none => (d.setBit R.SIV_STATUS 1 true, false)
  | some n =>
    let (d, s) := d.freeY s
    let (d, lode) := d.lodeReceive s
    let s := if lode then { s with flags := s.flags + 32 } else s
    let d := { d with hst := { d.hst with cbuf := mput d.hst.cbuf n { s with order := d.hst.handed, at_ := d.now }, handed := d.hst.handed + 1 } }
    let d := (d.inc64 R.SIV_CNT_CAND s.cands.length).inc64 R.SIV_CNT_CAND_CUT cut
    let x := match d.cellOf s.uid with | some c => c.lastX | none => d.now
    let lat := d.now - x
    let l := satN 65535 lat
    let d := { d with hst := { d.hst with latLast := l, latMax := Nat.max l d.hst.latMax } }
    let d := ((d.onCell s.uid (fun c => { s.mark c with lastHand := d.now })).dispatch s).noteHandoff s.uid
    (if 9600 < lat then (d.setBit R.SIV_STATUS 0 true).raise 0x0B02 .h else d, true)

/-- The lane's words go to the raw histogram stream with the header the sieve produced (R240). -/
def Dev.exportRaw (d : Dev) (lane : Nat) (s : CandSet) (words : List Word) : Dev :=
  if d.hst.exporting.contains lane then
    (({ d with hst := { d.hst with exporting := d.hst.exporting.erase lane } }).bulk 8 3 (s.header ++ words.flatMap (fun (w : Word) => leBytes 4 w.toNat)))
  else d

/-- CANDIDATE_HANDOFF (R177, R187, R188): lane `lane` hands off its set; lane numbers from 16 stand for the empty set of
the first waiting no_slot pair. `errBytes` bytes of the lane or candidate buffer are in error: two or three poison the
set (Table 09-7). -/
def execCandidateHandoff (t lane errBytes : Nat) (s : State) : Out :=
  s.atTick t (fun d =>
    let bad := decide (2 ≤ errBytes)
    let mark := fun (x : CandSet) => if bad && x.flags / 2 % 2 = 0 then { x with flags := x.flags + 2 } else x
    let d := if bad then d.logFault 0x0B01 .n else d
    if 16 ≤ lane then
      match d.hst.noSlotSets with
      | [] => d
      | x :: r =>
        let (d, done) := d.handOff (mark x) 0
        if done then { d with hst := { d.hst with noSlotSets := r } } else d
    else match mget d.hst.lanes lane with
      | none => d
      | some (words, h, k) =>
        if (mget d.hst.hists k).any (fun h' => h'.lane == some lane && h'.st == .readout) then d
        else
          let (set, cut) := d.sieve words h k
          let (d, done) := d.handOff (mark set) cut
          if done then ({ d with hst := { d.hst with lanes := mdel d.hst.lanes lane } }).exportRaw lane set words else d)

/-! Accumulation in DRAM (R191 to R194). -/

/-- DRAM address of slot `s` of bank `b`, and of its anchor entry (Table 09-6). -/
def Dev.lodeSlotAddr (d : Dev) (b s : Nat) : Nat := d.reg64 R.HST_LODE_BASE + 0x4000000 * b + 64 * s
/-- DRAM address of the anchor entry. -/
def Dev.lodeAnchorAddr (d : Dev) (b s : Nat) : Nat := d.reg64 R.HST_LODE_BASE + 0x8000000 + 0x800000 * b + 8 * s

/-- The slot that takes a candidate with peak `p`: the lowest non-empty slot whose anchor matches, else the lowest
empty one (R193). -/
def lodePick (anchors : List Nat) (epoch tol p : Nat) : Option (Nat × Bool) :=
  let full := fun j => nbits (anchors.getD j 0) 31 0 == epoch
  let near := fun j => let a := nbits (anchors.getD j 0) 43 32; decide (p ≤ a + tol ∧ a ≤ p + tol)
  match (List.range anchors.length).find? (fun j => full j && near j) with
  | some j => some (j, false)
  | none => ((List.range anchors.length).find? (fun j => !full j)).map (fun j => (j, true))

/-- The slot bins after a neighbourhood is added (R193 steps 4 and 5). -/
def lodeAdd (slot : List Word) (nb : List Word) (p a : Nat) : List Word :=
  (List.range 16).map (fun j =>
    let w := slot.getD j 0
    let k : Int := (j : Int) + a - p
    if 0 ≤ k ∧ k ≤ 15 then
      let v := nb.getD k.toNat 0
      binWord (satN 16383 (binCount w + binCount v)) (addSum (binSum w) (binSum v))
    else w)

/-- Slot places whose anchor word, or the slot's own words, Hoist delivers poisoned (R194, R321). -/
def Dev.lodeUnread (d : Dev) (b : Nat) (idx : Nat → Nat) (n : Nat) (slots : Bool) : List Nat :=
  (List.range n).filter (fun j => d.wordPoison (d.lodeAnchorAddr b (idx j) / 32) ||
    (slots && (d.wordPoison (d.lodeSlotAddr b (idx j) / 32) || d.wordPoison (d.lodeSlotAddr b (idx j) / 32 + 1))))

/-- The first queued neighbourhood is accumulated (R193). `errSlots` are the places whose DRAM words read poisoned in
addition. -/
def State.lodeWriteBack (s : State) (errSlots : List Nat) : State :=
  match s.dev.hst.lodeQueue with
  | [] => s
  | (set, c) :: rest =>
    let d := ({ s.dev with hst := { s.dev.hst with lodeQueue := rest } }).lodePanic
    if s.dev.hoistFailed then { s with dev := d }
    else if !s.dev.hoistServing then s
    else
      let l := d.lodeMap
      let b := d.hst.lodeBank
      let ep := d.hst.lodeEpoch
      let idx := fun j => l.slot set.cell set.channel j
      let poison := fun (d : Dev) (j : Nat) (e : Nat) =>
        ({ s with dev := d.logFault 0x0A04 .n }).dramMerge (d.lodeAnchorAddr b (idx j)) (leBytes 8 (nbits e 43 32 * 2 ^ 32 + 2 ^ 44 + nbits e 63 48 * 2 ^ 48 + ep))
      match d.lodeUnread b idx l.cands false with
      | j :: _ => poison d j 0
      | [] =>
        let anchors := (List.range l.cands).map (fun j => dramLe s.dram (d.lodeAnchorAddr b (idx j)) 8)
        match lodePick anchors ep l.tol c.bin with
        | none => { s with dev := d.inc64 R.HST_CNT_LODE_UNMATCHED 1 }
        | some (j, isNew) =>
          let si := idx j
          let e := anchors.getD j 0
          if !isNew && nbits e 44 44 == 1 then { s with dev := d }
          else if errSlots.contains j || (!isNew && (d.lodeUnread b idx l.cands true).contains j) then poison d j e
          else
            let a := if isNew then c.bin else nbits e 43 32
            let old := (List.range 16).map (fun i => if isNew then 0#32 else BitVec.ofNat 32 (dramLe s.dram (d.lodeSlotAddr b si + 4 * i) 4))
            let new := lodeAdd old c.bins c.bin a
            let first := !d.hst.lodeAddedFrame.contains si || isNew
            let fr := satN 65535 ((if isNew then 0 else nbits e 63 48) + b2n first)
            let d := d.inc64 R.HST_CNT_LODE_ADDED 1
            let d := { d with hst := { d.hst with lodeAddedFrame := if d.hst.lodeAddedFrame.contains si then d.hst.lodeAddedFrame else si :: d.hst.lodeAddedFrame } }
            (({ s with dev := d }).dramWrite (d.lodeSlotAddr b si) (new.flatMap (fun (w : Word) => leBytes 4 w.toNat))).dramMerge (d.lodeAnchorAddr b si) (leBytes 8 (ep + a * 2 ^ 32 + fr * 2 ^ 48))

/-- LODE_WRITE_BACK (R193, R194). -/
def execLodeWriteBack (t : Nat) (errSlots : List Nat) (s : State) : Out := s.atTickMem t (fun s => s.lodeWriteBack errSlots)

/-- LODE_CLEAR_PASS (R192): a clearing pass of the anchor tables completes. -/
def execLodeClearPass (t : Nat) (s : State) : Out :=
  s.atTickMem t (fun s =>
    if s.dev.top.state != .armed && !s.dev.hst.clearing || !s.dev.hoistServing then s
    else
      let lo := s.dev.lodeAnchorAddr 0 0
      let d := ({ s.dev with hst := { s.dev.hst with clearing := false } }).setBit R.HST_STATUS 4 false
      ({ s with dev := d }).dramClear lo (lo + 0x1000000))

/-! Windows and parity (R178, R196, R197). -/

/-- A write to the histogram SRAM window (R178): journaled, ignored, and reported by wr_rej. -/
def Dev.hstWinWrite (d : Dev) (m : List Host.Cell) (src addr : Nat) (value : Word) : Dev :=
  let d := d.incSat (R.MGT_CNT_WR src) 31 0 1
  let d := d.journal src addr (BitVec.ofNat 32 (memLe m addr 4)) value true true
  if d.top.state == .headframe then d.respond src 2 else (d.setBit R.HST_STATUS 5 true).respond src 0

/-- HST_WINDOW_WRITE (R178): the write is journaled, ignored and sets wr_rej. -/
def execHstWindowWrite (src t addr : Nat) (value : Word) (s : State) : Out :=
  s.atTick t (fun d => d.hstWinWrite s.sram src addr value)

/-- The words of a slot table entry (Table 09-10); of a FREE slot only the state is given. -/
def Dev.hstWords (d : Dev) (k : Nat) : List Word :=
  match mget d.hst.hists k with
  | none => d.freeWords [0x00FFFFFF#32, 0xFFFFFFFF#32, 0xFFFF003C#32, 0xFFFFFFFF#32]
  | some h =>
    let st := match h.st with | .open => 1 | .closing => 2 | .readout => 3
    [BitVec.ofNat 32 (h.cell % 2 ^ 24), BitVec.ofNat 32 h.frame,
     BitVec.ofNat 32 (st + 4 * b2n h.saturated + 8 * b2n h.poisoned + 16 * b2n h.reattr + 32 * b2n h.confident + 65536 * satN 65535 h.windows),
     BitVec.ofNat 32 h.events]

/-- A requester's read of a word of slot table entry `k` under the snapshot rule (R197). -/
def Dev.hstRead (d : Dev) (src k word : Nat) : Dev :=
  let (v, sn, torn) := snapRead (d.req src).hstSnap (d.hstWords k) k word
  let d := d.onReq src (fun r => { r with hstSnap := sn, lastData := [v] })
  let d := if torn then d.sticky src 0 else d
  (d.drew.incSat (R.MGT_CNT_RD src) 31 0 1).respond src 0

/-- HST_SLOT_SNAPSHOT_READ (R197). -/
def execHstSlotSnapshotRead (src t entry word : Nat) (s : State) : Out := s.atTick t (fun d => d.budgetRead src 21 (fun d => d.hstRead src entry word))

/-- SLOT_TABLE_PARITY_ERROR (R196). -/
def execSlotTableParityError (t : Nat) (s : State) : Out := s.atTick t (fun d => d.raise 0x0A06 .h)

end Sys2Proof.Machine
end

