-- ==== Sys2Proof/Machine/Operands.lean ====
section
/-! DEFINITION. Operand forms of the assay cores: instruction fields (R213), pointers and post-modification (R207). -/
namespace Sys2Proof.Machine

/-- The instructions of Tables 10-8 to 10-11. -/
inductive AsyOp where
  | nop | mpy | mac | msu | dmpy | dmac | dmsu | pld | add | sub | cmp | and | or | xor | andn | shl | shr | sra | min | max
  | abs | neg | ext | ins | mul | norm | div | divu | clra | adda | suba | mova | sha | addaa | rnda | ldi | ldih | addi | cmpi
  | ldu | ldv | stu | stv | setp | br | call | jr | doLoop | rete | movs | wait
  deriving DecidableEq, Repr

/-- The field `msb..lsb` of an instruction word. -/
abbrev fieldOf (w msb lsb : Nat) : Nat := w / 2 ^ lsb % 2 ^ (msb + 1 - lsb)

/-- The special registers MOVS reaches (Table 10-12). -/
def specialOk (n : Nat) : Bool := n ≤ 6 || (8 ≤ n && n ≤ 10) || (16 ≤ n && n ≤ 0x33) || (0x38 ≤ n && n ≤ 0x3F)

/-- The instruction a word encodes, or none for an illegal encoding (R213, R222). -/
def decodeAsy (w : Nat) : Option AsyOp :=
  match fieldOf w 31 30 with
  | 3 => [AsyOp.mpy, .mac, .msu, .dmpy, .dmac, .dmsu, .pld][fieldOf w 29 27]?
  | 0 =>
    let fn := fieldOf w 29 24
    if fn ≤ 0x14 then [AsyOp.nop, .add, .sub, .cmp, .and, .or, .xor, .andn, .shl, .shr, .sra, .min, .max, .abs, .neg, .ext, .ins,
      .mul, .norm, .div, .divu][fn]?
    else if 0x18 ≤ fn then [AsyOp.clra, .adda, .suba, .mova, .sha, .addaa, .rnda][fn - 0x18]?
    else none
  | 1 =>
    if fieldOf w 20 20 = 1 then none
    else
      let op := fieldOf w 29 26
      if op = 8 then (if fieldOf w 25 25 = 1 then none else some .setp)
      else [AsyOp.ldi, .ldih, .addi, .cmpi, .ldu, .ldv, .stu, .stv][op]?
  | _ =>
    let op := fieldOf w 29 26
    if op = 0 ∧ fieldOf w 25 22 = 15 then none
    else if op = 5 ∧ !specialOk (fieldOf w 7 0) then none
    else [AsyOp.br, .call, .jr, .doLoop, .rete, .movs, .wait][op]?

/-- The order of the low `n` bits of `k` reversed. -/
def revBits : Nat → Nat → Nat
  | 0, _ => 0
  | n + 1, k => k % 2 * 2 ^ n + revBits n (k / 2)

/-- The order n of a WMODE value (Table 10-3). -/
def wmodeOrder (m : Nat) : Nat := m / 16 % 16

/-- What a write of WMODE stores (Table 10-3). -/
def wmodeWrite (v : Nat) : Nat :=
  let n := v / 16 % 16
  (if v % 4 = 3 then 0 else v % 4) + 16 * (if n = 0 ∨ n = 15 then 14 else n)

/-- The address that pointer `i` gives (R207). -/
def RegSet.addrOf (r : RegSet) (i : Nat) : Nat :=
  let p := r.p.getD i 0
  let m := r.wmode.getD i 0
  if m % 4 = 2 then (r.wlo.getD i 0 + revBits (wmodeOrder m) (p % 2 ^ wmodeOrder m)) % 2 ^ 20 else p

/-- Pointer `i` after a post-modify by `m` (R207). -/
def RegSet.postMod (r : RegSet) (i : Nat) (m : Int) : RegSet :=
  let p := r.p.getD i 0
  let wm := r.wmode.getD i 0
  let np : Nat :=
    match wm % 4 with
    | 1 =>
      let lo : Int := r.wlo.getD i 0
      let hi : Int := r.whi.getD i 0
      let x : Int := p + m
      unsigned 20 (if hi ≤ x then x - (hi - lo) else if x < lo then x + (hi - lo) else x)
    | 2 => unsigned (wmodeOrder wm) ((p : Int) + m)
    | _ => unsigned 20 ((p : Int) + m)
  { r with p := r.p.set i np }

/-- The step a format M update field names: none, +1, −1 or STEP (R213). -/
def RegSet.modStep (r : RegSet) (i mode : Nat) : Int :=
  match mode with | 1 => 1 | 2 => -1 | 3 => r.step.getD i 0 | _ => 0

end Sys2Proof.Machine
end

