-- ==== Sys2Proof/Machine/AssayCore.lean ====
section
/-! DEFINITION. How an assay core issues one instruction: memory and core I/O (R199 to R202, R221), result visibility
(R210 to R212), delay slots, loops (R216) and events (R217 to R220). -/
namespace Sys2Proof.Machine

/-- Base of core k's I, U and V memory at the model's own addresses. -/
def coreI (k : Nat) : Nat := memIBase + 65536 * k
def coreU (k : Nat) : Nat := memIBase + 0x100000 + 65536 * k
def coreV (k : Nat) : Nat := memIBase + 0x200000 + 65536 * k

/-- One instruction being issued: the state, the core's own copy, the word, the operands that the outside gives it
(bytes in error of its loads, stall cycles) and a free value. `writes` are G results of this instruction, `late` those
visible later. -/
structure Issue where
  s : State
  k : Nat
  c : Core
  w : Nat
  errU : Nat := 0
  errV : Nat := 0
  stall : Nat := 0
  free : Word := 0
  writes : List (Nat × Word) := []
  late : List Delayed := []

/-- The register set in use (R206). -/
def Core.cur (c : Core) : RegSet := if c.inHandler then c.sh else c.fg
/-- Change the register set in use. -/
def Core.onCur (c : Core) (f : RegSet → RegSet) : Core := if c.inHandler then { c with sh := f c.sh } else { c with fg := f c.fg }

namespace Issue

/-- Field of the word. -/
def f (x : Issue) (msb lsb : Nat) : Nat := fieldOf x.w msb lsb
/-- Register G n as it reads now. -/
def g (x : Issue) (n : Nat) : Word := x.c.cur.g.getD n 0
/-- Change the core copy. -/
def onC (x : Issue) (h : Core → Core) : Issue := { x with c := h x.c }
/-- A G result of this instruction, visible to the next one (R211). -/
def put (x : Issue) (n : Nat) (v : Word) : Issue := { x with writes := x.writes ++ [(n, v)] }
/-- A loaded value, visible one instruction later (R211). -/
def putLate (x : Issue) (n : Nat) (v : Word) : Issue :=
  { x with late := x.late ++ [{ left := 1, shadow := x.c.inHandler, dest := .gen n, value := v }] }
/-- Set the flag bits in `mask`. -/
def flags (x : Issue) (mask new : Nat) : Issue := x.onC (fun c => c.onCur (fun r => { r with flags := putFlags r.flags mask new }))
/-- Set a sticky STATUS bit, 0 for SAT to 5 for BUS. -/
def sticky (x : Issue) (i : Nat) : Issue := x.onC (fun c => { c with sticky := c.sticky ||| 2 ^ i })
/-- Apply a change of the device that may touch this core. -/
def sync (x : Issue) (h : Dev → Dev) : Issue :=
  let d := h (x.s.dev.onCore x.k (fun _ => x.c))
  { x with s := { x.s with dev := d }, c := d.core x.k }

/-- An access to an unmapped address (R200). -/
def bus (x : Issue) : Issue :=
  let first := !x.c.sticky.testBit 5
  let x := x.sticky 5
  if first then x.sync (fun d => d.coreFault x.k 0x0C04 .n) else x

/-- The 64-bit time base of a core's TIME registers: TIME_LO loads the core's snapshot, TIME_HI returns its high half
(R33, Table 10-13). -/
def timeRead (x : Issue) (hi : Bool) : Issue × Word :=
  let lo : Word := BitVec.ofNat 32 x.s.dev.time
  let h : Word := BitVec.ofNat 32 (x.s.dev.time / 2 ^ 32)
  if !hi then (x.onC (fun c => { c with timeSnap := some (lo, h, false) }), lo)
  else match x.c.timeSnap with
    | some (_, v, _) => (x, v)
    | none => (x, h)

/-- A read of core I/O word `a` (Table 10-13); words without a read meaning read 0 (log entry 20). -/
def ioRead (x : Issue) (a : Nat) : Issue × Word :=
  if a = 0 then (x, BitVec.ofNat 32 (x.c.ringCount + 16 * x.c.ringRd + 256 * x.c.batches.length))
  else if a = 3 then (x, BitVec.ofNat 32 (b2n x.c.commitOk + 2 * b2n x.c.commitBad))
  else if a = 7 then (x, x.c.cnyReq)
  else if a = 9 then x.timeRead false
  else if a = 10 then x.timeRead true
  else if a = 11 then (x, BitVec.ofNat 32 (x.k + 16 * x.s.dev.devId))
  else if 0x20 ≤ a then
    match mget x.s.dev.asy.sems (a - 0x20) with
    | some j => (x, if j = x.k then 1 else 0)
    | none => ({ x with s := { x.s with dev := { x.s.dev with asy := { x.s.dev.asy with sems := mput x.s.dev.asy.sems (a - 0x20) x.k } } } }, 1)
  else (x, 0)

/-- CONF for a cell of the core raises its confidence flag towards the sequencer (R78, R205). -/
def conf (x : Issue) (cell : Nat) : Issue :=
  match x.c.batches.find? (fun b => b.cell == cell) with
  | none => x.sync (fun d => d.coreFault x.k 0x0C07 .n)
  | some b => x.sync (fun d =>
      match d.cellOf b.uid with
      | some r => if d.rbit R.SEQ_CTRL 0 && d.cellOpen r then d.onCell b.uid (fun r => { r with flagHeld := true }) else d
      | none => d)

/-- A write of core I/O word `a` (Table 10-13). -/
def ioWrite (x : Issue) (a : Nat) (v : Word) : Issue :=
  let cell := v.toNat % 2 ^ 24
  if a = 1 then x.onC (fun c => if c.ringCount = 0 then c else { c with
    ringCount := c.ringCount - 1, ringRd := (c.ringRd + 1) % 8, ringFreedAt := if c.ringCount = 8 then x.s.dev.now else c.ringFreedAt })
  else if a = 2 then x.onC (fun c => if c.staging.length < 64 then { c with staging := c.staging ++ [v] } else { c with stagingOver := true })
  else if a = 3 then x.onC (fun c => { c with committing := some x.s.dev.now })
  else if a = 4 then x.onC (fun c => { c with staging := [], stagingOver := false })
  else if a = 5 then x.conf cell
  else if a = 6 then
    match x.c.batches.find? (fun b => b.cell == cell) with
    | none => x.sync (fun d => d.coreFault x.k 0x0C07 .n)
    | some b => x.sync (fun d => d.endBatch x.k b)
  else if a = 8 then x.onC (fun c => { c with cnyAck := some v })
  else if 0x20 ≤ a then
    if mget x.s.dev.asy.sems (a - 0x20) = some x.k then
      { x with s := { x.s with dev := { x.s.dev with asy := { x.s.dev.asy with sems := mdel x.s.dev.asy.sems (a - 0x20) } } } }
    else x
  else x

/-- The memory byte address of a bus address, where it is a memory (Table 10-1); `v` names the V bus. -/
def memAddr (x : Issue) (v : Bool) (a : Nat) : Option Nat :=
  if a < 0x4000 then some ((if v then coreV x.k else coreU x.k) + 4 * a)
  else if !v && decide (0x40000 ≤ a ∧ a < 0x80000) then some (clusterBase + 4 * (a - 0x40000))
  else none

/-- Address `a` of the V bus lies in a ring entry that is not counted, or past the last candidate of a counted one: its
contents are not defined (R204, Table 10-2). -/
def ringUndefined (x : Issue) (a : Nat) : Bool :=
  let r := (a - 0x3800) / 256
  let n := memLe x.s.sram (coreV x.k + 4 * (0x3800 + 256 * r) + 14) 1 % 16
  decide (0x3800 ≤ a ∧ a < 0x4000) &&
    (decide (x.c.ringCount ≤ (r + 8 - x.c.ringRd) % 8) || decide (8 + 20 * n ≤ a % 256 ∧ a % 256 < 168))

/-- Count the stall cycles of a cluster access (R201, Table 10-19). -/
def stalled (x : Issue) (a : Nat) : Issue :=
  if 0x40000 ≤ a ∧ a < 0x80000 then { x with s := { x.s with dev := x.s.dev.inc64 (R.ASY_CNT_STALL x.k) x.stall } } else x

/-- A load on a bus (R200 to R202). -/
def load (x : Issue) (v : Bool) (a : Nat) : Issue × Word :=
  match x.memAddr v a with
  | some m =>
    let x := if v then x else x.stalled a
    let word := m / 32 * 32
    let x := { x with s := x.s.noteErr word (if v then x.errV else x.errU) }
    if v && x.ringUndefined a then (x, x.free)
    else if x.s.sramPoison.contains word then ((x.sticky 4).sync (fun d => d.coreFault x.k 0x0C03 .n), 0)
    else (x, BitVec.ofNat 32 (memLe x.s.sram m 4))
  | none =>
    if !v && decide (0xFF000 ≤ a ∧ a < 0xFF040) then x.ioRead (a - 0xFF000) else (x.bus, 0)

/-- A store on a bus (R200, R201). -/
def store (x : Issue) (v : Bool) (a : Nat) (val : Word) : Issue :=
  match x.memAddr v a with
  | some m =>
    let x := if v then x else x.stalled a
    { x with s := { x.s with sram := memSetBytes x.s.sram m (leBytes 4 val.toNat) } }
  | none =>
    if !v && decide (0xFF000 ≤ a ∧ a < 0xFF040) then x.ioWrite (a - 0xFF000) val else x.bus

end Issue

/-! Events (R217 to R220). -/

/-- The enabled event the core takes first: CANARY, BATCH, ROUND. -/
def Core.nextEvent (c : Core) : Option Nat := [0, 1, 2].find? (fun i => c.evEn.testBit i && c.evPend.testBit i)

/-- A delayed result reaches its register. -/
def Core.land (c : Core) (x : Delayed) : Core :=
  let onSet := fun (h : RegSet → RegSet) => if x.shadow then { c with sh := h c.sh } else { c with fg := h c.fg }
  let v := x.value.toNat
  match x.dest with
  | .gen n => onSet (fun r => { r with g := r.g.set n x.value })
  | .special n =>
    if n = 2 then onSet (fun r => match r.loops with | [] => r | l :: t => { r with loops := { l with count := v % 65536 } :: t })
    else if n = 4 then { c with evEn := v % 8, evPend := c.evPend &&& (7 - v / 256 % 8) }
    else if 8 ≤ n ∧ n ≤ 10 then { c with vec := c.vec.set (n - 8) (v % 2 ^ 14) }
    else if 16 ≤ n ∧ n < 24 then onSet (fun r => { r with p := r.p.set (n - 16) (v % 2 ^ 20) })
    else if 24 ≤ n ∧ n < 32 then onSet (fun r => { r with step := r.step.set (n - 24) (signed 16 v) })
    else if 32 ≤ n ∧ n < 40 then onSet (fun r => { r with wmode := r.wmode.set (n - 32) (wmodeWrite (v % 256)) })
    else if 40 ≤ n ∧ n < 48 then onSet (fun r => { r with wlo := r.wlo.set (n - 40) (v % 2 ^ 20) })
    else if 0x38 ≤ n ∧ n < 0x40 then onSet (fun r => { r with whi := r.whi.set (n - 0x38) (v % 2 ^ 20) })
    else c

/-- Instructions already past D complete (R218). -/
def Core.drain (c : Core) : Core := { (c.delayed.foldl Core.land c) with delayed := [] }

/-- The set just entered shows its own flags to the first branch. -/
def Core.settleFlags (c : Core) : Core := { c with oldFlags := c.cur.flags, oldNeg := c.cur.a0.msb }

/-- Take event `e` at the instruction in D (R218). `keep` leaves EPC (R219). -/
def Core.take (c : Core) (e : Nat) (keep : Bool) : Core :=
  let epc := if keep then c.epc else if c.waiting then (c.pc + 1) % 2 ^ 14 else c.pc
  let c := c.drain
  ({ c with evPend := c.evPend &&& (7 - 2 ^ e), epc := epc, waiting := false, inHandler := true, pc := c.vec.getD e 0 }).settleFlags

/-- An event can be taken now: the core is in the foreground set, issues, and stands in no delay slot (R218). -/
def Core.eligible (c : Core) : Bool := c.running && !c.inHandler && c.slots == 0 && c.committing.isNone

/-! Flow. -/

/-- Loops whose count has run out are popped (R216). -/
def Core.settleLoops (c : Core) : Core := c.onCur (fun r => { r with loops := r.loops.dropWhile (fun l => l.count == 0) })

/-- What the end of the instruction at `pc` does to the loop stack: the counts of the loops that end there, and the
address that follows (R216). -/
def loopEnd (pc : Nat) : List LoopRec → List LoopRec × Nat
  | [] => ([], (pc + 1) % 2 ^ 14)
  | l :: r =>
    if l.stop = pc then
      if 1 < l.count then ({ l with count := l.count - 1 } :: r, l.start)
      else let (r', n) := loopEnd pc r; ({ l with count := 0 } :: r', n)
    else (l :: r, (pc + 1) % 2 ^ 14)

/-- A branch to `t` takes effect: loops whose body does not hold `t` are popped (R216). -/
def Core.jump (c : Core) (t : Nat) : Core :=
  { (c.onCur (fun r => { r with loops := r.loops.dropWhile (fun l => !(decide (l.start ≤ t ∧ t ≤ l.stop))) })) with pc := t, target := none }

/-- The address after a sequential instruction. -/
def Core.seqNext (c : Core) : Core :=
  let (l, n) := loopEnd c.pc c.cur.loops
  { (c.onCur (fun r => { r with loops := l })) with pc := n }

/-- RETE's two delay slots have run: back to EPC in the foreground set, or straight into a pending event (R219). -/
def Core.returnEvent (c : Core) : Core :=
  let c := { c with rete := false }
  match c.nextEvent with
  | some e => c.take e true
  | none => ({ c.drain with inHandler := false, pc := c.epc }).settleFlags

/-- After the instruction in D has issued: what the next D holds. `fresh` is set by the branch instructions themselves. -/
def Core.flow (c : Core) (slotsBefore : Nat) : Core :=
  if slotsBefore = 1 then
    let c := { c with slots := 0 }
    if c.rete then c.returnEvent
    else match c.target with
      | some t => c.jump t
      | none => c.seqNext
  else ({ c with slots := if slotsBefore = 2 then 1 else c.slots }).seqNext

/-- One more instruction has issued: the division and the delayed results come due, then this instruction's own
results are written (R211, R212). -/
def Issue.finish (x : Issue) (before : Core) : Issue :=
  let c := x.c
  let late : List Dest := c.delayed.filterMap (fun v => if v.left = 1 then some v.dest else none)
  let regs : List Dest := x.writes.map (fun p => Dest.gen p.1)
  -- the division in flight before this instruction; a result written in its cycle to its register replaces it
  let c : Core := match c.div, before.div with
    | some (v : Delayed), some _ =>
      if v.left ≤ 1 && v.shadow == c.inHandler && (late ++ regs).contains v.dest then { c with div := none }
      else { c with div := some { v with left := v.left - 1 } }
    | _, _ => c
  let aged : List Delayed := c.delayed.map (fun v => { v with left := v.left - 1 })
  let c := (aged.filter (fun v => v.left == 0)).foldl Core.land c
  let c := { c with delayed := aged.filter (fun (v : Delayed) => v.left != 0) ++ x.late }
  let c := x.writes.foldl (fun c p => c.onCur (fun r => { r with g := r.g.set p.1 p.2 })) c
  let c := { c with oldFlags := before.cur.flags, oldNeg := before.cur.a0.msb }
  { x with c := c, writes := [], late := [] }

/-- The instruction may not stand where it stands (R212, R216): a branch, CALL, JR, RETE, DO or WAIT in a delay slot,
or any of these but WAIT among the last two instructions of a loop body. -/
def Core.badPlace (c : Core) (op : AsyOp) : Bool :=
  let branch := [AsyOp.br, .call, .jr, .rete, .doLoop].contains op
  (c.slots != 0 && (branch || op == .wait)) ||
  (branch && (match c.cur.loops with | l :: _ => decide (l.start ≤ c.pc ∧ c.pc ≤ l.stop ∧ l.stop ≤ c.pc + 1) | [] => false))

/-- The word in D of core `k`. -/
def State.coreWord (s : State) (k : Nat) : Nat := memLe s.sram (coreI k + 4 * (s.dev.core k).pc) 4

/-- The I word in D lies in a poisoned word (R202). -/
def State.fetchPoisoned (s : State) (k : Nat) : Bool := s.sramPoison.contains ((coreI k + 4 * (s.dev.core k).pc) / 32 * 32)

/-- The background slice of the round is used up (R223). -/
def Dev.sliceSpent (d : Dev) (k : Nat) : Bool := decide ((d.reg R.ASY_BG_SLICE).toNat ≤ (d.reg (R.ASY_BG_USED k)).toNat)

/-- The core may issue the instruction in D: it runs (or a debug step lets it), no commit holds it, and no exhausted
slice holds its foreground set. -/
def Dev.canIssue (d : Dev) (k : Nat) (step : Bool) : Bool :=
  let c := d.core k
  c.started && !c.removed && (!c.halted || step) && c.committing.isNone &&
  !(!c.inHandler && (c.bgHeld || (c.fg.flags.testBit 4 && d.sliceSpent k)))

end Sys2Proof.Machine
end

