-- ==== Sys2Proof/Machine/AssayExec.lean ====
section
/-! DEFINITION. What each instruction of the assay cores does (Tables 10-8 to 10-12), and how one issues. -/
namespace Sys2Proof.Machine
namespace Issue

/-! Format M (Table 10-8). -/

/-- Half of a word as a multiply operand: signed, or unsigned with us = 1 (R209). -/
def half (x : Issue) (w : Word) (hi : Bool) : Int :=
  let v := if hi then bits w 31 16 else bits w 15 0
  if x.f 0 0 = 1 then (v : Int) else signed 16 v

/-- Source registers of a format M instruction. -/
def s1 (x : Issue) : Word := x.g (x.f 24 22)
/-- The second source. -/
def s2 (x : Issue) : Word := x.g (8 + x.f 21 19)
/-- The single product p. -/
def product (x : Issue) : Int := x.half x.s1 (x.f 2 2 == 1) * x.half x.s2 (x.f 1 1 == 1)
/-- The product of both high, or both low, halves. -/
def product2 (x : Issue) (hi : Bool) : Int := x.half x.s1 hi * x.half x.s2 hi

/-- The value of accumulator 0 or 1. -/
def acc (x : Issue) (one : Bool) : Int := if one then x.c.cur.a1.toInt else x.c.cur.a0.toInt

/-- Write an accumulator with the exact result `v` under the S bit (R209). -/
def putAcc (x : Issue) (s one : Bool) (v : Int) : Issue :=
  let (r, sat, ovf) := narrow40 s v
  let x := x.onC (fun c => c.onCur (fun q => if one then { q with a1 := r } else { q with a0 := r }))
  let x := if sat then x.sticky 1 else x
  if ovf then x.sticky 2 else x

/-- The parallel loads of a format M instruction, after its multiply has read its sources (R212, R213). -/
def parallel (x : Issue) : Issue :=
  let step := fun (x : Issue) (v : Bool) (i mode dst : Nat) =>
    let a := x.c.cur.addrOf i
    let (x, w) := x.load v a
    (x.onC (fun c => c.onCur (fun r => r.postMod i (r.modStep i mode)))).putLate dst w
  let x := if x.f 18 18 = 1 then step x false (x.f 17 16) (x.f 15 14) (x.f 13 11) else x
  if x.f 10 10 = 1 then step x true (4 + x.f 9 8) (x.f 7 6) (8 + x.f 5 3) else x

/-- A single multiply with accumulator weight `k` of the old value and sign `sg` of the product. -/
def single (x : Issue) (k sg : Int) : Issue :=
  let one := x.f 25 25 == 1
  (x.putAcc (x.f 26 26 == 1) one (k * x.acc one + sg * x.product)).parallel

/-- A dual multiply: A0 takes the high product, A1 the low one, each under the same rules (R209). -/
def dual (x : Issue) (k sg : Int) : Issue :=
  let s := x.f 26 26 == 1
  let p0 := k * x.acc false + sg * x.product2 true
  let p1 := k * x.acc true + sg * x.product2 false
  ((x.putAcc s false p0).putAcc s true p1).parallel

/-- MPY: acc = p. -/
def mpy (x : Issue) : Issue := x.single 0 1
/-- MAC: acc = acc + p. -/
def mac (x : Issue) : Issue := x.single 1 1
/-- MSU: acc = acc − p. -/
def msu (x : Issue) : Issue := x.single 1 (-1)
/-- DMPY. -/
def dmpy (x : Issue) : Issue := x.dual 0 1
/-- DMAC. -/
def dmac (x : Issue) : Issue := x.dual 1 1
/-- DMSU. -/
def dmsu (x : Issue) : Issue := x.dual 1 (-1)
/-- PLD: parallel loads only. -/
def pld (x : Issue) : Issue := x.parallel

/-! Format R (Table 10-9). -/

/-- Operand a. -/
def ra (x : Issue) : Word := x.g (x.f 18 15)
/-- Operand b. -/
def rb (x : Issue) : Word := x.g (x.f 14 11)
/-- The S bit of format R. -/
def rs (x : Issue) : Bool := x.f 23 23 == 1

/-- Write d and the flags in `mask` from an arithmetic result; clamping sets SAT (R208). -/
def putAlu (x : Issue) (mask : Nat) (r : Alu) : Issue :=
  let x := (x.put (x.f 22 19) r.v).flags mask (flagWord r.v r.c r.o)
  if r.sat then x.sticky 0 else x

/-- Write d with Z and N from the value. -/
def putZN (x : Issue) (v : Word) : Issue := x.putAlu 3 { v := v }

/-- NOP. -/
def nop (x : Issue) : Issue := x
/-- ADD. -/
def add (x : Issue) : Issue := x.putAlu 15 (aluAdd x.rs x.ra x.rb)
/-- SUB. -/
def sub (x : Issue) : Issue := x.putAlu 15 (aluSub x.rs x.ra x.rb)
/-- CMP: flags of a − b only. -/
def cmp (x : Issue) : Issue := let r := aluSub false x.ra x.rb; x.flags 15 (flagWord r.v r.c r.o)
/-- AND. -/
def and (x : Issue) : Issue := x.putZN (x.ra &&& x.rb)
/-- OR. -/
def or (x : Issue) : Issue := x.putZN (x.ra ||| x.rb)
/-- XOR. -/
def xor (x : Issue) : Issue := x.putZN (x.ra ^^^ x.rb)
/-- ANDN: a AND NOT b. -/
def andn (x : Issue) : Issue := x.putZN (x.ra &&& ~~~x.rb)

/-- The shift amount: imm[4:0], or b[4:0] when imm[5] = 1. -/
def amount (x : Issue) : Nat := if x.f 5 5 = 1 then bits x.rb 4 0 else x.f 4 0
/-- SHL. -/
def shl (x : Issue) : Issue := x.putZN (x.ra <<< x.amount)
/-- SHR. -/
def shr (x : Issue) : Issue := x.putZN (x.ra >>> x.amount)
/-- SRA. -/
def sra (x : Issue) : Issue := x.putZN (x.ra.sshiftRight x.amount)
/-- MIN, signed. -/
def min (x : Issue) : Issue := x.putZN (if x.ra.toInt ≤ x.rb.toInt then x.ra else x.rb)
/-- MAX, signed. -/
def max (x : Issue) : Issue := x.putZN (if x.ra.toInt ≤ x.rb.toInt then x.rb else x.ra)

/-- ABS: a when it is not negative, else 0 − a. Its C with a not negative is not stated and free (log entry 21). -/
def abs (x : Issue) : Issue :=
  if x.ra.msb then x.putAlu 15 (aluSub x.rs 0#32 x.ra) else x.putAlu 15 { v := x.ra, c := bit x.free 0 }
/-- NEG: 0 − a. -/
def neg (x : Issue) : Issue := x.putAlu 15 (aluSub x.rs 0#32 x.ra)

/-- EXT: a bit field, sign-extended when imm[10] = 1. -/
def ext (x : Issue) : Issue :=
  let pos := x.f 4 0
  let len := x.f 9 5 + 1
  let v := x.ra.toNat / 2 ^ pos % 2 ^ len
  x.putZN (BitVec.ofInt 32 (if x.f 10 10 = 1 then signed len v else v))
/-- INS: a bit field of d is replaced; positions above bit 31 are dropped. -/
def ins (x : Issue) : Issue :=
  let pos := x.f 4 0
  let len := x.f 9 5 + 1
  let mask : Word := BitVec.ofNat 32 ((2 ^ len - 1) * 2 ^ pos)
  x.putZN ((x.g (x.f 22 19) &&& ~~~mask) ||| (BitVec.ofNat 32 (x.ra.toNat % 2 ^ len * 2 ^ pos) &&& mask))
/-- MUL: the low 32 bits, or the clamped full product. -/
def mul (x : Issue) : Issue := x.putAlu 11 (narrow32 x.rs (x.ra.toInt * x.rb.toInt) false)
/-- NORM: leading bits equal to bit 31, minus 1. -/
def norm (x : Issue) : Issue :=
  let a := x.ra
  let n := ((List.range 32).map (fun i => a.getLsbD (31 - i))).takeWhile (fun b => b == a.msb) |>.length
  x.putAlu 1 { v := BitVec.ofNat 32 (n - 1) }

/-- A division starts: its result lands 7 instructions later (R211), its flags at once. -/
def startDiv (x : Issue) (mask : Nat) (r : Alu) : Issue :=
  let x := x.flags mask (flagWord r.v r.c r.o)
  let x := if r.sat then x.sticky 0 else x
  x.onC (fun c => { c with div := some { left := 7, shadow := c.inHandler, dest := .gen (x.f 22 19), value := r.v } })
/-- DIV, signed, truncated towards 0. V after a division by zero is not stated and free (log entry 21). -/
def div (x : Issue) : Issue :=
  if x.rb = 0#32 then (x.sticky 3).startDiv 11 { v := if x.ra.msb then 0x80000000#32 else 0x7FFFFFFF#32, o := bit x.free 1 }
  else x.startDiv 11 (narrow32 x.rs (x.ra.toInt.tdiv x.rb.toInt) false)
/-- DIVU, unsigned. -/
def divu (x : Issue) : Issue :=
  if x.rb = 0#32 then (x.sticky 3).startDiv 1 { v := 0xFFFFFFFF#32 }
  else x.startDiv 1 { v := BitVec.ofNat 32 (x.ra.toNat / x.rb.toNat) }

/-- The accumulator an accumulator instruction selects. -/
def which (x : Issue) : Bool := x.f 10 10 == 1
/-- Z and N from a 40-bit result. -/
def accFlags (x : Issue) (v : BitVec 40) : Issue := x.flags 3 (b2n (v == 0#40) + 2 * b2n v.msb)
/-- Write the selected accumulator and set Z and N from it. -/
def accResult (x : Issue) (s : Bool) (v : Int) : Issue :=
  let x' := x.putAcc s x.which v
  x'.accFlags (if x.which then x'.c.cur.a1 else x'.c.cur.a0)
/-- CLRA. -/
def clra (x : Issue) : Issue := x.accResult false 0
/-- ADDA. -/
def adda (x : Issue) : Issue := x.accResult x.rs (x.acc x.which + x.ra.toInt * 2 ^ x.f 4 0)
/-- SUBA. -/
def suba (x : Issue) : Issue := x.accResult x.rs (x.acc x.which - x.ra.toInt * 2 ^ x.f 4 0)
/-- MOVA: the shifted accumulator's low 32 bits, or clamped to 32 bits with SAT; Z and N come from the 40-bit value. -/
def mova (x : Issue) : Issue :=
  let v := shiftInt (x.acc x.which) (signed 6 (x.f 5 0))
  let r := narrow32 x.rs v false
  let x := (x.put (x.f 22 19) r.v).accFlags (BitVec.ofInt 40 v)
  if r.sat then x.sticky 0 else x
/-- SHA. -/
def sha (x : Issue) : Issue := x.accResult x.rs (shiftInt (x.acc x.which) (signed 6 (x.f 5 0)))
/-- ADDAA. -/
def addaa (x : Issue) : Issue := x.accResult x.rs (x.acc false + x.acc true)
/-- RNDA. -/
def rnda (x : Issue) : Issue :=
  let k := x.f 4 0
  let a := x.acc x.which
  x.accResult x.rs (if k = 0 then a else (a + 2 ^ (k - 1)) / 2 ^ k * 2 ^ k)

/-! Format I (Table 10-10). -/

/-- The register of format I. -/
def ri (x : Issue) : Nat := x.f 25 22
/-- The sign-extended immediate. -/
def imm16 (x : Issue) : Word := BitVec.ofInt 32 (signed 16 (x.f 15 0))
/-- LDI. -/
def ldi (x : Issue) : Issue := x.put x.ri x.imm16
/-- LDIH. -/
def ldih (x : Issue) : Issue := x.put x.ri (setBits (x.g x.ri) 31 16 (x.f 15 0))
/-- ADDI. -/
def addi (x : Issue) : Issue :=
  let r := aluAdd (x.f 21 21 == 1) (x.g x.ri) x.imm16
  let x' := (x.put x.ri r.v).flags 15 (flagWord r.v r.c r.o)
  if r.sat then x'.sticky 0 else x'
/-- CMPI. -/
def cmpi (x : Issue) : Issue := let r := aluSub false (x.g x.ri) x.imm16; x.flags 15 (flagWord r.v r.c r.o)

/-- The address of a load or store and the update of its pointer, by am (Table 10-10). -/
def memOperand (x : Issue) (v : Bool) : Nat × Issue :=
  let i := (if v then 4 else 0) + x.f 19 18
  let a := x.c.cur.addrOf i
  let off := signed 16 (x.f 15 0)
  match x.f 17 16 with
  | 0 => (unsigned 20 ((a : Int) + off), x)
  | 1 => (a, x.onC (fun c => c.onCur (fun r => r.postMod i off)))
  | 2 => (a, x.onC (fun c => c.onCur (fun r => r.postMod i (r.step.getD i 0))))
  | _ => (x.f 15 0, x)
/-- A load. -/
def loadOp (x : Issue) (v : Bool) : Issue :=
  let (a, x) := x.memOperand v
  let (x, w) := x.load v a
  x.putLate x.ri w
/-- A store. -/
def storeOp (x : Issue) (v : Bool) : Issue :=
  let w := x.g x.ri
  let (a, x) := x.memOperand v
  x.store v a w
/-- LDU. -/
def ldu (x : Issue) : Issue := x.loadOp false
/-- LDV. -/
def ldv (x : Issue) : Issue := x.loadOp true
/-- STU. -/
def stu (x : Issue) : Issue := x.storeOp false
/-- STV. -/
def stv (x : Issue) : Issue := x.storeOp true
/-- SETP. -/
def setp (x : Issue) : Issue := x.onC (fun c => c.onCur (fun r => { r with p := r.p.set (x.f 24 22) (x.f 19 0) }))

/-! Format C (Table 10-11). -/

/-- A branch to `t` after two delay slots. -/
def branch (x : Issue) (t : Option Nat) : Issue := x.onC (fun c => { c with slots := 3, target := t })
/-- The address `off` away from this instruction. -/
def rel (x : Issue) : Nat := unsigned 14 ((x.c.pc : Int) + signed 22 (x.f 21 0))
/-- BR: the flags tested are those of two instructions back; RE samples the ring count (R211, R214). -/
def br (x : Issue) : Issue :=
  x.branch (if condHolds (x.f 25 22) x.c.oldFlags x.c.ringCount x.c.oldNeg then some x.rel else none)
/-- CALL. -/
def call (x : Issue) : Issue :=
  (x.onC (fun c => c.onCur (fun r => { r with lr := (x.c.pc + 3) % 2 ^ 14 }))).branch (some x.rel)
/-- JR. -/
def jr (x : Issue) : Issue :=
  x.branch (some (if x.f 21 21 = 1 then x.c.cur.lr else (x.g (x.f 25 22)).toNat % 2 ^ 14))
/-- DO: a loop on the stack; a count of 0 skips the body; a full stack stops the core (R216). -/
def doLoop (x : Issue) : Issue :=
  let len := x.f 24 19 + 1
  let n := if x.f 25 25 = 1 then bits (x.g (x.f 18 15)) 15 0 else x.f 14 0
  let pc := x.c.pc
  if n = 0 then x.onC (fun c => { c with pc := (pc + len) % 2 ^ 14 })
  else if 4 ≤ x.c.cur.loops.length then x.sync (fun d => d.removeCore x.k 0x0C06)
  else x.onC (fun c => c.onCur (fun r => { r with loops := { count := n, start := (pc + 1) % 2 ^ 14, stop := (pc + len) % 2 ^ 14 } :: r.loops }))
/-- RETE (R219). -/
def rete (x : Issue) : Issue := x.onC (fun c => { c with slots := 3, target := none, rete := true })

/-- Cycles since reset (Table 10-12): one CK_CORE cycle is two ticks. -/
def cyc (x : Issue) : Nat := x.s.dev.now / 2

/-- A read of special register `n` (Table 10-12). -/
def spRead (x : Issue) (n : Nat) : Issue × Word :=
  let r := x.c.cur
  let nat := fun (v : Nat) => (BitVec.ofNat 32 v : Word)
  if n = 0 then (x, nat ((if x.c.inHandler then r.flags % 16 else r.flags) + 256 * x.c.sticky))
  else if n = 1 then (x, nat r.lr)
  else if n = 2 then (x, nat ((r.loops.head?.map (·.count)).getD 0))
  else if n = 3 then (x, nat x.c.epc)
  else if n = 4 then (x, nat (x.c.evEn + 256 * x.c.evPend + 65536 * b2n x.c.inHandler))
  else if n = 5 then (x.onC (fun c => { c with cycHi := x.cyc / 2 ^ 32 }), nat x.cyc)
  else if n = 6 then (x, nat x.c.cycHi)
  else if n ≤ 10 then (x, nat (x.c.vec.getD (n - 8) 0))
  else if n < 24 then (x, nat (r.p.getD (n - 16) 0))
  else if n < 32 then (x, BitVec.ofInt 32 (r.step.getD (n - 24) 0))
  else if n < 40 then (x, nat (r.wmode.getD (n - 32) 0))
  else if n < 48 then (x, nat (r.wlo.getD (n - 40) 0))
  else if n = 0x30 then (x, r.a0.setWidth 32)
  else if n = 0x31 then (x, BitVec.ofInt 32 (r.a0.toInt / 2 ^ 32))
  else if n = 0x32 then (x, r.a1.setWidth 32)
  else if n = 0x33 then (x, BitVec.ofInt 32 (r.a1.toInt / 2 ^ 32))
  else (x, nat (r.whi.getD (n - 0x38) 0))

/-- An accumulator with its low 32 or its guard bits replaced. -/
def accPart (a : BitVec 40) (hi : Bool) (v : Word) : BitVec 40 :=
  if hi then BitVec.ofNat 40 (a.toNat % 2 ^ 32 + v.toNat % 256 * 2 ^ 32) else BitVec.ofNat 40 (a.toNat / 2 ^ 32 * 2 ^ 32 + v.toNat)

/-- A write of special register `n`: STATUS, LR and the accumulators at once, the registers Table 10-6 names two
instructions later; read-only ones ignore it (R215). -/
def spWrite (x : Issue) (n : Nat) (v : Word) : Issue :=
  let cur := fun h => x.onC (fun c => c.onCur h)
  if n = 0 then
    let m := if x.c.inHandler then 15 else 31
    (x.flags m (v.toNat % 32)).onC (fun c => { c with sticky := c.sticky &&& (63 - bits v 13 8) })
  else if n = 1 then cur (fun r => { r with lr := v.toNat % 2 ^ 14 })
  else if n = 0x30 then cur (fun r => { r with a0 := accPart r.a0 false v })
  else if n = 0x31 then cur (fun r => { r with a0 := accPart r.a0 true v })
  else if n = 0x32 then cur (fun r => { r with a1 := accPart r.a1 false v })
  else if n = 0x33 then cur (fun r => { r with a1 := accPart r.a1 true v })
  else if n = 3 ∨ n = 5 ∨ n = 6 then x
  else { x with late := x.late ++ [{ left := 2, shadow := x.c.inHandler, dest := .special n, value := v }] }

/-- MOVS (R215). -/
def movs (x : Issue) : Issue :=
  let n := x.f 7 0
  if x.f 25 25 = 1 then let (x, v) := x.spRead n; x.put (x.f 24 21) v
  else x.spWrite n (x.g (x.f 24 21))

/-- WAIT: nothing further issues until an enabled event is pending; the core in a handler then goes on (R218). -/
def wait (x : Issue) : Issue := x

/-- What instruction `op` does. -/
def run (x : Issue) : AsyOp → Issue
  | .nop => x.nop | .mpy => x.mpy | .mac => x.mac | .msu => x.msu | .dmpy => x.dmpy | .dmac => x.dmac | .dmsu => x.dmsu
  | .pld => x.pld | .add => x.add | .sub => x.sub | .cmp => x.cmp | .and => x.and | .or => x.or | .xor => x.xor | .andn => x.andn
  | .shl => x.shl | .shr => x.shr | .sra => x.sra | .min => x.min | .max => x.max | .abs => x.abs | .neg => x.neg | .ext => x.ext
  | .ins => x.ins | .mul => x.mul | .norm => x.norm | .div => x.div | .divu => x.divu | .clra => x.clra | .adda => x.adda
  | .suba => x.suba | .mova => x.mova | .sha => x.sha | .addaa => x.addaa | .rnda => x.rnda | .ldi => x.ldi | .ldih => x.ldih
  | .addi => x.addi | .cmpi => x.cmpi | .ldu => x.ldu | .ldv => x.ldv | .stu => x.stu | .stv => x.stv | .setp => x.setp
  | .br => x.br | .call => x.call | .jr => x.jr | .doLoop => x.doLoop | .rete => x.rete | .movs => x.movs | .wait => x.wait

end Issue

/-- What the outside gives a core with an instruction: the core, bytes in error of its U and V loads, stall cycles. -/
structure IssueEnv where
  core : Nat
  errU : Nat := 0
  errV : Nat := 0
  stall : Nat := 0

/-- The instruction `op` in D issues on core `e.core`, when D holds it, it may stand there and the core may issue
(R210 to R223). An instruction in D that an event can take is cancelled by it (R218), so it does not issue. -/
def State.issue (s : State) (e : IssueEnv) (op : AsyOp) (step : Bool) : State :=
  let k := e.core
  let w := s.coreWord k
  let c0 := (s.dev.core k).settleLoops
  -- a division result that is due is written; a second division waits for the first (R211, R212)
  let c0 := match c0.div with
    | some v => if v.left = 0 || op = .div || op = .divu then { c0.land v with div := none } else c0
    | none => c0
  if !s.dev.canIssue k step || s.fetchPoisoned k || decodeAsy w != some op || c0.badPlace op then s
  else if c0.eligible && c0.nextEvent.isSome then s
  else if op = .wait then
    -- WAIT holds D; in a handler it ends once an enabled event is pending
    if c0.inHandler && c0.nextEvent.isSome then
      { s with dev := (s.dev.onCore k (fun _ => { c0.seqNext with waiting := false })) }
    else
      let d := if c0.waiting then s.dev else s.dev.setBusy k false
      { s with dev := (d.onCore k (fun c => { c0 with waiting := true, busySince := c.busySince })).coreReport k }
  else if c0.waiting then s
  else
    let x : Issue := { s := { s with dev := s.dev.drew }, k := k, c := c0, w := w, errU := e.errU, errV := e.errV, stall := e.stall, free := s.dev.fresh 32 }
    let x := (x.run op).finish c0
    let c := if x.c.removed then x.c
      else if x.c.slots = 3 then ({ x.c with slots := 2 }).seqNext
      else x.c.flow c0.slots
    let bg := !c0.inHandler && c0.fg.flags.testBit 4
    let d := x.s.dev.onCore k (fun _ => c)
    let d := if bg then d.setReg (R.ASY_BG_USED k) (d.reg (R.ASY_BG_USED k) + 1) else d
    { x.s with dev := d.coreReport k }

end Sys2Proof.Machine
end

