-- ==== Sys2Proof/Machine/Foreman.lean ====
section
/-! DEFINITION. The Foreman (chapter 12): rounds, activities, the admission check and its commands. -/
namespace Sys2Proof.Machine

/-- The Bounded activities of Table 12-1. -/
def boundedAct (a : Nat) : Bool := a ≤ 1 || (3 ≤ a && a ≤ 7)

/-- Maximum allocation of activity `a` (Table 12-1). -/
def actMax (a cap : Nat) : Nat :=
  if a ≤ 1 then 131072 else if a = 2 then 8192 else if a ≤ 13 then 208 else if a ≤ 18 then cap else 1048575

/-- What the check gathers of one emitter: P_e, σ_e, α_e and the streams of its runs. -/
structure Demand where
  e : Nat
  dmin : Nat
  sig : Nat
  alp : Nat
  streams : List Nat

/-- The runs of the program from entry `i` on, to the end marker (R65); `n` bounds the entries left. -/
def programRuns (m : List Host.Cell) : Nat → Nat → List Entry
  | 0, _ => []
  | n + 1, i =>
    let e := entryOf (memLe m (scanBase + 16 * i) 16)
    if e.count = 0 then [] else if e.invalid then programRuns m n (i + 1) else e :: programRuns m n (i + 1)

/-- Enabled channels in the ports that listen to some emitters (h_r). -/
def Dev.listening (d : Dev) (ems : List Nat) : Nat :=
  let ports := (List.range 32).filter (fun q => ems.any (fun e => (d.reg (R.SEQ_EMIT_RMAP e)).getLsbD q))
  ((ports.flatMap (fun q => (List.range 8).map (fun j => 8 * q + j))).filter (fun c => d.rbit (R.RFE_CTRL c) 0)).length

/-- Take one run into the demands. -/
def addRun (d : Dev) (l : List Demand) (r : Entry) : List Demand :=
  let ems := runEmitters r d.enables
  let h := d.listening ems
  let sig := h * (cdiv r.winLen 8 + 128)
  let alp := (d.reg R.ASY_WCET_BATCH).toNat + h * (d.reg R.ASY_WCET_SET).toNat
  ems.foldl (fun l e =>
    if l.any (fun x => x.e == e) then l.map (fun x => if x.e == e then
      { x with dmin := Nat.min x.dmin r.dwellMin, sig := Nat.max x.sig sig, alp := Nat.max x.alp alp
               streams := if x.streams.contains r.stream then x.streams else r.stream :: x.streams } else x)
    else l ++ [{ e := e, dmin := r.dwellMin, sig := sig, alp := alp, streams := [r.stream] }]) l

/-- n_e(τ): the most cells of an emitter that can close within τ ticks. -/
def Dev.closes (d : Dev) (x : Demand) (tau : Nat) : Nat := tau / (d.pri x.e * x.dmin) + 1

/-- The result of a check (R252): the first failing condition and what Table 12-5 reports. -/
structure Admit where
  code : Nat := 0
  lane : Nat := 0
  stream : Nat := 0
  act : Nat := 0
  cores : Nat := 0
  sieve : Nat := 0
  assay : Nat := 0
  lanes : List Nat := []

/-- The allocation of activity `a` as a check sees it: the pending value where one is held (R254). -/
def Dev.allocSeen (d : Dev) (a : Nat) : Nat := (mget d.fmn.pend a).getD (d.reg (R.FMN_ALLOC a)).toNat

/-- The lane a stream other than 4 counts on (R252). -/
def Dev.countsOn (d : Dev) (s : Nat) : Option Nat := if d.streamOn s && d.streamLaneEn s then some (d.streamLane s) else none

/-- The admission check over the program at SEQ_PROG_BASE with `n` cores (R252, Table 12-2). -/
def Dev.admission (d : Dev) (m : List Host.Cell) (n : Nat) : Admit :=
  let base := d.fld R.SEQ_PROG_BASE 17 0
  let runs := (programRuns m (262144 - base) base).filter (fun r => !(runEmitters r d.enables).isEmpty)
  let ds := runs.foldl (fun l r => addRun d l r) []
  let amax := (ds.map (·.alp)).foldl Nat.max 0
  let sum := fun (f : Demand → Nat) => (ds.map f).sum
  let al := d.allocSeen
  let assay := sum (fun x => d.closes x 6400 * x.alp)
  let assay3 := sum (fun x => d.closes x 16384 * x.alp)
  let sieve := sum (fun x => d.closes x 5696 * x.sig)
  let sieve5 := sum (fun x => d.closes x 16384 * x.sig)
  let lane6 := (List.range 8).map (fun l => sum (fun x => if x.streams.any (fun s => d.countsOn s == some l) then d.closes x 1920 * 4 else 0))
  let need7 := (List.range 4).map (fun s => sum (fun x => if x.streams.contains s then d.closes x 16384 * 4 else 0))
  let lane7 := (List.range 8).map (fun l =>
    (([0, 1, 2, 3].filter (fun s => d.countsOn s == some l)).map (fun s => al (3 + s))).sum +
    (([8, 9, 10, 11, 12, 13].filter (fun s => d.countsOn s == some l)).map al).sum +
    (if l = 0 ∧ d.streamOn 4 ∧ d.netB then al 7 else 0))
  let cap := (d.reg R.FMN_DRAM_CAP).toNat
  let dramOk := !d.hoistFailed
  let r : Admit := { cores := n, sieve := sieve, assay := assay, lanes := lane6 }
  if d.fld R.ASY_BATCH_LIMIT 15 0 < 2 * amax then { r with code := 1 }
  else if n * (3200 - Nat.min 3200 (al 2)) < assay then { r with code := 2 }
  else if al 1 < assay3 ∨ n * 8192 < al 1 then { r with code := 3 }
  else if 45568 < sieve then { r with code := 4 }
  else if al 0 < sieve5 then { r with code := 5 }
  else match (List.range 8).find? (fun l => decide (25 < lane6.getD l 0)) with
  | some l => { r with code := 6, lane := l }
  | none => match (List.range 4).find? (fun s => d.streamOn s && decide (al (3 + s) < need7.getD s 0)) with
  | some s => { r with code := 7, stream := s }
  | none => match (List.range 8).find? (fun l => decide (208 < lane7.getD l 0)) with
  | some l => { r with code := 7, lane := l }
  | none =>
    if dramOk && decide (cap < ([14, 15, 16, 17, 18].map al).sum) then { r with code := 8 }
    else match (List.range 24).find? (fun a => (dramOk || !(decide (14 ≤ a ∧ a ≤ 18))) && decide (actMax a cap < al a)) with
    | some a => { r with code := 9, act := a }
    | none => r

/-- N: the cores with dispatch = 1 that are not removed (R252). -/
def Dev.dispatchCores (d : Dev) : Nat := ((List.range 16).filter (fun k => d.rbit (R.ASY_CTRL k) 0 && !(d.core k).removed)).length

/-- Report a check in the FMN registers (Table 12-5). -/
def Dev.reportCheck (d : Dev) (r : Admit) : Dev :=
  let w := fun (v : Nat) => (BitVec.ofNat 32 (satN 0xFFFFFFFF v) : Word)
  let d := (d.setReg R.FMN_ADMIT (w (r.code + 16 * r.lane + 128 * r.stream + 512 * r.act))).setReg R.FMN_CORES (w r.cores)
  let d := (d.setReg R.FMN_DEMAND_SIEVE (w r.sieve)).setReg R.FMN_DEMAND_ASSAY (w r.assay)
  let d := (List.range 8).foldl (fun d l => d.setReg (R.FMN_DEMAND_LANE l) (w (r.lanes.getD l 0))) d
  d.setBit R.FMN_STATUS 0 (r.code == 0)

/-- The check outside a frame boundary (R252 to R254): a failure is logged; outside RANGING a pass approves the pending
allocations. Answers whether it passed. -/
def Dev.runCheck (d : Dev) (m : List Host.Cell) : Dev × Bool :=
  let r := d.admission m d.dispatchCores
  let d := d.reportCheck r
  if r.code = 0 then
    (if d.ranging || d.fmn.pend.isEmpty then d else { d with fmn := { d.fmn with approved := true } }, true)
  else (d.logFault 0x0E01 .n, false)

/-- The frame-boundary recheck in RANGING (R253, R254). -/
def Dev.recheck (d : Dev) (m : List Host.Cell) : Dev :=
  let r := d.admission m d.dispatchCores
  let d := d.reportCheck r
  let has := !d.fmn.pend.isEmpty
  if r.code = 0 then (if has then { d with fmn := { d.fmn with approved := true } } else d)
  else
    let d := (d.setBit R.FMN_STATUS 4 true).logFault 0x0E04 .n
    if has then
      let d := { d with fmn := { d.fmn with pend := [], approved := false } }
      (((d.setBit R.FMN_STATUS 1 false).setBit R.FMN_STATUS 2 true)).logFault 0x0E03 .n
    else d

/-- What an accepted write of FMN_CMD does (R253, Table 12-5). -/
def Dev.fmnCmd (d : Dev) (w : Word) : Dev :=
  if bits w 7 0 != 1 then d.setReg R.FMN_CMD (cmdWord w 0xFF 2 3)
  else ({ d with fmn := { d.fmn with checking := true } }).setReg R.FMN_CMD (cmdWord w 0xFF 3 0)

/-- CHECK (R253). -/
def execCheck (src t : Nat) (s : State) : Out :=
  s.atTick t (fun d => d.cmdWrite src R.FMN_CMD 1#32 (fun d => d.fmnCmd 1#32))

/-- ADMISSION_CHECK_DONE (R252, R253, R413): the running check, the due recheck and the check of stage 10 complete; stage 10
waits while Hoist trains. A passing stage 10 enters RANGING when auto_start acts (R16). -/
def execAdmissionCheckDone (t : Nat) (s : State) : Out :=
  s.atTick t (fun d =>
    let d := if d.fmn.recheckDue && d.ranging then ({ d with fmn := { d.fmn with recheckDue := false } }).recheck s.sram else d
    let d := if d.top.stage10 && d.top.state == .armed && d.hoi.training.isNone then
        let (d, ok) := ({ d with top := { d.top with stage10 := false } }).runCheck s.sram
        if ok && d.top.auto && d.rbit R.TOP_RUN_CTRL 0 then d.enterRanging else d
      else d
    if d.fmn.checking then
      let (d, ok) := ({ d with fmn := { d.fmn with checking := false } }).runCheck s.sram
      d.setFld R.FMN_CMD 9 8 (if ok then 1 else 2)
    else d)

/-- A write of FMN_ALLOCa is held pending (R254). -/
def Dev.allocWrite (d : Dev) (a : Nat) (v : Word) : Dev :=
  ({ d with fmn := { d.fmn with pend := mput d.fmn.pend a v.toNat, approved := false } }).setBit R.FMN_STATUS 1 true

/-- FMN_ALLOC_WRITE (R254): a read shows the pending value, so it is what the journal's old field holds. -/
def execFmnAllocWrite (src t activity : Nat) (value : Word) (s : State) : Out :=
  s.atTick t (fun d => if 24 ≤ activity then d else d.regWrite src (R.FMN_ALLOC activity) value (fun d => d.allocWrite activity value))

/-! Rounds and use (R246 to R251). -/

/-- The words activity `a` can still spend in this round. -/
def Dev.actLeft (d : Dev) (a : Nat) : Nat := (d.reg (R.FMN_ALLOC a)).toNat - mgetD d.fmn.used a 0 - mgetD d.fmn.lent a 0

/-- Charge `n` units to activity `a`. -/
def Dev.charge (d : Dev) (a n : Nat) : Dev := { d with fmn := { d.fmn with used := mupd d.fmn.used a 0 (· + n) } }

/-- Borrow `n` words from activities 18, 17 and 16, in that order (R251). -/
def Dev.borrow (d : Dev) (n : Nat) : Dev :=
  let (d, _) := [18, 17, 16].foldl (fun (p : Dev × Nat) a =>
    let k := Nat.min p.2 (p.1.actLeft a)
    ({ p.1 with fmn := { p.1.fmn with lent := mupd p.1.fmn.lent a 0 (· + k) } }, p.2 - k)) (d, n)
  (d.inc64 R.FMN_CNT_BORROW n).setBit R.FMN_STATUS 5 true

/-- The port of a real-time activity shows panic: the lode write-back for 14 (R194); the waveform port's panic output,
whose rule is not stated, is the request's operand for 15 (log entry 22). -/
def Dev.panics (d : Dev) (a : Nat) (panic : Bool) : Bool := (a == 14 && d.rbit R.HST_STATUS 1) || (a == 15 && panic)

/-- A Bulk request of `n` units is served when its allocation, and for a panicking real-time port the lenders', covers
it (R248, R251). -/
def Dev.tryServe (d : Dev) (a n : Nat) (panic : Bool) : Option Dev :=
  let left := d.actLeft a
  if n ≤ left then some (d.charge a n)
  else if d.panics a panic && decide (n ≤ left + d.actLeft 18 + d.actLeft 17 + d.actLeft 16) then
    some ((d.charge a left).borrow (n - left))
  else none

/-- A request (R248): a Bounded activity is never stopped, its overrun is counted and logged once per round; a Bulk
request is served or waits for the next round. Answers whether it was served. -/
def Dev.request (d : Dev) (a n : Nat) (panic : Bool) : Dev × Bool :=
  if boundedAct a then
    let d := d.charge a n
    if (d.reg (R.FMN_ALLOC a)).toNat < mgetD d.fmn.used a 0 && !d.fmn.overrun then
      (((({ d with fmn := { d.fmn with overrun := true } }).setBit R.FMN_STATUS 3 true).inc64 R.FMN_CNT_OVERRUN 1).logFault 0x0E02 .n, true)
    else (d, true)
  else match d.tryServe a n panic with
    | some d => (d, true)
    | none => ({ d with fmn := { d.fmn with waiting := d.fmn.waiting ++ [(a, n)], starved := if d.fmn.starved.contains a then d.fmn.starved else a :: d.fmn.starved } }, false)

/-- Pending allocations take effect (R254). -/
def Dev.applyAlloc (d : Dev) : Dev :=
  let d := d.fmn.pend.foldl (fun d p => d.setReg (R.FMN_ALLOC p.1) (BitVec.ofNat 32 p.2)) d
  let d := d.setReg R.ASY_BG_SLICE (d.reg (R.FMN_ALLOC 2))
  ({ d with fmn := { d.fmn with pend := [], approved := false } }).setBit R.FMN_STATUS 1 false

/-- The use of the round just ended is reported (Table 12-5). -/
def Dev.closeRound (d : Dev) : Dev :=
  (List.range 24).foldl (fun d a =>
    let u := satN 0xFFFFFFFF (mgetD d.fmn.used a 0)
    let d := d.setReg (R.FMN_USED a) (BitVec.ofNat 32 u)
    let d := if (d.reg (R.FMN_PEAK a)).toNat < u then d.setReg (R.FMN_PEAK a) (BitVec.ofNat 32 u) else d
    if (0 < u ∧ (d.reg (R.FMN_ALLOC a)).toNat ≤ u + mgetD d.fmn.lent a 0) ∨ d.fmn.starved.contains a then d.incSat (R.FMN_CNT_SPENT a) 31 0 1 else d) d

/-- Requests that waited are served in order, lower activities first within one round (R248, R249). -/
def Dev.serveWaiting (d : Dev) : Dev :=
  let l := d.fmn.waiting
  l.foldl (fun d p => (d.request p.1 p.2 false).1) { d with fmn := { d.fmn with waiting := [] } }

/-- A core's background count restarts and its ROUND event is raised (R217, R223). -/
def Dev.roundCore (d : Dev) (k : Nat) : Dev :=
  let d := d.setReg (R.ASY_BG_USED k) 0
  let d := d.onCore k (fun c => { c with bgHeld := false, evPend := if c.started && !c.removed then c.evPend ||| 4 else c.evPend })
  d.coreReport k

/-- ROUND_BOUNDARY (R246): the round that holds the present tick begins. -/
def execRoundBoundary (t : Nat) (s : State) : Out :=
  s.atTick t (fun d =>
    let n := d.now / 16384
    if n ≤ d.reg64 R.FMN_ROUND then d
    else
      let d := d.closeRound
      let d := (d.setReg64 R.FMN_ROUND n).setBit R.FMN_STATUS 5 false
      let d := { d with fmn := { d.fmn with used := [], lent := [], starved := [], overrun := false } }
      let d := if d.fmn.approved then d.applyAlloc else d
      let d := (List.range 16).foldl (fun d k => d.roundCore k) d
      d.cnyRound.serveWaiting)

/-- FOREMAN_PARITY_ERROR (R256). -/
def execForemanParityError (t : Nat) (s : State) : Out := s.atTick t (fun d => d.raise 0x0E05 .h)

end Sys2Proof.Machine
end

