-- ==== Sys2Proof/Machine/Assay.lean ====
section
/-! DEFINITION. The assay cores' commands (chapter 10): sets and events, the instructions, removal, debug. -/
namespace Sys2Proof.Machine

/-! Sets (R203, R204). -/

/-- Insert a set in hand-off order. -/
def insertSet (p : Nat × CandSet) : List (Nat × CandSet) → List (Nat × CandSet)
  | [] => [p]
  | q :: r => if p.2.order < q.2.order then p :: q :: r else q :: insertSet p r

/-- The sets in the candidate buffer, oldest first, with their places. -/
def Dev.waitingSets (d : Dev) : List (Nat × CandSet) := d.hst.cbuf.foldl (fun l p => insertSet p l) []

/-- A set no core will take: its cell's record has been composed and no core holds its batch (log entry 23). -/
def Dev.setDead (d : Dev) (x : CandSet) : Bool :=
  (d.coreOf x.uid).isNone && (match d.cellOf x.uid with | some c => c.recorded && !c.heldClosed | none => true)

/-- The words of ring entry r (Table 10-2): the set, the batch word and the time. -/
def Dev.ringBytes (d : Dev) (x : CandSet) (b : Batch) : List Byte :=
  x.bytes ++ List.replicate (672 - x.bytes.length) 0#8
  ++ leBytes 4 (b.copied % 512 + 512 * ((b.total - 1) % 512) + 2 ^ 18 * b2n (b.copied == 0) + 2 ^ 19 * b2n (b.copied + 1 == b.total))
  ++ leBytes 4 (d.time % 2 ^ 32) ++ List.replicate 344 0#8

/-- A set of place `n` is copied into the ring of core `k` (R204). -/
def State.copySet (s : State) (k n : Nat) (x : CandSet) (b : Batch) : State :=
  let d := s.dev
  let c := d.core k
  let r := (c.ringRd + c.ringCount) % 8
  let wait := satN 65535 ((Nat.max b.assignedAt c.ringFreedAt - x.at_) / 2)
  let mem := memSetBytes s.sram (coreV k + 4 * (0x3800 + 256 * r)) (d.ringBytes x b)
  let d := { d with hst := { d.hst with cbuf := mdel d.hst.cbuf n }
                    asy := { d.asy with dispWait := Nat.max wait d.asy.dispWait } }
  let d := d.onCore k (fun c => { c with
    ringCount := c.ringCount + 1, evPend := c.evPend ||| 2
    batches := c.batches.map (fun q => if q == b then { q with copied := q.copied + 1 } else q) })
  { s with dev := (d.inc64 (R.ASY_CNT_SET k) 1).coreReport k, sram := mem }

/-- The oldest waiting set of core `k` is copied, when an entry of its ring is free; sets waiting for a core are
dispatched first (R203, R204). -/
def State.setCopy (s : State) (k : Nat) : State :=
  let d := s.dev
  let dead := d.waitingSets.filter (fun p => d.setDead p.2)
  let d := dead.foldl (fun d p => { d with hst := { d.hst with cbuf := mdel d.hst.cbuf p.1 } }) d
  let d := (d.waitingSets.foldl (fun d p => d.dispatch p.2) d).retireCells
  let s := { s with dev := d }
  if 8 ≤ (d.core k).ringCount || (d.core k).removed then s
  else match d.waitingSets.find? (fun p => d.coreOf p.2.uid == some k) with
    | none => s
    | some (n, x) => match (d.core k).batches.find? (fun b => b.uid == x.uid) with
      | none => s
      | some b => s.copySet k n x b

/-- SET_COPY (R204). -/
def execSetCopy (t core : Nat) (s : State) : Out := s.atTickMem t (fun s => s.setCopy core)

/-! Events (R217 to R219). -/

/-- Core `k` takes event `e`, when it is the first one enabled and pending and the core can take it (R218). -/
def Dev.takeEvent (d : Dev) (k e : Nat) : Dev :=
  let c := d.core k
  if c.eligible && c.nextEvent == some e then
    let d := if c.waiting then d.setBusy k true else d
    (d.onCore k (fun c => c.take e false)).coreReport k
  else d

/-- BATCH (R218). -/
def execBatch (t core : Nat) (s : State) : Out := s.atTick t (fun d => d.takeEvent core 1)
/-- CANARY (R218). -/
def execCanary (t core : Nat) (s : State) : Out := s.atTick t (fun d => d.takeEvent core 0)
/-- ROUND (R218). -/
def execRound (t core : Nat) (s : State) : Out := s.atTick t (fun d => d.takeEvent core 2)

/-- BATCH_TIME_LIMIT (R205): each batch isOver the limit is reported once. -/
def execBatchTimeLimit (t core : Nat) (s : State) : Out :=
  s.atTick t (fun d =>
    let limit := d.fld R.ASY_BATCH_LIMIT 15 0
    let isOver := fun (b : Batch) => !b.late && (match b.lastAt with | some x => decide (limit < (d.now - x) / 2) | none => false)
    let hit := (d.core core).batches.any isOver
    let d := d.onCore core (fun c => { c with batches := c.batches.map (fun b => if isOver b then { b with late := true } else b) })
    if hit then (d.setBit (R.ASY_STATUS core) 18 true).coreFault core 0x0C05 .h else d)

/-- DIVISION_RESULT (R211): the division in flight is written once 7 instructions have followed it, or when nothing
more issues meanwhile. -/
def execDivisionResult (t core : Nat) (s : State) : Out :=
  s.atTick t (fun d => d.onCore core (fun c => match c.div with
    | some v => if v.left = 0 || c.waiting || !c.running || c.committing.isSome then { c.land v with div := none } else c
    | none => c))

/-- LOOP_COUNT_END (R216). -/
def execLoopCountEnd (t core : Nat) (s : State) : Out := s.atTick t (fun d => d.onCore core Core.settleLoops)

/-- BACKGROUND_SLICE_EXHAUSTED (R223). -/
def execBackgroundSliceExhausted (t core : Nat) (s : State) : Out :=
  s.atTick t (fun d =>
    if (d.core core).fg.flags.testBit 4 && d.sliceSpent core && (d.core core).started then
      (d.onCore core (fun c => { c with bgHeld := true })).coreReport core
    else d)

/-! The instructions (R207 to R219, Tables 10-8 to 10-12). -/

/-- An instruction command: the core issues it at tick `t` when its D holds it. -/
def State.issueAt (s : State) (t : Nat) (e : IssueEnv) (op : AsyOp) : Out := s.atTickMem t (fun s => s.issue e op false)

/-- NOP. -/
def execNop (t core : Nat) (s : State) : Out := s.issueAt t { core := core } .nop
/-- MPY. -/
def execMpy (t core errU errV stall : Nat) (s : State) : Out := s.issueAt t { core := core, errU := errU, errV := errV, stall := stall } .mpy
/-- MAC. -/
def execMac (t core errU errV stall : Nat) (s : State) : Out := s.issueAt t { core := core, errU := errU, errV := errV, stall := stall } .mac
/-- MSU. -/
def execMsu (t core errU errV stall : Nat) (s : State) : Out := s.issueAt t { core := core, errU := errU, errV := errV, stall := stall } .msu
/-- DMPY. -/
def execDmpy (t core errU errV stall : Nat) (s : State) : Out := s.issueAt t { core := core, errU := errU, errV := errV, stall := stall } .dmpy
/-- DMAC. -/
def execDmac (t core errU errV stall : Nat) (s : State) : Out := s.issueAt t { core := core, errU := errU, errV := errV, stall := stall } .dmac
/-- DMSU. -/
def execDmsu (t core errU errV stall : Nat) (s : State) : Out := s.issueAt t { core := core, errU := errU, errV := errV, stall := stall } .dmsu
/-- PLD. -/
def execPld (t core errU errV stall : Nat) (s : State) : Out := s.issueAt t { core := core, errU := errU, errV := errV, stall := stall } .pld
/-- ADD. -/
def execAdd (t core : Nat) (s : State) : Out := s.issueAt t { core := core } .add
/-- SUB. -/
def execSub (t core : Nat) (s : State) : Out := s.issueAt t { core := core } .sub
/-- CMP. -/
def execCmp (t core : Nat) (s : State) : Out := s.issueAt t { core := core } .cmp
/-- AND. -/
def execAnd (t core : Nat) (s : State) : Out := s.issueAt t { core := core } .and
/-- OR. -/
def execOr (t core : Nat) (s : State) : Out := s.issueAt t { core := core } .or
/-- XOR. -/
def execXor (t core : Nat) (s : State) : Out := s.issueAt t { core := core } .xor
/-- ANDN. -/
def execAndn (t core : Nat) (s : State) : Out := s.issueAt t { core := core } .andn
/-- SHL. -/
def execShl (t core : Nat) (s : State) : Out := s.issueAt t { core := core } .shl
/-- SHR. -/
def execShr (t core : Nat) (s : State) : Out := s.issueAt t { core := core } .shr
/-- SRA. -/
def execSra (t core : Nat) (s : State) : Out := s.issueAt t { core := core } .sra
/-- MIN. -/
def execMin (t core : Nat) (s : State) : Out := s.issueAt t { core := core } .min
/-- MAX. -/
def execMax (t core : Nat) (s : State) : Out := s.issueAt t { core := core } .max
/-- ABS. -/
def execAbs (t core : Nat) (s : State) : Out := s.issueAt t { core := core } .abs
/-- NEG. -/
def execNeg (t core : Nat) (s : State) : Out := s.issueAt t { core := core } .neg
/-- EXT. -/
def execExt (t core : Nat) (s : State) : Out := s.issueAt t { core := core } .ext
/-- INS. -/
def execIns (t core : Nat) (s : State) : Out := s.issueAt t { core := core } .ins
/-- MUL. -/
def execMul (t core : Nat) (s : State) : Out := s.issueAt t { core := core } .mul
/-- NORM. -/
def execNorm (t core : Nat) (s : State) : Out := s.issueAt t { core := core } .norm
/-- DIV. -/
def execDiv (t core : Nat) (s : State) : Out := s.issueAt t { core := core } .div
/-- DIVU. -/
def execDivu (t core : Nat) (s : State) : Out := s.issueAt t { core := core } .divu
/-- CLRA. -/
def execClra (t core : Nat) (s : State) : Out := s.issueAt t { core := core } .clra
/-- ADDA. -/
def execAdda (t core : Nat) (s : State) : Out := s.issueAt t { core := core } .adda
/-- SUBA. -/
def execSuba (t core : Nat) (s : State) : Out := s.issueAt t { core := core } .suba
/-- MOVA. -/
def execMova (t core : Nat) (s : State) : Out := s.issueAt t { core := core } .mova
/-- SHA. -/
def execSha (t core : Nat) (s : State) : Out := s.issueAt t { core := core } .sha
/-- ADDAA. -/
def execAddaa (t core : Nat) (s : State) : Out := s.issueAt t { core := core } .addaa
/-- RNDA. -/
def execRnda (t core : Nat) (s : State) : Out := s.issueAt t { core := core } .rnda
/-- LDI. -/
def execLdi (t core : Nat) (s : State) : Out := s.issueAt t { core := core } .ldi
/-- LDIH. -/
def execLdih (t core : Nat) (s : State) : Out := s.issueAt t { core := core } .ldih
/-- ADDI. -/
def execAddi (t core : Nat) (s : State) : Out := s.issueAt t { core := core } .addi
/-- CMPI. -/
def execCmpi (t core : Nat) (s : State) : Out := s.issueAt t { core := core } .cmpi
/-- LDU. -/
def execLdu (t core errU errV stall : Nat) (s : State) : Out := s.issueAt t { core := core, errU := errU, errV := errV, stall := stall } .ldu
/-- LDV. -/
def execLdv (t core errU errV stall : Nat) (s : State) : Out := s.issueAt t { core := core, errU := errU, errV := errV, stall := stall } .ldv
/-- STU. -/
def execStu (t core errU errV stall : Nat) (s : State) : Out := s.issueAt t { core := core, errU := errU, errV := errV, stall := stall } .stu
/-- STV. -/
def execStv (t core errU errV stall : Nat) (s : State) : Out := s.issueAt t { core := core, errU := errU, errV := errV, stall := stall } .stv
/-- SETP. -/
def execSetp (t core : Nat) (s : State) : Out := s.issueAt t { core := core } .setp
/-- BR. -/
def execBr (t core : Nat) (s : State) : Out := s.issueAt t { core := core } .br
/-- CALL. -/
def execCall (t core : Nat) (s : State) : Out := s.issueAt t { core := core } .call
/-- JR. -/
def execJr (t core : Nat) (s : State) : Out := s.issueAt t { core := core } .jr
/-- DO. -/
def execDoLoop (t core : Nat) (s : State) : Out := s.issueAt t { core := core } .doLoop
/-- RETE. -/
def execRete (t core : Nat) (s : State) : Out := s.issueAt t { core := core } .rete
/-- MOVS. -/
def execMovs (t core : Nat) (s : State) : Out := s.issueAt t { core := core } .movs
/-- WAIT. -/
def execWait (t core : Nat) (s : State) : Out := s.issueAt t { core := core } .wait

/-! Illegal words (R202, R222). -/

/-- The instruction in D is illegal: the word, or its place (R222). -/
def State.illegalAt (s : State) (k : Nat) : Bool :=
  match decodeAsy (s.coreWord k) with
  | none => true
  | some op => ((s.dev.core k).settleLoops).badPlace op

/-- Core `k` is removed for an illegal instruction in D. -/
def State.illegal (s : State) (k : Nat) (step : Bool) : State :=
  if s.dev.canIssue k step && !s.fetchPoisoned k && s.illegalAt k then s.onDev (fun d => d.removeCore k 0x0C01) else s

/-- ILLEGAL_INSTRUCTION (R222). -/
def execIllegalInstruction (t core : Nat) (s : State) : Out := s.atTickMem t (fun s => s.illegal core false)

/-- POISONED_FETCH (R202): `errBytes` bytes of the fetched I word's W288 word are in error. -/
def execPoisonedFetch (t core errBytes : Nat) (s : State) : Out :=
  s.atTickMem t (fun s =>
    if !s.dev.canIssue core false then s
    else
      let s := s.noteErr ((coreI core + 4 * (s.dev.core core).pc) / 32 * 32) errBytes
      if s.fetchPoisoned core then s.onDev (fun d => d.removeCore core 0x0C02) else s)

/-! Debug (R227). -/

/-- The core halts: what is in flight completes first. -/
def Dev.haltCore (d : Dev) (k : Nat) : Dev :=
  let d := d.setBusy k false
  (d.onCore k (fun c =>
    let c := c.drain
    let c := match c.div with | some v => { c.land v with div := none } | none => c
    ({ c with halted := true }).settleFlags)).coreReport k

/-- The core resumes. -/
def Dev.resumeCore (d : Dev) (k : Nat) : Dev :=
  let d := d.onCore k (fun c => { c with halted := false })
  let c := d.core k
  (if c.running && !c.waiting then d.setBusy k true else d).coreReport k

/-- In RANGING a core halts only with dispatch 0 and no batch (R227). -/
def Dev.mayHalt (d : Dev) (k : Nat) : Bool := !d.ranging || (!d.rbit (R.ASY_CTRL k) 0 && (d.core k).batches.isEmpty)

/-- The cores that remain when core `k` no longer takes cells (R227). -/
def Dev.coresWithout (d : Dev) (k : Nat) : Nat := d.dispatchCores - b2n (d.rbit (R.ASY_CTRL k) 0 && !(d.core k).removed)

/-- The dispatch field of a write of ASY_CTRLk, judged under the admission rule (R227). -/
def Dev.dispatchWrite (d : Dev) (m : List Host.Cell) (k : Nat) (on : Bool) : Dev × Bool :=
  if on || !d.rbit (R.ASY_CTRL k) 0 || !d.ranging || (d.admission m (d.coresWithout k)).code = 0 then
    (d.setBit (R.ASY_CTRL k) 0 on, true)
  else (d.setBit (R.ASY_STATUS k) 17 true, false)

/-- The halt field of a write of ASY_CTRLk (R227). -/
def Dev.haltWrite (d : Dev) (k : Nat) (on : Bool) : Dev :=
  if on == d.rbit (R.ASY_CTRL k) 1 && on == (d.core k).halted then d
  else if !on then (d.setBit (R.ASY_CTRL k) 1 false).resumeCore k
  else if d.mayHalt k then (d.setBit (R.ASY_CTRL k) 1 true).haltCore k
  else d.setBit (R.ASY_STATUS k) 17 true

/-- What a write of ASY_CTRLk does, its step bit apart: dispatch is judged first (R227, Table 10-20). -/
def Dev.asyCtrl (d : Dev) (m : List Host.Cell) (k : Nat) (w : Word) : Dev :=
  let (d, ok) := d.dispatchWrite m k (bit w 0)
  let d := d.setBit (R.ASY_CTRL k) 3 (bit w 3)
  if ok || !bit w 1 then d.haltWrite k (bit w 1) else d

/-- One instruction of a halted core, whatever it is (R227). -/
def State.stepCore (s : State) (e : IssueEnv) : State :=
  if !(s.dev.core e.core).halted then s
  else if s.fetchPoisoned e.core then s.onDev (fun d => d.removeCore e.core 0x0C02)
  else match decodeAsy (s.coreWord e.core) with
    | none => s.illegal e.core true
    | some op => if s.illegalAt e.core then s.illegal e.core true else s.issue e op true

/-- A management write of ASY_CTRLk by `src`; `e` is what the outside gives the stepped instruction. -/
def State.asyCtrlWrite (s : State) (src : Nat) (e : IssueEnv) (w : Word) : State :=
  let wasHalted := (s.dev.core e.core).halted
  let ok := s.dev.alive && s.dev.top.state != .headframe
  let s := s.onDev (fun d => d.regWrite src (R.ASY_CTRL e.core) w (fun d => d.asyCtrl s.sram e.core w))
  if ok && bit w 2 && wasHalted then s.stepCore e else s

/-- ASY_HALT (R227): a write of ASY_CTRLk that carries a halt value. -/
def execAsyHalt (src t core : Nat) (value : Word) (s : State) : Out := s.atTickMem t (fun s => s.asyCtrlWrite src { core := core } value)

/-- ASY_DISPATCH_WRITE (R227). -/
def execAsyDispatchWrite (src t core : Nat) (value : Word) (s : State) : Out := s.atTickMem t (fun s => s.asyCtrlWrite src { core := core } value)

/-- ASY_STEP (R227): a write of ASY_CTRLk with step = 1 and its other fields as they stand. -/
def execAsyStep (src t core errU errV stall : Nat) (s : State) : Out :=
  s.atTickMem t (fun s => s.asyCtrlWrite src { core := core, errU := errU, errV := errV, stall := stall } (s.dev.reg (R.ASY_CTRL core) ||| 4#32))

/-- BREAKPOINT_HIT (R227): the core halts before the instruction at ASY_BKPTk enters D. -/
def execBreakpointHit (t core : Nat) (s : State) : Out :=
  s.atTick t (fun d =>
    if d.rbit (R.ASY_CTRL core) 3 && (d.core core).running && (d.core core).pc == d.fld (R.ASY_BKPT core) 13 0 && d.mayHalt core then
      d.haltCore core
    else d)

/-- Word `n` of a register window: the foreground or the shadow set (Table 10-19). -/
def Core.winWord (c : Core) (sh : Bool) (n : Nat) : Word :=
  let r := if sh then c.sh else c.fg
  let nat := fun (v : Nat) => (BitVec.ofNat 32 v : Word)
  if n < 16 then r.g.getD n 0
  else if n = 16 then r.a0.setWidth 32
  else if n = 17 then BitVec.ofInt 32 (r.a0.toInt / 2 ^ 32)
  else if n = 18 then r.a1.setWidth 32
  else if n = 19 then BitVec.ofInt 32 (r.a1.toInt / 2 ^ 32)
  else if n < 28 then nat (r.p.getD (n - 20) 0)
  else if n = 28 then nat ((if sh then r.flags % 16 else r.flags) + 256 * c.sticky)
  else if n = 29 then nat r.lr
  else if n = 30 then nat ((r.loops.head?.map (·.count)).getD 0)
  else nat c.epc

/-- A write of word `n` of a register window of a halted core (R227). -/
def Core.winPut (c : Core) (sh : Bool) (n : Nat) (w : Word) : Core :=
  let on := fun (h : RegSet → RegSet) => if sh then { c with sh := h c.sh } else { c with fg := h c.fg }
  let v := w.toNat
  if n < 16 then on (fun r => { r with g := r.g.set n w })
  else if n < 18 then on (fun r => { r with a0 := Issue.accPart r.a0 (n == 17) w })
  else if n < 20 then on (fun r => { r with a1 := Issue.accPart r.a1 (n == 19) w })
  else if n < 28 then on (fun r => { r with p := r.p.set (n - 20) (v % 2 ^ 20) })
  else if n = 28 then
    let m := if sh then 16 else 32
    { on (fun r => { r with flags := v % m }) with sticky := c.sticky &&& (63 - bits w 13 8) }
  else if n = 29 then on (fun r => { r with lr := v % 2 ^ 14 })
  else if n = 30 then on (fun r => match r.loops with | [] => r | l :: t => { r with loops := { l with count := v % 65536 } :: t })
  else { c with epc := v % 2 ^ 14 }

/-- The page of core `k`'s paged window that requester `src` has selected. -/
def Dev.asyPage (d : Dev) (src k : Nat) : Nat := mgetD (d.req src).pages (R.ASY_PAGE k) 0

/-- The memory address behind word offset `off` of the paged window, none on pages 6 and 7. -/
def Dev.asyPageAddr (d : Dev) (src k off : Nat) : Option Nat :=
  let p := d.asyPage src k
  let base := match p / 2 with | 0 => coreI k | 1 => coreU k | _ => coreV k
  if p < 6 then some (base + 32768 * (p % 2) + (off - 0x8000)) else none

/-- A management read of an on-chip word: corrected or poisoned under R20; the word and the access status. -/
def State.winRead (s : State) (a err : Nat) : State × Word × Nat :=
  let s := s.noteErr (a / 32 * 32) err
  if s.sramPoison.contains (a / 32 * 32) then (s, 0, 5)
  else if 4 ≤ err then ({ s with dev := s.dev.drew }, s.dev.fresh 32, 0)
  else (s, BitVec.ofNat 32 (memLe s.sram a 4), 0)

/-- A read of core `k`'s register or paged window at offset `off` (R227). -/
def State.asyWinRead (s : State) (src k off err : Nat) : State × Word × Nat :=
  if off < 0x8000 then
    if (s.dev.core k).running then (s.onDev (fun d => d.setBit (R.ASY_STATUS k) 15 true), 0, 0)
    else (s, (s.dev.core k).winWord (decide (0x180 ≤ off)) (off % 128 / 4), 0)
  else match s.dev.asyPageAddr src k off with
    | none => (s, 0, 0)
    | some a => s.winRead a err

/-- What a write of the window does (R227). -/
def State.asyWinPut (s : State) (src k off : Nat) (w : Word) : State :=
  if off < 0x8000 then
    if (s.dev.core k).running then s else s.onDev (fun d => (d.onCore k (fun c => c.winPut (decide (0x180 ≤ off)) (off % 128 / 4) w)).coreReport k)
  else match s.dev.asyPageAddr src k off with
    | none => s
    | some a =>
      if s.dev.asyPage src k < 2 && (s.dev.core k).running then s.onDev (fun d => d.setBit (R.ASY_STATUS k) 16 true)
      else { s with sram := memSetBytes s.sram a (leBytes 4 w.toNat) }

/-- A write of the window is ignored by its target. -/
def Dev.asyWinIgnored (d : Dev) (src k off : Nat) : Bool :=
  (d.core k).running && (decide (off < 0x8000) || decide (d.asyPage src k < 2)) || (decide (0x8000 ≤ off) && (d.asyPageAddr src k off).isNone)

/-- A journaled write of the window by `src` (R414, R43). -/
def State.asyWinWrite (s : State) (src k off : Nat) (w : Word) : State :=
  let addr := 0x100000 + 0x10000 * k + off
  let (_, old, _) := s.asyWinRead src k off 0
  let refused := s.dev.top.state == .headframe
  let s := s.onDev (fun d => (d.incSat (R.MGT_CNT_WR src) 31 0 1).journal src addr old w (refused || d.asyWinIgnored src k off) (decide (0x8000 ≤ off)))
  if refused then s.onDev (fun d => d.respond src 2) else (s.asyWinPut src k off w).onDev (fun d => d.respond src 0)

/-- A requester's read of the windows of core `k`: the paged window is charged to activity 21 (R227, Table 20-4). -/
def State.asyWinAnswer (s : State) (src k off err : Nat) : State :=
  if 0x8000 ≤ off ∧ s.dev.reg (R.FMN_ALLOC 21) = 0 then s.onDev (fun d => d.budgetRead src 21 id)
  else
    let (s, v, st) := s.asyWinRead src k off err
    s.onDev (fun d => ((d.incSat (R.MGT_CNT_RD src) 31 0 1).onReq src (fun r => { r with lastData := [v] })).respond src st)

/-- ASY_REGISTER_WINDOW_ACCESS (R227): a read, or with `write` set a write, of offset `off` of core `core`'s windows. -/
def execAsyRegisterWindowAccess (src t core off : Nat) (write : Bool) (value : Word) (errBytes : Nat) (s : State) : Out :=
  s.atTickMem t (fun s =>
    if write then s.asyWinWrite src core off value
    else s.asyWinAnswer src core off errBytes)

end Sys2Proof.Machine
end

