-- ==== Sys2Proof/Machine/FltOps.lean ====
section
/-! DEFINITION. Filter channels as the other blocks feed them (R286, R287, R291): decimators and synchronising resets. -/
namespace Sys2Proof.Machine

/-- Filter channel `n`. -/
def Dev.flt (d : Dev) (n : Nat) : FltCh := mgetD d.flts n {}
/-- Change channel `n`. -/
def Dev.onFlt (d : Dev) (n : Nat) (f : FltCh → FltCh) : Dev := { d with flts := mput d.flts n (f (d.flt n)) }

/-- CIC ratio R of channel `n` (R286). -/
def Dev.fltRatio (d : Dev) (n : Nat) : Nat := if n < 8 then 10 else d.fld (R.FLT_CFG n) 19 12 + 1
/-- CIC order of channel `n`. -/
def Dev.fltOrder (d : Dev) (n : Nat) : Nat := d.fld (R.FLT_CFG n) 11 9 + 1
/-- Taps of bank `b`. -/
def Dev.fltTaps (d : Dev) (n b : Nat) : Nat := (if b = 0 then d.fld (R.FLT_BANK n) 7 1 else d.fld (R.FLT_BANK n) 15 9) + 1

/-- k = ⌈order × log2 R⌉ (R287). -/
def cicShift (order r : Nat) : Nat := ((List.range 41).find? (fun k => decide (r ^ order ≤ 2 ^ k))).getD 40

/-- The CIC delay and, for `fir` sixteenths of a FIR sample, the whole delay of a sense channel are reported (R288). A
whole delay that FLT_GD_TICKSn cannot hold, or of an undefined FIR delay, is not stated and free (log entry 28). -/
def Dev.fltDelay (d : Dev) (n fir : Nat) : Dev :=
  let c := d.fltOrder n * (d.fltRatio n - 1)
  let d := (d.setFld (R.FLT_GD n) 15 0 fir).setFld (R.FLT_GD n) 31 16 c
  if n < 8 then
    let t := 80 + 80 * c + 100 * fir
    if fir = 0xFFFF ∨ 65536 ≤ t then (d.setFld (R.FLT_GD_TICKS n) 15 0 (d.fresh 16).toNat).drew else d.setFld (R.FLT_GD_TICKS n) 15 0 t
  else d

/-- A synchronising reset of channel `n` is asked for (R291). -/
def Dev.fltReset (d : Dev) (n : Nat) : Dev := d.onFlt n (fun q => { q with resetPend := true })

/-- The reset takes effect: state and history clear and the settle count starts; the event level stays (R291, R292). The
gain is reported to 1/128, its rounding not stated (log entry 28). -/
def Dev.fltClear (d : Dev) (n : Nat) : Dev :=
  let o := d.fltOrder n
  let l := o + Nat.max (d.fltTaps n 0) (d.fltTaps n 1) - 1
  let r := d.fltRatio n
  let num := 128 * r ^ o
  let den := 2 ^ cicShift o r
  let g := if num % den ≠ 0 ∧ Config.roundUp num den then num / den + 1 else num / den
  let d := ((d.setFld (R.FLT_CH_STATUS n) 8 0 l).setFld (R.FLT_CH_STATUS n) 31 24 g).onFlt n (fun q => { q with
    integ := List.replicate o 0, comb := List.replicate o 0, nIn := 0, ready := [], hist := []
    resetPend := false, left := l, valid := false, outCnt := 0, inCnt := 0 })
  d.fltDelay n (d.fld (R.FLT_GD n) 15 0)

/-- The integrators after one input, and their last output. -/
def integrate : Int → List Int → List Int × Int
  | x, [] => ([], x)
  | x, i :: r => let (r', y) := integrate (i + x) r; ((i + x) :: r', y)

/-- The combs after one decimated value, and their output. -/
def combine : Int → List Int → List Int × Int
  | x, [] => ([], x)
  | x, c :: r => let (r', y) := combine (x - c) r; (x :: r', y)

/-- One input sample of channel `n` (R287). -/
def Dev.fltFeed (d : Dev) (n : Nat) (x : Int) : Dev :=
  if !d.rbit (R.FLT_CFG n) 0 || d.isRemoved (.filter n) then d
  else
    let d := if (d.flt n).resetPend || (d.flt n).integ.isEmpty then d.fltClear n else d
    let r := d.fltRatio n
    let k := cicShift (d.fltOrder n) r
    let now := d.now
    d.onFlt n (fun q =>
      let (i, v) := integrate x q.integ
      if q.nIn + 1 < r then { q with integ := i, nIn := q.nIn + 1 }
      else
        let (c, s) := combine v q.comb
        { q with integ := i, comb := c, nIn := 0, ready := q.ready ++ [((2 * s + (2 ^ k : Nat)) / (2 ^ (k + 1) : Nat), now)] })

/-- A sample of source `src` reaches every channel of 8 to 15 that takes it (Table 14-3). -/
def Dev.fltSource (d : Dev) (src : Nat) (x : Int) : Dev :=
  (List.range 8).foldl (fun d i => if d.fld (R.FLT_CFG (8 + i)) 5 1 = src then d.fltFeed (8 + i) x else d) d

/-- A result of entry `e` of converter `u` reaches the channels that take it (R286). -/
def Dev.fltConverter (d : Dev) (u e : Nat) (x : Int) : Dev :=
  (List.range 8).foldl (fun d i =>
    if d.fld (R.FLT_CFG (8 + i)) 5 1 = u ∧ d.fld (R.FLT_CFG (8 + i)) 8 6 = e then d.fltFeed (8 + i) x else d) d

end Sys2Proof.Machine
end

