-- ==== Sys2Proof/Machine/Steering.lean ====
section
/-! DEFINITION. The steering ports' commands (chapter 6). -/
namespace Sys2Proof.Machine

/-- The position code of two demodulated amplitudes: (a − b) / (a + b) × 32,767, rounded to the nearest (halves away
from zero, log entry 16) and saturated (R111). -/
def positionCode (a b : Int) : Int :=
  let s := a + b
  if s = 0 then 0
  else
    let num := (a - b) * 32767
    let q := (2 * num.natAbs + s.natAbs) / (2 * s.natAbs)
    clampI (-32767) 32767 (if (0 ≤ num) = (0 ≤ s) then (q : Int) else -(q : Int))

/-- Settling of a commanded axis: |position − target| ≤ settle_tol for settle_n consecutive samples (R118). -/
def Dev.settleSample (d : Dev) (p : Nat) : Dev :=
  let q := d.port p
  if !q.settling then d
  else
    let ok := decide ((q.pos - q.target).natAbs ≤ d.fld (R.STR_TOL p) 31 16)
    let n := if ok then q.settleCnt + 1 else 0
    let done := decide (d.fld (R.STR_SETTLE p) 7 0 ≤ n) && ok
    let d := d.onPort p (fun q => { q with settleCnt := n, settling := !done })
    if done then d.setBit (R.STR_STATUS p) 1 true else d

/-- POSITION_SAMPLE (R111, R112, R114): amplitudes `a`, `b` of one sample. In mode 0 the loop's phase and amplitude
errors are the analogue loop's: `unitDone` says a period has ended and `unitOk` that both were in tolerance; in mode 1
every sample is a unit, compared with the reference (the target code). -/
def Dev.positionSample (d : Dev) (p : Nat) (a b : Int) (unitDone unitOk : Bool) : Dev :=
  let x := positionCode a b
  let q := d.port p
  let v := x - q.pos
  let bad := decide (a + b < d.fld (R.STR_SNS_LIM p) 15 0) || decide ((d.fld (R.STR_SNS_LIM p) 31 16 : Int) < a + b)
  let n := if bad then q.sumBad + 1 else 0
  let d := d.onPort p (fun q => { q with pos := x, vel := v, tick := d.now, sumBad := n })
  let d := (d.setFld (R.STR_POS p) 15 0 (unsigned 16 x)).setFld (R.STR_POS p) 31 16 (unsigned 16 v)
  let d := d.setBit (R.STR_STATUS p) 4 bad
  let d := if n = 4 && !d.isRemoved (.steering p) then d.removePort p 0x0704 false else d
  let mode := d.strMode p
  let d := if mode = 0 then (if unitDone then d.lockUnit p unitOk else d)
    else if mode = 1 then
      let err := x - (d.port p).target
      (d.setFld (R.STR_ERR p) 15 0 (unsigned 16 err)).lockUnit p (decide (err.natAbs ≤ d.fld (R.STR_TOL p) 15 0))
    else d
  -- the loop's drive code is the analogue loop's, a free value while it runs (R110; log entry 5)
  let d := if d.strRuns p && !(d.port p).loopHeld then (d.setFld (R.STR_DRV p) 15 0 (d.fresh 16).toNat).drew else d
  ((d.settleSample p).fltSource (0x08 + p) x).fltSource (0x0C + p) v |>.fltSource (0x10 + p) (a + b)

/-- POSITION_SAMPLE (R111). -/
def execPositionSample (t port : Nat) (a b : Int) (unitDone unitOk : Bool) (s : State) : Out :=
  s.atTick t (fun d => if port < 4 then d.positionSample port a b unitDone unitOk else d)

/-- RELOCK_TIMEOUT (R119): locked has stayed 0 for relock ms after a loss of lock. -/
def execRelockTimeout (t port : Nat) (s : State) : Out :=
  s.atTick t (fun d => match (d.port port).lostAt with
    | some x => if x + 1600000 * d.fld (R.STR_CTRL port) 15 8 ≤ d.now && d.strRuns port && !d.rbit (R.STR_STATUS port) 0 then
        (d.removePort port 0x0702 false).onPort port (fun q => { q with lostAt := none }) else d
    | none => d)

/-- What STR_CMDp does (R119, Table 06-4). -/
def Dev.strCmd (d : Dev) (p : Nat) (w : Word) : Dev :=
  let a := R.STR_CMD p
  if bits w 7 0 != 1 then d.setReg a (cmdWord w 0xFF 2 4)
  else if !d.inState [.armed, .ranging] then d.setReg a (cmdWord w 0xFF 2 1)
  else if !d.isRemoved (.steering p) then d.setReg a (cmdWord w 0xFF 2 3)
  else if !d.faultCleared (d.port p).cause then d.setReg a (cmdWord w 0xFF 2 2)
  else
    let d := (d.setReg a (cmdWord w 0xFF 1 0)).reinstateUnit (.steering p)
    (d.setBit (R.STR_STATUS p) 2 false).onPort p (fun q => { q with cause := 0, inTol := 0, outTol := 0, lostAt := none, sumBad := 0 })

/-- STR_REINSTATE (R119). -/
def execStrReinstate (src t port : Nat) (s : State) : Out :=
  s.atTick t (fun d => d.cmdWrite src (R.STR_CMD port) 1#32 (fun d => d.strCmd port 1#32))

/-- POLYGON_INDEX (R117): the revolution period is the interval of the last two index edges; each revolution is one
unit of the speed lock, |speed error| ≤ tol / 65,536 of the setpoint STR_FREQp (1/16 Hz). -/
def execPolygonIndex (t port : Nat) (s : State) : Out :=
  s.atTick t (fun d =>
    let q := d.port port
    let p := d.now - q.lastIdx
    let d := d.onPort port (fun q => { q with period := if q.idxSeen = 0 then 0 else p, lastIdx := d.now, idxSeen := q.idxSeen + 1 })
    if q.idxSeen = 0 ∨ d.strMode port != 2 then d
    else
      -- speed = 1.6e9 / p Hz against f / 16 Hz: |25.6e9 − f p| × 65,536 ≤ tol × f × p
      let f := d.fld (R.STR_FREQ port) 23 0
      let e := ((25600000000 : Int) - f * p).natAbs
      let d := if f * p = 0 then d else d.setFld (R.STR_ERR port) 15 0 (satN 32767 (e * 65536 / (f * p)))
      d.lockUnit port (decide (e * 65536 ≤ d.fld (R.STR_TOL port) 15 0 * (f * p)) && f != 0))

/-- INDEX_TIMEOUT (R117): no index edge within 1.5 P of the last, so locked falls at once. -/
def execIndexTimeout (t port : Nat) (s : State) : Out :=
  s.atTick t (fun d =>
    let q := d.port port
    if d.strMode port = 2 && q.period != 0 && decide (2 * q.lastIdx + 3 * q.period ≤ 2 * d.now) then d.setLocked port false else d)

/-- The stall interlock of port `p` follows the level of its filter channel's event (R120). -/
def Dev.stallLevel (d : Dev) (p : Nat) (on : Bool) : Dev :=
  let was := d.rbit (R.STR_STATUS p) 3
  let d := (d.setBit (R.STR_STATUS p) 3 on).setInhibit (4 + p) on
  let d := if on && !was then d.logFault 0x0703 .n else d
  if d.rbit (R.STR_CTRL p) 3 then
    let d := d.onPort p (fun q => { q with loopHeld := on })
    if on then d.park p else d
  else d

/-- A write of STR_CTRLp (R116): mode changes only outside RANGING; in RANGING a write that changes mode leaves mode
and sets cfg_rej; the other fields take effect at once. A port that stops, or enters mode 3, parks and is out of lock.
run rising resets the port's sense channels (R291). -/
def Dev.strCtrlWrite (d : Dev) (p : Nat) (v : Word) : Dev :=
  let a := R.STR_CTRL p
  let v := clampWrite a v &&& 0xFFFFFF7F#32
  let change := bits v 2 1 != d.strMode p
  let refuse := change && d.ranging
  let v := if refuse then setBits v 2 1 (d.strMode p) else v
  let starts := !d.rbit a 0 && bit v 0
  let d := d.setReg a v
  let d := if refuse then d.setBit (R.STR_STATUS p) 5 true else d
  let d := if starts || (change && !refuse) then d.onPort p (fun q => { q with inTol := 0, outTol := 0, lostAt := none }) else d
  let d := if change && !refuse then (d.setLocked p false).onPort p (fun q => { q with target := signed 16 (d.fld (R.STR_SETPOINT p) 15 0) }) else d
  let d := if starts then (d.fltReset (2 * p)).fltReset (2 * p + 1) else d
  let d := d.stallLevel p (d.flt (bits v 31 28)).level
  if d.strRuns p then d else (d.setLocked p false).onPort p (fun q => { q with lostAt := none }) |>.park p

/-- A write of STR_SETPOINTp: in mode 1 it is the target code (Table 06-2). -/
def Dev.strSetpointWrite (d : Dev) (p : Nat) (v : Word) : Dev :=
  let d := d.storeReg (R.STR_SETPOINT p) v
  if d.strMode p = 1 then d.onPort p (fun q => { q with target := signed 16 v.toNat }) else d

/-- STR_MODE_WRITE (R116). -/
def execStrModeWrite (src t port : Nat) (value : Word) (s : State) : Out :=
  s.atTick t (fun d => d.regWrite src (R.STR_CTRL port) value (fun d => d.strCtrlWrite port value))

end Sys2Proof.Machine
end

