-- ==== Sys2Proof/Machine/Waveform.lean ====
section
/-! DEFINITION. Waveform taps (chapter 13): configuration, triggers, records, rings. Samples are what the outside gives. -/
namespace Sys2Proof.Machine

/-! Configuration (R271, R275). -/

/-- A write of WAV_TAP_LENt or of the held fields of WAV_TAP_CFGt: pending to the record boundary, which is now unless
a record is in capture; a write that changes nothing starts no re-arm. -/
def Dev.tapHold (d : Dev) (t a : Nat) (v : Word) : Dev :=
  let d := d.onTap t (fun q => { q with cfgPend := if d.tapMerged a v = d.reg a then mdel q.cfgPend a else mput q.cfgPend a v })
  if (d.tap t).st == .capturing then d else d.tapApply t

/-- What a write of WAV_TAP_CFGt does (R261, R271, Table 13-9). -/
def Dev.tapCfgWrite (d : Dev) (t : Nat) (v : Word) : Dev :=
  let a := R.WAV_TAP_CFG t
  let v := if bits v 11 9 = 7 then setBits v 11 9 6 else v
  let d := ((d.setBit a 14 (bit v 14)).setBit a 15 (bit v 15)).tapHold t a v
  let d := d.setBit a 0 (bit v 0)
  if bit v 0 then d.tapUp t else d.tapIdle t

/-- WAV_TAP_CFG_WRITE (R271). -/
def execWavTapCfgWrite (src t tap : Nat) (value : Word) (s : State) : Out :=
  s.atTick t (fun d => d.regWrite src (R.WAV_TAP_CFG tap) value (fun d => d.tapCfgWrite tap value))

/-! Triggers (R265, R266). -/

/-- The level source's view: settings and state. -/
structure LevelRun where
  recent : List Nat
  primed : Bool
  /-- fine times of the raises found -/
  raised : List Nat

/-- One sample of the level source (R266). Filtered values are kept as sums of 2^f samples, so they are exact. -/
def levelStep (f level hyst : Nat) (falling : Bool) (r : LevelRun) (k s : Nat) : LevelRun :=
  let n := 2 ^ f
  let rec' := (s :: r.recent).take 9
  if rec'.length < n then { r with recent := rec' }
  else
    let b : Int := ((rec'.take n).sum : Nat)
    let a : Int := (((rec'.drop 1).take n).sum : Nat)
    let l : Int := (level * n : Nat)
    let h : Int := (hyst * n : Nat)
    let hit := if falling then decide (b ≤ l) else decide (l ≤ b)
    if r.primed && hit then
      let x := if falling then 16 * (a - l) / (a - b) else 16 * (l - a) / (b - a)
      { recent := rec', primed := false, raised := r.raised ++ [((16 * (k - 1) : Nat) + x - (8 * (n - 1) : Nat)).toNat] }
    else
      { r with recent := rec', primed := r.primed || (if falling then decide (l + h < b) else decide (b < l - h)) }

/-- Feed samples to the level source, the last one being sample `k`. -/
def levelFeed (f level hyst : Nat) (falling : Bool) (k : Nat) : LevelRun → List Nat → LevelRun
  | r, [] => r
  | r, s :: l => levelFeed f level hyst falling k (levelStep f level hyst falling r (k - l.length) (s % 256)) l

/-- LEVEL_TRIGGER (R266): `samples` are the tap's samples since those last given, sample `k` last. -/
def execLevelTrigger (t tap k : Nat) (samples : List Nat) (s : State) : Out :=
  s.atTick t (fun d =>
    let q := d.tap tap
    if q.st == .idle then d
    else
      let trig := d.reg (R.WAV_TAP_TRIG tap)
      let r := levelFeed (d.fld (R.WAV_TAP_CFG tap) 13 12) (d.fld (R.WAV_TAP_LEVEL tap) 7 0) (bits trig 15 8) (bit trig 5) k
        { recent := q.recent, primed := q.primed, raised := [] } samples
      let d := d.onTap tap (fun q => { q with recent := r.recent, primed := r.primed })
      r.raised.foldl (fun d x => d.trigger tap { source := 1, tick := x / 32, fine := x % 32 }) d)

/-- TRIG_IN_EDGE (R265): the edge's tick and fine value reach every tap. -/
def execTrigInEdge (t tick fine : Nat) (s : State) : Out :=
  s.atTick t (fun d => (List.range 8).foldl (fun d n => d.trigger n { source := 3, tick := tick, fine := fine }) d)

/-! The ring (R272, R274, R275). -/

/-- Length of the tap's ring in bytes. -/
def Dev.ringLen (d : Dev) (t : Nat) : Nat := 4096 * Nat.max 1 (d.fld (R.WAV_RING_LEN t) 18 0)
/-- Bytes from RD to WR. -/
def Dev.ringUsed (d : Dev) (t : Nat) : Nat :=
  let l := d.ringLen t
  ((d.reg (R.WAV_RING_WR t)).toNat + l - (d.reg (R.WAV_RING_RD t)).toNat % l) % l
/-- The ring's free space. -/
def Dev.ringFree (d : Dev) (t : Nat) : Nat := d.ringLen t - d.ringUsed t - 32

/-- Put bytes into a ring of `len` bytes at `base`, from offset `off`, wrapping at its end. -/
def State.ringPut (s : State) (base len off : Nat) (bytes : List Byte) : State :=
  ((pieces 32 (bytes.length / 32) bytes).foldl (fun (p : State × Nat) l => (p.1.dramPutWord ((base + p.2) / 32) l false, (p.2 + 32) % len)) (s, off % len)).1

/-- Append a record to tap `t`'s ring: WAV_RING_WR advances past it (R272). -/
def State.ringAppend (s : State) (t : Nat) (bytes : List Byte) : State :=
  let d := s.dev
  let wr := (d.reg (R.WAV_RING_WR t)).toNat
  let l := d.ringLen t
  let s := s.ringPut ((d.reg (R.WAV_RING_BASE t)).toNat * 4096) l wr bytes
  s.onDev (fun d => (d.setReg (R.WAV_RING_WR t) (BitVec.ofNat 32 ((wr + bytes.length) % l))).onTap t (fun q => { q with ring := q.ring ++ [(wr, bytes.length)] }))

/-- The tap's next sequence number is taken. -/
def Dev.wavSeq (d : Dev) (t : Nat) : Dev × Nat :=
  let n := (d.reg (R.WAV_SEQ t)).toNat
  (d.setReg (R.WAV_SEQ t) (BitVec.ofNat 32 (n + 1)), n)

/-- A gap record (Table 13-5). -/
def gapBytes (tap reason devId seq count frame time : Nat) : List Byte :=
  leBytes 1 2 ++ leBytes 1 tap ++ leBytes 1 reason ++ leBytes 1 devId ++ leBytes 4 seq ++ leBytes 4 (satN 0xFFFFFFFF count)
    ++ leBytes 4 frame ++ leBytes 8 time ++ leBytes 8 0

/-- Write the pending gap counts of tap `t` while `room` bytes hold them (R274). -/
def State.writeGaps (s : State) (t room : Nat) : State :=
  ((s.dev.tap t).gaps.foldl (fun (p : State × Nat) g =>
    if p.2 < 32 then p
    else
      let (d, n) := p.1.dev.wavSeq t
      let d := d.onTap t (fun q => { q with gaps := mdel q.gaps g.1 })
      (({ p.1 with dev := d }).ringAppend t (gapBytes t g.1 d.devId n g.2.1 g.2.2.1 g.2.2.2), p.2 - 32)) (s, room)).1

/-- WAV_GAP_RECORD (R274): at a round boundary with nothing in capture or in writing. -/
def execWavGapRecord (t tap : Nat) (s : State) : Out :=
  s.atTickMem t (fun s =>
    let q := s.dev.tap tap
    if q.cap.isSome || q.writing.isSome || !s.dev.hoistServing || q.st == .idle then s else s.writeGaps tap (s.dev.ringFree tap))

/-! Records (R267 to R273). -/

/-- Stored bytes of `n` samples at decimation `d`. -/
def storedBytes (d n : Nat) : Nat := if d = 0 then n else 2 * (n / 2 ^ d)
/-- A record's length: header, data, padding to 32 bytes. -/
def recordBytes (d n : Nat) : Nat := 64 + cdiv (storedBytes d n) 32 * 32

/-- The record that tap `t` starts for the joined triggers (R262, R263, R267, R269). -/
def Dev.newRecord (d : Dev) (t k : Nat) (joined : List Trig) : WavRec :=
  let cfg := d.reg (R.WAV_TAP_CFG t)
  let pre := 64 * d.fld (R.WAV_TAP_LEN t) 7 0
  let dec := bits cfg 11 9
  let have' := Nat.min pre (k - (d.tap t).refill)
  let first := joined.foldl (fun (b : Trig) x => if x.source < b.source then x else b) (joined.headD {})
  let shot := ([0, 2].filterMap (fun i => joined.find? (fun x => x.source == i))).head?
  { sources := ((List.range 5).filter (fun i => joined.any (fun x => x.source == i))).foldl (fun m i => m + 2 ^ i) 0
    tick := first.tick, fine := first.fine, k := k, preValid := have' / 2 ^ dec * 2 ^ dec, preShort := decide (have' < pre)
    post := 64 * (d.fld (R.WAV_TAP_LEN t) 21 8 + 1), resid := d.fld R.CLK_SYNC_RESID 4 0, frame := (d.reg R.SEQ_FRAME).toNat
    shot := match shot with | some x => x.shot | none => 0xFFFFFFFF
    cell := match shot with | some x => x.cell | none => 0xFFFFFF
    chRemoved := d.chRemoved (d.tapChannel t), cfg := cfg }

/-- A trigger that the record or the re-arm after it meets (R264). -/
def Dev.lateTrigger (d : Dev) (t : Nat) (x : Trig) : Dev :=
  match (d.tap t).cap with
  | some r =>
    if trigSample x.tick x.fine < r.k + r.post then d.onTap t (fun q => { q with cap := q.cap.map (fun r => { r with extra := satN 255 (r.extra + 1) }) })
    else (d.inc64 (R.WAV_CNT_IGN t) 1).wavGap t 1
  | none => (d.inc64 (R.WAV_CNT_IGN t) 1).wavGap t 1

/-- The tap decides its trigger and starts a record, or drops it on a full ring (R267, R272). -/
def State.triggerDecision (s : State) (t : Nat) : State :=
  let d := s.dev
  let q := d.tap t
  match q.trigs with
  | [] => s
  | x0 :: rest =>
    let k := rest.foldl (fun k x => Nat.min k (trigSample x.tick x.fine)) (trigSample x0.tick x0.fine)
    if q.st != .armed || 2 * d.now < k + 256 then s
    else
      let joined := q.trigs.filter (fun x => trigSample x.tick x.fine == k)
      let later := q.trigs.filter (fun x => trigSample x.tick x.fine != k)
      let r := d.newRecord t k joined
      let need := recordBytes (bits r.cfg 11 9) (r.preValid + r.post)
      if d.ringFree t < need then
        let d := (d.inc64 (R.WAV_CNT_DROP t) 1).onceFault (R.WAV_TAP_STATUS t) 5 0x0F02
        let d := (d.wavGap t 2).tapRearm t
        { s with dev := later.foldl (fun d x => d.lateTrigger t x) d }
      else
        let s := s.writeGaps t (d.ringFree t - need)
        let d := s.dev.onTap t (fun q => { q with st := .capturing, trigs := [], cap := some r })
        { s with dev := later.foldl (fun d x => d.lateTrigger t x) d }

/-- TRIGGER_DECISION (R267). -/
def execTriggerDecision (t tap : Nat) (s : State) : Out := s.atTickMem t (fun s => s.triggerDecision tap)

/-- The record in capture ends with `post` samples kept (R262, R271, R273). -/
def Dev.endCapture (d : Dev) (t post : Nat) (truncated : Bool) (samples : List Nat) : Dev :=
  match (d.tap t).cap with
  | none => d
  | some r =>
    let keep := (List.range (r.preValid + post)).map (fun i => samples.getD i 0 % 256)
    let r := { r with postValid := post, truncated := truncated, samples := keep, chRemoved := r.chRemoved || d.chRemoved (d.tapChannel t) }
    (d.onTap t (fun q => { q with st := .rearm, cap := none, writing := some r, refill := r.k + post })).tapApply t

/-- CAPTURE_END (R269): the last post-trigger sample has been taken; `samples` are the record's samples. -/
def execCaptureEnd (t tap : Nat) (samples : List Nat) (s : State) : Out :=
  s.atTick t (fun d => match (d.tap tap).cap with
    | some r => if r.k + r.post ≤ 2 * d.now + 2 then d.endCapture tap r.post false samples else d
    | none => d)

/-- WRITE_BUFFER_FULL (R273): sample `full` finds the buffer full. -/
def execWriteBufferFull (t tap full : Nat) (samples : List Nat) (s : State) : Out :=
  s.atTick t (fun d => match (d.tap tap).cap with
    | some r =>
      if full < r.k ∨ r.k + r.post ≤ full then d
      else
        let g := 2 ^ bits r.cfg 11 9
        let d := (d.incSat (R.WAV_CNT_TRUNC tap) 31 0 1).onceFault (R.WAV_TAP_STATUS tap) 4 0x0F01
        d.endCapture tap ((full - r.k) / g * g) true samples
    | none => d)

/-- Groups of samples as minimum and maximum (R269). -/
def decimate (n : Nat) : Nat → List Nat → List Nat
  | 0, _ => []
  | k + 1, l => let g := l.take n; g.foldl Nat.min 255 :: g.foldl Nat.max 0 :: decimate n k (l.drop n)

/-- The record's data bytes. -/
def WavRec.data (r : WavRec) : List Nat :=
  let d := bits r.cfg 11 9
  if d = 0 then r.samples else decimate (2 ^ d) (r.samples.length / 2 ^ d) r.samples

/-! Measurements (R270). -/

/-- Crossings of q tenths of the peak in direction `rising`: index of the sample before, and fine position. -/
def crossings (peak q : Int) (rising : Bool) (v : List Int) : List (Nat × Nat) :=
  (List.range (v.length - 1)).filterMap (fun i =>
    let a := 10 * v.getD i 0
    let b := 10 * v.getD (i + 1) 0
    let l := q * peak
    if rising && decide (a < l ∧ l ≤ b) then some (i, ((16 * i : Nat) + 16 * (l - a) / (b - a)).toNat)
    else if !rising && decide (l ≤ a ∧ b < l) then some (i, ((16 * i : Nat) + 16 * (a - l) / (a - b)).toNat)
    else none)

/-- A time between two crossings, none when one lies outside the gate. -/
def span (a b : Option (Nat × Nat)) : Option Nat := match a, b with | some x, some y => some (y.2 - x.2) | _, _ => none

/-- rise, width and period of the gate's values (R270). -/
def measures (v : List Int) (peak : Int) (at_ : Nat) : Option Nat × Option Nat × Option Nat :=
  if peak ≤ 0 then (none, none, none)
  else
    let up := fun q => crossings peak q true v
    let down := crossings peak 5 false v
    let lastBefore := fun (l : List (Nat × Nat)) => (l.filter (fun x => decide (x.1 < at_))).getLast?
    let firstAfter := fun (l : List (Nat × Nat)) (x : Option (Nat × Nat)) => x.bind (fun x => l.find? (fun y => decide (x.1 ≤ y.1 ∧ x.2 ≤ y.2)))
    let r10 := lastBefore (up 1)
    let r50 := lastBefore (up 5)
    let p1 := (up 5).head?
    let f1 := firstAfter down p1
    (span r10 (firstAfter (up 9) r10), span r50 (firstAfter down r50), span p1 (firstAfter (up 5) f1))

/-- A time field: 0xFFFF when the measure is absent. A time above 65,535 fine steps is not stated and free (log entry
28). -/
def timeField (free : Nat) : Option Nat → Nat
  | none => 0xFFFF
  | some v => if v < 65536 then v else free

/-- The bytes of a record (Table 13-4). `free` stands for values the spec does not state. -/
def WavRec.bytes (r : WavRec) (tap channel devId seq meas free : Nat) : List Byte :=
  let d := bits r.cfg 11 9
  let base := bits r.cfg 21 16
  let gate := (((r.samples.drop r.preValid).take meas).map (fun (s : Nat) => (s : Int) - base))
  let peak := gate.foldl (fun (m : Int) x => if m < x then x else m) (gate.headD 0)
  let at_ := (gate.takeWhile (fun x => decide (x < peak))).length
  let (rise, width, period) := measures gate peak at_
  let clipped := r.samples.any (fun s => s == 0 || s == 255)
  let stored := storedBytes d r.samples.length
  let flags := b2n r.preShort + 2 * b2n r.truncated + 4 * b2n clipped + 8 * b2n r.chRemoved
  leBytes 1 1 ++ leBytes 1 tap ++ leBytes 1 channel ++ leBytes 1 (bits r.cfg 8 7 + 4 * d) ++ leBytes 1 r.sources ++ leBytes 1 flags ++ leBytes 1 r.extra ++ leBytes 1 devId
    ++ leBytes 4 seq ++ leBytes 4 (recordBytes d r.samples.length) ++ leBytes 8 r.tick ++ leBytes 1 r.fine ++ leBytes 1 (unsigned 8 (signed 5 r.resid)) ++ leBytes 2 r.preValid ++ leBytes 4 r.postValid
    ++ leBytes 4 r.shot ++ leBytes 4 r.frame ++ leBytes 3 r.cell ++ leBytes 1 base
    ++ (if gate.isEmpty then leBytes 4 free else leBytes 2 (unsigned 16 peak) ++ leBytes 2 at_) ++ leBytes 4 (unsigned 32 gate.sum)
    ++ leBytes 2 (timeField free rise) ++ leBytes 2 (timeField free width) ++ leBytes 2 (timeField free period) ++ leBytes 6 0
    ++ r.data.map (fun (s : Nat) => BitVec.ofNat 8 s) ++ List.replicate (cdiv stored 32 * 32 - stored) 0#8

/-- RECORD_WRITTEN (R262, R272): the header is written; `preEnd` is the first sample after the record's last pre-trigger
sample had been written. -/
def execRecordWritten (t tap preEnd : Nat) (s : State) : Out :=
  s.atTickMem t (fun s =>
    match (s.dev.tap tap).writing with
    | none => s
    | some r =>
      let (d, n) := (s.dev.wavSeq tap)
      let bytes := r.bytes tap (64 * (tap / 2) + bits r.cfg 6 1) d.devId n (d.fld (R.WAV_TAP_LEVEL tap) 31 16) (d.fresh 32).toNat
      let d := (d.drew.inc64 (R.WAV_CNT_REC tap) 1).onTap tap (fun q => { q with
        writing := none, rearmEnd := Nat.max q.rearmEnd (2 * d.now + 64), refill := Nat.max q.refill (Nat.min preEnd (2 * d.now)) })
      ({ s with dev := d }).ringAppend tap bytes)

/-- REARM_END (R262). -/
def execRearmEnd (t tap : Nat) (s : State) : Out :=
  s.atTick t (fun d =>
    let q := d.tap tap
    if q.st == .rearm && q.writing.isNone && decide (q.rearmEnd ≤ 2 * d.now) then d.onTap tap (fun q => { q with st := .armed, trigs := [] }) else d)

/-! Flush, geometry, stream 10 (R275, R276). -/

/-- Pending geometry of tap `t` starts, both offsets at 0 (R275). -/
def Dev.ringRestart (d : Dev) (t : Nat) : Dev :=
  let d := (d.tap t).ringPend.foldl (fun d p => d.setReg p.1 p.2) d
  ((d.setReg (R.WAV_RING_WR t) 0).setReg (R.WAV_RING_RD t) 0).onTap t (fun q => { q with ringPend := [], ring := [] })

/-- What an accepted write of WAV_CMD does (Table 13-8). -/
def Dev.wavCmd (d : Dev) (w : Word) : Dev :=
  let t := bits w 14 12
  let put := fun st r => d.setReg R.WAV_CMD (cmdWord w 0x70FF st r)
  if bits w 7 0 != 1 then put 2 3
  else if (d.tap t).st == .idle then put 2 1
  else if (d.tap t).flushing then put 2 2
  else (put 3 0).onTap t (fun q => { q with flushing := true })

/-- WAV_FLUSH (R275). -/
def execWavFlush (src t tap : Nat) (s : State) : Out :=
  let w : Word := BitVec.ofNat 32 (1 + 4096 * (tap % 8))
  s.atTick t (fun d => d.cmdWrite src R.WAV_CMD w (fun d => d.wavCmd w))

/-- FLUSH_EXECUTE (R275): with no record in capture or in writing, the ring is discarded and the gap record written. -/
def execFlushExecute (t tap : Nat) (s : State) : Out :=
  s.atTickMem t (fun s =>
    let q := s.dev.tap tap
    if !q.flushing || q.cap.isSome || q.writing.isSome then s
    else
      let d := (s.dev.ringRestart tap).onTap tap (fun q => { q with flushing := false })
      let d := if d.fld R.WAV_CMD 9 8 == 3 && d.fld R.WAV_CMD 14 12 == tap then d.setFld R.WAV_CMD 9 8 1 else d
      let (d, n) := d.wavSeq tap
      ({ s with dev := d }).ringAppend tap (gapBytes tap 3 d.devId n q.ring.length (d.reg R.SEQ_FRAME).toNat d.time))

/-- RING_DRAIN_APPLY (R275). -/
def execRingDrainApply (t tap : Nat) (s : State) : Out :=
  s.atTick t (fun d =>
    let q := d.tap tap
    if q.ringPend.isEmpty || q.cap.isSome || q.writing.isSome || d.ringUsed tap != 0 then d else d.ringRestart tap)

/-- The read offset of tap `t` moves: records before it are gone (R272). -/
def Dev.ringMove (d : Dev) (t rd : Nat) : Dev :=
  let d := d.setReg (R.WAV_RING_RD t) (BitVec.ofNat 32 rd)
  let l := d.ringLen t
  d.onTap t (fun q => { q with ring := q.ring.filter (fun p => decide ((p.1 + l - rd % l) % l < d.ringUsed t)) })

/-- What a host's write of WAV_RING_RDt does: ignored when stream = 1 (R276). -/
def Dev.ringRdWrite (d : Dev) (t : Nat) (v : Word) : Dev :=
  if d.rbit (R.WAV_TAP_CFG t) 15 then d else d.ringMove t (v.toNat / 32 * 32)

/-- The oldest record of tap `t`'s ring goes to stream 10; poisoned words become zeros (R276). `errWords` are words of
the record that read poisoned in addition. -/
def State.streamRead (s : State) (t : Nat) (errWords : List Nat) : State :=
  let d := s.dev
  match (d.tap t).ring with
  | [] => s
  | (off, len) :: _ =>
    if !d.rbit (R.WAV_TAP_CFG t) 15 || !d.hoistServing then s
    else
      let l := d.ringLen t
      let base := (d.reg (R.WAV_RING_BASE t)).toNat * 4096
      let addr := fun i => base + (off + 32 * i) % l
      let bad := (List.range (len / 32)).filter (fun i => errWords.contains i || d.wordPoison (addr i / 32))
      let bytes := (List.range (len / 32)).flatMap (fun i => if bad.contains i then List.replicate 32 0#8 else dramBytes s.dram (addr i) 32)
      let bytes := if bad.isEmpty || len ≤ 32 then bytes else bytes.set 5 (bytes.getD 5 0#8 ||| 0x10#8)
      let d := if bad.isEmpty then d else d.logFault 0x0F03 .n
      { s with dev := (d.bulk 10 5 bytes).ringMove t ((off + len) % l) }

/-- STREAM_RECORD_READ (R276). -/
def execStreamRecordRead (t tap : Nat) (errWords : List Nat) (s : State) : Out := s.atTickMem t (fun s => s.streamRead tap errWords)

/-- TAP_PARITY_ERROR (R277): the tap is IDLE until reset. -/
def execTapParityError (t tap : Nat) (s : State) : Out :=
  s.atTick t (fun d => ((d.raiseD 0x0F04 (.tap tap)).onTap tap (fun q => { q with dead := true })).tapIdle tap)

end Sys2Proof.Machine
end

