-- ==== Sys2Proof/Machine/Filters.lean ====
section
/-! DEFINITION. Filter channels and housekeeping converters (chapter 14). -/
namespace Sys2Proof.Machine

/-! Filter outputs (R287, R289, R292, R293). -/

/-- Address of tap `j` of bank `b` of channel `n`. -/
def coefAddr (n b j : Nat) : Nat := 0x231000 + 0x400 * n + 0x200 * b + 4 * j
/-- Coefficient h_j. -/
def Dev.coef (d : Dev) (n b j : Nat) : Int := signed 18 (d.reg (coefAddr n b j)).toNat

/-- The FIR of bank `b` over the history (R287): the output and whether it saturated. -/
def Dev.fir (d : Dev) (n b : Nat) : Int × Bool :=
  let h := (d.flt n).hist
  let s := ((List.range (d.fltTaps n b)).map (fun j => d.coef n b j * h.getD j 0)).sum
  let y := (s + 32768) / 65536
  let z := clampI (-8388608) 8388607 y
  (z, z != y)

/-- Bank `b` is linear-phase. -/
def Dev.fltLinear (d : Dev) (n b : Nat) : Bool := !(d.rbit (R.FLT_BANK n) (if b = 0 then 8 else 16))

/-- The coefficients of bank `b` are symmetric. -/
def Dev.fltSymmetric (d : Dev) (n b : Nat) : Bool :=
  let t := d.fltTaps n b
  (List.range t).all (fun j => d.coef n b j == d.coef n b (t - 1 - j))

/-- The FIR delay of bank `b` in sixteenths of a sample (R288). A quotient outside the field is free (log entry 28). -/
def Dev.firDelay (d : Dev) (n b : Nat) : Nat :=
  let t := d.fltTaps n b
  if d.fltLinear n b then 8 * (t - 1)
  else
    let s := ((List.range t).map (fun j => d.coef n b j)).sum
    let m := ((List.range t).map (fun (j : Nat) => (j : Int) * d.coef n b j)).sum
    if s = 0 then 0xFFFF
    else
      let num := if s < 0 then -(16 * m) else 16 * m
      let q := (2 * num + s.natAbs) / (2 * s.natAbs)
      if 0 ≤ q ∧ q < 0xFFFF then q.toNat else (d.fresh 16).toNat

/-- The active bank. -/
def Dev.fltActive (d : Dev) (n : Nat) : Nat := d.fld (R.FLT_BANK n) 0 0

/-- Bank `b` becomes the one the delay registers report. -/
def Dev.fltActivate (d : Dev) (n : Nat) : Dev := (d.fltDelay n (d.firDelay n (d.fltActive n))).drew

/-- FLT_OUTn shows the channel (Table 14-6). -/
def Dev.fltShow (d : Dev) (n : Nat) : Dev :=
  let q := d.flt n
  d.setReg (R.FLT_OUT n) (BitVec.ofNat 32 (unsigned 24 q.y + 2 ^ 24 * b2n q.valid + 2 ^ 25 * b2n q.level + 2 ^ 26 * b2n q.fade.isSome))

/-- The event level of channel `n` reaches the steering ports that name it (R120, R293). -/
def Dev.fltLevel (d : Dev) (n : Nat) (on : Bool) : Dev :=
  let d := d.onFlt n (fun q => { q with level := on })
  (List.range 4).foldl (fun d p => if d.fld (R.STR_CTRL p) 31 28 = n then d.stallLevel p on else d) d

/-- The level rises: counted, and logged with fault_en (R293). -/
def Dev.fltRise (d : Dev) (n : Nat) : Dev :=
  let d := d.incSat (R.FLT_CH_STATUS n) 23 16 1
  let d := if d.rbit (R.FLT_THR_CFG n) 26 then d.logFault 0x1003 .n else d
  d.fltLevel n true

/-- The threshold event takes one valid output (R293). -/
def Dev.fltEvent (d : Dev) (n : Nat) (y : Int) : Dev :=
  let cfg := d.reg (R.FLT_THR_CFG n)
  let hi := bit cfg 24
  let lo := bit cfg 25
  let u := signed 24 (d.reg (R.FLT_THR_HI n)).toNat
  let l := signed 24 (d.reg (R.FLT_THR_LO n)).toNat
  let h : Int := (bits cfg 15 0 : Nat)
  let out := (hi && decide (u < y)) || (lo && decide (y < l))
  let ins := (!hi || decide (y ≤ u - h)) && (!lo || decide (l + h ≤ y))
  let q := d.flt n
  let o := if out then q.outCnt + 1 else 0
  let i := if !out && ins then q.inCnt + 1 else 0
  let n' := bits cfg 23 16
  let d := d.onFlt n (fun q => { q with outCnt := o, inCnt := i })
  if !hi && !lo then (if q.level then d.fltLevel n false else d)
  else if !q.level && out && decide (n' ≤ o) then d.fltRise n
  else if q.level && !out && ins && decide (n' ≤ i) then d.fltLevel n false
  else d

/-- The fade is over; a pending swap executes at the next output boundary (R289). -/
def Dev.fadeEnd (d : Dev) (n : Nat) : Dev :=
  match (d.flt n).fade with
  | none => d
  | some (f, i) =>
    if i < f then d
    else
      let pend := (d.flt n).swapPend
      let d := d.onFlt n (fun q => { q with fade := none, swapNow := q.swapNow || q.swapPend, swapPend := false })
      if pend && d.fld R.FLT_CMD 9 8 == 3 && d.fld R.FLT_CMD 27 24 == n then d.setFld R.FLT_CMD 9 8 1 else d

/-- An accepted swap takes effect at an output boundary (R289). -/
def Dev.swapDue (d : Dev) (n : Nat) : Dev :=
  if !(d.flt n).swapNow then d
  else
    let f := d.fld (R.FLT_BANK n) 24 17
    ((d.setFld (R.FLT_BANK n) 0 0 (1 - d.fltActive n)).fltActivate n).onFlt n (fun q => { q with swapNow := false, fade := if f = 0 then none else some (f, 0) })

/-- The FIR takes one CIC output and the channel outputs (R287, R289, R291). -/
def Dev.fltOutput (d : Dev) (n : Nat) : Dev :=
  match (d.flt n).ready with
  | [] => d
  | (x, at_) :: rest =>
    let q := d.flt n
    let early := match q.lastOut with | some t => decide (at_ < t + 1600) | none => false
    let d := d.onFlt n (fun q => { q with ready := rest })
    if early then d.onceFault R.FLT_STATUS 3 0x1002
    else
      let d := (d.onFlt n (fun q => { q with lastOut := some at_, hist := (x :: q.hist).take 128 })).fadeEnd n |>.swapDue n
      let a := d.fltActive n
      let (yn, satN') := d.fir n a
      let (y, sat) := match (d.flt n).fade with
        | none => (yn, satN')
        | some (f, i) =>
          let (yo, so) := d.fir n (1 - a)
          let num := ((f - i : Nat) : Int) * yo + ((i + 1 : Nat) : Int) * yn
          ((2 * num + ((f + 1 : Nat) : Int)) / ((2 * (f + 1) : Nat) : Int), satN' || so)
      let ok := decide ((d.flt n).left = 0)
      let d := d.onFlt n (fun q => { q with y := y, valid := ok, left := q.left - 1, fade := q.fade.map (fun p => (p.1, p.2 + 1)) })
      let d := if sat then d.setBit (R.FLT_CH_STATUS n) 10 true else d
      (if ok then d.fltEvent n y else d).fltShow n

/-- FILTER_OUTPUT (R287): `inputs` are sense samples with the reference sine at each, for channels 0 to 7 (R286). -/
def execFilterOutput (t ch : Nat) (inputs : List (Int × Int)) (s : State) : Out :=
  s.atTick t (fun d =>
    if 16 ≤ ch then d
    else
      let gone := d.isRemoved (.converter (ch / 2))
      let d := if ch < 8 then inputs.foldl (fun d p => d.fltFeed ch (if gone then 0 else p.1 * p.2)) d else d
      d.fltOutput ch)

/-- FADE_END (R289). -/
def execFadeEnd (t ch : Nat) (s : State) : Out := s.atTick t (fun d => (d.fadeEnd ch).fltShow ch)

/-- SYNCHRONISING_RESET (R291). -/
def execSynchronisingReset (t ch : Nat) (s : State) : Out :=
  s.atTick t (fun d => if (d.flt ch).resetPend then (d.fltClear ch).fltShow ch else d)

/-! Commands and writes (R286, R289, R294). -/

/-- FLT_CMD SWAP on channel `n`: status and reason (R289). -/
def Dev.fltSwap (d : Dev) (n : Nat) : Dev × Nat × Nat :=
  let q := d.flt n
  if q.swapPend || q.swapNow then (d.setBit R.FLT_STATUS 1 true, 2, 1)
  else
    let b := 1 - d.fltActive n
    if d.fltLinear n b && !d.fltSymmetric n b then (d, 2, 2)
    else if q.fade.any (fun p => decide (p.2 < p.1)) then (d.onFlt n (fun q => { q with swapPend := true }), 3, 0)
    else (d.onFlt n (fun q => { q with swapNow := true }), 1, 0)

/-- FLT_CMD REINSTATE on channel `n` (R294). -/
def Dev.fltReinstate (d : Dev) (n : Nat) : Dev × Nat × Nat :=
  if !d.isRemoved (.filter n) then (d, 2, 4)
  else if !d.faultCleared 0x1001 then (d, 2, 3)
  else
    let d := ((d.reinstateUnit (.filter n)).setBit R.FLT_STATUS (16 + n) false).setBit (R.FLT_CH_STATUS n) 9 false
    (d.fltReset n, 1, 0)

/-- What an accepted write of FLT_CMD does (Table 14-6). -/
def Dev.fltCmd (d : Dev) (w : Word) : Dev :=
  let n := bits w 27 24
  let (d, st, r) := match bits w 7 0 with
    | 1 => d.fltSwap n
    | 2 => (d.fltReset n, 1, 0)
    | 3 => d.fltReinstate n
    | _ => (d, 2, 5)
  d.setReg R.FLT_CMD (cmdWord w 0x0F0000FF st r)

/-- The word of an FLT_CMD command. -/
def fltWord (op ch : Nat) : Word := BitVec.ofNat 32 (op + 2 ^ 24 * (ch % 16))

/-- SWAP (R289). -/
def execSwap (src t ch : Nat) (s : State) : Out := s.atTick t (fun d => d.cmdWrite src R.FLT_CMD (fltWord 1 ch) (fun d => d.fltCmd (fltWord 1 ch)))
/-- FLT_SYNC (R291). -/
def execFltSync (src t ch : Nat) (s : State) : Out := s.atTick t (fun d => d.cmdWrite src R.FLT_CMD (fltWord 2 ch) (fun d => d.fltCmd (fltWord 2 ch)))
/-- FLT_REINSTATE (R294). -/
def execFltReinstate (src t ch : Nat) (s : State) : Out := s.atTick t (fun d => d.cmdWrite src R.FLT_CMD (fltWord 3 ch) (fun d => d.fltCmd (fltWord 3 ch)))

/-- A write to bank `b` may be applied: else bank_busy during a fade, act_wr on the active bank (R289). -/
def Dev.bankOpen (d : Dev) (n b : Nat) : Dev × Bool :=
  if (d.flt n).fade.isSome then (d.setBit R.FLT_STATUS 0 true, false)
  else if b = d.fltActive n then (d.setBit R.FLT_STATUS 2 true, false)
  else (d, true)

/-- What a write of a coefficient word does (R289). -/
def Dev.coefWrite (d : Dev) (a : Nat) (v : Word) : Dev :=
  let n := (a - 0x231000) / 0x400
  let b := (a - 0x231000) / 0x200 % 2
  let (d, ok) := d.bankOpen n b
  if ok then d.setReg a (BitVec.ofInt 32 (signed 18 v.toNat)) else d

/-- What a write of FLT_BANKn does: fade at once; taps and phase of a bank when they change and the bank is open (R289,
log entry 30). -/
def Dev.bankWrite (d : Dev) (n : Nat) (v : Word) : Dev :=
  let a := R.FLT_BANK n
  let d := d.setFld a 24 17 (bits v 24 17)
  let one := fun (d : Dev) (b lo hi : Nat) =>
    if d.fld a hi lo = bits v hi lo then d
    else let (d, ok) := d.bankOpen n b; if ok then d.setFld a hi lo (bits v hi lo) else d
  one (one d 0 1 8) 1 9 16

/-- A write of FLT_CFGn: src and ratio_m1 are fixed on channels 0 to 7; a write of src, entry, order_m1 or ratio_m1 asks for
a synchronising reset (R286, R291). -/
def Dev.fltCfgWrite (d : Dev) (n : Nat) (v : Word) : Dev :=
  let a := R.FLT_CFG n
  let v := clampWrite a v &&& 0xFFFFF#32
  let v := if n < 8 then (v &&& 0x00000FC1#32) ||| (d.reg a &&& 0x000FF03E#32) else v
  (d.setReg a v).fltReset n

/-- FLT_BANK_WRITE (R289): a write to the coefficient window or to FLT_BANKn. -/
def execFltBankWrite (src t addr : Nat) (value : Word) (s : State) : Out :=
  s.atTick t (fun d =>
    if 0x231000 ≤ addr ∧ addr < 0x235000 then
      let ok := (d.bankOpen ((addr - 0x231000) / 0x400) ((addr - 0x231000) / 0x200 % 2)).2
      if ok || d.top.state == .headframe then d.regWrite src addr value (fun d => d.coefWrite addr value)
      else (d.ignoredWrite src addr value false).coefWrite addr value
    else d.regWrite src addr value (fun d => d.bankWrite ((addr - 0x230104) / 0x20 % 16) value))

/-- FILTER_PARITY_ERROR (R294): the channel is removed and its event level forced to 1. -/
def execFilterParityError (t ch : Nat) (s : State) : Out :=
  s.atTick t (fun d =>
    if 16 ≤ ch then d
    else
      let d := (d.raiseD 0x1001 (.filter ch)).setBit R.FLT_STATUS (16 + ch) true
      let d := (d.setBit (R.FLT_CH_STATUS ch) 9 true).onFlt ch (fun q => { q with valid := false, ready := [] })
      (d.fltLevel ch true).fltShow ch)

/-! Converters (R279 to R285). -/

/-- Converter `u`. -/
def Dev.hka (d : Dev) (u : Nat) : HkaU := mgetD d.hkas u {}
/-- Change converter `u` and report it (Table 14-8). -/
def Dev.onHka (d : Dev) (u : Nat) (f : HkaU → HkaU) : Dev := { d with hkas := mput d.hkas u (f (d.hka u)) }

/-- HKSp is in sense mode (R279). -/
def Dev.senseMode (d : Dev) (u : Nat) : Bool := decide (u < 4) && d.rbit (R.STR_CTRL u) 0 && d.strMode u != 3

/-- HKA_STATUSu (Table 14-8). -/
def Dev.hkaReport (d : Dev) (u : Nat) : Dev :=
  let q := d.hka u
  d.setReg (R.HKA_STATUS u) (BitVec.ofNat 32 (b2n q.run.isSome + 2 * b2n (q.delayEnd.isSome || q.held) + 4 * b2n q.inj.isSome + 8 * b2n q.cal
    + 16 * b2n q.calWait + 32 * b2n (d.senseMode u) + 64 * b2n (d.isRemoved (.converter u)) + 128 * b2n q.passed + 256 * ((q.run.map (·.1)).getD 0)))

/-- The delay of a start has ended: the sequence begins, or waits for a burst or a calibration (R282 to R284). -/
def Dev.hkaBegin (d : Dev) (u : Nat) : Dev :=
  (d.onHka u (fun q =>
    if q.inj.isSome || q.cal || q.calWait then { q with delayEnd := none, held := true }
    else { q with delayEnd := none, held := false, run := some (0, 0) })).hkaReport u

/-- A held start goes on. -/
def Dev.hkaRelease (d : Dev) (u : Nat) : Dev := if (d.hka u).held then d.hkaBegin u else d.hkaReport u

/-- The sensor block owns converter `u` (R300). -/
def Dev.scanned (d : Dev) (u : Nat) : Bool := decide (4 ≤ u) && d.rbit R.SNS_CTRL (u - 4)

/-- A start arrives (R282): whether it was taken. -/
def Dev.hkaStart (d : Dev) (u : Nat) : Dev × Bool :=
  let q := d.hka u
  if !d.rbit (R.HKA_CFG u) 0 || d.scanned u then (d, false)
  else if d.senseMode u || q.run.isSome || q.delayEnd.isSome || q.held then (d.inc64 (R.HKA_CNT_START_DROP u) 1, false)
  else
    let n := d.fld (R.HKA_CFG u) 20 5
    if n = 0 then (d.hkaBegin u, true) else ((d.onHka u (fun q => { q with delayEnd := some (d.now + 16 * n) })).hkaReport u, true)

/-- Every converter whose start source is `x` gets a start (R282). -/
def Dev.hkaSource (d : Dev) (x : Nat) : Dev :=
  (List.range 6).foldl (fun d u => if d.fld (R.HKA_CFG u) 4 1 = x then (d.hkaStart u).1 else d) d

/-- HKA_TIMER_OVERFLOW (R282). -/
def execHkaTimerOverflow (t timer : Nat) (s : State) : Out :=
  s.atTick t (fun d => if d.reg (R.HKA_TIMER timer) = 0 then d else d.hkaSource (timer + 1))

/-- START_DELAY_END (R282). -/
def execStartDelayEnd (t u : Nat) (s : State) : Out :=
  s.atTick t (fun d => match (d.hka u).delayEnd with
    | some x => if x ≤ d.now then d.hkaBegin u else d
    | none => d)

/-- A calibration that waited starts (R284). -/
def Dev.calBegin (d : Dev) (u : Nat) : Dev :=
  if !(d.hka u).calWait then d
  else
    let d := d.onHka u (fun q => { q with calWait := false, cal := true })
    if d.fld R.HKA_CMD 9 8 == 3 && d.fld R.HKA_CMD 12 10 == u then d.setFld R.HKA_CMD 9 8 1 else d

/-- The input code has a meaning for converter `u` (Table 14-2). -/
def inputOk (u code : Nat) : Bool := code ≤ 0x0E || (decide (4 ≤ u) && decide (0x10 ≤ code ∧ code ≤ 0x1F))

/-- A converter delivers one result of its running entry (R281). -/
def Dev.hkaConversion (d : Dev) (u : Nat) (value : Int) (overload : Bool) : Dev :=
  match (d.hka u).run with
  | none => d
  | some (e, c) =>
    if (d.hka u).cal then d
    else
      let seq := d.reg (R.HKA_SEQ u e)
      let m := if u < 4 then 1 else d.fld (R.HKA_CFG u) 25 24 + 1
      let unsettled := decide (c + 1 < m)
      let gone := d.isRemoved (.converter u)
      let valid := inputOk u (bits seq 5 0) && !gone
      let v : Int := if gone then 0 else value
      let d := d.setReg (R.HKA_RESULT u e) (BitVec.ofNat 32 (unsigned 24 v + 2 ^ 24 * b2n valid + 2 ^ 25 * b2n unsettled + 2 ^ 26 * b2n overload))
      let d := if overload && decide (4 ≤ u) then d.logFault 0x1103 .n else d
      let d := if valid && !unsettled then d.fltConverter u e v else d
      let last := decide (bits seq 12 9 ≤ c)
      let next : Option (Nat × Nat) :=
        if d.senseMode u then none
        else if last then (if e < d.fld (R.HKA_CFG u) 23 21 then some (e + 1, 0) else none) else some (e, c + 1)
      let d := match mget (d.hka u).seqPend e with
        | some w => (d.setReg (R.HKA_SEQ u e) w).onHka u (fun q => { q with seqPend := mdel q.seqPend e, run := if last then next else some (e, 0) })
        | none => d.onHka u (fun q => { q with run := next })
      (d.calBegin u).hkaReport u

/-- HKA_CONVERSION (R281). -/
def execHkaConversion (t u : Nat) (value : Int) (overload : Bool) (s : State) : Out := s.atTick t (fun d => d.hkaConversion u value overload)

/-- An injected request (R283): status and reason. -/
def Dev.hkaInject (d : Dev) (u a code : Nat) : Dev × Nat × Nat :=
  let q := d.hka u
  let drop := fun (r : Nat) => ((if u < 6 then d.inc64 (R.HKA_CNT_INJ_DROP u) 1 else d), 2, r)
  if 4 ≤ u then drop 4
  else if d.senseMode u || q.run.isSome || q.inj.isSome || q.cal || q.calWait then drop 2
  else
    -- an exponent above 5 has no stated meaning: a free one (log entry 28)
    let k := if 5 < a then (d.fresh 3).toNat % 6 else a
    (((if 5 < a then d.drew else d).onHka u (fun q => { q with inj := some (k, code) })).hkaReport u, 1, 0)

/-- HKA_CMD CAL (R284, R285). -/
def Dev.hkaCal (d : Dev) (u : Nat) : Dev × Nat × Nat :=
  let q := d.hka u
  if 6 ≤ u then (d, 2, 1)
  else if d.senseMode u then (d, 2, 3)
  else if q.cal || q.calWait then (d, 2, 2)
  else if d.isRemoved (.converter u) && !d.faultCleared (if u < 4 then 0x1101 else 0x1102) then (d, 2, 5)
  else if q.inj.isSome || q.run.isSome then ((d.onHka u (fun q => { q with calWait := true })).hkaReport u, 3, 0)
  else ((d.onHka u (fun q => { q with cal := true })).hkaReport u, 1, 0)

/-- HKA_CMD START (R282). -/
def Dev.hkaCmdStart (d : Dev) (u : Nat) : Dev × Nat × Nat :=
  if 6 ≤ u then (d, 2, 1)
  else
    let (d', ok) := d.hkaStart u
    if ok then (d', 1, 0)
    else (d', 2, if !d.rbit (R.HKA_CFG u) 0 || d.scanned u then 1 else if d.senseMode u then 3 else 2)

/-- What an accepted write of HKA_CMD does (Table 14-8). -/
def Dev.hkaCmd (d : Dev) (w : Word) : Dev :=
  let u := bits w 12 10
  let (d, st, r) := match bits w 7 0 with
    | 1 => d.hkaInject u (bits w 15 13) (bits w 29 24)
    | 2 => d.hkaCal u
    | 3 => d.hkaCmdStart u
    | _ => (d, 2, 6)
  d.setReg R.HKA_CMD (cmdWord w 0x3F00FCFF st r)

/-- The word of an HKA_CMD command. -/
def hkaWord (op u a code : Nat) : Word := BitVec.ofNat 32 (op + 2 ^ 10 * (u % 8) + 2 ^ 13 * (a % 8) + 2 ^ 24 * (code % 64))

/-- HKA_START (R282). -/
def execHkaStart (src t u : Nat) (s : State) : Out := s.atTick t (fun d => d.cmdWrite src R.HKA_CMD (hkaWord 3 u 0 0) (fun d => d.hkaCmd (hkaWord 3 u 0 0)))
/-- INJECT (R283). -/
def execInject (src t u burst input : Nat) (s : State) : Out :=
  s.atTick t (fun d => d.cmdWrite src R.HKA_CMD (hkaWord 1 u burst input) (fun d => d.hkaCmd (hkaWord 1 u burst input)))
/-- HKA_CAL (R284). -/
def execHkaCal (src t u : Nat) (s : State) : Out := s.atTick t (fun d => d.cmdWrite src R.HKA_CMD (hkaWord 2 u 0 0) (fun d => d.hkaCmd (hkaWord 2 u 0 0)))

/-- INJECTION_DONE (R283): the mean of the burst's results, rounded towards minus infinity. -/
def execInjectionDone (t u : Nat) (samples : List Int) (s : State) : Out :=
  s.atTick t (fun d => match (d.hka u).inj with
    | none => d
    | some (a, code) =>
      let n := 2 ^ a
      let gone := d.isRemoved (.converter u)
      let m : Int := if gone then 0 else ((List.range n).map (fun i => samples.getD i 0)).sum / (n : Nat)
      let d := d.setReg (R.HKA_INJ_RESULT u) (BitVec.ofNat 32 (unsigned 24 m + 2 ^ 24 * b2n (inputOk u code && !gone)))
      ((d.onHka u (fun q => { q with inj := none })).calBegin u).hkaRelease u)

/-- A self-calibration's result: the offset found in LSB, the gain error in parts per million, and the trim codes (R284,
R285). -/
def Dev.calResult (d : Dev) (u : Nat) (offset gainPpm : Int) (offCode gainCode : Nat) : Dev :=
  let pass := decide (offset.natAbs ≤ 64) && decide (gainPpm.natAbs ≤ 20000)
  let d := d.onHka u (fun q => { q with cal := false, passed := pass, run := if 4 ≤ u then q.run.map (fun p => (p.1, 0)) else q.run })
  let d := d.setReg (R.HKA_TRIM u) (BitVec.ofNat 32 (offCode % 256 + 256 * (gainCode % 256)))
  let d := if pass then d.reinstateUnit (.converter u)
    else d.raiseD (if u < 4 then 0x1101 else 0x1102) (.converter u)
  d.hkaRelease u

/-- SELF_CALIBRATION_DONE (R284, R285). -/
def execSelfCalibrationDone (t u : Nat) (offset gainPpm : Int) (offCode gainCode : Nat) (s : State) : Out :=
  s.atTick t (fun d => if (d.hka u).cal then d.calResult u offset gainPpm offCode gainCode else d)

/-- A write of HKA_SEQu_e: conv below m reads back m; the entry being converted takes it at its conversion boundary
(R281). -/
def Dev.hkaSeqWrite (d : Dev) (u e : Nat) (v : Word) : Dev :=
  let m := if u < 4 then 0 else d.fld (R.HKA_CFG u) 25 24
  let v := if bits v 12 9 < m then setBits v 12 9 m else v
  let v := v &&& 0x1FFF#32
  if (d.hka u).run.any (fun p => p.1 == e) then d.onHka u (fun q => { q with seqPend := mput q.seqPend e v })
  else d.setReg (R.HKA_SEQ u e) v

/-- A write of HKA_CFGu: a start code of 9 to 15 reads back 0 (Table 14-9). -/
def Dev.hkaCfgWrite (d : Dev) (u : Nat) (v : Word) : Dev :=
  let a := R.HKA_CFG u
  let v := clampWrite a v &&& 0x0FFFFFFF#32
  let v := if 8 < bits v 4 1 then setBits v 4 1 0 else v
  let v := if u < 4 then v &&& 0x00FFFFFF#32 else v
  d.setReg a v

end Sys2Proof.Machine
end

