-- ==== Sys2Proof/Machine/Sensors.lean ====
section
/-! DEFINITION. Sensor bridging (chapter 15): temperature channels, detector bias, heaters, encoders, IMU. -/
namespace Sys2Proof.Machine

/-! Curves (R301, R302). Resistances are in units of 2^-20 Ω, temperatures in 1/1,024 °C. -/

/-- Platinum, r0 Ω at 0 °C (Table 15-3). -/
def ptRes (r0 : Int) (t : Int) : Int :=
  let c : Int := if 0 ≤ t then 0 else -4183 * (t - 102400) * t ^ 3
  r0 * 2 ^ 20 * (10 ^ 15 * 1024 ^ 4 + 3908300000000 * t * 1024 ^ 3 - 577500000 * t ^ 2 * 1024 ^ 2 + c) / (10 ^ 15 * 1024 ^ 4)

/-- Ni1000 (Table 15-3). -/
def niRes (t : Int) : Int :=
  1000 * 2 ^ 20 * (10 ^ 20 * 1024 ^ 6 + 548500000000000000 * t * 1024 ^ 5 + 665000000000000 * t ^ 2 * 1024 ^ 4 + 2805000000 * t ^ 4 * 1024 ^ 2 - 2000 * t ^ 6) / (10 ^ 20 * 1024 ^ 6)

/-- Silicon PTC (Table 15-3). -/
def ptcRes (t : Int) : Int :=
  let e := t - 25600
  1000 * 2 ^ 20 * (10 ^ 8 * 1024 ^ 2 + 788000 * e * 1024 + 1937 * e ^ 2) / (10 ^ 8 * 1024 ^ 2)

/-- The exponential of x / 2^40 as a multiple of 2^-40, by its series. -/
def expFix (x : Int) : Nat → Int → Int → Int → Int
  | 0, _, _, acc => acc
  | n + 1, k, term, acc => let term := term * x / (2 ^ 40 * k); expFix x n (k + 1) term (acc + term)

/-- NTC of r Ω at 298.15 K with β (Table 15-3; `R27` is read as that resistance, log entry 32): falling in t. -/
def ntcRes (r beta : Int) (t : Int) : Int :=
  -- β (1 / T − 1 / 298.15), T = t / 1024 + 273.15
  let tk := 100 * t + 27315 * 1024
  let x := beta * 2 ^ 40 * (1024 * 100 * 29815 - 100 * tk) / (tk * 29815)
  r * expFix x 60 1 (2 ^ 40) (2 ^ 40) / 2 ^ 20

/-- The greatest temperature from `lo`, in steps of falling powers of two, whose resistance does not pass `m`. -/
def bisect (f : Int → Int) (m : Int) (hi : Int) : Nat → Int → Int
  | 0, lo => lo
  | n + 1, lo =>
    let c := lo + 2 ^ n
    bisect f m hi n (if c ≤ hi && decide (f c ≤ m) then c else lo)

/-- A fixed curve: its resistance, rising, and its ends in 1/1,024 °C. -/
structure Curve where
  f : Int → Int
  sign : Int
  lo : Int
  hi : Int

/-- Curves 0 to 6 (Table 15-3). -/
def fixedCurve (n : Nat) : Option Curve :=
  match n with
  | 0 => some { f := ptRes 100, sign := 1, lo := -200 * 1024, hi := 850 * 1024 }
  | 1 => some { f := ptRes 1000, sign := 1, lo := -200 * 1024, hi := 850 * 1024 }
  | 2 => some { f := niRes, sign := 1, lo := -60 * 1024, hi := 250 * 1024 }
  | 3 => some { f := fun t => -ntcRes 10000 3435 t, sign := -1, lo := -40 * 1024, hi := 150 * 1024 }
  | 4 => some { f := fun t => -ntcRes 10000 3977 t, sign := -1, lo := -40 * 1024, hi := 150 * 1024 }
  | 5 => some { f := ptcRes, sign := 1, lo := -55 * 1024, hi := 150 * 1024 }
  | 6 => some { f := fun t => -ntcRes 100000 4250 t, sign := -1, lo := -40 * 1024, hi := 150 * 1024 }
  | _ => none

/-- Linear interpolation over ascending points (R302): value and whether the resistance lay outside. -/
def userCurve (m : Int) : List (Nat × Int) → Int × Bool
  | [] => (0, true)
  | [p] => (p.2, decide ((p.1 : Int) * 2 ^ 14 < m))
  | p :: q :: r =>
    let r0 : Int := (p.1 : Int) * 2 ^ 14
    let r1 : Int := (q.1 : Int) * 2 ^ 14
    if m < r0 then (p.2, true)
    else if m ≤ r1 then (openQuot (p.2 * (r1 - m) + q.2 * (m - r0)) (r1 - r0).toNat, false)
    else userCurve m (q :: r)

/-- The value of SNS_VALs for a resistance of `num / den` Ω, whether it lay outside the curve, and whether the curve
exists. Curves 0 to 6 are within ±0.01 °C of the equation; which value is free (log entry 31). -/
def Dev.curveVal (d : Dev) (curve : Nat) (num : Int) (den : Nat) : Int × Bool × Bool :=
  let m := num * 2 ^ 20 / (den : Int)
  match fixedCurve curve with
  | some c =>
    let x := c.sign * m
    if x < c.f c.lo then (if c.sign < 0 then c.hi else c.lo, true, true)
    else if c.f c.hi < x then (if c.sign < 0 then c.lo else c.hi, true, true)
    else
      let e : Int := ((d.fresh 8).toNat % 20 : Nat)
      (clampI c.lo c.hi (bisect c.f x c.hi 21 c.lo + e - 9), false, true)
  | none =>
    if curve = 7 then (clampI 0 8388607 (openQuot (num * 16) den), decide (num < 0), true)
    else match mget d.sns.curves curve with
      | none => (0, false, false)
      | some l => let (v, o) := userCurve m l; (v, o, true)

/-! Channels (R298 to R303). -/

/-- Sensor channel `s`. -/
def Dev.snsCh (d : Dev) (n : Nat) : SnsCh := mgetD d.sns.chs n {}
/-- Change sensor channel `s`. -/
def Dev.onSns (d : Dev) (n : Nat) (f : SnsCh → SnsCh) : Dev := { d with sns := { d.sns with chs := mput d.sns.chs n (f (d.snsCh n)) } }
/-- Change the heater, bias and motion part. -/
def Dev.onSnsAll (d : Dev) (f : SnsState → SnsState) : Dev := { d with sns := f d.sns }

/-- The channel HKAi measures: the one under way, else the next enabled one (R300). -/
def Dev.scanChannel (d : Dev) (i : Nat) : Option Nat :=
  let cur := mgetD d.sns.scan i 0
  ((List.range 4).map (fun j => 4 * i + (cur + j) % 4)).find? (fun c => d.rbit (R.SNS_CFG c) 0)

/-- wiring of a channel, 0b11 reading back 0b10. -/
def Dev.wiring (d : Dev) (c : Nat) : Nat := Nat.min 2 (d.fld (R.SNS_CFG c) 2 1)

/-- The bias target for a temperature of `v` / 1,024 °C (R304). -/
def Dev.biasCode (d : Dev) (v : Int) : Nat :=
  let dt := v - 64 * signed 16 (d.fld R.SNS_BIAS_BASE 31 16)
  let k1 := signed 16 (d.fld R.SNS_BIAS_K 15 0)
  let k2 := signed 16 (d.fld R.SNS_BIAS_K 31 16)
  -- base + k1 / 256 × dt + k2 / 65,536 × dt², dt in 1/1,024 °C
  let num := (d.fld R.SNS_BIAS_BASE 15 0 : Int) * 2 ^ 36 + k1 * dt * 2 ^ 18 + k2 * dt * dt
  let code := openQuot num (2 ^ 36)
  let lo : Int := (d.fld R.SNS_BIAS_LIM 15 0 : Nat)
  let hi : Int := (d.fld R.SNS_BIAS_LIM 31 16 : Nat)
  let c := if code < lo then lo else code
  (if hi < c then hi else c).toNat

/-- A write of SNS_BIAS_BASE; while comp_en = 0 the code's target is base within its limits (R304, Table 22-7, log
entry 33). -/
def Dev.biasBaseWrite (d : Dev) (v : Word) : Dev :=
  let d := d.storeReg R.SNS_BIAS_BASE v
  if d.rbit R.SNS_BIAS_CFG 0 || d.sns.parking then d
  else
    let c := Nat.min (d.fld R.SNS_BIAS_LIM 31 16) (Nat.max (d.fld R.SNS_BIAS_LIM 15 0) (d.fld R.SNS_BIAS_BASE 15 0))
    d.onSnsAll (fun q => { q with biasTarget := c })

/-- The bias takes a result of channel `c` (R304). -/
def Dev.biasResult (d : Dev) (c : Nat) (valid : Bool) (v : Int) : Dev :=
  if !d.rbit R.SNS_BIAS_CFG 0 || d.fld R.SNS_BIAS_CFG 4 2 != c then d
  else if valid then
    let d := d.setBit R.SNS_BIAS_STATUS 16 false
    if d.sns.parking then d else d.onSnsAll (fun q => { q with biasTarget := d.biasCode v })
  else d.onceFault R.SNS_BIAS_STATUS 16 0x1205

/-- SNS_VALs and the valid bit of channel `c`. -/
def Dev.putVal (d : Dev) (c : Nat) (v : Int) (valid : Bool) : Dev :=
  ((d.setReg (R.SNS_VAL c) (BitVec.ofNat 32 (unsigned 24 v))).setBit (R.SNS_STATUS c) 0 valid).biasResult c valid v

/-- The combined result of channel `c`: `sum` of its `n` slots' voltage codes (R298, R299, R301, R303). -/
def Dev.snsResult (d : Dev) (c : Nat) (sum : Int) (n : Nat) (bad : Bool) : Dev :=
  let off : Int := if d.wiring c = 0 then (d.fld (R.SNS_OFF c) 15 0 : Nat) else 0
  -- Ω = code × 10^(3 + range) / 2^23
  let den := 64 * 2 ^ 23 * n
  let num := sum * 10 ^ (3 + (d.snsCh c).range) * 64 - off * (2 ^ 23 * n : Nat)
  let free := (d.fresh 32).toNat
  let d := d.drew
  let res := openQuot num (2 ^ 23 * n)
  let d := d.setReg (R.SNS_RES c) (BitVec.ofNat 32 (if num < 0 then free else satN 0xFFFFFFFF res.toNat))
  let (v, out, ok) := d.curveVal (d.fld (R.SNS_CFG c) 11 8) num den
  let d := d.drew
  let st := d.reg (R.SNS_STATUS c)
  let d := (d.setBit (R.SNS_STATUS c) 4 (out && ok))
  let d := if out && ok then d.logFault 0x1204 .n else d
  if bad || bit st 1 then d.putVal c (-8388608) false
  else if bit st 2 then d.putVal c (-8388607) false
  else if bit st 3 then d.putVal c (-8388606) false
  else d.putVal c v ok

/-- A slot of HKAi ends (R298, R300): the voltage and lead codes, and whether the comparators are tripped now. -/
def Dev.slotEnd (d : Dev) (i : Nat) (value lead : Int) (tripped : Bool) : Dev :=
  if !d.rbit R.SNS_CTRL i || (d.hka (4 + i)).cal then d
  else match d.scanChannel i with
    | none => d
    | some c =>
      let d := d.setReg (R.SNS_LEAD c) (BitVec.ofNat 32 (unsigned 24 lead))
      let q := d.snsCh c
      let three := d.wiring c == 1
      let d := match three, q.first with
        | true, none => d.onSns c (fun q => { q with first := some value })
        | _, f =>
          let sum := if three then f.getD 0 + value else value
          let d := (d.snsResult c sum (if three then 2 else 1) q.affected).onSns c (fun q => { q with first := none, affected := tripped })
          d.onSnsAll (fun q => { q with scan := mput q.scan i ((c + 1) % 4) })
      let d := if tripped then d else d.setBit (R.SNS_STATUS c) 1 false
      -- a written range takes effect at the start of the next slot
      (List.range 4).foldl (fun d j => d.onSns (4 * i + j) (fun q => { q with range := d.fld (R.SNS_CFG (4 * i + j)) 4 3 })) d

/-- What a write of SNS_CFGs does: range takes effect at the start of the channel's next slot (R299). -/
def Dev.snsCfgWrite (d : Dev) (c : Nat) (v : Word) : Dev :=
  let i := c / 4
  let busy := d.rbit R.SNS_CTRL i && d.scanChannel i == some c
  let d := d.setReg (R.SNS_CFG c) (clampWrite (R.SNS_CFG c) v &&& 0x00FF0F1F#32)
  if busy then d else d.onSns c (fun q => { q with range := bits v 4 3 })

/-- SENSOR_SLOT_END (R300). -/
def execSensorSlotEnd (t conv : Nat) (value lead : Int) (tripped : Bool) (s : State) : Out :=
  s.atTick t (fun d => if conv < 2 then d.slotEnd conv value lead tripped else d)

/-- OPEN_WIRE_TRIP (R303). -/
def execOpenWireTrip (t ch : Nat) (s : State) : Out :=
  s.atTick t (fun d =>
    if 8 ≤ ch ∨ !d.rbit (R.SNS_CFG ch) 0 then d
    else
      let d := ((d.setBit (R.SNS_STATUS ch) 1 true).logFault 0x1201 .n).onSns ch (fun q => { q with affected := true })
      d.putVal ch (-8388608) false)

/-- LEAD_TEST_START (R303). -/
def execLeadTestStart (t ch : Nat) (s : State) : Out :=
  s.atTick t (fun d => if 8 ≤ ch ∨ !d.rbit (R.SNS_CFG ch) 0 then d else d.onSns ch (fun q => { q with tone := some d.now }))

/-- LEAD_TEST_END (R303): the lead-loop impedance in mΩ and the tone magnitudes of the first and last five periods. What
the 25 % refers to is not stated: between the two readings the outcome is free (log entry 31). -/
def execLeadTestEnd (t ch milliOhm first last : Nat) (s : State) : Out :=
  s.atTick t (fun d =>
    if (d.snsCh ch).tone.isNone then d
    else
      let d := d.onSns ch (fun q => { q with tone := none })
      let high := d.wiring ch != 0 && decide (250 * d.fld (R.SNS_CFG ch) 23 16 < milliOhm)
      let d := d.setBit (R.SNS_STATUS ch) 2 high
      let d := if high then d.logFault 0x1202 .n else d
      let diff := 4 * (Nat.max first last - Nat.min first last)
      let inter := if Nat.max first last < diff then true else if diff ≤ Nat.min first last then false else bit (d.fresh 32) 0
      let d := (d.drew).setBit (R.SNS_STATUS ch) 3 inter
      if inter then d.logFault 0x1203 .n else d)

/-- BIAS_SLEW_STEP (R304): one millisecond's move of the code towards its target, unless it holds. -/
def execBiasSlewStep (t : Nat) (s : State) : Out :=
  s.atTick t (fun d =>
    if d.rbit R.SNS_BIAS_STATUS 16 && !d.sns.parking then d
    else
      let c := d.fld R.SNS_BIAS_STATUS 15 0
      let g := d.sns.biasTarget
      let m := d.fld R.SNS_BIAS_CFG 31 16
      let n := if c ≤ g then c + Nat.min m (g - c) else c - Nat.min m (c - g)
      d.setFld R.SNS_BIAS_STATUS 15 0 n)

/-! Heaters (R305). -/

/-- Heater `k`. -/
def Dev.heater (d : Dev) (k : Nat) : Heater := mgetD d.sns.heaters k {}
/-- Heater output `k` is driven; its edge can start converters (R282). -/
def Dev.heaterOut (d : Dev) (k : Nat) (on : Bool) : Dev :=
  let was := (d.heater k).on
  let d := d.onSnsAll (fun q => { q with heaters := mput q.heaters k { mgetD q.heaters k {} with on := on } })
  if was == on then d else d.hkaSource (if on then 5 + 2 * k else 6 + 2 * k)

/-- The thermostat's choice (R305): setpoint and hysteresis in 1/16 °C. -/
def Dev.thermostat (d : Dev) (k : Nat) : Bool × Bool :=
  let c := d.fld (R.SNS_HTR k) 4 2
  let v := signed 24 (d.reg (R.SNS_VAL c)).toNat
  let sp := 64 * signed 12 (d.fld (R.SNS_HTR_SET k) 27 16)
  let h : Int := 64 * (d.fld (R.SNS_HTR_HYST k) 7 0 : Nat)
  let keep := (d.heater k).choice
  let choice := if v < sp - h then true else if sp < v then false else keep
  if d.rbit (R.SNS_STATUS c) 0 then (choice, choice) else (keep, false)

/-- HEATER_PERIOD_START (R305): the settings written take effect. -/
def execHeaterPeriodStart (t k : Nat) (s : State) : Out :=
  s.atTick t (fun d =>
    if 2 ≤ k then d
    else if !d.rbit (R.SNS_HTR k) 0 || !d.inState [.armed, .ranging, .held] || d.supplyBad .io33 then d.heaterOut k false
    else
      let (choice, on) := if d.rbit (R.SNS_HTR k) 1 then d.thermostat k else ((d.heater k).choice, true)
      let duty := if on then d.fld (R.SNS_HTR_SET k) 15 0 else 0
      let period := d.fld (R.SNS_HTR k) 31 16
      let d := d.onSnsAll (fun q => { q with heaters := mput q.heaters k { mgetD q.heaters k {} with choice := choice, period := period, duty := duty } })
      d.heaterOut k (decide (0 < duty)))

/-- HEATER_DUTY_END (R305). -/
def execHeaterDutyEnd (t k : Nat) (s : State) : Out :=
  s.atTick t (fun d => if (d.heater k).on && decide ((d.heater k).duty < (d.heater k).period) then d.heaterOut k false else d)

/-! Encoders (R306). -/

/-- The Gray position of two quadrature levels. -/
def grayPos (a b : Bool) : Nat := match a, b with | false, false => 0 | true, false => 1 | true, true => 2 | false, true => 3

/-- The count of a quadrature step: none when A and B change together. -/
def quadStep (a b a' b' : Bool) : Option Int :=
  match (grayPos a' b' + 4 - grayPos a b) % 4 with
  | 0 => some 0
  | 1 => some (if Config.encoderUp then 1 else -1)
  | 3 => some (if Config.encoderUp then -1 else 1)
  | _ => none

/-- Encoder `k` of the CK_PER decoder. -/
def Dev.enc (d : Dev) (k : Nat) : EncSt := mgetD d.sns.encs k {}

/-- ENCODER_EDGE (R306): the filtered levels of A and B after the edge. -/
def execEncoderEdge (t k : Nat) (a b : Bool) (s : State) : Out :=
  s.atTick t (fun d =>
    let q := d.enc k
    match quadStep q.a q.b a b with
    | some n =>
      let per := match q.lastEdge with | some x => satN 0xFFFFFFFF ((d.now - x) / 16) | none => 0xFFFFFFFF
      let d := d.onSnsAll (fun z => { z with encs := mput z.encs k { q with a := a, b := b, lastEdge := if n = 0 then q.lastEdge else some d.now } })
      if n = 0 then d
      else (d.setReg (R.SNS_ENC_CNT k) (d.reg (R.SNS_ENC_CNT k) + BitVec.ofInt 32 n)).setReg (R.SNS_ENC_PER k) (BitVec.ofNat 32 per)
    | none =>
      let d := d.onSnsAll (fun z => { z with encs := mput z.encs k { q with a := a, b := b, logged := true } })
      let d := d.incSat (R.SNS_ENC_CFG k) 15 8 1
      if q.logged then d else d.logFault 0x1207 .n)

/-- ENCODER_INDEX (R306). -/
def execEncoderIndex (t k : Nat) (s : State) : Out :=
  s.atTick t (fun d =>
    let d := d.setReg (R.SNS_ENC_IDX k) (d.reg (R.SNS_ENC_CNT k))
    if d.rbit (R.SNS_ENC_CFG k) 4 then d.setReg (R.SNS_ENC_CNT k) 0 else d)

/-! IMU (R307). -/

/-- A trigger that finds a transfer running is dropped. -/
def Dev.imuDrop (d : Dev) : Dev :=
  let d := d.incSat R.SNS_IMU_STAT 15 8 1
  if d.sns.imuLogged then d else (d.onSnsAll (fun q => { q with imuLogged := true })).logFault 0x1206 .n

/-- IMU_TRIGGER (R307): a rising IMU_INT, or the period. -/
def execImuTrigger (t : Nat) (byInt : Bool) (s : State) : Out :=
  s.atTick t (fun d =>
    let on := d.rbit R.SNS_IMU_CFG 0 && (if byInt then d.rbit R.SNS_IMU_CFG 1 else d.fld R.SNS_IMU_PERIOD 15 0 != 0)
    if !on then d else if d.sns.imu.isSome then d.imuDrop else d.onSnsAll (fun q => { q with imu := some (d.time, false) }))

/-- What an accepted write of SNS_IMU_XFER does (Table 15-5). -/
def Dev.imuCmd (d : Dev) (w : Word) : Dev :=
  let put := fun st r => d.setReg R.SNS_IMU_XFER (cmdWord w 0xFF st r)
  if bits w 7 0 != 1 then put 2 3
  else if d.rbit R.SNS_IMU_CFG 0 then put 2 1
  else if d.sns.imu.isSome then put 2 2
  else (put 3 0).onSnsAll (fun q => { q with imu := some (d.time, true) })

/-- IMU_XFER (R307). -/
def execImuXfer (src t : Nat) (s : State) : Out := s.atTick t (fun d => d.cmdWrite src R.SNS_IMU_XFER 1#32 (fun d => d.imuCmd 1#32))

/-- IMU_TRANSFER_DONE (R307): `data` is what was read; bytes of the entry past n are not stated and free (log entry 28). -/
def execImuTransferDone (t : Nat) (data : List Byte) (s : State) : Out :=
  s.atTick t (fun d => match d.sns.imu with
    | none => d
    | some (time, cmd) =>
      let n := Nat.min 56 (d.fld R.SNS_IMU_CFG 19 14)
      let rest := leBytes 56 (d.fresh 448).toNat
      let body := (List.range 56).map (fun i => if i < n then data.getD i 0#8 else rest.getD i 0#8)
      let w := d.fld R.SNS_IMU_STAT 3 0
      let d := d.drew.onSnsAll (fun q => { q with imu := none, imuRing := mput q.imuRing w (leBytes 8 time ++ body) })
      let d := d.setFld R.SNS_IMU_STAT 3 0 (w + 1)
      if cmd then (d.setFld R.SNS_IMU_XFER 9 8 1).setFld R.SNS_IMU_XFER 31 24 w else d)

end Sys2Proof.Machine
end

