-- ==== Sys2Proof/Machine/Hoist.lean ====
section
/-! DEFINITION. Hoist's commands (chapter 16): training, reads and writes, refresh, row disturbance, parity recovery,
self-refresh, lane tests. -/
namespace Sys2Proof.Machine

/-! Training (R314 to R317). -/

/-- Both channels agree and their configuration is one of Table 16-1 (R312). -/
def Dev.hoistSupported (d : Dev) (target : Nat) : Bool :=
  let b := d.chBytes 0
  d.reg (R.HOI_CH_GEOM 0) == d.reg (R.HOI_CH_GEOM 1) && decide (4 * 2 ^ 30 ≤ b ∧ b ≤ (if target < 2 then 64 else 32) * 2 ^ 30)

/-- FMN_DRAM_CAP of a rate (Table 16-6). -/
def dramCap (rate : Nat) : Nat := [16384, 8192, 4096, 2048].getD rate 0

/-- The gathering step after a successful one (R314). -/
def Training.next (x : Training) (ranks : Nat) : Training :=
  if x.step < 6 then { x with step := x.step + 1, again := false }
  else if x.rank + 1 < ranks then { x with rank := x.rank + 1, step := firstStep x.rate, again := false }
  else if x.target = 0 ∧ x.rate = 1 then { x with rate := 0, rank := 0, step := firstStep 0, again := false }
  else { x with step := 7, again := false }

/-- The training's state is replaced and shown. -/
def Dev.putTraining (d : Dev) (x : Training) : Dev := ({ d with hoi := { d.hoi with training := some x } }).showTraining

/-- A queued rate takes effect at the end of gathering step `x` (R316). -/
def Dev.applyRate (d : Dev) (x : Training) (ok : Bool) (r : Nat) : Dev :=
  let d := ({ d with hoi := { d.hoi with ratePend := none } }).setBit R.HOI_STATUS 7 false
  if x.rate = r then
    let x := { x with target := r }
    d.putTraining (if ok then x.next (d.fld (R.HOI_CH_GEOM 0) 8 8 + 1) else x)
  else
    let d := [0, 1].foldl (fun (d : Dev) n => d.onHoiCh n (fun c => { c with results := [] })) d
    d.putTraining { x with target := r, rate := firstRate r, rank := 0, step := firstStep (firstRate r), again := false }

/-- A gathering step ends without a queued rate (R314, R315). -/
def Dev.gatherEnd (d : Dev) (x : Training) (ok : Bool) : Dev :=
  if ok then d.putTraining (x.next (d.fld (R.HOI_CH_GEOM 0) 8 8 + 1))
  else if !x.again then (d.incSat R.HOI_TRAIN 15 8 1).putTraining { x with again := true }
  else if x.rate = 0 then ((d.setBit R.HOI_STATUS 3 true).logFault 0x1302 .n).putTraining { x with rate := 1, step := 7, again := false }
  else d.failHoist 0x1301

/-- A training step ends (Table 16-2). -/
def Dev.trainStep (d : Dev) (ok : Bool) : Dev :=
  match d.hoi.training with
  | none => d
  | some x =>
    if x.step = 7 then (if ok then d else d.failHoist 0x1301)
    else if x.step = 0 then
      if ok && d.hoistSupported x.target then d.putTraining { x with step := firstStep x.rate } else d.failHoist 0x1301
    else match d.hoi.ratePend with
      | some r => d.applyRate x ok r
      | none => d.gatherEnd x ok

/-- TRAINING_STEP_DONE (R314, R315): `results` are (channel, lane, delays) of the step's rank and rate pass. -/
def execTrainingStepDone (t : Nat) (ok : Bool) (results : List (Nat × Nat × Nat)) (s : State) : Out :=
  s.atTick t (fun d => match d.hoi.training with
    | none => d
    | some x =>
      let pass := if x.target = 0 ∧ x.rate = 0 then 1 else 0
      let d := if ok && decide (1 ≤ x.step ∧ x.step ≤ 6) then results.foldl (fun (d : Dev) r =>
          d.onHoiCh (r.1 % 2) (fun c => { c with results := mput c.results (512 * pass + 256 * x.rank + 2 * r.2.1) (r.2.2 % 65536) })) d else d
      d.trainStep ok)

/-- Training succeeds: Hoist serves, HOI_EPOCH counts on, FMN_DRAM_CAP is set and the unit rejoins (R317, R320, R332,
R333). -/
def Dev.trained (d : Dev) (x : Training) (baseline : Bool) : Dev :=
  let d := (d.setFld R.HOI_STATUS 2 0 1).setFld R.HOI_STATUS 9 8 x.rate
  let d := (d.setReg R.HOI_EPOCH (d.reg R.HOI_EPOCH + 1)).setReg R.FMN_DRAM_CAP (BitVec.ofNat 32 (dramCap x.rate))
  let d := d.setFld R.HOI_TRAIN 31 16 (satN 65535 ((d.now - x.start) / 1600000))
  let same := decide (x.rate < 2) && decide (16 * 2 ^ 30 < d.chBytes 0)
  let d := [0, 1].foldl (fun (d : Dev) n => ((d.setBit (R.HOI_CH_STATUS n) 0 true).setBit (R.HOI_CH_STATUS n) 2 same).onHoiCh n (fun c => { c with tagCache := [] })) d
  let d := if x.retrain && baseline then
      let d := [R.HOI_CH_DEAD0 0, R.HOI_CH_DEAD1 0, R.HOI_CH_DEAD0 1, R.HOI_CH_DEAD1 1].foldl (fun (d : Dev) a => d.setReg a 0) d
      { (d.setFld R.HOI_STATUS 17 16 0) with top := { d.top with removed := d.top.removed.filter (fun u => match u with | .dramDevice _ _ _ => false | _ => true) } }
    else d
  let d := { (d.reinstateUnit .hoist) with hoi := { d.hoi with training := none }, boot := { d.boot with dramDone := true } }
  (d.setBit R.WAV_STATUS 8 false).tapsUp.armIfReady

/-- TRAINING_COMPLETE (R317): step 7 passes; `baseline` says whether the lane-test baseline passed. A rate queued during
step 7 starts training again. -/
def execTrainingComplete (t : Nat) (baseline : Bool) (s : State) : Out :=
  s.atTick t (fun d => match d.hoi.training with
    | none => d
    | some x =>
      if x.step != 7 then d
      else
        let p := d.hoi.ratePend
        let d := d.trained x baseline
        match p with | some r => d.startTraining r true | none => d)

/-- What an accepted write of HOI_CMD does (R316, R317, R332, R333, Table 16-8). -/
def Dev.hoiCmd (d : Dev) (w : Word) : Dev :=
  let put := fun (d : Dev) st r => d.setReg R.HOI_CMD (cmdWord w 0x30FF st r)
  let rate := d.fld R.HOI_CTRL 1 0
  match bits w 7 0 with
  | 1 =>
    if !d.inState [.armed, .held] then put d 2 1
    else if d.hoistFailed && !d.faultCleared d.hoi.failCode then put d 2 2
    else match d.hoi.training with
      | some x =>
        if 1 ≤ x.step then put (({ d with hoi := { d.hoi with ratePend := some rate } }).setBit R.HOI_STATUS 7 true) 1 0
        else put (d.putTraining { x with target := rate, rate := firstRate rate, retrain := true }) 1 0
      | none => put (d.startTraining rate true) 1 0
  | 2 =>
    if d.hoi.training.isSome || d.hoi.laneTest.isSome then put d 2 3
    else if !d.hoistServing then put d 2 1
    else put { d with hoi := { d.hoi with laneTest := some (bits w 12 12, bits w 13 13, true) } } 3 0
  | _ => put d 2 4

/-- HOI_RETRAIN (R316, R333). -/
def execHoiRetrain (src t : Nat) (s : State) : Out := s.atTick t (fun d => d.cmdWrite src R.HOI_CMD 1#32 (fun d => d.hoiCmd 1#32))

/-- What a write of HOI_CTRL does: a changed rate starts training in ARMED and HELD, is queued while a gathering step
runs, and is refused in RANGING (R316, R317). -/
def Dev.hoiCtrlWrite (d : Dev) (v : Word) : Dev :=
  let v := v &&& 0x1F#32
  let old := d.fld R.HOI_CTRL 1 0
  let new := bits v 1 0
  if new = old then d.setReg R.HOI_CTRL v
  else if d.ranging then (d.setReg R.HOI_CTRL (setBits v 1 0 old)).setBit R.HOI_STATUS 4 true
  else
    let d := d.setReg R.HOI_CTRL v
    match d.hoi.training with
    | some x =>
      if 1 ≤ x.step then ({ d with hoi := { d.hoi with ratePend := some new } }).setBit R.HOI_STATUS 7 true
      else d.putTraining { x with target := new, rate := firstRate new }
    | none => if d.inState [.armed, .held] && !d.hoistFailed then d.startTraining new false else d

/-- HOI_RATE_WRITE (R316). -/
def execHoiRateWrite (src t : Nat) (value : Word) (s : State) : Out := s.atTick t (fun d => d.regWrite src R.HOI_CTRL value (fun d => d.hoiCtrlWrite value))

/-! Commands on the DRAM bus (R326 to R330). -/

/-- The retry buffer keeps the last 32 commands; the bits "as issued" are free (Table 16-11, log entry 28). -/
def Dev.retryPut (d : Dev) (n sub rank : Nat) : Dev :=
  (d.drew).onHoiCh n (fun c =>
    let l := c.retry ++ [((d.fresh 56).toNat, sub + 2 * rank, d.time % 2 ^ 32)]
    { c with retry := l.drop (l.length - 32) })

/-- One activate of `row` counted in a bank's table (R329): the table and the row's count. -/
def rhCount (l : List (Nat × Nat)) (row : Nat) : List (Nat × Nat) × Nat :=
  match l.find? (fun p => p.1 == row) with
  | some p => (l.map (fun q => if q.1 == row then (row, p.2 + 1) else q), p.2 + 1)
  | none =>
    if l.length < 64 then (l ++ [(row, 1)], 1)
    else
      let m := l.foldl (fun m p => Nat.min m p.2) (l.headD (0, 0)).2
      let i := (l.takeWhile (fun p => p.2 != m)).length
      (l.set i (row, m + 1), m + 1)

/-- The activate of `row` would queue a further neighbour refresh. -/
def Dev.rhFull (d : Dev) (n bank row : Nat) : Bool :=
  d.rbit R.HOI_RH_CFG 16 && decide (16 ≤ (d.hoiCh n).rhQueue.length) &&
  decide (d.fld R.HOI_RH_CFG 13 0 ≤ (rhCount (mgetD (d.hoiCh n).rh bank []) row).2)

/-- An activate is counted; at the threshold a refresh of the neighbours is queued (R329). -/
def Dev.rhActivate (d : Dev) (n bank row : Nat) : Dev :=
  if !d.rbit R.HOI_RH_CFG 16 then d
  else
    let (l, k) := rhCount (mgetD (d.hoiCh n).rh bank []) row
    if d.fld R.HOI_RH_CFG 13 0 ≤ k then
      (d.onHoiCh n (fun c => { c with
        rh := mput c.rh bank (l.map (fun p => if p.1 == row then (row, 0) else p)), rhQueue := c.rhQueue ++ [(bank, row)] })).inc64 (R.HOI_CNT_RH_REFRESH n) 1
    else d.onHoiCh n (fun c => { c with rh := mput c.rh bank l })

/-- The tag cache serves the side-table burst of channel burst `b` (R319, DDR4); which clean or dirty line leaves is free. -/
def Dev.tagTouch (d : Dev) (n b : Nat) (write : Bool) : Dev :=
  if d.ddr5 then d
  else
    let k := b / 8
    let c := d.hoiCh n
    let l := match c.tagCache.find? (fun p => p.1 == k) with
      | some _ => c.tagCache.map (fun p => if p.1 == k then (k, p.2 || write) else p)
      | none => if c.tagCache.length < 512 then c.tagCache ++ [(k, write)] else c.tagCache.set ((d.fresh 9).toNat) (k, write)
    let d := (d.drew).onHoiCh n (fun c => { c with tagCache := l })
    d.setFld (R.HOI_CH_STATUS n) 15 8 ((l.filter (·.2)).length / 4)

/-- Leave self-refresh on channel `n` (R331). -/
def Dev.srExit (d : Dev) (n : Nat) : Dev :=
  let d := d.setBit (R.HOI_CH_STATUS n) 1 false
  d.setBit R.HOI_STATUS 5 (d.rbit (R.HOI_CH_STATUS 0) 1 || d.rbit (R.HOI_CH_STATUS 1) 1)

/-- A column command for the burst of DRAM address `a`: self-refresh is left, the row opened and counted, the commands
kept in the retry buffer. None while a recovery runs, or while the neighbour queue holds the activate (R327, R329 to
R331). -/
def Dev.burstIssue (d : Dev) (a : Nat) (write : Bool) : Option Dev :=
  let n := chanOf a
  let l := d.locOf a
  let bank := l.bank
  let c := d.hoiCh n
  if c.recovery.isSome then none
  else
    let isOpen := (mget c.openRows bank).any (fun p => p.1 == l.row)
    if !isOpen && d.rhFull n bank l.row then none
    else
      let d := d.srExit n
      let d := if isOpen then d
        else
          let d := if (mget c.openRows bank).isSome then d.retryPut n l.sc l.rank else d
          (d.retryPut n l.sc l.rank).rhActivate n bank l.row
      let d := (d.retryPut n l.sc l.rank).tagTouch n (chanBurst a) write
      some (d.onHoiCh n (fun c => { c with
        lastReq := d.now
        openRows := if d.fld (R.HOI_CH_PAGE n) 7 0 = 0 then mdel c.openRows bank else mput c.openRows bank (l.row, d.now) }))

/-- A held activate starts counting stall cycles (R329). -/
def Dev.noteStall (d : Dev) (a : Nat) : Dev :=
  let n := chanOf a
  if (d.hoiCh n).recovery.isNone then d.onHoiCh n (fun c => { c with stallSince := c.stallSince <|> some d.now }) else d

/-- Fault 0x1303, at most once per round per channel (R321). -/
def Dev.burstFault (d : Dev) (n : Nat) : Dev :=
  let r := d.reg64 R.FMN_ROUND + 1
  if (d.hoiCh n).logged = r then d else (d.logFault 0x1303 .n).onHoiCh n (fun c => { c with logged := r })

/-- An uncorrectable read of a rank by a port other than the management window: 16 in a round start a lane test (R332). -/
def Dev.rankUncorr (d : Dev) (n rank : Nat) : Dev :=
  let r := d.reg64 R.FMN_ROUND
  let (r0, k0) := mgetD (d.hoiCh n).uncorr rank (r, 0)
  let k := if r0 = r then k0 + 1 else 1
  let d := d.onHoiCh n (fun c => { c with uncorr := mput c.uncorr rank (r, k) })
  if k = 16 && d.rbit R.HOI_CTRL 4 && d.hoi.laneTest.isNone then { d with hoi := { d.hoi with laneTest := some (n, rank, false) } } else d

/-- A burst read judged by its codewords and its tag (R321): `e0`, `e1` bytes in error in the codewords, `tagBad` both tag
copies damaged, `window` the management window. Answers the device and whether each word is delivered poisoned. -/
def Dev.judgeBurst (d : Dev) (a e0 e1 : Nat) (tagBad window : Bool) : Dev × Bool × Bool :=
  let n := chanOf a
  let unc := fun (e : Nat) => decide (2 ≤ e ∧ e ≤ 3)
  let wrong := decide (4 ≤ e0) || decide (4 ≤ e1)
  let corr := e0 == 1 || e1 == 1
  let d := if corr then d.inc64 (R.HOI_CNT_CORR n) 1 else d
  let d := if corr && d.rbit R.HOI_CTRL 3 then
      if 16 ≤ (d.hoiCh n).wb.length then d.inc64 (R.HOI_CNT_WB_DROP n) 1
      else d.onHoiCh n (fun c => { c with wb := c.wb ++ [a / 64] })
    else d
  let uncorrectable := fun (d : Dev) =>
    let d := (d.inc64 (R.HOI_CNT_UNCORR n) 1).burstFault n
    (if window then d else d.rankUncorr n (d.locOf a).rank, true, true)
  let mismatch := fun (d : Dev) => ((d.inc64 (R.HOI_CNT_TAG n) 1).burstFault n, true, true)
  match d.tagOf (a / 64) with
  | some t =>
    if unc e0 || unc e1 then uncorrectable d
    else if wrong || tagBad then mismatch d
    else if t.epoch = d.epoch8 then (d, t.p0, t.p1)
    else (d.inc64 (R.HOI_CNT_STALE n) 1, true, true)
  -- never written since power-on: whether the codewords or the tags fail is not stated (log entry 28)
  | none => if bit (d.fresh 32) 0 || unc e0 || unc e1 then uncorrectable d.drew else mismatch d.drew

/-- A Bulk request of `n` words of activity `act` is admitted, or its activity is noted as spent (R248, R326). -/
def Dev.admitWords (d : Dev) (act n : Nat) : Dev × Bool :=
  match d.tryServe act n false with
  | some d => (d, true)
  | none => ({ d with fmn := { d.fmn with starved := if d.fmn.starved.contains act then d.fmn.starved else act :: d.fmn.starved } }, false)

/-- A burst read of activity `act` at byte address `a` (R321, R322, R326). Its words stand in `hoi.last`. -/
def State.burstRead (s : State) (act a e0 e1 : Nat) (tagBad : Bool) : State × Bool :=
  let d := s.dev
  let a := a / 64 * 64
  let done := fun (d : Dev) (l : List Byte) (p : Bool × Bool) => ({ s with dev := { d with hoi := { d.hoi with last := l, lastPoison := p } } }, true)
  if d.hoistFailed then done d (List.replicate 64 0#8) (true, true)
  else if !d.hoistServing then (s, false)
  else if d.hoistBytes ≤ a then done d (List.replicate 64 0#8) (false, false)
  else
    let (d, ok) := d.admitWords act 2
    if !ok then ({ s with dev := d }, false)
    else match d.burstIssue a false with
      | none => ({ s with dev := s.dev.noteStall a }, false)
      | some d =>
        let (d, p0, p1) := d.judgeBurst a e0 e1 tagBad (act == 18)
        let w := fun (p : Bool) (b : Nat) => if p then List.replicate 32 0#8 else dramBytes s.dram b 32
        done d (w p0 a ++ w p1 (a + 32)) (p0, p1)

/-- DRAM_READ (R321). -/
def execDramRead (t activity addr err0 err1 : Nat) (tagBad : Bool) (s : State) : Out :=
  s.atTickMem t (fun s => (s.burstRead activity addr err0 err1 tagBad).1)

/-- A write of one or two whole words of activity `act` (R322): 2 words are charged for a burst, 4 for a merged write. A
later write cancels a queued write-back (R323). -/
def State.burstWrite (s : State) (act a : Nat) (data : List Byte) (poison : Bool) (e0 e1 : Nat) : State × Bool :=
  let d := s.dev
  let whole := decide (64 ≤ data.length) && a % 64 == 0
  if d.hoistFailed then (s, true)
  else if !d.hoistServing then (s, false)
  else if d.hoistBytes ≤ a then (s, true)
  else
    let (d, ok) := d.admitWords act (if whole then 2 else 4)
    if !ok then ({ s with dev := d }, false)
    else match d.burstIssue a true with
      | none => ({ s with dev := s.dev.noteStall a }, false)
      | some d =>
        let n := chanOf a
        -- the merge reads the burst first
        let (d, b0, b1) := if whole then (d, false, false) else d.judgeBurst a e0 e1 false (act == 18)
        let d := d.onHoiCh n (fun c => { c with wb := c.wb.filter (· != a / 64) })
        let s := { s with dev := d }
        if whole then
          (((s.dramPutWord (a / 32) (data.take 32) poison).dramPutWord (a / 32 + 1) ((data.drop 32).take 32) poison), true)
        else
          -- the other word is lost when the read was poisoned
          let t : DTag := { lo := a / 64, hi := a / 64 + 1, epoch := d.epoch8, p0 := b0, p1 := b1 }
          let s := if b0 || b1 then s.onDev (fun d => d.putTag t) else s
          (s.dramPutWord (a / 32) ((data ++ List.replicate 32 0#8).take 32) poison, true)

/-- DRAM_WRITE (R322): 32 bytes are one word, 64 a whole burst; `err0` and `err1` are errors of a merge's read. -/
def execDramWrite (t activity addr : Nat) (data : List Byte) (poison : Bool) (err0 err1 : Nat) (s : State) : Out :=
  s.atTickMem t (fun s => (s.burstWrite activity (addr / 32 * 32) data poison err0 err1).1)

/-- CORRECTED_WRITE_BACK (R323): the oldest queued burst of channel `ch` is written back in corrected form. -/
def execCorrectedWriteBack (t ch : Nat) (s : State) : Out :=
  s.atTick t (fun d => if d.hoistServing && (d.hoiCh ch).recovery.isNone then d.onHoiCh ch (fun c => { c with wb := c.wb.drop 1 }) else d)

/-! Refresh and row disturbance (R327 to R329). -/

/-- Some real-time port shows panic: the lode write-back, or the waveform port as its operand says (log entry 22). -/
def Dev.rtPanic (d : Dev) (wav : Bool) : Bool := d.rbit R.HST_STATUS 1 || wav

/-- Banks of rank `rank`, or of bank index `ba` in all its groups, close. -/
def Dev.closeRank (d : Dev) (n rank : Nat) (ba : Option Nat) : Dev :=
  d.onHoiCh n (fun c => { c with openRows := c.openRows.filter (fun p => !(p.1 / 32 % 2 == rank && ba.all (fun x => x == p.1 % 4))) })

/-- REFRESH_DUE (R328): postponed while a panic is high, by at most 4 intervals, or while a recovery runs; else issued,
with what was postponed. `bankIdx` is the index a same-bank refresh takes. -/
def execRefreshDue (t ch rank bankIdx : Nat) (wavPanic : Bool) (s : State) : Out :=
  s.atTick t (fun d =>
    if 2 ≤ ch ∨ !d.hoistServing ∨ d.rbit (R.HOI_CH_STATUS ch) 1 then d
    else
      let p := d.fld (R.HOI_CH_STATUS ch) 6 4
      if (d.hoiCh ch).recovery.isSome then d.setFld (R.HOI_CH_STATUS ch) 6 4 (Nat.min 7 (p + 1))
      else if d.rtPanic wavPanic && decide (p < 4) then d.setFld (R.HOI_CH_STATUS ch) 6 4 (p + 1)
      else
        let d := if d.rtPanic wavPanic then d else d.setFld (R.HOI_CH_STATUS ch) 6 4 0
        (d.retryPut ch 0 rank).closeRank ch rank (if d.rbit (R.HOI_CH_STATUS ch) 2 then some (bankIdx % 4) else none))

/-- TEMPERATURE_POLL (R328, DDR5): whether the rank asks for the halved interval. -/
def execTemperaturePoll (t ch rank : Nat) (asks : Bool) (s : State) : Out :=
  s.atTick t (fun d => if d.hoistServing && d.ddr5 && decide (ch < 2) then d.onHoiCh ch (fun c => { c with hot := mput c.hot rank asks }) else d)

/-- NEIGHBOUR_REFRESH (R329): the oldest queued refresh activates the rows within two of the row. -/
def execNeighbourRefresh (t ch : Nat) (s : State) : Out :=
  s.atTick t (fun d =>
    if !d.hoistServing || (d.hoiCh ch).recovery.isSome then d
    else match (d.hoiCh ch).rhQueue with
    | [] => d
    | (bank, row) :: r =>
      let rows := 2 ^ (d.geom ch).row
      let near := (if 2 ≤ row then [row - 2] else []) ++ (if 1 ≤ row then [row - 1] else []) ++ [row + 1, row + 2].filter (fun x => decide (x < rows))
      -- cycles of CK_DRAM: 2 per tick at 6400, half at 1600, else 1
      let cyc := match (d.hoiCh ch).stallSince with | some x => (match d.fld R.HOI_STATUS 9 8 with | 0 => 2 * (d.now - x) | 3 => (d.now - x) / 2 | _ => d.now - x) | none => 0
      let d := (d.onHoiCh ch (fun c => { c with rhQueue := r, stallSince := none, openRows := mdel c.openRows bank })).inc64 (R.HOI_CNT_RH_STALL ch) cyc
      near.foldl (fun d x => (d.retryPut ch (bank / 64) (bank / 32 % 2)).rhActivate ch bank x) d)

/-- REFRESH_WINDOW_END (R329). -/
def execRefreshWindowEnd (t ch : Nat) (s : State) : Out :=
  s.atTick t (fun d => d.onHoiCh ch (fun c => { c with rh := c.rh.map (fun p => (p.1, p.2.map (fun q => (q.1, 0)))) }))

/-- ROW_CLOSE_ON_IDLE (R327): `maxOpen` says the maximum row-open time would be passed. -/
def execRowCloseOnIdle (t ch bank : Nat) (maxOpen : Bool) (s : State) : Out :=
  s.atTick t (fun d => match mget (d.hoiCh ch).openRows bank with
    | some (_, x) =>
      if maxOpen || decide (x + 16 * d.fld (R.HOI_CH_PAGE ch) 7 0 ≤ d.now) then
        (d.retryPut ch (bank / 64) (bank / 32 % 2)).onHoiCh ch (fun c => { c with openRows := mdel c.openRows bank })
      else d
    | none => d)

/-! Parity alert (R330). -/

/-- The recovery of channel `n` ends. -/
def Dev.recoverEnd (d : Dev) (n : Nat) : Dev := (d.onHoiCh n (fun c => { c with recovery := none })).setBit (R.HOI_CH_STATUS n) 3 false

/-- The third attempt has failed: every command of the buffer gets an error response; four within a second fail Hoist. -/
def Dev.fallBack (d : Dev) (n : Nat) : Dev :=
  let d := ((d.recoverEnd n).inc64 (R.HOI_CNT_FALLBACK n) 1).logFault 0x1304 .n
  let falls := d.now :: (d.hoiCh n).falls.filter (fun x => decide (d.now < x + 1600000000))
  let d := d.onHoiCh n (fun c => { c with retry := [], falls := falls })
  if 4 ≤ falls.length then d.failHoist 0x1305 else d

/-- PARITY_ALERT (R330, R315): `inReplay` says it comes during a replay. -/
def execParityAlert (t ch : Nat) (inReplay : Bool) (s : State) : Out :=
  s.atTick t (fun d =>
    if 2 ≤ ch then d
    else
      let d := d.inc64 (R.HOI_CNT_ALERT ch) 1
      if d.hoi.training.isSome then d.trainStep false
      else if !d.hoistServing then d
      else
        let d := d.setBit (R.HOI_CH_STATUS ch) 3 true
        match (d.hoiCh ch).recovery with
        | some r =>
          if inReplay && r.replaying then
            if 3 ≤ r.attempt then d.fallBack ch
            else d.onHoiCh ch (fun c => { c with recovery := some { r with attempt := r.attempt + 1, replaying := false } })
          else d
        | none => d.onHoiCh ch (fun c => { c with recovery := some { start := d.now } }))

/-- ALERT_N_RISE (R330): parity status cleared, banks precharged, the buffer replayed; `clean` says the replay completes
without a further alert. -/
def execAlertNRise (t ch : Nat) (clean : Bool) (s : State) : Out :=
  s.atTick t (fun d => match (d.hoiCh ch).recovery with
    | none => d
    | some r =>
      if r.replaying then (if clean then d.recoverEnd ch else d)
      else
        let d := d.onHoiCh ch (fun c => { c with openRows := [], recovery := some { r with replaying := true } })
        if clean then d.recoverEnd ch else d)

/-- PARITY_RECOVERY_TIMEOUT (R330): a recovery longer than 100 µs. -/
def execParityRecoveryTimeout (t ch : Nat) (s : State) : Out :=
  s.atTick t (fun d => match (d.hoiCh ch).recovery with
    | some r => if r.start + 160000 < d.now then (d.recoverEnd ch).failHoist 0x1305 else d
    | none => d)

/-! Self-refresh (R331). -/

/-- Every real-time port is idle: empty queues, no panic. -/
def Dev.rtIdle (d : Dev) : Bool :=
  d.hst.lodeQueue.isEmpty && !d.rbit R.HST_STATUS 1 && d.taps.all (fun p => p.2.cap.isNone && p.2.writing.isNone)

/-- SELF_REFRESH_ENTRY (R331): `aborted` says a request arrived before the entry command was issued. -/
def execSelfRefreshEntry (t ch : Nat) (aborted : Bool) (s : State) : Out :=
  s.atTick t (fun d =>
    let idle := decide ((d.hoiCh ch).lastReq + 1600 * d.fld R.HOI_SR_CFG 31 16 ≤ d.now)
    if 2 ≤ ch ∨ !d.hoistServing ∨ !d.rbit R.HOI_SR_CFG 0 ∨ !idle ∨ !d.rtIdle ∨ d.rbit (R.HOI_CH_STATUS ch) 1 then d
    else if aborted then d.inc64 (R.HOI_CNT_SR_ABORT ch) 1
    else
      let d := ((d.setBit (R.HOI_CH_STATUS ch) 1 true).setBit R.HOI_STATUS 5 true).inc64 (R.HOI_CNT_SR_ENTRY ch) 1
      d.onHoiCh ch (fun c => { c with openRows := [] }))

/-- SELF_REFRESH_EXIT (R331). -/
def execSelfRefreshExit (t ch : Nat) (s : State) : Out :=
  s.atTick t (fun d => if ch < 2 then (d.srExit ch).onHoiCh ch (fun c => { c with lastReq := d.now }) else d)

/-! Lane tests and failure (R332, R333). -/

/-- LANE_TEST (R332). -/
def execLaneTest (src t ch rank : Nat) (s : State) : Out :=
  let w : Word := BitVec.ofNat 32 (2 + 4096 * (ch % 2) + 8192 * (rank % 2))
  s.atTick t (fun d => d.cmdWrite src R.HOI_CMD w (fun d => d.hoiCmd w))

/-- A device position is marked dead. -/
def Dev.markDead (d : Dev) (n rank pos : Nat) : Dev :=
  let a := if rank = 0 then R.HOI_CH_DEAD0 n else R.HOI_CH_DEAD1 n
  if d.rbit a pos then d else (((d.setBit a pos true).setBit R.HOI_STATUS (16 + n) true).raiseD 0x1306 (.dramDevice n rank pos))

/-- LANE_TEST_DONE (R332): `bad` are the device positions with a mismatching lane. -/
def execLaneTestDone (t : Nat) (bad : List Nat) (s : State) : Out :=
  s.atTick t (fun d => match d.hoi.laneTest with
    | none => d
    | some (n, rank, cmd) =>
      let d := bad.foldl (fun (d : Dev) p => if p < 20 then d.markDead n rank p else d) { d with hoi := { d.hoi with laneTest := none } }
      if cmd && d.fld R.HOI_CMD 9 8 == 3 then d.setFld R.HOI_CMD 9 8 1 else d)

/-- HOIST_QUEUE_PARITY_ERROR (R333). -/
def execHoistQueueParityError (t : Nat) (s : State) : Out := s.atTick t (fun d => d.failHoist 0x1307)

end Sys2Proof.Machine
end

