-- ==== Sys2Proof/Machine/Points.lean ====
section
/-! DEFINITION. The point block's commands (chapter 11): acceptance, fallbacks, packets, gap records, Bulk exports. -/
namespace Sys2Proof.Machine

/-- The stored echoes of a staged record: range and channel (Table 11-2). -/
def echoKeys (ws : List Word) (n : Nat) : List (Nat × Nat) :=
  (List.range n).map (fun i => (bits (ws.getD (4 + 2 * i) 0) 23 0, bits (ws.getD (5 + 2 * i) 0) 31 24))

/-- Echoes stand in ascending range, ties by ascending channel (R231 step 8). -/
def echoOrder : List (Nat × Nat) → Bool
  | a :: b :: r => (decide (a.1 < b.1) || (a.1 == b.1 && decide (a.2 ≤ b.2))) && echoOrder (b :: r)
  | _ => true

/-- A staged record is malformed for the cell it names (R233); the cell is none when it is not assigned to the core. -/
def malformed (ws : List Word) (tooLong : Bool) (cell : Option CellRec) : Bool :=
  let n := bits (ws.getD 1 0) 19 16
  tooLong || ws.length != 4 + 2 * n || decide (8 < n) ||
  match cell with
  | none => true
  | some c => (c.recorded && !c.heldClosed) || (echoKeys ws n).any (fun e => !(c.channels ++ c.noSlot).contains e.2) || !echoOrder (echoKeys ws n)

/-- Bytes held in the point buffer. -/
def Dev.bufferFill (d : Dev) : Nat :=
  ((d.pnt.queues.filter (fun q => q.1 < 5)).map (fun q => (q.2.map (fun r => cdiv r.body.length 64)).sum)).sum

/-- The point block takes the commit of core `k` (R232, R233). -/
def Dev.takeCommit (d : Dev) (k : Nat) : Dev :=
  let c := d.core k
  match c.committing with
  | none => d
  | some t0 =>
    if 1024 ≤ d.bufferFill then d
    else
      let ws := c.staging
      let idx := bits (ws.getD 0 0) 31 16 + 65536 * bits (ws.getD 1 0) 7 0
      let cell := (c.batches.find? (fun b => b.cell == idx)).bind (fun b => d.cellOf b.uid)
      let d := d.inc64 (R.ASY_CNT_STALL k) ((d.now - t0) / 2)
      let bad := malformed ws c.stagingOver cell
      let held := match cell with | some r => r.heldClosed | none => false
      let d := d.onCore k (fun c => { c with committing := none, staging := [], stagingOver := false, commitOk := !bad && !held, commitBad := bad })
      if bad then (d.inc64 R.PNT_CNT_MALFORMED 1).logFault 0x0D01 .n
      else match cell with
        | none => d
        | some r =>
          if held then d
          else
            let n := bits (ws.getD 1 0) 19 16
            let pois := r.poisoned || c.sticky.testBit 4
            let head := d.pntHeader r (bits (ws.getD 1 0) 15 8) n (bit (ws.getD 1 0) 23) false pois (d.cellDegraded r)
            let body := head ++ (ws.drop 4).flatMap (fun (w : Word) => leBytes 4 w.toNat)
            let worst := d.pntHeader r r.lowest 0 false false true true
            (d.inc64 (R.ASY_CNT_REC k) 1).acceptRecord r body worst r.lastX

/-- POINT_ACCEPT (R232, R233). -/
def execPointAccept (t core : Nat) (s : State) : Out := s.atTick t (fun d => d.takeCommit core)

/-- NO_BATCH_FALLBACK (R234): every accepted cell that opened no histogram and tried none, once its shots and verdicts
are complete. -/
def execNoBatchFallback (t : Nat) (s : State) : Out :=
  s.atTick t (fun d =>
    let l := (d.seq.cells.map (·.2)).filter (fun c => !c.recorded && c.setCount == 0 && d.cellClosable c.uid && d.gat.wins.all (fun w => w.uid != c.uid || w.opened))
    (l.foldl (fun d c => (d.onCell c.uid (fun c => { c with closed := true })).fallback c true false d.now) d).retireCells)

/-! Packets (R237, R239, R355, R358). -/

/-- How many head records of a queue one packet takes: one kind, at most 255 records, within `room` bytes but at least
one. -/
def packCount (kind : Nat) : Nat → Nat → List PntRec → Nat
  | 0, _, _ => 0
  | _, _, [] => 0
  | n + 1, room, r :: l => if r.kind = kind ∧ r.body.length ≤ room then 1 + packCount kind n (room - r.body.length) l else 0

/-- The 16-byte packet header (Table 11-6). -/
def Dev.packetHeader (d : Dev) (stream kind records seq len : Nat) : List Byte :=
  leBytes 1 stream ++ leBytes 1 kind ++ leBytes 1 (d.devId % 16 + 16) ++ leBytes 1 records ++ leBytes 4 seq ++ leBytes 2 len ++ leBytes 6 (d.time % 2 ^ 48)

/-- A copy packet is dropped (R239). -/
def Dev.copyDrop (d : Dev) : Dev := (d.inc64 R.PNT_CNT_COPY_DROP 1).setBit R.PNT_STATUS 2 true

/-- The CSI-2 copy of a packet (R355, R356). -/
def Dev.csiCopy (d : Dev) (n : Nat) (bytes : List Byte) (room : Bool) : Dev :=
  if 65535 < bytes.length then (d.inc64 R.CSI_CNT_OVERSIZE 1).copyDrop
  else if !room || !d.rbit R.CSI_CTRL 0 || !d.rbit R.CSI_STATUS 0 || d.net.csiWait then d.copyDrop
  else
    let vc := d.fld (R.PNT_STREAM_CFG n) 8 7
    let dt := 0x30 + d.fld (R.PNT_STREAM_CFG n) 11 9
    ({ d with net := { d.net with csiLast := (vc, dt, bytes) } }).inc64 R.CSI_CNT_PKT 1

/-- The VLAN tag of a frame of class `cls` (R359). -/
def Dev.vlanTag (d : Dev) (cls : Nat) : Option Nat :=
  if d.rbit R.ETH_CTRL 4 && cls != 4 then
    let pcp := match cls with | 0 => d.fld R.ETH_VLAN 14 12 | 1 => d.fld R.ETH_VLAN 18 16 | 2 => d.fld R.ETH_VLAN 22 20 | _ => d.fld R.ETH_VLAN 26 24
    some (d.fld R.ETH_VLAN 11 0 + 8192 * pcp)
  else none

/-- Send one frame on Ethernet (R358, R359). -/
def Dev.ethSend (d : Dev) (cls src dst : Nat) (payload : List Byte) : Dev :=
  let x : EthTx := { cls := cls, srcPort := src, dstPort := dst, tag := d.vlanTag cls, ipv6 := d.rbit R.ETH_CTRL 3, payload := payload }
  ({ d with net := { d.net with ethLast := some x } }).inc64 R.ETH_CNT_TX 1

/-- The Ethernet interface is enabled and its link is up. -/
def Dev.ethUp (d : Dev) : Bool := d.rbit R.ETH_CTRL 0 && d.rbit R.ETH_STATUS 0

/-- The Ethernet copy of a packet: not sent when its datagram would exceed the MTU (R357, R358). -/
def Dev.ethCopy (d : Dev) (n : Nat) (bytes : List Byte) (room : Bool) : Dev :=
  let mtu := if d.rbit R.ETH_CTRL 6 then 9000 else 1500
  let hdr := if d.rbit R.ETH_CTRL 3 then 48 else 28
  let base := d.fld R.ETH_UDP 15 0
  if mtu < bytes.length + hdr || !room || !d.ethUp then d.copyDrop
  else d.ethSend (if n < 4 then 0 else if n = 4 then 1 else 2) base (base + n) bytes

/-- A stream's configuration write held to the packet boundary takes effect (R245). -/
def Dev.streamApply (d : Dev) (n : Nat) : Dev :=
  let mine := fun (p : Nat × Word) => p.1 == R.PNT_STREAM_CFG n || p.1 == R.PNT_STREAM_WAIT n
  let l := d.pnt.cfgPend.filter mine
  l.foldl (fun d p => d.setReg p.1 p.2) { d with pnt := { d.pnt with cfgPend := d.pnt.cfgPend.filter (fun p => !mine p) } }

/-- Close one packet of stream `n` when it is due (R237). `errs` are the queue places whose words are poisoned (R235). -/
def Dev.closePacket (d : Dev) (n : Nat) (errs : List Nat) (csiRoom ethRoom : Bool) : Dev :=
  let q := d.queue n
  match q with
  | [] => d.streamApply n
  | r0 :: _ =>
    let maxLen := d.fld (R.PNT_STREAM_CFG n) 31 16
    let wait := d.fld (R.PNT_STREAM_WAIT n) 10 0
    let k := if wait = 0 then 1 else Nat.max 1 (packCount r0.kind 255 maxLen q)
    if !(wait == 0 || decide (k < q.length) || decide (r0.at_ + wait ≤ d.now) || decide (8 ≤ n)) then d
    else
      let bad := (List.range k).filter (fun i => errs.contains i && (q.getD i {}).kind == 1)
      let recs := (List.range k).map (fun i => let r := q.getD i {}; if bad.contains i then { r with body := r.fallback } else r)
      let d := bad.foldl (fun d _ => (d.inc64 R.PNT_CNT_FALLBACK 1).logFault 0x0D04 .n) d
      let payload := recs.flatMap (·.body)
      let bytes := d.packetHeader n r0.kind k r0.seq payload.length ++ payload
      let p : Packet := { stream := n, kind := r0.kind, records := k, seq := r0.seq, bytes := bytes, xs := recs.filterMap (·.x), order := d.pnt.order }
      let d := { d with pnt := { d.pnt with queues := mput d.pnt.queues n (q.drop k), order := d.pnt.order + 1 } }
      let d := if d.streamLaneEn n && n != 4 then { d with pnt := { d.pnt with lanes := mupd d.pnt.lanes (d.streamLane n) [] (fun l => l ++ [p]) } } else d
      let d := if d.rbit (R.PNT_STREAM_CFG n) 6 && n != 4 then d.csiCopy n bytes csiRoom else d
      let d := if d.rbit (R.PNT_STREAM_CFG n) 12 && n != 4 then d.ethCopy n bytes ethRoom else d
      d.streamApply n

/-- PACKET_CLOSE (R237, R239). -/
def execPacketClose (t stream : Nat) (errRecords : List Nat) (csiRoom ethRoom : Bool) (s : State) : Out :=
  s.atTick t (fun d => d.closePacket stream errRecords csiRoom ethRoom)

/-- BULK_DROP_GAP_RECORD (R241): consecutive drops of a Bulk stream are reported once its queue has room. -/
def execBulkDropGapRecord (t stream : Nat) (s : State) : Out :=
  s.atTick t (fun d =>
    match mget d.pnt.drops stream with
    | some n => if n = 0 then d else ({ d with pnt := { d.pnt with drops := mdel d.pnt.drops stream } }).gap stream n 2
    | none => d)

/-! PNT_CMD (R240, R242). -/

/-- A journal entry's 32 bytes (Table 20-3). -/
def JEntry.bytes (e : JEntry) : List Byte :=
  leBytes 8 e.time ++ leBytes 4 e.addr ++ leBytes 4 e.old.toNat ++ leBytes 4 e.new.toNat ++ leBytes 1 e.source ++ leBytes 1 e.flags ++ leBytes 2 0 ++ leBytes 8 e.seq

/-- The journal from oldest to newest entry (R415). -/
def Dev.journalList (d : Dev) : List JEntry :=
  let idx := if d.flg.wrapped then (List.range 1024).map (fun i => (d.flg.jwr + i) % 1024) else List.range d.flg.jwr
  idx.filterMap (fun i => mget d.flg.ring i)

/-- What an accepted write of PNT_CMD does (Table 11-10). -/
def Dev.pntCmd (d : Dev) (w : Word) : Dev :=
  let a := R.PNT_CMD
  let done := fun (d : Dev) => d.setReg a (cmdWord w 0xF0FF 1 0)
  let rej := fun r => d.setReg a (cmdWord w 0xF0FF 2 r)
  match bits w 7 0 with
  | 1 =>
    if d.pnt.export_.isSome then rej 2
    else match d.hst.sealedBank with
      | none => rej 1
      | some (bank, ep, mp) =>
        let n := if lodeBad mp then 0 else bits (mp.getD 1 0) 23 0 * bits (mp.getD 2 0) 16 8 * 2 ^ bits (mp.getD 3 0) 12 11
        if n = 0 then done d
        else done (({ d with pnt := { d.pnt with export_ := some { bank := bank, epoch := ep, map := mp, total := n } } }).setBit R.PNT_STATUS 3 true)
  | 2 => if d.pnt.export_.isSome then rej 2 else done (d.journalList.foldl (fun d e => d.bulk 11 6 e.bytes) d)
  | 3 =>
    let n := bits w 15 12
    if n < 8 ∨ 13 < n then rej 3
    else
      let k := (d.queue n).length
      done (({ d with pnt := { d.pnt with queues := mput d.pnt.queues n [] } }).gap n k 5)
  | _ => rej 4

/-- LODE_EXPORT (R240). -/
def execLodeExport (src t : Nat) (s : State) : Out := s.atTick t (fun d => d.cmdWrite src R.PNT_CMD 1#32 (fun d => d.pntCmd 1#32))

/-- JOURNAL_DUMP (R240). -/
def execJournalDump (src t : Nat) (s : State) : Out := s.atTick t (fun d => d.cmdWrite src R.PNT_CMD 2#32 (fun d => d.pntCmd 2#32))

/-- FLUSH (R242). -/
def execFlush (src t stream : Nat) (s : State) : Out :=
  let w : Word := BitVec.ofNat 32 (3 + 4096 * (stream % 16))
  s.atTick t (fun d => d.cmdWrite src R.PNT_CMD w (fun d => d.pntCmd w))

/-- One slot of the sealed bank is examined by the running export; a valid one is sent (R191, R240). -/
def State.exportStep (s : State) : State :=
  match s.dev.pnt.export_ with
  | none => s
  | some x =>
    let d := s.dev
    let i := x.next
    let e := dramLe s.dram (d.lodeAnchorAddr x.bank i) 8
    let per := bits (x.map.getD 2 0) 16 8 * 2 ^ bits (x.map.getD 3 0) 12 11
    let cell := bits (x.map.getD 0 0) 23 0 + i / per
    let ch := bits (x.map.getD 2 0) 7 0 + i % per / 2 ^ bits (x.map.getD 3 0) 12 11
    let bad := (d.lodeUnread x.bank (fun _ => i) 1 true) != []
    let d := if !bad && nbits e 31 0 == x.epoch && nbits e 44 44 == 0 then
        d.bulk 9 4 (leBytes 4 x.epoch ++ leBytes 3 cell ++ leBytes 1 ch ++ leBytes 4 i ++ leBytes 2 (nbits e 43 32) ++ leBytes 2 (nbits e 63 48)
          ++ leBytes 64 (dramLe s.dram (d.lodeSlotAddr x.bank i) 64))
      else d
    if x.total ≤ i + 1 then { s with dev := ({ d with pnt := { d.pnt with export_ := none } }).setBit R.PNT_STATUS 3 false }
    else { s with dev := { d with pnt := { d.pnt with export_ := some { x with next := i + 1 } } } }

/-- ACTIVITY_REQUEST (R248, R249, R251): a budgeted request is served, waits, or is recorded as an overrun. A served
request of activity 16 lets a running lode export examine its next slot (R240). -/
def execActivityRequest (t activity units : Nat) (panic : Bool) (s : State) : Out :=
  s.atTickMem t (fun s =>
    if 24 ≤ activity then s
    else
      let (d, ok) := s.dev.request activity units panic
      let s := { s with dev := d }
      if ok && activity == 16 && d.hoistServing then s.exportStep else s)

end Sys2Proof.Machine
end

