-- ==== Sys2Proof/Machine/Faults.lean ====
section
/-! DEFINITION. The fault log's and the journal's commands (chapter 20). -/
namespace Sys2Proof.Machine

/-- Mark entries cleared (R411). -/
def Dev.clearWhere (d : Dev) (f : Nat → LogEntry → Bool) : Dev :=
  { d with flg := { d.flg with log := d.flg.log.map (fun p => if f p.1 p.2 then (p.1, { p.2 with cleared := true }) else p) } }

/-- The journal restarts: the newest entry, which is the clearing write's own, is kept at index 0, and one internal
entry with the number discarded follows at index 1 (R415). -/
def Dev.clearJournal (d : Dev) (w : Word) : Dev :=
  let own := mget d.flg.ring ((d.flg.jwr + 1023) % 1024)
  let n := d.flg.ring.length - 1
  let ring : Map JEntry := match own with | some e => [(0, e)] | none => []
  let d := { d with flg := { d.flg with ring := ring, jwr := 1, wrapped := false } }
  d.journal 0x0F R.FLG_CMD (BitVec.ofNat 32 n) w false false

/-- What an accepted write of FLG_CMD does (R411, R415, Table 20-6). -/
def Dev.flgCmd (d : Dev) (w : Word) : Dev :=
  let put := fun (d : Dev) st r => d.setReg R.FLG_CMD (cmdWord w 0xFF0000FF st r)
  if d.inState [.reset, .headframe] then put d 2 1
  else match bits w 7 0 with
    | 1 => if (mget d.flg.log (bits w 31 24)).isNone then put d 2 2
           else put (d.clearWhere (fun i _ => i == bits w 31 24)) 1 0
    | 2 => put (d.clearWhere (fun _ e => e.code == d.fld R.FLG_CODE 15 0)) 1 0
    | 3 => let d := d.clearWhere (fun _ _ => true)
           put { d with top := { d.top with unloggedCauses := [] } } 1 0
    | 4 => put (d.clearJournal w) 1 0
    | _ => put d 2 3

/-- CLEAR (R411). -/
def execClear (src t index : Nat) (s : State) : Out :=
  let w : Word := BitVec.ofNat 32 (1 + 2 ^ 24 * (index % 256))
  s.atTick t (fun d => d.cmdWrite src R.FLG_CMD w (fun d => d.flgCmd w))

/-- CLEAR_CODE (R411): the code stands in FLG_CODE. -/
def execClearCode (src t : Nat) (s : State) : Out := s.atTick t (fun d => d.cmdWrite src R.FLG_CMD 2#32 (fun d => d.flgCmd 2#32))

/-- CLEAR_ALL (R411, R412). -/
def execClearAll (src t : Nat) (s : State) : Out := s.atTick t (fun d => d.cmdWrite src R.FLG_CMD 3#32 (fun d => d.flgCmd 3#32))

/-- CLEAR_JOURNAL (R415). -/
def execClearJournal (src t : Nat) (s : State) : Out := s.atTick t (fun d => d.cmdWrite src R.FLG_CMD 4#32 (fun d => d.flgCmd 4#32))

/-! The DRAM copy of the journal (R416). -/

/-- Length of the copy ring in bytes. -/
def Dev.copyLen (d : Dev) : Nat := 4096 * Nat.max 1 (d.fld R.FLG_JCOPY_LEN 18 0)

/-- Bytes of the copy ring in use. -/
def Dev.copyUsed (d : Dev) : Nat :=
  ((d.reg R.FLG_JCOPY_WR).toNat + d.copyLen - (d.reg R.FLG_JCOPY_RD).toNat % d.copyLen) % d.copyLen

/-- Pending geometry starts once the ring has drained, with both offsets at 0 (R275). -/
def Dev.copyApply (d : Dev) : Dev :=
  if d.flg.copyPend.isEmpty || d.copyUsed != 0 then d
  else
    let d := d.flg.copyPend.foldl (fun d p => d.setReg p.1 p.2) d
    { (d.setReg R.FLG_JCOPY_WR 0).setReg R.FLG_JCOPY_RD 0 with flg := { d.flg with copyPend := [] } }

/-- A write of FLG_JCOPY_BASE or FLG_JCOPY_LEN is held until the ring drains (R275). -/
def Dev.copyHold (d : Dev) (a : Nat) (v : Word) : Dev :=
  ({ d with flg := { d.flg with copyPend := mput d.flg.copyPend a v } }).copyApply

/-- A write of FLG_JCOPY_RD (R275). -/
def Dev.copyRead (d : Dev) (v : Word) : Dev := (d.setReg R.FLG_JCOPY_RD (BitVec.ofNat 32 (v.toNat / 32 * 32))).copyApply

/-- An entry is not copied (R416). -/
def Dev.copyLost (d : Dev) : Dev := (d.inc64 R.FLG_CNT_JCOPY_LOST 1).onceFault R.FLG_STATUS 10 0x1A01

/-- JOURNAL_COPY (R416): the oldest entry waiting is copied as activity 17, waits while the activity is spent, or is lost
when the ring is full or the activity has been spent for two rounds. -/
def State.journalCopy (s : State) : State :=
  let d := s.dev
  match d.flg.copyQueue with
  | [] => s
  | e :: rest =>
    let drop := fun (d : Dev) => { d with flg := { d.flg with copyQueue := rest, copySpent := none } }
    if !d.rbit R.FLG_JCOPY_CTRL 0 || !d.hoistServing then { s with dev := drop d }
    else if d.copyLen ≤ d.copyUsed + 32 then { s with dev := (drop d).copyLost }
    else
      let (d, ok) := d.admitWords 17 4
      let round := d.reg64 R.FMN_ROUND
      if !ok then
        match d.flg.copySpent with
        | none => { s with dev := { d with flg := { d.flg with copySpent := some round } } }
        | some r => if r + 2 ≤ round then { s with dev := (drop d).copyLost } else { s with dev := d }
      else
        let wr := (d.reg R.FLG_JCOPY_WR).toNat
        let s := ({ s with dev := drop d }).dramMerge ((d.reg R.FLG_JCOPY_BASE).toNat * 4096 + wr) e.bytes
        { s with dev := s.dev.setReg R.FLG_JCOPY_WR (BitVec.ofNat 32 ((wr + 32) % d.copyLen)) }

/-- JOURNAL_COPY (R416). -/
def execJournalCopy (t : Nat) (s : State) : Out := s.atTickMem t (fun s => s.journalCopy)

/-- LOG_PARITY_ERROR (R419): the log entry reads with valid = 0, or the journal entry with seq 0. -/
def execLogParityError (t : Nat) (journal : Bool) (index : Nat) (s : State) : Out :=
  s.atTick t (fun d =>
    let f := d.flg
    let f := if journal then { f with ring := f.ring.map (fun p => if p.1 == index then (p.1, { p.2 with seq := 0 }) else p) }
      else { f with log := mdel f.log index }
    ({ d with flg := f }).raise 0x1A02 .n)

end Sys2Proof.Machine
end

