-- ==== Sys2Proof/Machine/Calibration.lean ====
section
/-! DEFINITION. Calibration (chapter 19). The analogue searches are outside the model: what they end at is the operand of
the command that ends a run. -/
namespace Sys2Proof.Machine

/-- Some field of a trim word stands at an end of its range: a fail (R398). The skew, which R402 computes, has its own
limit. -/
def trimAtEnd (a : Nat) (w : Word) : Bool :=
  let at_ := fun (m l : Nat) => bits w m l == 0 || bits w m l == 2 ^ (m + 1 - l) - 1
  if 0x80000 ≤ a ∧ a < 0x84000 ∧ a % 64 = 0x10 then at_ 7 0 || at_ 15 8
  else if 0x80000 ≤ a ∧ a < 0x84000 ∧ a % 64 = 0x14 then at_ 4 0 || at_ 13 8 || at_ 21 16
  else if 0x280100 ≤ a ∧ a < 0x280180 then at_ 5 0
  else at_ 5 0 || at_ 12 8 || at_ 21 16

/-- The trims of channel `c` (Table 19-1). -/
def chanTrims (c : Nat) : List Nat := [R.RFE_TRIM_CMP c, R.RFE_TRIM_TDC c]

/-- The codes of the list whose address the predicate keeps. -/
def codesFor (codes : List (Nat × Word)) (l : List Nat) : List (Nat × Word) := codes.filter (fun p => l.contains p.1)

/-- A trim code enters its register's shadow copy: in force at the next frame boundary in RANGING, else at once
(R141). -/
def Dev.trimWrite (d : Dev) (a : Nat) (v : Word) : Dev :=
  let v := v &&& BitVec.ofNat 32 (match findReg a with | some r => r.rw | none => 0)
  if d.ranging then { d with shadow := mput d.shadow a v } else d.applyOne a v

/-- What an accepted write of CAL_CMD does (R400, R403, Table 19-6). -/
def Dev.calCmd (d : Dev) (w : Word) : Dev :=
  let put := fun (d : Dev) st r => d.setReg R.CAL_CMD (cmdWord w 0x7CFF st r)
  match bits w 7 0 with
  | 1 =>
    if d.top.state != .armed then put d 2 1
    else if d.cal.full.isSome then put d 2 2
    else (put { d with cal := { d.cal with full := some true } } 3 0).setBit R.CAL_STATUS 0 true
  | 2 => if !d.ranging then put d 2 1 else put (d.setBit R.CAL_PENDING (bits w 14 10) true) 1 0
  | _ => put d 2 3

/-- CAL_FULL (R400). -/
def execCalFull (src t : Nat) (s : State) : Out := s.atTick t (fun d => d.cmdWrite src R.CAL_CMD 1#32 (fun d => d.calCmd 1#32))

/-- CAL_PORT (R403). -/
def execCalPort (src t port : Nat) (s : State) : Out :=
  let w : Word := BitVec.ofNat 32 (2 + 1024 * (port % 32))
  s.atTick t (fun d => d.cmdWrite src R.CAL_CMD w (fun d => d.calCmd w))

/-- One shot of the skew step: tested by the gate and debited at its fire instant (R98, R105, R402). Answers whether it
was refused. EMIT_EN is high in the step. -/
def Dev.skewShot (d : Dev) (dec e : Nat) : Dev × Bool :=
  let inh := d.captured 0 dec || d.captured 1 dec || d.rbit R.EMT_REMOVED e ||
    (!d.emitSteerNone e && (d.captured (4 + d.emitSteer e) dec || d.captured (8 + d.emitSteer e) dec))
  if inh then (d.inc64 R.EMT_CNT_REF_INHIBIT 1, true)
  else if !d.budgetPasses e dec then (d.inc64 R.EMT_CNT_REF_BUDGET 1, true)
  else (d.debit { emitter := e, dec := dec } true, false)

/-- The skews of R402: each measured emitter's, and t_max. -/
def skews (times : List (Nat × Nat)) : List (Nat × Nat) × Nat :=
  let tmax := times.foldl (fun m p => Nat.max m p.2) 0
  (times.map (fun p => (p.1, tmax - p.2)), tmax)

/-- A bit set as a mask. -/
def maskOf (l : List Nat) : Nat := l.foldl (fun m i => m ||| 2 ^ i) 0

/-- The end of a full calibration (R398, R401, R402): `codes` are the codes the searches ended at, by trim register;
`badPorts`, `badEmit` and `badTaps` the units whose measurement missed a limit of Table 19-1; `times` the mean recorded
time of each emitter in the skew step and `shots` its shots by decision tick. -/
def Dev.calDone (d : Dev) (codes : List (Nat × Word)) (badPorts badEmit badTaps : Nat) (times shots : List (Nat × Nat)) : Dev :=
  match d.cal.full with
  | none => d
  | some byCmd =>
    let en := (d.reg R.CAL_SKEW_EN).toNat
    let d := if en = 0 then d else ({ d with emt := { d.emt with calFire := true } }).emitEnFollow
    let (d, refused) := (shots.filter (fun p => en.testBit p.2)).foldl (fun (q : Dev × List Nat) p =>
      let (d, r) := q.1.skewShot p.1 p.2
      (d, if r then p.2 :: q.2 else q.2)) (d, [])
    let (sk, tmax) := skews (times.filter (fun p => en.testBit p.1))
    let atEnd := fun (l : List Nat) => (codesFor codes l).any (fun p => trimAtEnd p.1 p.2)
    let chEn := fun c => d.rbit (R.RFE_CTRL c) 0
    let ports := (List.range 32).filter (fun q => badPorts.testBit q || (List.range 8).any (fun j => chEn (8 * q + j) && atEnd (chanTrims (8 * q + j))))
    let emits := (List.range 32).filter (fun e => badEmit.testBit e || refused.contains e || sk.any (fun p => p.1 == e && decide (63 < p.2)) || atEnd [R.CAL_MON_TRIM e])
    let tapsF := (List.range 8).filter (fun t => badTaps.testBit t || atEnd [R.CAL_TAP_TRIM t])
    let pass := ports.all (fun q => !(List.range 8).any (fun j => chEn (8 * q + j))) && emits.all (fun e => !en.testBit e)
      && tapsF.all (fun t => !d.rbit (R.WAV_TAP_CFG t) 0)
    let d := { d with cal := { d.cal with full := none, passed := pass || d.rbit R.CAL_CTRL 1 }, emt := { d.emt with calFire := false } }
    let d := ((d.setReg R.CAL_RESULT (BitVec.ofNat 32 (maskOf ports))).setReg R.CAL_RESULT_EMIT (BitVec.ofNat 32 (maskOf emits))).setReg
      R.CAL_RESULT_EU (BitVec.ofNat 32 (maskOf tapsF))
    let d := (d.setBit R.CAL_STATUS 0 false).setBit R.CAL_STATUS 7 pass
    let d := if byCmd then d.setFld R.CAL_CMD 9 8 1 else d
    let d := if pass then
        let d := (codes.filter (fun p => (List.range 256).any (fun c => (chanTrims c).contains p.1) || (decide (0x280100 ≤ p.1 ∧ p.1 < 0x2801A0)))).foldl
          (fun d p => d.trimWrite p.1 p.2) d
        let d := sk.foldl (fun d p => d.setFld (R.EMT_EMIT_CFG p.1) 21 16 p.2) d
        if en = 0 then d else d.setReg R.CAL_TZ_SHIFT (BitVec.ofNat 32 (unsigned 16 ((tmax : Int) - d.fld R.CAL_SKEW_CFG 23 8)))
      else d.logFault 0x1901 .n
    let d := d.safetyFollow
    if byCmd || !d.cal.passed then d else { d with top := { d.top with stage10 := true } }

/-- FULL_CALIBRATION_COMPLETE (R400, R401). -/
def execFullCalibrationComplete (t : Nat) (codes : List (Nat × Word)) (badPorts badEmit badTaps : Nat) (times shots : List (Nat × Nat))
    (s : State) : Out :=
  s.atTick t (fun d => if d.top.state == .armed then d.calDone codes badPorts badEmit badTaps times shots else d)

/-- PORT_TURN (R403): the period has passed, and the next port in turn becomes pending. -/
def execPortTurn (t : Nat) (s : State) : Out :=
  s.atTick t (fun d =>
    if !d.rbit R.CAL_CTRL 0 || decide (d.now < d.cal.turnTick + 1600000000 * d.fld R.CAL_CTRL 23 8) then d
    else
      let q := d.cal.nextTurn
      ({ d with cal := { d.cal with turnTick := d.now, nextTurn := (q + 1) % 32 } }).setBit R.CAL_PENDING q true)

/-- The port's interval ends (R404). -/
def Dev.blindEnd (d : Dev) (q : Nat) (ok : Bool) (codes : List (Nat × Word)) : Dev :=
  let mine := codesFor codes ((List.range 8).flatMap (fun j => chanTrims (8 * q + j)))
  let pass := ok && !mine.any (fun p => trimAtEnd p.1 p.2)
  let wrote := d.cal.hostWrote
  let d := { d with cal := { d.cal with turn := none, last := q, hostWrote := false } }
  let d := ((d.setFld R.CAL_STATUS 6 1 0).setBit R.CAL_PENDING q false).setBit R.CAL_RESULT q (!pass)
  if pass then
    let d := mine.foldl (fun d p => d.trimWrite p.1 p.2) d
    if wrote then d.setBit R.CAL_STATUS 8 true else d
  else d.logFault 0x1902 .n

/-- BLIND_INTERVAL_END (R404). -/
def execBlindIntervalEnd (t : Nat) (ok : Bool) (codes : List (Nat × Word)) (s : State) : Out :=
  s.atTick t (fun d => match d.cal.turn with
    | some q => if d.cal.turnAt + 153600 ≤ d.now then d.blindEnd q ok codes else d
    | none => d)

end Sys2Proof.Machine
end

