-- ==== Sys2Proof/Machine/CnyMsg.lean ====
section
/-! DEFINITION. The Canary's safety messages, sent and received (R389 to R393), and the time its commands carry (R361). -/
namespace Sys2Proof.Machine

/-- A Canary event at RC cycle `c` and device tick `t` (R361): nothing happens in RESET or while VDD_CNY is lost; the
device's tick advances only while its clocks run. -/
def State.atCny (s : State) (t c : Nat) (f : Dev → Dev) : Out :=
  s.mapDev (fun d =>
    if d.top.state == .reset || d.cny.lost then d
    else
      let d := d.advanceTo t
      f { d with cny := { d.cny with rc := Nat.max d.cny.rc c } })

/-- RC cycles in a microsecond and in a millisecond (48 MHz, R27). -/
def rcUs (n : Nat) : Nat := 48 * n
def rcMs (n : Nat) : Nat := 48000 * n

/-- Change the Canary's state. -/
def Dev.onCny (d : Dev) (f : CnyState → CnyState) : Dev := { d with cny := f d.cny }

/-- The Canary routes safety messages: a safety mode is set and a parameter copy is active (R309, R389). -/
def Dev.cnyRoutes (d : Dev) : Bool := d.safetyMode != 0 && d.cny.active.isSome

/-- A safety message: type, source and sequence number, 19 payload bytes and the CRC (Table 18-5). -/
def Dev.safetyMsg (d : Dev) (ty : Nat) (payload : List Byte) : List Byte :=
  let head := leBytes 1 ty ++ leBytes 1 (d.devId + 16) ++ leBytes 2 d.cny.txSeq ++ (payload ++ List.replicate 19 0#8).take 19
  head ++ leBytes 4 (crc32c (leBytes 4 (d.prm 0x08 4) ++ head)).toNat

/-- The four little-endian words of a byte list. -/
def wordsOf (n : Nat) (l : List Byte) : List Word := (List.range n).map (fun i => BitVec.ofNat 32 (leAt l (4 * i) 4))

/-- Put a CAN FD frame of 32 data bytes into a transmit buffer with its request set; the control word's places are
log entry 34's. -/
def Dev.canPut (d : Dev) (n b id : Nat) (data : List Byte) : Dev :=
  let base := R.CAN_TX n (20 * b)
  let ctl := 13 + 16 + (if d.rbit (R.CAN_CTRL n) 2 then 32 else 0) + 2 ^ 31
  let ws := [BitVec.ofNat 32 id, BitVec.ofNat 32 ctl] ++ wordsOf 16 (data ++ List.replicate 32 0#8)
  ((List.range 18).foldl (fun (d : Dev) i => d.setReg (base + 4 * i) (ws.getD i 0)) d)

/-- One stream 4 record on Ixhal lane 0 (R238, R345, R349). -/
def Dev.safeRecord (d : Dev) (msg : List Byte) : Dev :=
  if !d.streamOn 4 || !d.laneUp 0 then d
  else
    let seq := (d.reg (R.PNT_STREAM_SEQ 4)).toNat
    let d := d.setReg (R.PNT_STREAM_SEQ 4) (BitVec.ofNat 32 (seq + 1))
    if (d.lane 0).partnerVer = 1 then
      let p : Packet := { stream := 4, kind := 9, records := 1, seq := seq, bytes := d.packetHeader 4 9 1 seq 27 ++ msg, order := d.pnt.order }
      { d with pnt := { d.pnt with lanes := mupd d.pnt.lanes 0 [] (fun l => l ++ [p]), order := d.pnt.order + 1 } }
    else d.onLane 0 (fun l => { l with safe := l.safe ++ [(seq, msg)] })

/-- Send one message on both networks (R389). -/
def Dev.cnySend (d : Dev) (ty : Nat) (payload : List Byte) : Dev :=
  if !d.cnyRoutes then d
  else
    let msg := d.safetyMsg ty payload
    let d := d.onCny (fun c => { c with txSeq := (c.txSeq + 1) % 65536, sent := msg })
    let d := if d.rbit (R.CAN_CTRL 0) 1 then d.canPut 0 0 (d.prm 0x18 2 % 2048) (msg ++ List.replicate 5 0#8) else d
    if d.netB then d.safeRecord msg
    else if d.ethUp then d.ethSend 1 (d.fld R.ETH_UDP 15 0) (d.prm 0x1C 2) msg else d

/-! Received messages (R391 to R393). -/

/-- A copy is discarded: counted, and 0x1811 logged once until msg_err is cleared (R391). -/
def Dev.copyDiscard (d : Dev) : Dev := (d.inc64 R.CNY_CNT_MISMATCH 1).onceFault R.CNY_STATUS 10 0x1811

/-- Muting ends (R393). -/
def Dev.muteEnd (d : Dev) : Dev := (d.onCny (fun c => { c with mute := none })).ossdDrop

/-- Every function and set the MUTE names has mute_ok = 1, and its duration is allowed (R393). -/
def Dev.muteOk (d : Dev) (m : List Byte) : Bool :=
  let f := leAt m 4 1
  let s := leAt m 5 4
  (bitList 8 f).all (fun k => (d.inputField k 4 1).testBit 2) && (bitList 32 s).all (fun k => (d.setField k 8 1).testBit 0) &&
  decide (leAt m 9 2 ≤ d.prm 0x20 2)

/-- What an accepted message does (R384, R391, R393). A MUTE that R393 does not allow is ignored and counted. -/
def Dev.message (d : Dev) (m : List Byte) : Dev :=
  let ok := fun (d : Dev) => (d.inc64 R.CNY_CNT_RX 1).onCny (fun c => { c with lastSeq := some (leAt m 2 2), lastMsg := c.rc, timedOut := false })
  if leAt m 0 1 = 0x81 then (ok d).onCny (fun c => { c with msgSet := some (leAt m 4 1) })
  else if leAt m 0 1 = 0x82 then
    if !d.muteOk m then d.inc64 R.CNY_CNT_MISMATCH 1
    else
      let d := ok d
      if leAt m 9 2 = 0 then d.muteEnd
      else (d.onCny (fun c => { c with mute := some (leAt m 4 1, leAt m 5 4, c.rc + rcMs (100 * leAt m 9 2)) })).ossdDrop
  else d

/-- Both copies are valid and next in sequence (R391). -/
def Dev.messageValid (d : Dev) (m : List Byte) : Bool :=
  decide (leAt m 23 4 = (crc32c (leBytes 4 (d.prm 0x08 4) ++ m.take 23)).toNat) && decide (leAt m 1 1 = d.devId + 16) &&
  (match d.cny.lastSeq with
   | none => true
   | some q => let x := (leAt m 2 2 + 65536 - q) % 65536; decide (1 ≤ x ∧ x ≤ 1000))

/-- A copy of a message arrives on network `net` (0 A, 1 B): it waits for its partner, or completes it (R391). -/
def Dev.copyIn (d : Dev) (net : Nat) (m : List Byte) : Dev :=
  if !d.cnyRoutes || m.length != 27 then d
  else match d.cny.copies.find? (fun p => p.1 != net && p.2.2 == m && decide (d.cny.rc ≤ p.2.1 + rcMs 4)) with
    | none => d.onCny (fun c => { c with copies := c.copies ++ [(net, c.rc, m)] })
    | some p =>
      let d := d.onCny (fun c => { c with copies := c.copies.erase p })
      if d.messageValid m then d.message m else d

/-- SELECT (R391): a copy of a SELECT message. -/
def execSelect (t c net : Nat) (msg : List Byte) (s : State) : Out :=
  s.atCny t c (fun d => if leAt msg 0 1 = 0x81 then d.copyIn (net % 2) msg else d)

/-- MUTE (R391, R393): a copy of a MUTE message. -/
def execMute (t c net : Nat) (msg : List Byte) (s : State) : Out :=
  s.atCny t c (fun d => if leAt msg 0 1 = 0x82 then d.copyIn (net % 2) msg else d)

/-- LONE_COPY_DISCARD (R391): every copy that has waited 4 ms is discarded. -/
def execLoneCopyDiscard (t c : Nat) (s : State) : Out :=
  s.atCny t c (fun d =>
    let old := d.cny.copies.filter (fun p => decide (p.2.1 + rcMs 4 ≤ d.cny.rc))
    let d := d.onCny (fun c => { c with copies := c.copies.filter (fun p => !decide (p.2.1 + rcMs 4 ≤ c.rc)) })
    old.foldl (fun d _ => d.copyDiscard) d)

/-- MESSAGE_TIMEOUT (R392): 20 ms without an accepted message while one is expected. -/
def execMessageTimeout (t c : Nat) (s : State) : Out :=
  s.atCny t c (fun d =>
    if !d.cnyRoutes || d.cny.timedOut || !(d.prm 0x12 1 != 0 || d.cny.mute.isSome) || decide (d.cny.rc < d.cny.lastMsg + rcMs 20) then d
    else
      let d := (d.inc64 R.CNY_CNT_TIMEOUT 1).setBit R.CNY_STATUS 10 true
      ((d.onCny (fun c => { c with msgSet := none, timedOut := true })).logFault 0x1811 .n).muteEnd)

/-- MUTE_EXPIRY (R393). -/
def execMuteExpiry (t c : Nat) (s : State) : Out :=
  s.atCny t c (fun d => match d.cny.mute with | some (_, _, e) => if e ≤ d.cny.rc then d.muteEnd else d | none => d)

/-- STATE's payload bytes 4 and 6 (Table 18-5). -/
def Dev.stateBytes (d : Dev) : Nat × Nat :=
  (d.safetyMode + 4 * b2n d.safetyHold + 8 * b2n d.lockout + 16 * b2n d.demanding + 32 * b2n (d.cny.ossdOn.getD 0 false)
    + 64 * b2n (d.cny.ossdOn.getD 1 false) + 128 * b2n d.cny.mute.isSome,
   d.cny.lastProt + 8 * d.cny.lastWarn)

/-- STATE_SEND (R390): msg_period has passed since the last STATE, or byte 4 or 6 has changed. -/
def execStateSend (t c : Nat) (s : State) : Out :=
  s.atCny t c (fun d =>
    let due := match d.cny.stateAt with | none => true | some x => decide (x + rcMs (d.prm 0x10 1) ≤ d.cny.rc)
    if !d.cnyRoutes || !(due || d.stateBytes != d.cny.stateSent) then d
    else
      let b := d.stateBytes
      let bits8 := fun (f : Nat → Bool) => maskOf ((List.range 8).filter f)
      let p := leBytes 1 b.1 ++ leBytes 1 (d.cny.set.getD 0) ++ leBytes 1 b.2 ++ leBytes 1 0 ++ leBytes 1 (bits8 (fun k => d.fnReleased k))
        ++ leBytes 1 (bits8 (fun k => (d.cnyFn k).locked)) ++ leBytes 2 (d.fld R.CNY_AXIS0 15 0) ++ leBytes 2 (d.fld R.CNY_AXIS1 15 0)
        ++ leBytes 4 (d.reg R.CNY_CHECK_COMPUTED).toNat ++ leBytes 4 d.cny.closed ++ leBytes 1 (satN 255 d.cny.lastBlind)
      (d.onCny (fun c => { c with stateAt := some c.rc, stateSent := b })).cnySend 1 p)

end Sys2Proof.Machine
end

