-- ==== Sys2Proof/Machine/ResetOps.lean ====
section
/-! DEFINITION. Entering RESET, and what clock loss does (R10, R27 to R29, R363, R439, R440). -/
namespace Sys2Proof.Machine

/-- The device enters RESET (Table 01-2): everything returns to its reset state but the fuses and the hashes fused in
them, the reset watch's result, the supplies' condition, the fault code the Canary keeps (R28, R363) and its RC count. -/
def Dev.toReset (d : Dev) (cause : Nat) : Dev :=
  { freeCtr := d.freeCtr
    now := 0
    regs := d.regs.filter (fun p => decide (0x30200 ≤ p.1 ∧ p.1 < 0x30280))
    top := { resetHeldMs := d.top.resetHeldMs, resetHeldValid := d.top.resetHeldValid, resetCause := cause, suppliesBad := d.top.suppliesBad
             lowSince := d.top.lowSince, por := d.top.por }
    clk := { retained := d.clk.retained }
    boot := { fused := d.boot.fused, revoked := d.boot.revoked }
    cny := { rc := d.cny.rc, lost := d.cny.lost } }

/-- The device enters RESET; its memories are as after power-on (log entry 36). -/
def State.toReset (s : State) (cause : Nat) : State := { dev := s.dev.toReset cause, pending := s.pending }

/-- The clocks are lost (R27 to R29): the time base and every REF-derived clock stop, the Canary holds the code, drops
EMIT_EN and turns the pairs off. The device enters HELD when its clocks return (R363). -/
def Dev.clockLoss (d : Dev) (code : Nat) : Dev :=
  let d := { d with clk := { d.clk with running := false, retained := some (d.clk.retained.getD code) }
                    emt := { d.emt with demand := true } }
  let d := ((d.setBit R.CLK_STATUS 0 false).setInhibit 1 true).onCny (fun c => { c with clockFault := true, watch := none })
  d.safetyFollow

/-- A clock fault is found at the end of a gate (R27): edges that have stopped mean lost clocks, a frequency outside the
window a fault of running clocks. -/
def Dev.clockGate (d : Dev) (ref per : Nat) : Dev :=
  let bad := decide (ref < 92 ∨ 108 < ref ∨ per < 92 ∨ 108 < per)
  if !d.clk.locked then d
  else if bad then
    if ref = 0 ∨ per = 0 ∨ !d.clk.running then
      if d.clk.running then d.clockLoss 0x0201 else (d.onCny (fun c => { c with clockFault := true, watch := none })).safetyFollow
    else if d.cny.clockFault then d
    else ((d.onCny (fun c => { c with clockFault := true })).raise 0x0201 .h true).safetyFollow
  else if !d.cny.clockFault then d
  else if d.clk.running then ((d.onCny (fun c => { c with clockFault := false })).causeGone 0x0201).safetyFollow
  else if d.cny.watch.isNone then d.onCny (fun c => { c with watch := some c.rc })
  else d

/-- CANARY_CLOCK_GATE (R27): the counts of REF and CK_PER edges of the gate that ends at RC cycle `c`. -/
def execCanaryClockGate (t c ref per : Nat) (s : State) : Out := s.atCny t c (fun d => d.clockGate ref per)

/-- PLL_UNLOCK (R28). -/
def execPllUnlock (t : Nat) (s : State) : Out :=
  s.atTick t (fun d => if d.clk.locked then d.clockLoss 0x0202 else d)

/-- PLL_RELOCK (R29, R363, R408, R409): the clocks run again, the held code is logged and the device enters HELD; Hoist
retrains at once. -/
def execPllRelock (s : State) : Out :=
  s.mapDev (fun d =>
    if d.top.state == .reset || d.clk.running || !d.clk.locked then d
    else
      let code := d.clk.retained.getD 0x0201
      let d := { d with clk := { d.clk with running := true, retained := none } }
      let d := ((d.setBit R.CLK_STATUS 0 true).setBit R.CLK_STATUS 1 true).onCny (fun c => { c with clockFault := false, watch := none })
      let d := (d.logFault code .h false true).enterHeld code
      let d := d.safetyFollow
      if d.boot.dramDone && !d.hoistFailed then d.startTraining (d.fld R.HOI_CTRL 1 0) true else d)

/-- WATCHDOG_TIMEOUT (R363): HELD has not been reported within 1 ms of the demand, so the Canary resets the device. -/
def execWatchdogTimeout (t c : Nat) (s : State) : Out :=
  if s.dev.top.state == .reset || s.dev.cny.lost then .next s
  else
    let due : Bool := (match s.dev.cny.watch with | some w => decide (w + rcMs 1 ≤ c) | none => false) && s.dev.top.state != .held
    if due = true then .next { (s.onDev (fun d => { d.advanceTo t with cny := { d.cny with rc := Nat.max d.cny.rc c } })).toReset 2 with pending := s.pending }
    else .next s

end Sys2Proof.Machine
end

