-- ==== Sys2Proof/Machine/CnyIn.lean ====
section
/-! DEFINITION. The Canary's safety inputs, restart and OSSD checks (R371 to R376, R386 to R388). -/
namespace Sys2Proof.Machine

/-- The 10 ms cycle of RC cycle `c`. -/
def cnyCycle (c : Nat) : Nat := c / rcMs 10

/-- Change the function of input `k`. -/
def Dev.onFn (d : Dev) (k : Nat) (f : CnyFn → CnyFn) : Dev := d.onCny (fun c => { c with fns := mput c.fns k (f (mgetD c.fns k {})) })

/-- Test-pulse output of channel `ch` (2 k for A, 2 k + 1 for B); none for 0xF (R372). -/
def Dev.tpOf (d : Dev) (ch : Nat) : Option Nat :=
  let n := d.inputField (ch / 2) 1 1 / (if ch % 2 = 0 then 1 else 16) % 16
  if n < 4 then some n else none

/-- A functional sample falls inside the channel's own test pulse, or within 50 µs after it (R371). -/
def Dev.inPulse (d : Dev) (ch : Nat) : Bool :=
  match d.tpOf ch with
  | some i => match mget d.cny.tp i with | some s => decide (s ≤ d.cny.rc ∧ d.cny.rc ≤ s + rcUs 250) | none => false
  | none => false

/-- The last functional sample of channel `ch`. -/
def Dev.lastLevel (d : Dev) (ch : Nat) : Bool := if ch % 2 = 0 then (d.cnyFn (ch / 2)).a else (d.cnyFn (ch / 2)).b

/-- The input whose function channel `ch` belongs to: the second hand of a two-hand function belongs to the first (R375). -/
def Dev.fnOwner (d : Dev) (ch : Nat) : Nat :=
  let k := ch / 2
  if d.inputField k 0 1 = 0 ∧ 0 < k ∧ d.inputField (k - 1) 0 1 = 3 then k - 1 else k

/-- A missing pulse or a cross-short of channel `ch`; in two consecutive cycles it is a fault that locks the function
out (R371). -/
def Dev.pulseBad (d : Dev) (ch : Nat) (cross : Bool) : Dev :=
  let k := d.fnOwner ch
  let cyc := cnyCycle d.cny.rc
  let q := d.cnyFn k
  let last := mgetD (if cross then q.cross else q.miss) ch 0
  let d := d.onFn k (fun q => { q with
    badCycle := cyc + 1
    miss := if cross then q.miss else mput q.miss ch (cyc + 1)
    cross := if cross then mput q.cross ch (cyc + 1) else q.cross })
  if last = cyc ∧ 0 < last then
    (d.onFn k (fun q => { q with locked := true, pulse := true, stage := 0 })).logFault (if cross then 0x180C else 0x180B) .n
  else d

/-- The levels a function works on: filtered for a light curtain (R372). -/
def CnyFn.levels (q : CnyFn) (ty filt : Nat) : Bool × Bool :=
  if ty = 4 then (decide (q.lowA < filt + 1), decide (q.lowB < filt + 1)) else (q.a, q.b)

/-- A hand is pressed: A high and B low (R372). -/
def CnyFn.pressed (q : CnyFn) : Bool := q.a && !q.b
/-- A hand is released: A low and B high (R372). -/
def CnyFn.freed (q : CnyFn) : Bool := !q.a && q.b

/-- The two-hand function of input `k` at a sample, from the hands before and after it (R375). -/
def twoHand (q old1 new1 old2 new2 : CnyFn) (n : Nat) : CnyFn :=
  let p1 := if new1.pressed then (if old1.pressed then q.press1 else some n) else none
  let p2 := if new2.pressed then (if old2.pressed then q.press2 else some n) else none
  let off := new1.freed && new2.freed
  let ok := match p1, p2 with | some a, some b => decide ((if a < b then b - a else a - b) ≤ 2000) | _, _ => false
  let both := new1.pressed && new2.pressed
  let ready := q.handsOff || off
  let on := if q.hands then both else ready && both && ok
  { q with press1 := p1, press2 := p2, hands := on
           handsOff := if off then true else if both && !on then false else if q.hands && !both then false else if on then false else ready }

/-- What one functional sample makes of function `k` (R372 to R375): `old` are the inputs before the sample. -/
def Dev.evalFn (d : Dev) (k : Nat) (old : Map CnyFn) : Dev :=
  let ty := d.inputField k 0 1
  let q := d.cnyFn k
  let q2 := d.cnyFn (k + 1)
  let q := if ty = 3 then twoHand q (mgetD old k {}) q (mgetD old (k + 1) {}) q2 d.cny.sample else q
  let (a, b) := q.levels ty (d.inputField k 5 1)
  let (dem, dis, allDem, allRel) := match ty with
    | 1 => (!a || !b, a != b, !a && !b, a && b)
    | 2 => (!a || b, a == b, !a && b, a && !b)
    | 3 => (!q.hands, q.a == q.b || q2.a == q2.b, q.freed && q2.freed, q.pressed && q2.pressed)
    | 4 => (!a || !b, a != b, !a && !b, a && b)
    | _ => (false, false, false, true)
  let n := if dis then q.count + 1 else 0
  let fault := decide (n = 4 * d.inputField k 2 2) && decide (0 < n)
  let q := { q with demand := dem, count := n }
  let q := if fault then { q with locked := true, stage := 0 } else q
  let cyc := cnyCycle d.cny.rc
  let q := if !q.locked || fault then q
    else if q.stage = 0 ∧ allDem then { q with stage := 1 }
    else if q.stage = 1 ∧ allRel then { q with stage := 2, stageCycle := cyc }
    else q
  let q := if q.locked && q.stage == 2 && (!q.pulse || decide (Nat.max q.stageCycle (q.badCycle - 1) + 3 ≤ cyc)) then
      { q with locked := false, pulse := false, stage := 0 } else q
  let d := d.onFn k (fun _ => q)
  if fault then d.logFault 0x180D .n else d

/-- One channel's functional sample (R371). -/
def Dev.sampleCh (d : Dev) (ch : Nat) (level : Bool) : Dev :=
  let v := if d.inPulse ch then d.lastLevel ch else level
  let k := ch / 2
  let d := d.onFn k (fun q => if ch % 2 = 0 then { q with a := v, lowA := if v then 0 else q.lowA + 1 } else { q with b := v, lowB := if v then 0 else q.lowB + 1 })
  let sus := (d.cnyFn k).suspect.contains ch
  let d := d.onFn k (fun q => { q with suspect := q.suspect.filter (· != ch) })
  if sus && v then d.pulseBad ch true else d

/-- The restart button of type 5 (R376). -/
def Dev.restartButton (d : Dev) (was : Bool) : Dev :=
  let k := d.prm 0x15 1
  if d.inputField k 0 1 != 5 then d
  else
    let now := (d.cnyFn k).a
    match d.cny.press with
    | none => if now && !was then d.onCny (fun c => { c with press := some (c.sample, [d.ossdMay 0 true, d.ossdMay 1 true]) }) else d
    | some (n, held) =>
      if now then d
      else
        let len := d.cny.sample - n
        let d := d.onCny (fun c => { c with press := none })
        if 400 ≤ len ∧ len ≤ 20000 then
          [0, 1].foldl (fun (d : Dev) p =>
            if d.manualPair p && held.getD p false && d.ossdMay p true then d.onCny (fun c => { c with wait := c.wait.set p false }) else d) d
        else d

/-- A pair whose conditions hold turns on: an automatic one, or a manual one that waits for no restart (R376, R387). -/
def Dev.ossdRise (d : Dev) : Dev :=
  [0, 1].foldl (fun (d : Dev) p =>
    if d.ossdMay p false && (!d.manualPair p || !d.cny.wait.getD p true) then d.ossdSwitch p true else d) d

/-- The readbacks of the pairs that are off, 2 ms or more after their switching, read low (R388). -/
def Dev.offCheck (d : Dev) : Dev :=
  let bad := [0, 1].any (fun p => !d.cny.ossdOn.getD p false && (d.cny.switched.getD p none).isNone && d.cny.rb / 4 ^ p % 4 != 0)
  if bad then (if d.faultActive 0x1810 then d else d.raise 0x1810 .h true)
  else if d.faultActive 0x1810 then d.causeGone 0x1810 else d

/-- FUNCTIONAL_SAMPLE (R371): the 16 channels' filtered levels, in the order of CNY_INPUTS, and the four readbacks. -/
def execFunctionalSample (t c levels rb : Nat) (s : State) : Out :=
  s.atCny t c (fun d =>
    let d := d.onCny (fun c => { c with sample := c.sample + 1, rb := rb % 16 })
    let old := d.cny.fns
    let was := (d.cnyFn (d.prm 0x15 1)).a
    let d := (List.range 16).foldl (fun (d : Dev) ch => d.sampleCh ch (levels.testBit ch)) d
    let d := if d.inputMode && d.cny.active.isSome then (List.range 8).foldl (fun (d : Dev) k => d.evalFn k old) d else d
    let d := if d.inputMode && d.cny.active.isSome then d.ossdDrop.restartButton was else d.ossdDrop
    d.ossdRise.offCheck)

/-- TEST_PULSE (R371): TPi goes low for 200 µs. -/
def execTestPulse (t c k : Nat) (s : State) : Out :=
  s.atCny t c (fun d => d.onCny (fun c => { c with tp := mput c.tp (k % 4) c.rc }))

/-- TEST_PULSE_CHECK (R371): every channel is read 150 µs into a pulse of TPj. -/
def execTestPulseCheck (t c j levels : Nat) (s : State) : Out :=
  s.atCny t c (fun d =>
    let j := j % 4
    let on := match mget d.cny.tp j with | some x => decide (x ≤ d.cny.rc ∧ d.cny.rc < x + rcUs 200) | none => false
    if !on || !d.inputMode || d.cny.active.isNone then d
    else ((List.range 16).foldl (fun (d : Dev) ch =>
      if d.inputField (d.fnOwner ch) 0 1 = 0 then d
      else match d.tpOf ch with
        | none => d
        | some i =>
          if i = j then (if levels.testBit ch then d.pulseBad ch false else d)
          else if !levels.testBit ch && d.lastLevel ch then d.onFn (ch / 2) (fun q => { q with suspect := if q.suspect.contains ch then q.suspect else ch :: q.suspect })
          else d) d).ossdDrop)

/-- OSSD_READBACK_CHECK (R388): 2 ms after a switching each readback equals its control. -/
def execOssdReadbackCheck (t c rb : Nat) (s : State) : Out :=
  s.atCny t c (fun d =>
    let d := d.onCny (fun c => { c with rb := rb % 16 })
    [0, 1].foldl (fun (d : Dev) p => match d.cny.switched.getD p none with
      | none => d
      | some x =>
        if d.cny.rc < x + rcMs 2 then d
        else
          let d := d.onCny (fun c => { c with switched := c.switched.set p none })
          if rb / 4 ^ p % 4 = (if d.cny.ossdOn.getD p false then 3 else 0) then d else d.raise 0x1810 .h) d)

/-- OSSD_OFF_TEST (R388): a control of a pair that is on is pulsed low; its readback 10 µs before the pulse ends. -/
def execOssdOffTest (t c pair : Nat) (high : Bool) (s : State) : Out :=
  s.atCny t c (fun d => if d.cny.ossdOn.getD (pair % 2) false && high then d.raise 0x1810 .h else d)

/-- SEAL_SWITCH_SAMPLE (R366): a value that three samples agree on is accepted. -/
def execSealSwitchSample (t c value : Nat) (s : State) : Out :=
  s.atCny t c (fun d =>
    let v := value % 16
    let l := (v :: d.cny.swSeen).take 3
    let d := d.onCny (fun c => { c with swSeen := l })
    if l.length < 3 || l.any (· != v) || d.cny.sw == v then d
    else
      let was := d.cny.sw
      let d := d.onCny (fun c => { c with sw := v })
      let d := if 8 ≤ v ∧ was < 8 then d.logFault 0x1801 .n true else if v < 8 ∧ 8 ≤ was then d.causeGone 0x1801 else d
      let d := if v / 2 % 4 != d.cny.swReset / 2 % 4 && !d.cny.modeChanged then (d.onCny (fun c => { c with modeChanged := true })).logFault 0x1802 .n true else d
      d.safetyFollow)

end Sys2Proof.Machine
end

