-- ==== Sys2Proof/Machine/CnyParam.lean ====
section
/-! DEFINITION. Safety parameters, their check value and the commissioning record (R366 to R370), and the Canary's
demands (R363, R364). -/
namespace Sys2Proof.Machine

/-- The 32,768 bytes of a parameter block held as words. -/
def blockBytes (m : List (Nat × Word)) : List Byte :=
  (List.range 8192).flatMap (fun i => leBytes 4 (spGet (fun _ => (0#32 : Word)) m (paramBase + 4 * i)).toNat)

/-- The words a byte list of a block spells, without the words that are 0. -/
def blockOf (l : List Byte) : List (Nat × Word) :=
  (List.range 8192).filterMap (fun i =>
    let w := BitVec.ofNat 32 (leAt l (4 * i) 4)
    if w = 0 then none else some (paramBase + 4 * i, w))

/-- The check value of a block (R367). -/
def checkValue (l : List Byte) : Word := BitVec.ofNat 32 (leAt (shake256 l 4).reverse 0 4)

/-- The scalar fields of Table 18-2 with a range: offset, bytes, least, greatest. -/
def paramRanges : List (Nat × Nat × Nat × Nat) :=
  [(6, 1, 1, 3), (7, 1, 1, 8), (0x0C, 4, 1000, 1000000), (0x10, 1, 10, 100), (0x11, 1, 0, 1), (0x12, 1, 0, 2),
   (0x13, 1, 0, 31), (0x15, 1, 0, 7), (0x16, 2, 100, 500), (0x18, 2, 0, 0x7FF), (0x1A, 2, 0, 0x7FF), (0x20, 2, 1, 600),
   (0x24, 2, 50, 500), (0x2A, 2, 1, 1024)]

/-- The bytes `o .. o + n` of a block are 0. -/
def zeroAt (l : List Byte) (o n : Nat) : Bool := ((l.drop o).take n).all (· == 0)

/-- The entry of input `k` lies within R372's ranges and R367's rules. -/
def inputValid (l : List Byte) (k : Nat) : Bool :=
  let o := 0x100 + 16 * k
  let ty := leAt l o 1
  let tp := leAt l (o + 1) 1
  let okTp := fun (x : Nat) => decide (x < 4) || x == 15
  decide (ty ≤ 5) && okTp (tp % 16) && okTp (tp / 16) && (tp % 16 != tp / 16 || tp % 16 == 15) &&
  decide (4 ≤ leAt l (o + 2) 2 ∧ leAt l (o + 2) 2 ≤ 1000) && decide (leAt l (o + 5) 1 ≤ 4) && zeroAt l (o + 6) 10 &&
  !(ty == 1 && (leAt l (o + 4) 1).testBit 2) && (ty != 3 || (decide (k < 7) && leAt l (o + 16) 1 == 0))

/-- A block is valid (R367): magic, format, every field within its range, reserved fields 0, no type-1 function with
mute_ok, and two channels of an input on different test-pulse outputs or on none. -/
def blockValid (l : List Byte) : Bool :=
  l.take 6 == [0x44, 0x5A, 0x53, 0x50, 1, 0] &&
  paramRanges.all (fun (o, n, lo, hi) => decide (lo ≤ leAt l o n ∧ leAt l o n ≤ hi)) &&
  (List.range 8).all (inputValid l) &&
  (List.range 32).all (fun s => decide (leAt l (0x206 + 16 * s) 1 ≤ 2) && zeroAt l (0x209 + 16 * s) 7) &&
  (List.range 2).all (fun j => decide (leAt l (0x40A + 32 * j) 1 ≤ 2) && zeroAt l (0x419 + 32 * j) 7) &&
  zeroAt l 0x7C00 1024

/-- The three conditions of R368, with the check value already computed. -/
def Dev.paramOk (d : Dev) (l : List Byte) (check : Word) : Bool :=
  blockValid l && leAt l 6 1 == d.safetyMode && !d.boot.commission.isEmpty && check == d.reg R.CNY_CHECK_CONFIRMED

/-- The Canary recomputes the check value and applies R368; `log` when a failure is logged. -/
def Dev.paramJudge (d : Dev) (log : Bool) : Dev :=
  let l := blockBytes d.workWords
  let check := checkValue l
  let d := (d.setReg R.CNY_CHECK_COMPUTED check).onCny (fun c => { c with lastWrite := none })
  if d.safetyMode = 0 then d
  else if d.paramOk l check then d.onCny (fun c => { c with activate := true })
  else
    let d := (d.onCny (fun c => { c with activate := false, paramHold := true })).safetyFollow
    if log then d.logFault 0x1806 .n else d

/-- A management write of the working copy (R368, R369). -/
def Dev.paramWrite (d : Dev) (src addr : Nat) (value : Word) : Dev :=
  let a := paramBase + (addr - paramBase) % 0x8000 / 4 * 4
  if d.cny.comm.isSome then (d.ignoredWrite src a value false).setBit R.CNY_STATUS 9 true
  else d.regWrite src a value (fun d =>
    ((d.setReg a value).onCny (fun c => { c with paramHold := true, activate := false, lastWrite := some c.rc })).safetyFollow)

/-- CNY_PARAM_WRITE (R368). -/
def execCnyParamWrite (src t c addr : Nat) (value : Word) (s : State) : Out :=
  s.atTick t (fun d => (d.onCny (fun x => { x with rc := Nat.max x.rc c })).paramWrite src addr value)

/-- CHECK_RECOMPUTE (R368): 1 ms after the last write. -/
def execCheckRecompute (t c : Nat) (s : State) : Out :=
  s.atCny t c (fun d => match d.cny.lastWrite with
    | some w => if w + rcMs 1 ≤ d.cny.rc then d.paramJudge true else d
    | none => d)

/-! COMMISSION and CLEAR (R369). -/

/-- The first 64 bytes of the commissioning record (Table 18-3). -/
def Dev.commHead (d : Dev) : List Byte :=
  [0x44, 0x5A, 0x43, 0x52] ++ leBytes 2 1 ++ leBytes 1 d.devId ++ leBytes 1 d.cny.sw ++
  leBytes 4 (d.reg R.CNY_COMM_CONFIRM).toNat ++ leBytes 4 (d.reg R.HDF_IMAGE_VERSION).toNat ++ leBytes 8 d.time ++
  leBytes 4 (if d.boot.commission.isEmpty then 1 else (d.reg R.CNY_COMM_COUNT).toNat + 1) ++ leBytes 4 0 ++
  (List.range 8).flatMap (fun i => leBytes 4 (d.reg (R.CNY_COMM_TAG i)).toNat)

/-- The commissioning record (Table 18-3): the head, its signature by the identity key (R60), and erased bytes. -/
def Dev.commRecord (d : Dev) : List Byte :=
  let h := d.commHead
  let sig := Config.ed448Sign (shake256 h 64)
  h ++ ((sig ++ List.replicate 114 0#8).take 114) ++ List.replicate 3918 0xFF

/-- CNY_CMD answered. -/
def Dev.cnyDone (d : Dev) (w : Word) (status reason : Nat) : Dev := d.setReg R.CNY_CMD (cmdWord w 0xFF status reason)

/-- CNY_CMD opcode COMMISSION (R369). -/
def Dev.commission (d : Dev) (w : Word) : Dev :=
  if d.safetyMode = 0 ∨ !d.inState [.armed, .ranging, .held] then d.cnyDone w 2 1
  else if d.cny.sw % 2 = 0 then d.cnyDone w 2 2
  else if d.cny.comm.isSome then d.cnyDone w 2 5
  else if !blockValid (blockBytes d.workWords) then d.cnyDone w 2 4
  else if d.reg R.CNY_COMM_CONFIRM ≠ d.reg R.CNY_CHECK_COMPUTED then d.cnyDone w 2 3
  else (d.onCny (fun c => { c with comm := some d.commRecord })).cnyDone w 3 0

/-- CNY_CMD opcode CLEAR: a lockout of R378, R379 or R381 ends once its fault has been cleared. -/
def Dev.cnyClear (d : Dev) (w : Word) : Dev :=
  let left := d.cny.locks.filter (fun c => !d.faultCleared c)
  if !d.cny.locks.isEmpty && left == d.cny.locks then d.cnyDone w 2 6
  else ((d.onCny (fun c => { c with locks := left })).safetyFollow).cnyDone w 1 0

/-- A write of CNY_CMD by its opcode (Table 18-8). -/
def Dev.cnyCmd (d : Dev) (w : Word) : Dev :=
  match bits w 7 0 with
  | 1 => d.commission w
  | 2 => d.cnyClear w
  | _ => d.cnyDone w 2 8

/-- COMMISSION (R369). -/
def execCommission (src t : Nat) (s : State) : Out :=
  s.atTick t (fun d => d.cmdWrite src R.CNY_CMD 1 (fun d => d.cnyCmd 1))

/-- CNY_CLEAR (R378, R379, R381). -/
def execCnyClear (src t : Nat) (s : State) : Out :=
  s.atTick t (fun d => d.cmdWrite src R.CNY_CMD 2 (fun d => d.cnyCmd 2))

/-- COMMISSION_DONE (R369): the record was programmed and read back, or not. -/
def execCommissionDone (t c : Nat) (ok : Bool) (s : State) : Out :=
  s.atCny t c (fun d => match d.cny.comm with
    | none => d
    | some rec =>
      let d := d.onCny (fun c => { c with comm := none })
      if ok then
        let d := { d with boot := { d.boot with commission := rec } }.onCny (fun c => { c with commHold := false })
        let d := (d.setReg R.CNY_CHECK_CONFIRMED (BitVec.ofNat 32 (leAt rec 8 4))).setReg R.CNY_COMM_COUNT (BitVec.ofNat 32 (leAt rec 24 4))
        let d := if d.cny.lastWrite.isNone then d.paramJudge false else d
        d.cnyDone 1 1 0 |>.safetyFollow
      else
        let d := { d with boot := { d.boot with commission := [] } }.onCny (fun c => { c with commHold := true, activate := false })
        ((d.logFault 0x1812 .n).cnyDone 1 2 7).safetyFollow)

/-! Demands and the interlock (R363, R364). -/

/-- HEARTBEAT_LOST (R363): 8 consecutive heartbeats are missing while no clock fault is present. -/
def execHeartbeatLost (t c : Nat) (s : State) : Out :=
  s.atCny t c (fun d =>
    if d.cny.clockFault || d.cny.heartbeat then d
    else ((d.onCny (fun x => { x with heartbeat := true })).raise 0x1803 .h true).safetyFollow)

/-- SELF_COMPARISON_MISMATCH (R363): a mismatch of the two halves is present, or has gone. -/
def execSelfComparisonMismatch (t c : Nat) (present : Bool) (s : State) : Out :=
  s.atCny t c (fun d =>
    if present then
      if d.cny.mismatch then d else ((d.onCny (fun x => { x with mismatch := true })).raise 0x1804 .h true).safetyFollow
    else if d.cny.mismatch then ((d.onCny (fun x => { x with mismatch := false })).causeGone 0x1804).safetyFollow
    else d)

/-- VDD_CNY leaves its range (R364): the interlock releases the outputs and the device enters HELD. -/
def Dev.cnyLoss (d : Dev) : Dev :=
  if d.cny.lost then d else ((d.onCny (fun c => { c with lost := true })).raise 0x1805 .h true).safetyFollow

/-- VDD_CNY_LOSS (R364). -/
def execVddCnyLoss (t : Nat) (s : State) : Out := s.atTick t (fun d => d.cnyLoss)

end Sys2Proof.Machine
end

