-- ==== Sys2Proof/Machine/CnyField.lean ====
section
/-! DEFINITION. The Canary's motion limits, field evaluation and core liveness (R377 to R384, R390, R394). -/
namespace Sys2Proof.Machine

/-! Motion (R377, R378). -/

/-- CANARY_ENCODER_EDGE (R377): the filtered levels of encoder `k` after an edge. A rising Z takes the home (R378). -/
def execCanaryEncoderEdge (t c k : Nat) (a b z : Bool) (s : State) : Out :=
  s.atCny t c (fun d => d.onCny (fun x =>
    let k := k % 4
    let e := mgetD x.encs k {}
    let n := e.count + (quadStep e.a e.b a b).getD 0
    { x with encs := mput x.encs k { e with a := a, b := b, z := z, count := n, home := if z && !e.z then some n else e.home } }))

/-- A field of axis `j`'s entry (R378). -/
def Dev.axisField (d : Dev) (j o n : Nat) : Nat := d.prm (0x400 + 32 * j + o) n

/-- The count change of an encoder over the last 10 computations, and the encoder with this computation noted. -/
def CnyEnc.tick (e : CnyEnc) : Int × CnyEnc := (e.count - e.hist.getD 9 0, { e with hist := (e.count :: e.hist).take 10 })

/-- Axis `j` is violated at a computation with the doubled speed `v2`, for the encoder it takes its position from (R378). -/
def Dev.axisViolated (d : Dev) (j : Nat) (v2 : Int) (e : CnyEnc) : Bool :=
  let u : Int := 1310720
  let dir := d.axisField j 10 1
  let x := (d.axisField j 20 2 : Int) * u
  let pos := match e.home with
    | none => true
    | some h =>
      let p := (e.count - h) * d.axisField j 0 4
      decide (p < signed 32 (d.axisField j 12 4) * 65536000 ∨ signed 32 (d.axisField j 16 4) * 65536000 < p)
  decide ((d.axisField j 8 2 : Int) * u < v2.natAbs) || (dir == 1 && decide (v2 < -x)) || (dir == 2 && decide (x < v2)) ||
  ((d.axisField j 24 1).testBit 1 && pos)

/-- A lockout begins. -/
def Dev.cnyLock (d : Dev) (code : Nat) : Dev :=
  (d.onCny (fun c => { c with locks := if c.locks.contains code then c.locks else c.locks ++ [code] })).safetyFollow

/-- AXIS_COMPUTATION (R378), every 1 ms. A speed outside 16 bits shows a free value in its register. -/
def execAxisComputation (t c j : Nat) (s : State) : Out :=
  s.atCny t c (fun d =>
    let j := j % 2
    let (n0, e0) := (mgetD d.cny.encs (2 * j) {}).tick
    let (n1, e1) := (mgetD d.cny.encs (2 * j + 1) {}).tick
    let d := d.onCny (fun x => { x with encs := mput (mput x.encs (2 * j) e0) (2 * j + 1) e1 })
    if d.cny.active.isNone then d
    else
      let s0 := n0 * d.axisField j 0 4
      let s1 := n1 * d.axisField j 4 4
      let v2 := s0 + s1
      let q := mgetD d.cny.axes j {}
      let on := d.nativeMode && (d.axisField j 24 1).testBit 0
      let viol := on && d.axisViolated j v2 e0
      let differ := on && decide ((d.axisField j 20 2 : Int) * 655360 < (s0 - s1).natAbs)
      let since := if differ then some (q.diffSince.getD d.cny.rc) else none
      let d := d.onCny (fun x => { x with axes := mput x.axes j { speed2 := v2, viol := viol, prev := on && q.viol, diffSince := since } })
      let mm := openQuot v2 1310720
      let (low, d) := if -32768 ≤ mm ∧ mm < 32768 then (unsigned 16 mm, d) else ((d.fresh 16).toNat, d.drew)
      let d := d.setReg (if j = 0 then R.CNY_AXIS0 else R.CNY_AXIS1) (BitVec.ofNat 32 (low + 65536 * b2n viol + 131072 * b2n e0.home.isSome))
      let fail := match since with | some x => decide (x + rcMs (d.axisField j 22 2) ≤ d.cny.rc) && !d.cny.locks.contains 0x180F | none => false
      let d := if fail then (d.logFault 0x180F .n).cnyLock 0x180F else d
      d.ossdDrop)

/-! Field evaluation (R379 to R384). -/

/-- π in units of 2^-60. -/
def pi60 : Int := 3622009729038561421

/-- Taylor terms of a sine or cosine: `x2` is the square of the angle, `term` the next term, all in units of 2^-60. -/
def trigTerms (x2 : Int) : Nat → Nat → Int → Int
  | 0, _, _ => 0
  | fuel + 1, k, term => term + trigTerms x2 fuel (k + 2) (-(term * x2 / 2 ^ 60) / ((k * (k + 1) : Nat) : Int))

/-- Cosine and sine of an angle in 1/65,536 turn, in units of 2^-60; exact at the quarter turns (log entry 37). -/
def trig (az : Nat) : Int × Int :=
  let x := pi60 * ((az % 16384 : Nat) : Int) / 32768
  let x2 := x * x / 2 ^ 60
  let c := trigTerms x2 16 1 (2 ^ 60)
  let s := trigTerms x2 16 2 x
  match az / 16384 % 4 with
  | 0 => (c, s)
  | 1 => (-s, c)
  | 2 => (-c, -s)
  | _ => (s, -c)

/-- Beam table entry `i`: cell, channel, azimuth, cos ε (Table 18-2). -/
def Dev.beam (d : Dev) (i : Nat) : Nat × Nat × Nat × Nat :=
  let o := 0x800 + 8 * i
  (d.prm o 3, d.prm (o + 3) 1, d.prm (o + 4) 2, d.prm (o + 6) 2)

/-- The beam of a cell and channel. -/
def Dev.beamOf (d : Dev) (cell ch : Nat) : Option Nat :=
  (List.range (d.prm 0x2A 2)).find? (fun i => let (c, h, _, _) := d.beam i; c == cell && h == ch)

/-- The bitmap evaluator places an echo in field `f` (R381): `dist` is the distance in 1/6,553,600,000 mm. -/
def Dev.inBitmap (d : Dev) (f az : Nat) (dist : Int) : Bool :=
  let (c, s) := trig az
  let den : Int := 6553600000 * 2 ^ 60 * (d.prm 0x24 2 : Int)
  let ix := dist * c / den + 16
  let iy := dist * s / den + 16
  decide (0 ≤ ix ∧ ix ≤ 31 ∧ 0 ≤ iy ∧ iy ≤ 31) &&
    (d.prm (0x2800 + 224 * f + 4 * iy.toNat + ix.toNat / 8) 1).testBit (ix.toNat % 8)

/-- The contour evaluator places an echo in field `f` (R381); a sector width of 0 leaves the answer free. -/
def Dev.inContour (d : Dev) (f az : Nat) (dist : Int) : Bool × Dev :=
  let w := d.prm 0x28 2
  if w = 0 then ((d.fresh 1) == 1#1, d.drew)
  else
    let s := (az + 65536 - d.prm 0x26 2) % 65536 / w
    (decide (s < 48) && decide (dist ≤ (d.prm (0x2800 + 224 * f + 128 + 2 * s) 2 : Int) * 6553600000), d)

/-- Change the open frames of number `n`. -/
def Dev.onFrame (d : Dev) (n : Nat) (f : FieldFrame → FieldFrame) : Dev :=
  d.onCny (fun c => { c with frames := c.frames.map (fun x => if x.num = n then f x else x) })

/-- Field `i` of set `s` is enabled, and protective (R383). -/
def Dev.fieldOn (d : Dev) (s i : Nat) : Bool := (d.setField s 0 1).testBit i
def Dev.fieldProt (d : Dev) (s i : Nat) : Bool := d.fieldOn s i && (d.setField s 0 1).testBit (3 + i)

/-- One VIOLATION message for protective field `3 s + i` of a frame, unless the set is muted or it was sent (R390). What
no echo gives, beam and range, is free. -/
def Dev.violation (d : Dev) (num s i : Nat) (echo : Option (Nat × Nat)) : Dev :=
  let told := d.cny.frames.any (fun f => f.num == num && f.told.contains (3 * s + i))
  if told || d.setMuted s || !d.fieldProt s i then d
  else
    let d := d.onFrame num (fun f => { f with told := (3 * s + i) :: f.told })
    let (b, d) := match echo with
      | some (b, r) => (leBytes 2 b ++ leBytes 3 r, d)
      | none => (leBytes 5 (d.fresh 40).toNat, d.drew)
    d.cnySend 2 (leBytes 1 s ++ leBytes 1 i ++ b ++ leBytes 4 num)

/-- One counted echo against the enabled fields of the frame's sets (R381). -/
def Dev.judgeEcho (d : Dev) (fr : FieldFrame) (beam az cosE range : Nat) : Dev :=
  let dist : Int := (range : Int) * 292766 * cosE
  let d := d.inc64 R.CNY_CNT_ECHOES 1
  (fr.sets.flatMap (fun s => [(s, 0), (s, 1), (s, 2)])).foldl (fun (d : Dev) (p : Nat × Nat) =>
    let (s, i) := p
    if !d.fieldOn s i then d
    else
      let (con, d) := d.inContour (3 * s + i) az dist
      let bmp := d.inBitmap (3 * s + i) az dist
      let d := if con && !bmp then (d.logFault 0x1809 .n).cnyLock 0x1809 else d
      if !con && !bmp then d
      else (d.onFrame fr.num (fun f => { f with hits := if f.hits.contains (3 * s + i) then f.hits else (3 * s + i) :: f.hits })).violation fr.num s i (some (beam, range))) d

/-- The Canary evaluates one record of the queue (R379, R380, R381). -/
def Dev.evalRecord (d : Dev) (r : CnyRec) : Dev :=
  match d.cny.frames.find? (fun f => f.num == r.frame) with
  | none => d
  | some fr =>
    let h := leAt r.body 0 8
    let cell := h / 2 ^ 16 % 2 ^ 24
    let flags := h / 2 ^ 52 % 256
    -- sieve_poisoned, window_contam, degraded, port_blind, no_fire of Table 11-1
    let blind := flags.testBit 0 || flags.testBit 3 || flags.testBit 4 || flags.testBit 6 || flags.testBit 7
    let d := d.onFrame r.frame (fun f => { f with cells := cell :: f.cells, blind := if blind then cell :: f.blind else f.blind })
    (List.range (h / 2 ^ 48 % 16)).foldl (fun (d : Dev) n =>
      let e := leAt r.body (16 + 8 * n) 8
      match d.beamOf cell (e / 2 ^ 56) with
      | none => d
      | some b =>
        let (_, _, az, cosE) := d.beam b
        if (d.prm 0x22 2).testBit (e / 2 ^ 48 % 16) then d.judgeEcho fr b az cosE (e % 2 ^ 24) else d) d

/-- ECHO_EVALUATION (R379, R381): the record at the head of the point tap's queue. -/
def execEchoEvaluation (t c : Nat) (s : State) : Out :=
  s.atCny t c (fun d => match d.cny.queue with
    | [] => d
    | r :: rest => (d.onCny (fun x => { x with queue := rest })).evalRecord r)

/-- The beams that are blind in a frame (R380). -/
def Dev.blindBeams (d : Dev) (f : FieldFrame) : Nat :=
  ((List.range (d.prm 0x2A 2)).filter (fun i => let (c, _, _, _) := d.beam i; f.blind.contains c || !f.cells.contains c)).length

/-- Field `3 s + i` of a frame is violated, in the eyes of a set that is not muted, or of a muted one (R382, R384,
R393): a violation under either set of an overlap frame counts under both. -/
def Dev.fieldViolated (d : Dev) (f : FieldFrame) (blind s i : Nat) : Bool :=
  let all := f.sets.any (fun x => decide (d.setField x 7 1 < blind)) || f.late || !f.whole
  d.fieldOn s i &&
  ((d.fieldProt s i && all) || f.sets.any (fun x => d.fieldOn x i && f.hits.contains (3 * x + i) && (!d.setMuted x || d.setMuted s)))

/-- The evaluation of a frame closes (R380, R382): records that had arrived are judged first. -/
def Dev.closeFrame (d : Dev) (num : Nat) : Dev :=
  let mine := d.cny.queue.filter (fun r => r.frame == num)
  let d := mine.foldl (fun (d : Dev) r => d.evalRecord r) (d.onCny (fun c => { c with queue := c.queue.filter (fun r => r.frame != num) }))
  match d.cny.frames.find? (fun f => f.num == num) with
  | none => d
  | some f =>
    let blind := d.blindBeams f
    let fields := f.sets.flatMap (fun s => [(s, 0), (s, 1), (s, 2)])
    let viol := fields.filter (fun (s, i) => d.fieldViolated f blind s i)
    let prot := viol.filter (fun (s, i) => d.fieldProt s i)
    let d := prot.foldl (fun (d : Dev) (p : Nat × Nat) => d.violation num p.1 p.2 none) d
    let old := d.cny.counts
    let counts := prot.foldl (fun (m : Map Nat) p => mput m (3 * p.1 + p.2) (mgetD old (3 * p.1 + p.2) 0 + 1)) []
    let off := f.sets.filter (fun s => [0, 1, 2].any (fun i => prot.contains (s, i) && decide (d.prm 7 1 ≤ mgetD counts (3 * s + i) 0)))
    let seen := fun (l : List (Nat × Nat)) => maskOf ([0, 1, 2].filter (fun i => l.any (fun p => p.2 == i && !d.setMuted p.1)))
    let d := d.onCny (fun c => { c with
      frames := c.frames.filter (fun x => x.num != num)
      counts := counts, offSets := off, closed := num, lastBlind := blind
      lastProt := seen prot, lastWarn := seen (viol.filter (fun p => !prot.contains p)) })
    d.ossdDrop

/-- FIELD_EVALUATION_CLOSE (R380): every frame whose next boundary is 1 ms old. -/
def execFieldEvaluationClose (t c : Nat) (s : State) : Out :=
  s.atCny t c (fun d =>
    (d.cny.frames.filter (fun f => match f.next with | some n => decide (n + 1600000 ≤ d.now) | none => false)).foldl
      (fun (d : Dev) f => d.closeFrame f.num) d)

/-- FRAME_PERIOD_OVER_FRAME_MAX (R382): frame_max has passed since the open frame's boundary with no next one. -/
def execFramePeriodOverFrameMax (t c : Nat) (s : State) : Out :=
  s.atCny t c (fun d => match d.cny.frames.find? (fun f => f.next.isNone) with
    | none => d
    | some f =>
      if f.late || !decide (f.start + 1600 * d.prm 0x0C 4 < d.now) then d
      else
        let d := (d.logFault 0x1808 .n).onFrame f.num (fun x => { x with late := true })
        (f.sets.flatMap (fun s => [(s, 0), (s, 1), (s, 2)])).foldl (fun (d : Dev) (p : Nat × Nat) => d.violation f.num p.1 p.2 none) d)

/-! Core liveness (R394). -/

/-- LIVENESS_REQUEST (R394): every running core gets a request with a nonce of its own, which is free, and CANARY. -/
def execLivenessRequest (t c : Nat) (s : State) : Out :=
  s.atCny t c (fun d =>
    if !d.nativeMode then d
    else ((List.range 16).filter (fun k => (d.core k).running)).foldl (fun (d : Dev) k =>
      let n := (d.fresh 16).toNat
      let d := d.drew.onCore k (fun q => { q with cnyReq := BitVec.ofNat 32 (n + 65536), cnyAck := none, evPend := q.evPend ||| 1 })
      d.onCny (fun x => { x with live := mput x.live k (n, x.rc) })) d)

/-- LIVENESS_DEADLINE (R394): 20 µs after its request a core's answer is missing or wrong, so it is removed. -/
def execLivenessDeadline (t c core : Nat) (s : State) : Out :=
  s.atCny t c (fun d => match mget d.cny.live core with
    | none => d
    | some (n, at_) =>
      if d.cny.rc < at_ + rcUs 20 then d
      else
        let d := d.onCny (fun x => { x with live := mdel x.live core })
        let ok := match (d.core core).cnyAck with | some a => a.toNat % 65536 == 65535 - n | none => false
        if ok || (d.core core).removed then d else d.removeCore core 0x1807)

end Sys2Proof.Machine
end

