-- ==== Sys2Proof/Machine/Links.lean ====
section
/-! DEFINITION. Ixhal lanes (R335 to R353): bring-up, symbols received and symbols sent. -/
namespace Sys2Proof.Machine

/-- An event of lane `n` at tick `t`: nothing while the lane is removed. -/
def State.atLane (s : State) (t n : Nat) (f : Dev → Dev) : Out :=
  s.atTick t (fun d => if 8 ≤ n || d.isRemoved (.lane n) then d else f d)

/-- The bring-up state of a lane begins anew; what waits to be sent is kept, and a packet cut short starts over
(log entry 38). -/
def Lane.restart (l : Lane) (st : LaneSt) : Lane :=
  { st := st, gen := if st == .down then 0 else 1, pendCap := l.pendCap, safe := l.safe, responses := l.responses
    bounded := l.bounded.map (fun p => (p.1, 0)), bulk := l.bulk.map (fun p => (p.1, 0)), elastic := l.elastic, last := l.last }

/-- The lane goes to `st`; an exit from UP is counted and logs 0x1401 (R340). -/
def Dev.laneTo (d : Dev) (n : Nat) (st : LaneSt) : Dev :=
  let was := (d.lane n).st
  let d := d.onLane n (fun l => l.restart st)
  if was == .up then (d.incSat (R.LNK_DOWNS n) 31 0 1).logFault 0x1401 .n else d

/-- The lane carries traffic again: every stream whose records were dropped gets its gap record first (R241). -/
def Dev.laneRise (d : Dev) (n : Nat) : Dev :=
  ((List.range 4).filter (fun s => d.streamLaneEn s && d.streamLane s == n)).foldl (fun (d : Dev) s =>
    let k := mgetD d.pnt.laneDrops s 0
    if k = 0 then d else ({ d with pnt := { d.pnt with laneDrops := mdel d.pnt.laneDrops s } }).gap s k 3) d

/-- A Bounded stream counts on the lane (R252, R352). -/
def Dev.laneBounded (d : Dev) (n : Nat) : Bool :=
  (List.range 4).any (fun s => d.countsOn s == some n) || (n == 0 && d.netB && d.streamOn 4)

/-- The lane enters UP (R340, R352). -/
def Dev.laneEnterUp (d : Dev) (n gen : Nat) : Dev :=
  let d := d.onLane n (fun l => { l.restart .up with gen := gen, target := l.target, partnerGen := l.partnerGen, partnerVer := l.partnerVer, locked := true })
  let d := if gen < 3 && d.laneBounded n then d.logFault 0x1402 .n else d
  d.laneRise n

/-- The target of bring-up (R341). -/
def Dev.laneTarget (d : Dev) (n : Nat) : Nat :=
  let l := d.lane n
  Nat.min (Nat.min l.partnerGen (d.fld (R.LNK_CFG n) 3 1)) (if l.partnerVer = 1 then 3 else 5)

/-- The lane begins a step to the next generation. -/
def Dev.laneStep (d : Dev) (n : Nat) : Dev :=
  d.onLane n (fun l => { l with st := .step, propRx := false, propTx := false, moved := false, markTx := false, checking := false
                                localRes := none, resTx := false, partnerRes := none })

/-- CAP agreement, when it is reached (R341). -/
def Dev.laneAgree (d : Dev) (n : Nat) : Dev :=
  let l := d.lane n
  if l.st != .cap || !l.capSeen || !l.capTx then d
  else
    let tg := d.laneTarget n
    let d := d.onLane n (fun l => { l with target := tg, pendCap := false })
    if tg ≤ 1 then d.laneEnterUp n 1 else d.laneStep n

/-- The step under way ends at generation `g` in force before it, passed or not (R342, R344). -/
def Dev.laneConclude (d : Dev) (n : Nat) (pass : Bool) : Dev :=
  let l := d.lane n
  let g := if l.moved then l.gen - 1 else l.gen
  let cap := d.fld (R.LNK_CFG n) 3 1
  if l.pendRetrain then d.laneTo n .align
  else if l.pendCap && decide (cap < g + 1) then (d.onLane n (fun l => { l with pendCap := false, target := d.laneTarget n })).laneEnterUp n (Nat.min g cap)
  else
    let d := if l.pendCap then d.onLane n (fun l => { l with pendCap := false, target := d.laneTarget n }) else d
    if !pass then d.laneEnterUp n g
    else if (d.lane n).target ≤ g + 1 then d.laneEnterUp n (g + 1)
    else (d.onLane n (fun l => { l with gen := g + 1 })).laneStep n

/-- The step ends once both results are known and the local one has been sent (R342). -/
def Dev.laneJudge (d : Dev) (n : Nat) : Dev :=
  match (d.lane n).localRes, (d.lane n).partnerRes with
  | some (a, _), some b => if (d.lane n).resTx then d.laneConclude n (a && b) else d
  | _, _ => d

/-! Configuration and commands. -/

/-- Bring-up starts where LNK_CFG.enable asks for it and stage 6 has ended (R340). -/
def Dev.laneStart (d : Dev) (n : Nat) : Dev :=
  if d.rbit (R.LNK_CFG n) 0 && decide (6 ≤ d.boot.stage) && d.serialOk && (d.lane n).st == .down && !d.isRemoved (.lane n) then d.laneTo n .align else d

/-- What a write of LNK_CFG does (R340, R344): a gen_cap that arrives in a step is queued, one that arrives in UP waits
for the next bring-up. -/
def Dev.lnkCfgWrite (d : Dev) (n : Nat) (v : Word) : Dev :=
  let old := d.fld (R.LNK_CFG n) 3 1
  let d := d.storeReg (R.LNK_CFG n) v
  let st := (d.lane n).st
  let d := if d.fld (R.LNK_CFG n) 3 1 != old && (st == .step || st == .up) then d.onLane n (fun l => { l with pendCap := true }) else d
  if !d.rbit (R.LNK_CFG n) 0 then (if st == .down then d else d.laneTo n .down) else d.laneStart n

/-- What an accepted write of LNK_CMD does (Table 17-6). -/
def Dev.lnkCmd (d : Dev) (n : Nat) (w : Word) : Dev :=
  let put := fun (d : Dev) st r => d.setReg (R.LNK_CMD n) (cmdWord w 0xFF st r)
  let removed := d.isRemoved (.lane n)
  match bits w 7 0 with
  | 1 => match (d.lane n).st with
    | .up => put (d.laneTo n .align) 1 0
    | .step => put (d.onLane n (fun l => { l with pendRetrain := true })) 3 0
    | _ => put d 2 1
  | 2 =>
    if !removed then put d 2 3
    else if !d.faultCleared 0x1404 then put d 2 2
    else put ((d.reinstateUnit (.lane n)).laneStart n) 1 0
  | _ => put d 2 4

/-- LANE_ENABLE (R340). -/
def execLaneEnable (src t lane : Nat) (value : Word) (s : State) : Out :=
  s.atTick t (fun d => d.regWrite src (R.LNK_CFG (lane % 8)) value (fun d => d.lnkCfgWrite (lane % 8) value))

/-- GEN_CAP_WRITE (R344). -/
def execGenCapWrite (src t lane : Nat) (value : Word) (s : State) : Out :=
  s.atTick t (fun d => d.regWrite src (R.LNK_CFG (lane % 8)) value (fun d => d.lnkCfgWrite (lane % 8) value))

/-- LNK_RETRAIN (R344). -/
def execLnkRetrain (src t lane : Nat) (s : State) : Out :=
  s.atTick t (fun d => d.cmdWrite src (R.LNK_CMD (lane % 8)) 1 (fun d => d.lnkCmd (lane % 8) 1))

/-- LNK_REINSTATE (R352). -/
def execLnkReinstate (src t lane : Nat) (s : State) : Out :=
  s.atTick t (fun d => d.cmdWrite src (R.LNK_CMD (lane % 8)) 2 (fun d => d.lnkCmd (lane % 8) 2))

/-- A queued RETRAIN is carried out when the step has ended: its register then reads accepted. -/
def Dev.retrainDone (d : Dev) (n : Nat) : Dev :=
  if d.fld (R.LNK_CMD n) 9 8 == 3 && !(d.lane n).pendRetrain then d.setFld (R.LNK_CMD n) 9 8 1 else d

/-! Lock (R338 to R340). -/

/-- LANE_LOCK (R338). -/
def execLaneLock (t lane : Nat) (s : State) : Out :=
  s.atLane t lane (fun d =>
    let l := d.lane lane
    if l.st == .down || l.locked then d
    else
      let d := d.onLane lane (fun l => { l with locked := true, lostAt := none, discarding := false, st := if l.st == .align then .cap else l.st })
      if l.st == .up then d.laneRise lane else d)

/-- Lock is lost (R338, R340). -/
def Dev.laneUnlock (d : Dev) (n : Nat) : Dev :=
  d.onLane n (fun l => if l.st == .down || !l.locked then l else { l with locked := false, lostAt := if l.st == .up then some d.now else none })

/-- LOCK_LOSS (R338). -/
def execLockLoss (t lane : Nat) (s : State) : Out := s.atLane t lane (fun d => d.laneUnlock lane)

/-- LOCK_LOSS_TIMEOUT (R340): lock lost for more than 1 ms. -/
def execLockLossTimeout (t lane : Nat) (s : State) : Out :=
  s.atLane t lane (fun d => match (d.lane lane).lostAt with
    | some x => if x + 1600000 < d.now then d.laneTo lane .align else d
    | none => d)

/-! Symbols received (R335, R337, R341, R342, R349 to R351). `err` is what decoding found: 0 nothing, 1 a corrected
byte, more an uncorrectable symbol. -/

/-- A symbol arrives on lane `n` (R337). -/
def Dev.rxSymbol (d : Dev) (n err : Nat) (f : Dev → Dev) : Dev :=
  let l := d.lane n
  if l.st == .down || !l.locked || l.discarding then d
  else if err = 0 then f d
  else if err = 1 then f (d.inc64 (R.LNK_CNT_CORR n) 1)
  else d.inc64 (R.LNK_CNT_UNCORR n) 1

/-- A received symbol is discarded and counted. -/
def Dev.rxDiscard (d : Dev) (n : Nat) : Dev := d.inc64 (R.LNK_CNT_DISC n) 1

/-- CAP (R341). -/
def execCapSymbol (t lane err version highest dev number : Nat) (seen : Bool) (part : Nat) (s : State) : Out :=
  s.atLane t lane (fun d => d.rxSymbol lane err (fun d =>
    if (d.lane lane).st != .cap || !decide (1 ≤ highest ∧ highest ≤ 5) then d
    else
      let d := d.setReg (R.LNK_PARTNER lane) (BitVec.ofNat 32 (dev % 16 + 16 * (number % 256) + 65536 * (part % 65536)))
      let d := d.onLane lane (fun l => { l with capRx := true, capSeen := l.capSeen || seen, partnerVer := version % 4, partnerGen := highest })
      d.laneAgree lane))

/-- RATE (R342): a proposal (`op` 1) or a result (`op` 2) for generation `gen`. -/
def execRateSymbol (t lane err op gen : Nat) (pass : Bool) (s : State) : Out :=
  s.atLane t lane (fun d => d.rxSymbol lane err (fun d =>
    let l := d.lane lane
    if l.st != .step then d
    else if op = 1 then (if !l.moved && gen == l.gen + 1 then d.onLane lane (fun l => { l with propRx := true }) else d)
    else if op = 2 then
      if l.moved && gen == l.gen && l.partnerRes.isNone then ((d.onLane lane (fun l => { l with partnerRes := some pass })).laneJudge lane).retrainDone lane else d
    else d))

/-- PRBS_MARKER (R342). -/
def execPrbsMarker (t lane err gen : Nat) (s : State) : Out :=
  s.atLane t lane (fun d => d.rxSymbol lane err (fun d =>
    let l := d.lane lane
    if l.st == .step && l.moved && gen == l.gen && l.localRes.isNone then d.onLane lane (fun l => { l with checking := true }) else d))

/-- PRBS_CHECK_END (R342): the local check ends with `errors` bit errors. -/
def execPrbsCheckEnd (t lane errors : Nat) (s : State) : Out :=
  s.atLane t lane (fun d =>
    let l := d.lane lane
    if l.st != .step || !l.checking then d
    else
      let pass := decide (errors ≤ d.fld (R.LNK_CFG lane) 23 16)
      let lsb := 8 * (l.gen - 2)
      let d := d.setFld (R.LNK_PRBS lane) (lsb + 7) lsb (satN 255 errors)
      d.onLane lane (fun l => { l with checking := false, localRes := some (pass, errors), localEnd := d.now }))

/-- RATE_RESULT_TIMEOUT (R342): no result within 1 ms of the end of the local check. -/
def execRateResultTimeout (t lane : Nat) (s : State) : Out :=
  s.atLane t lane (fun d =>
    let l := d.lane lane
    if l.st == .step && l.localRes.isSome && l.partnerRes.isNone && decide (l.localEnd + 1600000 ≤ d.now) then (d.laneConclude lane false).retrainDone lane else d)

/-- DATA (R351). -/
def execDataSymbol (t lane err : Nat) (s : State) : Out := s.atLane t lane (fun d => d.rxSymbol lane err (fun d => d.rxDiscard lane))

/-- TIME (R351). -/
def execTimeSymbol (t lane err : Nat) (s : State) : Out := s.atLane t lane (fun d => d.rxSymbol lane err (fun d => d.rxDiscard lane))

/-- UNKNOWN_SYMBOL (R335): a symbol whose type Table 17-1 does not list. -/
def execUnknownSymbol (t lane err : Nat) (s : State) : Out := s.atLane t lane (fun d => d.rxSymbol lane err (fun d => d.rxDiscard lane))

/-- SAFE (R349, R391): on lane 0 from a version 2 partner the message is passed to the Canary, which takes it where
lane 0 is its second network. -/
def execSafeSymbol (t c lane err : Nat) (msg : List Byte) (s : State) : Out :=
  s.atLane t lane (fun d => d.rxSymbol lane err (fun d =>
    if lane != 0 || (d.lane lane).partnerVer != 2 then d.rxDiscard lane
    else if d.cny.lost || !d.netB then d
    else (d.onCny (fun x => { x with rc := Nat.max x.rc c })).copyIn 1 msg))

/-- STUFFING_ERROR (R337). -/
def execStuffingError (t lane : Nat) (s : State) : Out :=
  s.atLane t lane (fun d =>
    let l := d.lane lane
    if l.st == .down || !l.locked then d
    else (d.inc64 (R.LNK_CNT_STUFF lane) 1).onLane lane (fun l => { l with discarding := true }))

/-- ELASTIC_BUFFER_ADJUST (R339): at the end of a received frame the buffer holds `fill` symbols, `trailing` says that
the frame has a trailing FILL, and `broken` that the buffer ran over or under. -/
def execElasticBufferAdjust (t lane fill : Nat) (trailing broken : Bool) (s : State) : Out :=
  s.atLane t lane (fun d =>
    if (d.lane lane).st == .down || !(d.lane lane).locked then d
    else
      let d := d.onLane lane (fun l => { l with discarding := false })
      if broken || 8 < fill then (d.logFault 0x1403 .n).laneUnlock lane
      else if 5 < fill && trailing then (d.inc64 (R.LNK_CNT_FILL lane) 1).onLane lane (fun l => { l with elastic := fill - 1 })
      else if fill < 3 then (d.inc64 (R.LNK_CNT_FILL lane) 1).onLane lane (fun l => { l with elastic := fill + 1 })
      else d.onLane lane (fun l => { l with elastic := fill }))

/-! Symbols sent (R335, R347 to R351). -/

/-- The 32 data bytes of a symbol. -/
def symbol (ty : Nat) (content : List Byte) : List Byte := (BitVec.ofNat 8 ty :: content ++ List.replicate 31 0#8).take 32

/-- A DATA symbol: the next bytes of a packet of which `off` have left (R348). -/
def dataBytes (p : Packet) (off : Nat) : List Byte :=
  let part := (p.bytes.drop off).take 29
  let ty := if off = 0 then 0x10 else if p.bytes.length ≤ off + 29 then 0x12 else 0x11
  symbol ty (leBytes 1 (p.stream % 16) ++ leBytes 1 part.length ++ part)

/-- A packet's last bit leaves at tick `tEnd`: its records count as sent, and a point record's delivery is measured
(R243). -/
def Dev.packetSent (d : Dev) (p : Packet) (tEnd lane : Nat) : Dev :=
  let d := d.inc64 (R.PNT_CNT_SENT p.stream) p.records
  p.xs.foldl (fun (d : Dev) x =>
    let l := satN 65535 (tEnd - x)
    let d := { d with pnt := { d.pnt with latMax := Nat.max l d.pnt.latMax, latLast := l } }
    if x + 32000 < tEnd && d.laneUp lane then ((d.setBit R.PNT_STATUS 0 true).inc64 R.PNT_CNT_LATE 1).raise 0x0D03 .h else d) d

/-- The oldest closed packet of a class on lane `n`: stream 4 first, then Bounded by age; or Bulk by age (R239, R347). -/
def Dev.nextPacket (d : Dev) (n : Nat) (isBulk : Bool) : Option Packet :=
  let l := (mgetD d.pnt.lanes n []).filter (fun p => decide (8 ≤ p.stream) == isBulk)
  match l.find? (fun p => p.stream == 4) with
  | some p => some p
  | none => l.foldl (fun (b : Option Packet) p => match b with
    | none => some p
    | some q => if p.order < q.order then some p else some q) none

/-- Take a packet off the lane's waiting list. -/
def Dev.takePacket (d : Dev) (n : Nat) (p : Packet) : Dev :=
  { d with pnt := { d.pnt with lanes := mupd d.pnt.lanes n [] (fun l => l.filter (fun q => q.order != p.order)) } }

/-- Send one DATA symbol of a packet, keeping it open through `keep` until its end. -/
def Dev.sendData (d : Dev) (n tEnd : Nat) (p : Packet) (off : Nat) (keep : Option (Packet × Nat) → Lane → Lane) : Dev :=
  let last := decide (p.bytes.length ≤ off + 29)
  let d := d.onLane n (fun l => { keep (if last then none else some (p, off + 29)) l with last := dataBytes p off })
  if last then d.packetSent p tEnd n else d

/-- The content of a TIME symbol whose first bit leaves now: the time base within ±1 tick (R351). -/
def Dev.timeContent (d : Dev) : List Byte :=
  let e := (d.fresh 8).toNat % 3
  leBytes 8 (d.time + e + 2 ^ 64 - 1) ++ leBytes 1 (unsigned 8 (signed 5 (d.reg R.CLK_SYNC_RESID).toNat)) ++ leBytes 1 d.devId ++ leBytes 4 (d.reg R.SEQ_FRAME).toNat

/-- One frame slot of a lane in UP (R347): the first ready class. -/
def Dev.slotUp (d : Dev) (n tEnd : Nat) : Dev :=
  let l := d.lane n
  let idle := d.onLane n (fun l => { l with last := symbol 1 [] })
  match l.safe with
  | (q, m) :: rest =>
    (d.onLane n (fun l => { l with safe := rest, last := symbol 0x30 (leBytes 4 q ++ m) })).inc64 (R.PNT_CNT_SENT 4) 1
  | [] =>
    if l.timeDue then (d.onLane n (fun l => { l with timeDue := false, last := symbol 0x40 d.timeContent })).drew
    else match l.bounded with
      | some (p, off) => d.sendData n tEnd p off (fun x l => { l with bounded := x })
      | none => match d.nextPacket n false with
        | some p => (d.takePacket n p).sendData n tEnd p 0 (fun x l => { l with bounded := x })
        | none => match l.responses with
          | (_, r) :: rest => d.onLane n (fun l => { l with responses := rest, last := symbol 0x21 r })
          | [] => match l.bulk with
            | some (p, off) => d.sendData n tEnd p off (fun x l => { l with bulk := x })
            | none => match d.nextPacket n true with
              | some p => (d.takePacket n p).sendData n tEnd p 0 (fun x l => { l with bulk := x })
              | none => idle

/-- One frame slot of a lane in STEP (R342). -/
def Dev.slotStep (d : Dev) (n : Nat) : Dev :=
  let l := d.lane n
  if !l.moved then
    if l.propRx && l.propTx then d.onLane n (fun l => { l with last := symbol 1 [] })
    else d.onLane n (fun l => { l with propTx := true, last := symbol 3 (leBytes 1 1 ++ leBytes 1 (l.gen + 1)) })
  else if !l.locked then d.onLane n (fun l => { l with last := symbol 1 [] })
  else if !l.markTx then d.onLane n (fun l => { l with markTx := true, last := symbol 4 (leBytes 1 l.gen) })
  else match l.localRes with
    | some (pass, e) =>
      (d.onLane n (fun l => { l with resTx := true, last := symbol 3 (leBytes 1 2 ++ leBytes 1 l.gen ++ leBytes 1 (b2n pass) ++ leBytes 4 (satN 0xFFFFFFFF e)) })).laneJudge n
    | none => d.onLane n (fun l => { l with last := symbol 1 [] })

/-- One frame slot of a lane in CAP (R341): the highest generation sent is gen_cap (log entry 39). -/
def Dev.slotCap (d : Dev) (n : Nat) : Dev :=
  let l := d.lane n
  let c := leBytes 1 2 ++ leBytes 1 (d.fld (R.LNK_CFG n) 3 1) ++ leBytes 1 d.devId ++ leBytes 1 n ++ leBytes 1 (b2n l.capRx) ++ leBytes 2 0x4256
  (d.onLane n (fun l => { l with capTx := l.capTx || l.capRx, last := symbol 2 c })).laneAgree n

/-- The slot count; at a frame's end a transmitter that has agreed on a step switches (R336, R342). -/
def Dev.slotCount (d : Dev) (n : Nat) : Dev :=
  d.onLane n (fun l =>
    if l.slot < 63 then { l with slot := l.slot + 1 }
    else
      let l := { l with slot := 0, frames := l.frames + 1 }
      if l.st == .step && !l.moved && l.propRx && l.propTx then { l with moved := true, gen := l.gen + 1, locked := false } else l)

/-- FRAME_SLOT_TRANSMIT (R347): the symbol of the slot whose first bit leaves at `t` and whose last bit `dur` ticks
later. -/
def execFrameSlotTransmit (t lane dur : Nat) (s : State) : Out :=
  s.atLane t lane (fun d =>
    let d := match (d.lane lane).st with
      | .down => d
      | .align => d.onLane lane (fun l => { l with last := symbol 1 [] })
      | .cap => d.slotCap lane
      | .step => d.slotStep lane
      | .up => d.slotUp lane (d.now + dur)
    if (d.lane lane).st == .down then d else (d.slotCount lane).retrainDone lane)

/-- TIME_SYMBOL_DUE (R351). -/
def execTimeSymbolDue (t lane : Nat) (s : State) : Out :=
  s.atLane t lane (fun d =>
    let l := d.lane lane
    if l.st == .up && d.rbit (R.LNK_CFG lane) 4 && l.partnerVer == 2 && decide (d.fld (R.LNK_CFG lane) 15 8 ≤ l.frames) then
      d.onLane lane (fun l => { l with timeDue := true, frames := 0 })
    else d)

/-- LANE_PARITY_ERROR (R352). -/
def execLaneParityError (t lane : Nat) (s : State) : Out :=
  s.atLane t lane (fun d => (d.laneTo lane .down).raiseD 0x1404 (.lane lane))

end Sys2Proof.Machine
end

