-- ==== Sys2Proof/Machine/Clock.lean ====
section
/-! DEFINITION. The time base and its sources (R30 to R40, R360) and the two-half rule (R33, R426). -/
namespace Sys2Proof.Machine

/-- A step is committed: applied at once, or held in RANGING until the next frame boundary (R32). -/
def Dev.commitStep (d : Dev) (n : Int) (fromSource : Bool) : Dev :=
  if d.ranging then
    let (m, f) := d.clk.stepPend.getD (0, false)
    { d with clk := { d.clk with stepPend := some (m + n, f || fromSource) } }
  else d.applyStep n fromSource

/-- The rate the servo sets: a free value within the limits of R31 (R35 gives no law). -/
def Dev.servo (d : Dev) : Dev :=
  let r := (d.fresh 32).toNat % 400001
  (d.setReg R.CLK_RATE_ADJ (BitVec.ofInt 32 ((r : Int) - 200000))).drew

/-- An offset in fine steps is applied (R35): its whole ticks by a step or by the servo's slew, its remainder shown. -/
def Dev.applyOffset (d : Dev) (fine : Int) : Dev :=
  let whole := (fine + 16) / 32
  let d := d.setReg R.CLK_SYNC_RESID (BitVec.ofNat 32 (unsigned 5 (fine - 32 * whole)))
  if d.rbit R.CLK_SYNC_CTRL 1 || decide (d.fld R.CLK_SYNC_CTRL 31 16 < whole.natAbs) then
    (if whole = 0 then d else d.commitStep whole true)
  else d.servo

/-- The selected time source. -/
def Dev.timeSource (d : Dev) : Nat := d.fld R.CLK_TIME_CTRL 1 0

/-- The selected source has been heard. -/
def Dev.sourceHeard (d : Dev) : Dev := ({ d with clk := { d.clk with lastEpoch := d.now } }).setBit R.CLK_STATUS 2 false

/-- An edge is captured: its time base value and phase are shown (R35). -/
def Dev.capture (d : Dev) (phase : Nat) : Dev :=
  (d.setReg64 R.CLK_EPOCH d.time).setReg R.CLK_EPOCH_PHASE (BitVec.ofNat 32 (phase % 32))

/-- SLEW_CARRY (R31): the ticks up to `t` pass; the accumulator's carries advance the time base by 2 or by 0 on theirs. -/
def execSlewCarry (t : Nat) (s : State) : Out := s.atTick t (fun d => d)

/-! SYNC (R36, R37). -/

/-- A SYNC message: preamble, time, hop count and CRC (R36). -/
def syncMessage (time hop : Nat) : Nat :=
  let m := 0xD5 + 2 ^ 8 * (time % 2 ^ 64) + 2 ^ 72 * (hop % 256)
  m + 2 ^ 80 * (crc16 (bitsOf 80 m)).toNat

/-- The message's CRC is right. -/
def syncGood (m : Nat) : Bool := m / 2 ^ 80 % 65536 == (crc16 (bitsOf 80 m)).toNat

/-- A discarded epoch (R37). -/
def Dev.syncBad (d : Dev) : Dev := (d.incSat R.CLK_STATUS 31 16 1).logFault 0x0203 .n

/-- SYNC_EPOCH_SEND (R36): a source device drives an epoch once every period. -/
def execSyncEpochSend (t : Nat) (s : State) : Out :=
  s.atTick t (fun d =>
    let p := d.fld R.CLK_SYNC_CTRL 9 2
    let due := match d.clk.syncOutEdge with | none => true | some x => decide (x + 1600000 * p ≤ d.now)
    if d.rbit R.CLK_SYNC_CTRL 0 && p != 0 && due then
      { d with clk := { d.clk with syncOut := syncMessage d.time 0, syncOutEdge := some d.now } }
    else d)

/-- SYNC_IN_EDGE (R35, R36): a follower captures the edge and repeats it 8 ticks later. -/
def execSyncInEdge (t phase : Nat) (s : State) : Out :=
  s.atTick t (fun d =>
    if d.rbit R.CLK_SYNC_CTRL 0 then d
    else
      let d := d.capture phase
      { d with clk := { d.clk with syncEdge := some (d.now, d.time, phase % 32), syncOutEdge := some (d.now + 8) } })

/-- SYNC_MESSAGE (R36, R37): the 96 bits that follow an edge. -/
def execSyncMessage (t message : Nat) (s : State) : Out :=
  s.atTick t (fun d => match d.clk.syncEdge with
    | none => d
    | some (tick, cap, phase) =>
      if tick + 3200 < d.now then d
      else
        let m := message % 2 ^ 96
        let d := { d with clk := { d.clk with syncEdge := none } }
        if !syncGood m then ({ d with clk := { d.clk with syncOut := m } }).syncBad
        else
          let time := m / 2 ^ 8 % 2 ^ 64
          let hop := m / 2 ^ 72 % 256
          let d := { d with clk := { d.clk with syncOut := syncMessage time (hop + 1) } }
          if d.timeSource != 1 then d
          else d.sourceHeard.applyOffset ((time * 32 + hop * 256 + d.fld R.CLK_SYNC_CTRL 15 10 : Nat) - (cap * 32 + phase : Nat)))

/-- SYNC_MESSAGE_TIMEOUT (R37): no message within 2 µs of the edge. -/
def execSyncMessageTimeout (t : Nat) (s : State) : Out :=
  s.atTick t (fun d => match d.clk.syncEdge with
    | none => d
    | some (tick, _, _) => if d.now < tick + 3200 then d else ({ d with clk := { d.clk with syncEdge := none } }).syncBad)

/-- TIME_SOURCE_HOLDOVER (R37, R38): no valid epoch for 3 periods, or no PPS edge for 3 s. -/
def execTimeSourceHoldover (t : Nat) (s : State) : Out :=
  s.atTick t (fun d =>
    let limit := match d.timeSource with | 1 => 3 * 1600000 * d.fld R.CLK_SYNC_CTRL 9 2 | 2 => 4800000000 | _ => 0
    if limit = 0 || d.rbit R.CLK_STATUS 2 || decide (d.now < d.clk.lastEpoch + limit) then d
    else (d.setBit R.CLK_STATUS 2 true).logFault 0x0204 .n)

/-! PPS (R38, R39). -/

/-- PPS_IN_EDGE (R38). -/
def execPpsInEdge (t phase : Nat) (s : State) : Out :=
  s.atTick t (fun d =>
    let d := d.capture phase
    if d.timeSource != 2 then d
    else
      let want := if d.clk.ppsWritten then some (d.reg64 R.CLK_PPS_NEXT) else d.clk.lastPps.map (· + 1600000000)
      let far := match want with | some w => decide (32000000 < ((d.time : Int) - w).natAbs) | none => false
      if far then d.incSat R.CLK_STATUS 15 8 1
      else
        let d := ({ d with clk := { d.clk with lastPps := some d.time } }).sourceHeard
        if d.clk.ppsWritten then
          let w := d.reg64 R.CLK_PPS_NEXT
          (d.applyOffset ((w * 32 : Nat) - (d.time * 32 + phase % 32 : Nat))).setReg64 R.CLK_PPS_NEXT (w + 1600000000)
        else if want.isSome then d.servo else d)

/-- PPS_OUT_RISE (R39). -/
def execPpsOutRise (t : Nat) (s : State) : Out :=
  s.atTick t (fun d =>
    if d.fld R.CLK_PPS_OUT 7 0 != 0 && ((d.time : Int) - d.fld R.CLK_PPS_OUT 31 8) % 1600000000 == 0 then
      { d with clk := { d.clk with ppsOut := true, ppsAt := d.now } }
    else d)

/-- PPS_OUT_FALL (R39): the width has passed. -/
def execPpsOutFall (t : Nat) (s : State) : Out :=
  s.atTick t (fun d =>
    if d.clk.ppsOut && decide (d.clk.ppsAt + 1600000 * d.fld R.CLK_PPS_OUT 7 0 ≤ d.now) then
      { d with clk := { d.clk with ppsOut := false } }
    else d)

/-! gPTP (R34, R360). -/

/-- GPTP_MESSAGE (R34, R360): the grandmaster's time in ns, at `t`, as a received message gives it. -/
def execGptpMessage (t ns : Nat) (s : State) : Out :=
  s.atTick t (fun d =>
    if !d.rbit R.ETH_PTP_CFG 0 || !d.ethUp || d.timeSource != 3 || d.rbit R.CLK_TIME_CTRL 2 then d
    else (d.setBit R.ETH_STATUS 3 true).sourceHeard.applyOffset ((ns * 256 / 5 : Nat) - (d.time * 32 : Nat)))

/-- GPTP_SYNC_SEND (R360): as grandmaster, Sync and Follow_Up every 125 ms, carrying the time base as gPTP time. -/
def execGptpSyncSend (t : Nat) (s : State) : Out :=
  s.atTick t (fun d =>
    let due := match d.clk.ptpAt with | none => true | some x => decide (x + 200000000 ≤ d.now)
    if !d.rbit R.ETH_PTP_CFG 0 || !d.ethUp || d.timeSource != 3 || !d.rbit R.CLK_TIME_CTRL 2 || !due then d
    else
      let ns := d.time * 5 / 8
      let stamp := (leBytes 4 (ns % 1000000000) ++ leBytes 6 (ns / 1000000000)).reverse
      let d := { d with clk := { d.clk with ptpAt := some d.now } }
      (d.ethSend 4 0 0 stamp).ethSend 4 0 0 stamp)

/-! Scheduled frame starts (R40). -/

/-- What a write of CLK_FRAME_AT_CTRL does: an arm less than 256 ticks ahead is refused. -/
def Dev.frameAtWrite (d : Dev) (v : Word) : Dev :=
  let a := R.CLK_FRAME_AT_CTRL
  let d := d.storeReg a v
  if bit v 0 && decide (d.reg64 R.CLK_FRAME_AT < d.time + 256) then (((d.setBit a 0 false).setBit a 1 true).logFault 0x0205 .n) else d

/-- FRAME_AT_ARM (R40). -/
def execFrameAtArm (src t : Nat) (value : Word) (s : State) : Out :=
  s.atTick t (fun d => d.regWrite src R.CLK_FRAME_AT_CTRL value (fun d => d.frameAtWrite value))

/-- SCHEDULED_FRAME_START (R40): the frame whose start was scheduled has started; its lateness is recorded, and the
schedule advances by its period or ends. -/
def execScheduledFrameStart (t : Nat) (s : State) : Out :=
  s.atTick t (fun d => match d.seq.frame with
    | none => d
    | some f =>
      if !f.sched || d.now < f.startTick then d
      else
        let at_ := d.reg64 R.CLK_FRAME_AT
        let lag := d.time - (d.now - f.startTick) - at_
        let d := { d with seq := { d.seq with frame := some { f with sched := false } } }
        let d := d.setFld R.CLK_FRAME_AT_CTRL 31 16 (satN 65535 lag)
        let p := d.fld R.CLK_FRAME_AT_CTRL 15 2
        if p = 0 then d.setBit R.CLK_FRAME_AT_CTRL 0 false else d.setReg64 R.CLK_FRAME_AT (at_ + 1024 * p))

/-! Pairs (R33, R426). -/

/-- The low address of a writable 64-bit pair. -/
def pairBase (a : Nat) : Option Nat :=
  if a / 8 * 8 = R.CLK_STEP ∨ a / 8 * 8 = R.CLK_PPS_NEXT ∨ a / 8 * 8 = R.CLK_FRAME_AT then some (a / 8 * 8) else none

/-- What committing a pair does: CLK_STEP steps the time base, and CLK_PPS_NEXT gains a value (R32, R38). -/
def Dev.pairCommit (d : Dev) (base : Nat) : Dev :=
  if base = R.CLK_STEP then d.commitStep (signed 64 (d.reg64 base)) false
  else if base = R.CLK_PPS_NEXT then { d with clk := { d.clk with ppsWritten := true } }
  else d

/-- What a write of the high word does: both halves are committed, or the high half alone with torn set (R426). -/
def Dev.pairHigh (d : Dev) (src base : Nat) (v : Word) : Dev :=
  match (d.req src).pair with
  | some (a, lo) =>
    let d := d.onReq src (fun r => { r with pair := none })
    if a = base then ((d.setReg base lo).setReg (base + 4) v).pairCommit base
    else ((d.setReg (base + 4) v).pairCommit base).sticky src 0
  | none => ((d.setReg (base + 4) v).pairCommit base).sticky src 0

/-- PAIR_LOW_WRITE (R33): held for its requester. -/
def execPairLowWrite (src t addr : Nat) (value : Word) (s : State) : Out :=
  s.atTick t (fun d => match pairBase addr with
    | none => d
    | some b => d.regWrite src b value (fun d => d.onReq src (fun r => { r with pair := some (b, value) })))

/-- PAIR_HIGH_WRITE (R33, R426). -/
def execPairHighWrite (src t addr : Nat) (value : Word) (s : State) : Out :=
  s.atTick t (fun d => match pairBase addr with
    | none => d
    | some b => d.regWrite src (b + 4) value (fun d => d.pairHigh src b value))

/-- STEP_COMMIT (R32): a write of CLK_STEP_HI. -/
def execStepCommit (src t : Nat) (value : Word) (s : State) : Out :=
  s.atTick t (fun d => d.regWrite src (R.CLK_STEP + 4) value (fun d => d.pairHigh src R.CLK_STEP value))

end Sys2Proof.Machine
end

