-- ==== Sys2Proof/Machine/Net.lean ====
section
/-! DEFINITION. CSI-2, Ethernet and MDIO (R354 to R360). -/
namespace Sys2Proof.Machine

/-! CSI-2 (R354, R356). -/

/-- What a write of CSI_CTRL does: the configuration takes effect when enable rises. -/
def Dev.csiCtrlWrite (d : Dev) (v : Word) : Dev :=
  let was := d.rbit R.CSI_CTRL 0
  let d := d.storeReg R.CSI_CTRL v
  if d.rbit R.CSI_CTRL 0 then
    if was then d else (({ d with net := { d.net with csiCfg := d.reg R.CSI_CTRL, csiWait := false } }).setBit R.CSI_STATUS 0 true).setBit R.CSI_STATUS 1 true
  else d.setFld R.CSI_STATUS 5 0 0

/-- CSI_ENABLE (R354). -/
def execCsiEnable (src t : Nat) (value : Word) (s : State) : Out :=
  s.atTick t (fun d => d.regWrite src R.CSI_CTRL value (fun d => d.csiCtrlWrite value))

/-- DPHY_PLL_UNLOCK (R356): transmission stops. -/
def execDphyPllUnlock (t : Nat) (s : State) : Out :=
  s.atTick t (fun d => if d.rbit R.CSI_CTRL 0 && d.rbit R.CSI_STATUS 0 then (d.setFld R.CSI_STATUS 5 0 0).logFault 0x1501 .n true else d)

/-- DPHY_PLL_RELOCK (R356): transmission resumes at the next frame boundary. -/
def execDphyPllRelock (t : Nat) (s : State) : Out :=
  s.atTick t (fun d =>
    if d.rbit R.CSI_CTRL 0 && d.serialOk && !d.rbit R.CSI_STATUS 0 then
      (({ d with net := { d.net with csiWait := true } }).setBit R.CSI_STATUS 0 true).causeGone 0x1501
    else d)

/-! Ethernet (R357 to R360). -/

/-- ETH_LINK_DOWN (R360). -/
def execEthLinkDown (t : Nat) (s : State) : Out :=
  s.atTick t (fun d => if d.ethUp then ((d.setBit R.ETH_STATUS 0 false).setBit R.ETH_STATUS 3 false).logFault 0x1601 .n true else d)

/-- ETHERNET_LINK_UP (R360): the link comes up at one of the four speeds. -/
def execEthernetLinkUp (t speed : Nat) (s : State) : Out :=
  s.atTick t (fun d =>
    if d.rbit R.ETH_CTRL 0 && d.serialOk && !d.rbit R.ETH_STATUS 0 then ((d.setBit R.ETH_STATUS 0 true).setFld R.ETH_STATUS 2 1 (speed % 4)).causeGone 0x1601 else d)

/-- A received frame is accepted by its tag (R359): untagged, or tagged with the configured VID. -/
def Dev.tagOk (d : Dev) (vid : Option Nat) : Bool := match vid with | none => true | some v => v == d.fld R.ETH_VLAN 11 0

/-- A received frame is discarded and counted (R359). -/
def Dev.ethDiscard (d : Dev) : Dev := d.inc64 R.ETH_CNT_RX_DISC 1

/-- A received frame: handled by `f` when `mine`, else discarded (R359). -/
def Dev.ethRx (d : Dev) (vid : Option Nat) (mine : Bool) (f : Dev → Dev) : Dev :=
  if !d.ethUp then d else if d.tagOk vid && mine then f d else d.ethDiscard

/-- The device's MAC address, 6 bytes. -/
def Dev.ownMac (d : Dev) : List Byte := leBytes 4 (d.reg R.ETH_MAC).toNat ++ leBytes 2 (d.reg (R.ETH_MAC + 4)).toNat

/-- ARP_REQUEST (R359): for the address `target`, from a sender's MAC and IPv4 address; the answer's payload names both
ends' addresses. -/
def execArpRequest (t : Nat) (vid : Option Nat) (target : Word) (sender : List Byte) (s : State) : Out :=
  s.atTick t (fun d => d.ethRx vid (target == d.reg R.ETH_IP4) (fun d =>
    d.ethSend 5 0 0 (d.ownMac ++ leBytes 4 (d.reg R.ETH_IP4).toNat ++ sender)))

/-- The device's IPv6 address, 16 bytes. -/
def Dev.ownIp6 (d : Dev) : List Byte := (List.range 4).flatMap (fun i => leBytes 4 (d.reg (R.ETH_IP6 i)).toNat)

/-- NEIGHBOUR_SOLICITATION (R359): the answer's payload names the address and the device's MAC address. -/
def execNeighbourSolicitation (t : Nat) (vid : Option Nat) (target : List Byte) (s : State) : Out :=
  s.atTick t (fun d => d.ethRx vid (target == d.ownIp6) (fun d => d.ethSend 5 0 0 (d.ownIp6 ++ d.ownMac)))

/-- SAFETY_DATAGRAM (R359, R391): a datagram to the port udp_rx of the active parameters. -/
def execSafetyDatagram (t c : Nat) (vid : Option Nat) (msg : List Byte) (s : State) : Out :=
  s.atTick t (fun d => d.ethRx vid (d.cnyRoutes && !d.netB) (fun d =>
    if d.cny.lost then d else (d.onCny (fun x => { x with rc := Nat.max x.rc c })).copyIn 1 msg))

/-- OTHER_FRAME (R359): any other frame, or one with a bad FCS. -/
def execOtherFrame (t : Nat) (s : State) : Out := s.atTick t (fun d => if d.ethUp then d.ethDiscard else d)

/-! MDIO (R357, R360). -/

/-- The operations of ETH_MDIO. -/
def mdioOp (w : Word) : Nat := bits w 7 0

/-- An accepted write of ETH_MDIO: with a turnaround the access ends at once and a read brings `data` (log entry 40);
without one it waits for its timeout. -/
def Dev.mdioCmd (d : Dev) (w : Word) (turn : Bool) (data : Nat) : Dev :=
  let op := mdioOp w
  let put := fun (d : Dev) st => d.setReg R.ETH_MDIO (cmdWord w 0xFFCFF st 0)
  if op = 0 ∨ 5 < op then put d 2
  else if !turn then (put d 3).setBit R.ETH_STATUS 4 true
  else put (if op = 1 ∨ op = 4 then d.setReg R.ETH_MDIO_DATA (BitVec.ofNat 32 (data % 65536)) else d) 1

/-- The command word of an MDIO operation. -/
def mdioWord (op phy reg : Nat) : Word := BitVec.ofNat 32 (op + 1024 * (phy % 32) + 32768 * (reg % 32))

/-- One MDIO operation by a requester. -/
def State.mdio (s : State) (src t op phy reg : Nat) (turn : Bool) (data : Nat) : Out :=
  s.atTick t (fun d => d.cmdWrite src R.ETH_MDIO (mdioWord op phy reg) (fun d => d.mdioCmd (mdioWord op phy reg) turn data))

/-- C22_READ (R357): `turn` says that the PHY answers, `data` what it answers. -/
def execC22Read (src t phy reg : Nat) (turn : Bool) (data : Nat) (s : State) : Out := s.mdio src t 1 phy reg turn data
/-- C22_WRITE (R357). -/
def execC22Write (src t phy reg : Nat) (turn : Bool) (s : State) : Out := s.mdio src t 2 phy reg turn 0
/-- C45_ADDRESS (R357). -/
def execC45Address (src t phy reg : Nat) (turn : Bool) (s : State) : Out := s.mdio src t 3 phy reg turn 0
/-- C45_READ (R357). -/
def execC45Read (src t phy reg : Nat) (turn : Bool) (data : Nat) (s : State) : Out := s.mdio src t 4 phy reg turn data
/-- C45_WRITE (R357). -/
def execC45Write (src t phy reg : Nat) (turn : Bool) (s : State) : Out := s.mdio src t 5 phy reg turn 0

/-- MDIO_TIMEOUT (R360): the access under way received no turnaround within 1 ms. -/
def execMdioTimeout (t : Nat) (s : State) : Out :=
  s.atTick t (fun d =>
    if d.fld R.ETH_MDIO 9 8 == 3 then ((d.setFld R.ETH_MDIO 9 8 2).setBit R.ETH_STATUS 4 false).logFault 0x1602 .n else d)

end Sys2Proof.Machine
end

