-- ==== Sys2Proof/Machine/Top.lean ====
section
/-! DEFINITION. The state commands of TOP_CMD and what completes them (R10 to R16, R412). -/
namespace Sys2Proof.Machine

/-- A command that arrives while a STOP is pending replaces it: the STOP shows as rejected with reason 0x01 (R14). -/
def Dev.replaceStop (d : Dev) : Dev :=
  if d.fld R.TOP_CMD 9 8 == 3 then ({ d with seq := { d.seq with stopping := false } }).setReg R.TOP_CMD 0x00010202#32 else d

/-- TOP_CMD shows the command with its status and reason (Table 01-5). -/
def Dev.topDone (d : Dev) (w : Word) (status reason : Nat) : Dev := d.setReg R.TOP_CMD (cmdWord w 0xFF status reason)

/-- START (R10, R16): in ARMED, with calibration passed, the admission check decides (log entry 42). -/
def State.topStart (s : State) (w : Word) : State :=
  let d := s.dev
  if d.top.state != .armed || !d.cal.passed then { s with dev := d.topDone w 2 1 }
  else
    let (d, ok) := d.runCheck s.sram
    { s with dev := if ok then (d.topDone w 1 0).enterRanging else d.topDone w 2 2 }

/-- STOP (R14): pending in RANGING, rejected elsewhere. -/
def Dev.topStop (d : Dev) (w : Word) : Dev :=
  if d.ranging then ({ d with seq := { d.seq with stopping := true } }).topDone w 3 0 else d.topDone w 2 1

/-- The reason for which LEAVE_HELD is rejected, 0 when it is accepted (R12, R412). -/
def Dev.leaveReason (d : Dev) : Nat :=
  if d.top.state != .held then 1
  else if d.top.heldFromHeadframe then 5
  else if d.top.causes.any (fun c => !d.faultCleared c || d.top.unloggedCauses.contains c) then 3
  else if d.top.causes.any (fun c => d.faultActive c) then 4
  else 0

/-- LEAVE_HELD (R12, R412, R413). -/
def Dev.topLeave (d : Dev) (w : Word) : Dev :=
  if d.leaveReason = 0 then (d.topDone w 1 0).enterArmed else d.topDone w 2 d.leaveReason

/-- HOLD (R15). -/
def Dev.topHold (d : Dev) (w : Word) : Dev :=
  if d.inState [.armed, .ranging] then (d.topDone w 1 0).raise 0x0101 .h else d.topDone w 2 1

/-- What an accepted write of TOP_CMD does (Table 01-5). -/
def State.topCmd (s : State) (w : Word) : State :=
  match bits w 7 0 with
  | 1 => s.topStart w
  | 2 => s.onDev (fun d => d.topStop w)
  | 3 => s.onDev (fun d => d.topLeave w)
  | 4 => s.onDev (fun d => d.topHold w)
  | _ => s.onDev (fun d => d.topDone w 2 6)

/-- A management write of TOP_CMD by `src` (R14, R43, R414). -/
def State.topWrite (s : State) (src : Nat) (w : Word) : State :=
  let ok := s.dev.alive && s.dev.top.state != .headframe
  let s := s.onDev (fun d => d.regWrite src R.TOP_CMD w Dev.replaceStop)
  if ok then s.topCmd w else s

/-- START (R10). -/
def execStart (src t : Nat) (s : State) : Out := s.atTickMem t (fun s => s.topWrite src 1)

/-- STOP (R14). -/
def execStop (src t : Nat) (s : State) : Out := s.atTickMem t (fun s => s.topWrite src 2)

/-- LEAVE_HELD (R12). -/
def execLeaveHeld (src t : Nat) (s : State) : Out := s.atTickMem t (fun s => s.topWrite src 3)

/-- HOLD (R15). -/
def execHold (src t : Nat) (s : State) : Out := s.atTickMem t (fun s => s.topWrite src 4)

/-- The current frame has ended and every accepted cell's record has left its lane (Table 01-3). -/
def Dev.drained (d : Dev) : Bool :=
  d.frameIssued && (match d.seq.frame with | none => true | some f => f.boundary) &&
  d.seq.cells.all (fun p => p.2.recorded) && (List.range 4).all (fun n => (d.queue n).isEmpty) &&
  d.pnt.lanes.all (fun p => p.2.all (fun k => decide (4 ≤ k.stream))) &&
  d.lanes.all (fun p => match p.2.bounded with | some (k, _) => decide (4 ≤ k.stream) | none => true)

/-- STOP_COMPLETE (R10, R16): the device enters ARMED, without repeating self-test or calibration. -/
def execStopComplete (t : Nat) (s : State) : Out :=
  s.atTick t (fun d =>
    if !d.ranging || !d.seq.stopping || !d.drained then d
    else (d.leaveRanging.goState .armed).setReg R.TOP_CMD (cmdWord 2 0xFF 1 0))

end Sys2Proof.Machine
end

