-- ==== Sys2Proof/Machine/Lamp.lean ====
section
/-! DEFINITION. The Lamp room: customer key fuses and attestation (R58 to R60, R406). -/
namespace Sys2Proof.Machine

/-- TOP_DEVICE_STATE as a read shows it (Table 01-4). -/
def Dev.stateWord (d : Dev) : Word :=
  let st := match d.top.state with | .reset => 1 | .headframe => 1 | .armed => 2 | .ranging => 3 | .held => 4
  BitVec.ofNat 32 (st + 8 * b2n d.degraded + 16 * b2n (d.top.state == .held && d.top.heldFromHeadframe) + 256 * d.top.transitions + 65536 * d.top.heldCause)

/-! Fuses (R59). -/

/-- LMP_FUSE_CMD shows the command; confirm reads 0 (Table 03-14). -/
def Dev.fuseAnswer (d : Dev) (w : Word) (status reason : Nat) : Dev :=
  d.setReg R.LMP_FUSE_CMD ((w &&& 0x3FF#32) ||| BitVec.ofNat 32 (status * 1024 + reason * 4096))

/-- LMP_STATUS shows the fuse state (Table 03-13). -/
def Dev.fuseShow (d : Dev) : Dev := (d.setFld R.LMP_STATUS 3 0 d.boot.fused).setFld R.LMP_STATUS 7 4 d.boot.revoked

/-- The reason for which a fuse command is rejected, 0 when it is accepted (Table 03-14, log entry 43). -/
def Dev.fuseReason (d : Dev) (w : Word) : Nat :=
  let slot := bits w 9 8
  let op := bits w 7 0
  if op ≠ 1 ∧ op ≠ 2 then 8
  else if d.inState [.headframe, .ranging] then 1
  else if bits w 31 16 ≠ 0xF05E then 4
  else if d.boot.fusing.isSome then 6
  else if d.boot.revoked.testBit slot then 7
  else if op = 1 then (if d.boot.fused.testBit slot then 2 else 0)
  else if d.boot.fused.testBit slot then 0 else 3

/-- What an accepted write of LMP_FUSE_CMD does (R59). -/
def Dev.fuseCmd (d : Dev) (w : Word) : Dev :=
  let r := d.fuseReason w
  if r ≠ 0 then d.fuseAnswer w 2 r
  else (({ d with boot := { d.boot with fusing := some (bits w 9 8, bits w 7 0 == 2) } }).fuseAnswer w 3 0).setBit R.LMP_STATUS 10 true

/-- The word of a fuse command. -/
def fuseWord (op slot confirm : Nat) : Word := BitVec.ofNat 32 (op + 256 * (slot % 4) + 65536 * (confirm % 65536))

/-- FUSE_KEY (R59). -/
def execFuseKey (src t slot confirm : Nat) (s : State) : Out :=
  s.atTick t (fun d => d.cmdWrite src R.LMP_FUSE_CMD (fuseWord 1 slot confirm) (fun d => d.fuseCmd (fuseWord 1 slot confirm)))

/-- REVOKE (R59). -/
def execRevoke (src t slot confirm : Nat) (s : State) : Out :=
  s.atTick t (fun d => d.cmdWrite src R.LMP_FUSE_CMD (fuseWord 2 slot confirm) (fun d => d.fuseCmd (fuseWord 2 slot confirm)))

/-- Programming ends; `hash` are the eight words read back from the slot of a FUSE_KEY (R59). -/
def Dev.fuseDone (d : Dev) (hash : List Word) : Dev :=
  match d.boot.fusing with
  | none => d
  | some (slot, revoke) =>
    let d := ({ d with boot := { d.boot with fusing := none } }).setBit R.LMP_STATUS 10 false
    let w := d.reg R.LMP_FUSE_CMD
    if revoke then
      (({ d with boot := { d.boot with revoked := d.boot.revoked ||| 2 ^ slot } }).fuseShow).fuseAnswer w 1 0
    else
      let d := (List.range 8).foldl (fun (d : Dev) i => d.setReg (R.LMP_KEYHASH (8 * slot + i)) (hash.getD i 0)) d
      let d := ({ d with boot := { d.boot with fused := d.boot.fused ||| 2 ^ slot } }).fuseShow
      if (List.range 8).all (fun i => hash.getD i 0 == d.reg (R.LMP_FUSE_DATA i)) then d.fuseAnswer w 1 0
      else (d.fuseAnswer w 2 5).logFault 0x0403 .n

/-- FUSE_PROGRAMMING_DONE (R59). -/
def execFuseProgrammingDone (t : Nat) (hash : List Word) (s : State) : Out := s.atTick t (fun d => d.fuseDone hash)

/-! Attestation (R60, R406). -/

/-- The bytes of `n` registers from `a` upward. -/
def Dev.regBytes (d : Dev) (a n : Nat) : List Byte := (List.range n).flatMap (fun i => leBytes 4 (d.reg (a + 4 * i)).toNat)

/-- The trim body of Table 19-4, from the codes in force. -/
def Dev.trimBody (d : Dev) : List Byte :=
  (List.range 256).flatMap (fun c =>
    let a := d.reg (R.RFE_TRIM_CMP c)
    let b := d.reg (R.RFE_TRIM_TDC c)
    leBytes 2 (bits a 15 0) ++ leBytes 1 (bits b 4 0) ++ leBytes 1 (bits b 13 8) ++ leBytes 1 (bits b 21 16) ++ leBytes 3 0) ++
  (List.range 32).flatMap (fun e => leBytes 1 (d.fld (R.EMT_EMIT_CFG e) 21 16) ++ leBytes 1 (d.fld (R.CAL_MON_TRIM e) 5 0)) ++
  (List.range 8).flatMap (fun t =>
    let w := d.reg (R.CAL_TAP_TRIM t)
    leBytes 1 (bits w 5 0) ++ leBytes 1 (bits w 12 8) ++ leBytes 1 (bits w 21 16) ++ leBytes 1 0)

/-- The identity public key, 57 bytes (R58). -/
def devKey : List Byte := (List.range 57).map Config.deviceKeyByte

/-- The newest journal entry. -/
def Dev.newestEntry (d : Dev) : JEntry := mgetD d.flg.ring ((d.flg.jwr + 1023) % 1024) {}

/-- The 400 signed bytes of the report (Table 03-9). -/
def Dev.reportHead (d : Dev) (nonce : List Word) : List Byte :=
  [0x44, 0x5A, 0x41, 0x54] ++ leBytes 2 1 ++ leBytes 2 0x0210 ++ leBytes 1 d.devId ++ leBytes 1 (b2n d.boot.keyed) ++
  leBytes 1 d.boot.keySlot ++ leBytes 1 (d.cny.sw % 16) ++ leBytes 4 (d.reg R.HDF_STATUS).toNat ++
  nonce.flatMap (fun w => leBytes 4 w.toNat) ++ leBytes 8 d.time ++ leBytes 4 (d.reg R.HDF_IMAGE_VERSION).toNat ++
  leBytes 4 d.stateWord.toNat ++ d.regBytes (R.HDF_DIGEST 0) 16 ++ shake256 d.trimBody 64 ++
  (if d.boot.commRead.isEmpty then List.replicate 64 0#8 else shake256 d.boot.commRead 64) ++
  leBytes 4 (d.reg R.CNY_CHECK_CONFIRMED).toNat ++ leBytes 4 (d.reg R.CNY_CHECK_COMPUTED).toNat ++ leBytes 8 d.flg.jseq ++
  shake256 d.newestEntry.bytes 64 ++ devKey ++ List.replicate 7 0#8

/-- The 528 bytes of the report (R60). -/
def Dev.report (d : Dev) (nonce : List Word) : List Byte :=
  let h := d.reportHead nonce
  h ++ (Config.ed448Sign (shake256 h 64) ++ List.replicate 114 0#8).take 114 ++ List.replicate 14 0#8

/-- What an accepted write of LMP_ATTEST_CMD does (R60, Table 03-12). -/
def Dev.attestCmd (d : Dev) (w : Word) : Dev :=
  let put := fun (d : Dev) st r => d.setReg R.LMP_ATTEST_CMD (cmdWord w 0xFF st r)
  if bits w 7 0 ≠ 1 then put d 2 3
  else if d.inState [.reset, .headframe] then put d 2 1
  else if d.boot.attest.isSome then put d 2 2
  else
    let d := { d with boot := { d.boot with attest := some ((List.range 8).map (fun i => d.reg (R.LMP_ATTEST_NONCE i))) } }
    put ((d.setBit R.LMP_STATUS 11 true).setBit R.LMP_STATUS 12 false) 3 0

/-- ATTEST (R60). -/
def execAttest (src t : Nat) (s : State) : Out := s.atTick t (fun d => d.cmdWrite src R.LMP_ATTEST_CMD 1 (fun d => d.attestCmd 1))

/-- The report is complete (R60). -/
def Dev.attestDone (d : Dev) (nonce : List Word) : Dev :=
  let r := d.report nonce
  let d := { d with boot := { d.boot with attest := none } }
  let d := (List.range 132).foldl (fun (d : Dev) i => d.setReg (R.LMP_ATTEST_BUF i) (BitVec.ofNat 32 (leAt r (4 * i) 4))) d
  (((d.setBit R.LMP_STATUS 11 false).setBit R.LMP_STATUS 12 true)).setReg R.LMP_ATTEST_CMD (cmdWord 1 0xFF 1 0)

/-- ATTEST_DONE (R60). -/
def execAttestDone (t : Nat) (s : State) : Out :=
  s.atTick t (fun d => match d.boot.attest with | some n => d.attestDone n | none => d)

end Sys2Proof.Machine
end

