-- ==== Sys2Proof/Machine/Can.lean ====
section
/-! DEFINITION. CAN FD (R308, R309): filters, the receive FIFO, transmit buffers and bus-off. -/
namespace Sys2Proof.Machine

/-- Controller `n`. -/
def Dev.can (d : Dev) (n : Nat) : CanSt := mgetD d.cans n {}
/-- Change controller `n`. -/
def Dev.onCan (d : Dev) (n : Nat) (f : CanSt → CanSt) : Dev := { d with cans := mput d.cans n (f (d.can n)) }

/-- The controller takes part in the bus: enabled, supplied and not bus-off. -/
def Dev.canOn (d : Dev) (n : Nat) : Bool := !d.supplyBad .io33 && d.rbit (R.CAN_CTRL n) 0 && d.fld (R.CAN_STATUS n) 1 0 != 2

/-- The controller is a management requester (R430). -/
def Dev.canMgt (d : Dev) (n : Nat) : Bool := d.rbit R.MGT_CAN_CFG n

/-- Filter `f` of controller `n` passes an identifier; management's filter 31 passes rx_id (R308, R430). -/
def Dev.canPasses (d : Dev) (n id f : Nat) (ide : Bool) : Bool :=
  if f = 31 && d.canMgt n then !ide && id == d.fld R.MGT_CAN_CFG 12 2
  else
    let w := d.reg (R.CAN_FLT n (2 * f))
    let m := (d.reg (R.CAN_FLT n (2 * f + 1))).toNat % 2 ^ 29
    bit w 31 && (bit w 29 == ide) && ((id &&& m) == (bits w 28 0 &&& m))

/-- The lowest filter that passes an identifier. -/
def Dev.canFilter (d : Dev) (n id : Nat) (ide : Bool) : Option Nat := (List.range 32).find? (fun f => d.canPasses n id f ide)

/-- The data length a DLC stands for (ISO 11898-1). -/
def dlcBytes (dlc : Nat) (fd : Bool) : Nat :=
  let k := dlc % 16
  if k ≤ 8 then k else if !fd then 8 else [12, 16, 20, 24, 32, 48, 64].getD (k - 9) 64

/-- A FIFO entry: id, control, time base at start of frame, 64 data bytes (Table 15-7, log entry 34). -/
def canEntry (id ctl time : Nat) (data : List Byte) : List Byte :=
  leBytes 4 id ++ leBytes 4 ctl ++ leBytes 8 time ++ (data ++ List.replicate 64 0#8).take 64

/-- A frame enters the FIFO, or finds it full (R308). -/
def Dev.canStore (d : Dev) (n : Nat) (e : List Byte) : Dev :=
  if 32 ≤ (d.can n).fifo.length then (d.incSat (R.CAN_CNT_DROP n) 31 0 1).logFault 0x1702 .n
  else d.onCan n (fun c => { c with fifo := c.fifo ++ [e] })

/-- Where a received frame goes (R309, R391, R430); a management request is handled by `mgt`. -/
def State.canReceive (s : State) (n id dlc : Nat) (ide fd brs esi : Bool) (data : List Byte) (sof : Nat)
    (mgt : State → List Byte → State) : State :=
  let d := s.dev
  if !d.canOn n || (fd && !d.rbit (R.CAN_CTRL n) 1) then s
  else match d.canFilter n id ide with
    | none => s
    | some f =>
      let data := data.take (dlcBytes dlc fd)
      if f < 4 ∧ n = 0 ∧ d.cnyRoutes then s.onDev (fun d => if d.cny.lost then d else d.copyIn 0 (data.take 27))
      else if f = 31 ∧ d.canMgt n then (if data.length = 32 then mgt s data else s)
      else
        let ctl := dlc % 16 + 16 * b2n fd + 32 * b2n brs + 64 * b2n esi
        s.onDev (fun d => d.canStore n (canEntry (id % 2 ^ 29 + 2 ^ 29 * b2n ide) ctl (d.time - (d.now - sof)) data))

/-- The buffers of controller `n` with a request, with their identifiers as arbitration orders them. -/
def Dev.canReady (d : Dev) (n : Nat) : List (Nat × Nat) :=
  (List.range 8).filterMap (fun b =>
    let id := d.reg (R.CAN_TX n (20 * b))
    if d.rbit (R.CAN_TX n (20 * b + 1)) 31 then some (b, if bit id 29 then 2 * bits id 28 0 + 1 else 2 ^ 19 * bits id 10 0) else none)

/-- The buffer sent next: lowest identifier first (R308). -/
def Dev.canNext (d : Dev) (n : Nat) : Option Nat :=
  ((d.canReady n).foldl (fun (b : Option (Nat × Nat)) p => match b with
    | none => some p
    | some q => if p.2 < q.2 then some p else some q) none).map (·.1)

/-- The management answer in buffer 7 has left: the next one takes its place (R430). -/
def Dev.canAnswerSent (d : Dev) (n : Nat) : Dev :=
  let d := d.onCan n (fun c => { c with answers := c.answers.drop 1 })
  match (d.can n).answers with
  | (_, r) :: _ => d.canPut n 7 (d.fld R.MGT_CAN_CFG 23 13) r
  | [] => d

/-- The next buffer's frame is sent: its request ends and its status word, whose content the spec does not give, is free
(log entry 34). -/
def Dev.canSend (d : Dev) (n : Nat) : Dev :=
  match d.canNext n with
  | none => d
  | some b =>
    let ws := (List.range 18).map (fun i => d.reg (R.CAN_TX n (20 * b + i)))
    let d := (d.setBit (R.CAN_TX n (20 * b + 1)) 31 false).onCan n (fun c => { c with sent := ws })
    let d := (d.setReg (R.CAN_TX n (20 * b + 18)) (d.fresh 32)).drew
    if b = 7 ∧ d.canMgt n then d.canAnswerSent n else d

/-- CAN_FRAME_TRANSMITTED (R308). -/
def execCanFrameTransmitted (t n : Nat) (s : State) : Out :=
  s.atTick t (fun d => if n < 2 && d.canOn n then d.canSend n else d)

/-- The controller goes bus-off (R308): TEC, past its 8 bits, shows a free value. -/
def Dev.canBusOff (d : Dev) (n : Nat) : Dev :=
  (((d.setFld (R.CAN_STATUS n) 1 0 2).setFld (R.CAN_STATUS n) 15 8 (d.fresh 8).toNat).drew).logFault 0x1701 .n

/-- CAN_BUS_OFF (R308). -/
def execCanBusOff (t n : Nat) (s : State) : Out :=
  s.atTick t (fun d => if n < 2 && d.canOn n then d.canBusOff n else d)

/-- What an accepted write of CAN_CMDn does (R308, Table 15-7). -/
def Dev.canCmd (d : Dev) (n : Nat) (w : Word) : Dev :=
  let put := fun (d : Dev) st r => d.setReg (R.CAN_CMD n) (cmdWord w 0xFF st r)
  if bits w 7 0 ≠ 1 then put d 2 2
  else if d.fld (R.CAN_STATUS n) 1 0 ≠ 2 then put d 2 1
  else put (d.onCan n (fun c => { c with recovering := true })) 1 0

/-- RECOVER (R308). -/
def execRecover (src t n : Nat) (s : State) : Out :=
  s.atTick t (fun d => d.cmdWrite src (R.CAN_CMD (n % 2)) 1 (fun d => d.canCmd (n % 2) 1))

/-- CAN_AUTO_RECOVERY (R308): 128 occurrences of 11 recessive bits have passed for a controller that recovers by itself
or on RECOVER; its error counters restart (ISO 11898-1). -/
def execCanAutoRecovery (t n : Nat) (s : State) : Out :=
  s.atTick t (fun d =>
    if n < 2 && d.fld (R.CAN_STATUS n) 1 0 == 2 && (d.rbit (R.CAN_CTRL n) 3 || (d.can n).recovering) then
      (((d.setFld (R.CAN_STATUS n) 1 0 0).setFld (R.CAN_STATUS n) 15 8 0).setFld (R.CAN_STATUS n) 23 16 0).onCan n (fun c => { c with recovering := false })
    else d)

/-- The address lies in transmit buffer 0 or filters 0 to 3 of CAN0 while they belong to the Canary (R309). -/
def Dev.canaryOwns (d : Dev) (a : Nat) : Bool :=
  d.cnyRoutes && (decide (R.CAN_TX 0 0 ≤ a ∧ a < R.CAN_TX 0 20) || decide (R.CAN_FLT 0 0 ≤ a ∧ a < R.CAN_FLT 0 8))

/-- A management write that the Canary's ownership refuses (R309). -/
def Dev.canaryWrite (d : Dev) (src a : Nat) (w : Word) : Dev :=
  let refused := d.top.state == .headframe
  let d := d.ignoredWrite src a w false
  if refused then d else d.setBit (R.CAN_STATUS 0) 2 true

/-- CAN_CANARY_WRITE (R309). -/
def execCanCanaryWrite (src t addr : Nat) (value : Word) (s : State) : Out :=
  s.atTick t (fun d => if d.canaryOwns addr then d.canaryWrite src addr value else d)

/-- A write to a CAN filter or buffer word (Table 15-7): a filter's mask has 29 bits, and a buffer's status word is the
controller's. -/
def Dev.canWord (d : Dev) (a : Nat) (v : Word) : Dev :=
  let off := (a - 0x26E000) % 0x1000
  if off < 0x200 then d.setReg a (v &&& (if off % 8 = 4 then 0x1FFFFFFF#32 else 0xBFFFFFFF#32))
  else if 18 ≤ (off - 0x200) / 4 % 20 then d
  else d.setReg a v

end Sys2Proof.Machine
end

