-- ==== Sys2Proof/Machine/MgmtRead.lean ====
section
/-! DEFINITION. What a management read shows at every location outside the memories (R22, R417, R423, and the register
tables of the chapters), and what a read does (R93, R197, R417, R426). -/
namespace Sys2Proof.Machine

/-- What a location shows: the bits the spec gives, and a mask of the bits it leaves open (log entry 45). -/
structure Shown where
  word : Word := 0
  free : Word := 0
  deriving DecidableEq, Repr

/-- A word whose every bit is open. -/
def Shown.opened : Shown := ⟨0#32, 0xFFFFFFFF#32⟩

/-- A word the spec gives. -/
def shownNat (n : Nat) : Shown := ⟨BitVec.ofNat 32 n, 0#32⟩

/-- The word at byte `o` of an entry kept as bytes; open where the entry was never written. -/
def shownEntry (l : Option (List Byte)) (o : Nat) : Shown := match l with | some b => shownNat (leAt b o 4) | none => .opened

/-! The 64-bit pairs (R426). -/

/-- Groups of 64-bit register pairs: base, copies, stride, pairs side by side. -/
def pairRows : List (Nat × Nat × Nat × Nat) := [
  (0x10010, 1, 0, 2), (0x10028, 1, 0, 1), (0x10040, 1, 0, 1), (0x10050, 1, 0, 1),
  (0x40020, 1, 0, 1), (0x40200, 1, 0, 11), (0x50410, 8, 0x40, 6), (0x50600, 1, 0, 3),
  (0x60430, 1, 0, 2), (0x80020, 256, 64, 2), (0xA0140, 1, 0, 10), (0xA01C0, 1, 0, 7),
  (0xC0010, 1, 0, 1), (0xC0100, 1, 0, 11), (0xD0108, 1, 0, 3), (0x100020, 16, 0x10000, 5), (0x101020, 1, 0, 1),
  (0x200200, 1, 0, 6), (0x200300, 1, 0, 32), (0x210010, 1, 0, 1), (0x210300, 1, 0, 2), (0x220130, 8, 0x80, 3),
  (0x238058, 6, 0x100, 2), (0x250120, 2, 0x100, 11), (0x260018, 8, 0x100, 6), (0x268008, 1, 0, 2),
  (0x26C008, 1, 0, 2), (0x26C100, 1, 0, 3), (0x270060, 1, 0, 4), (0x290010, 1, 0, 1), (0x290020, 1, 0, 2)]

/-- Address `b`, a multiple of 8, is the low word of a pair of the group. -/
def pairHit (g : Nat × Nat × Nat × Nat) (b : Nat) : Bool :=
  let (base, n, s, m) := g
  if b < base then false
  else
    let i := if s = 0 then 0 else (b - base) / s
    decide (i < n) && decide ((b - base - i * s) / 8 < m)

/-- The low address of the 64-bit pair that holds `a`, if one does. -/
def pairLow (a : Nat) : Option Nat := if pairRows.any (fun g => pairHit g (a / 8 * 8)) then some (a / 8 * 8) else none

/-! Composed registers, block by block. -/

/-- A 64-bit value's half at `a`. -/
def half64 (v a : Nat) : Shown := shownNat (v / 2 ^ (8 * (a % 8)))

/-- A latency register: greatest and last time (Tables 08-10, 09-11, 10-19, 11-10). -/
def latWord (greatest last : Nat) : Shown := shownNat (satN 65535 greatest + 65536 * satN 65535 last)

/-- TOP and CLK (Tables 01-4, 22-6, 02-4). -/
def Dev.showTop (d : Dev) (a : Nat) : Option Shown :=
  if a = R.TOP_DEVICE_STATE then some ⟨d.stateWord, 0⟩
  else if a = R.TOP_RESET_HELD_MS then some (shownNat (satN 65535 d.top.resetHeldMs + 65536 * b2n d.top.resetHeldValid + 131072 * d.top.resetCause))
  else if a / 8 * 8 = R.CLK_TIME then some (half64 d.time a)
  else none

/-- SEQ_TALLY_STATUS (Table 04-12). -/
def Dev.tallyStatus (d : Dev) : Shown :=
  let fired := d.tallyCount true
  let issued := d.tallyCount false
  shownNat ((192 - fired - issued) + 256 * issued + 65536 * fired + 16777216 * d.seq.freeMin)

/-- SEQ and EMT (Tables 04-7 to 04-12, 05-5, 05-9). -/
def Dev.showShots (d : Dev) (a : Nat) : Option Shown :=
  if a = R.SEQ_STATUS then some ⟨setBits (d.reg a) 0 0 (b2n (d.seq.frame.isSome && !d.frameIssued)), 0⟩
  else if a = R.SEQ_TALLY_STATUS then some d.tallyStatus
  else if 0x44000 ≤ a ∧ a < 0x48000 then some (shownEntry (mget d.seq.auditRing ((a - 0x44000) / 16)) (a % 16))
  else if 0x50400 ≤ a ∧ a < 0x50600 ∧ 0x28 ≤ a % 0x40 then
    some (half64 (d.winSum ((a - 0x50400) / 0x40) ((a % 0x40 - 0x28) / 8) d.now) a)
  else none

/-- The window of the shadow descriptors (Table 08-12). -/
def Dev.showDescriptor (d : Dev) (h o : Nat) : Shown :=
  match mget d.gat.shadows h with
  | none => if o = 0 then .opened else ⟨0#32, 0x1FFF#32⟩
  | some x =>
    let shots := match d.blockOf x.emitter x.blockSeq with | some b => b.shots | none => 0
    half64 (blockId x.emitter x.blockSeq + 2 ^ 32 * (x.port + 32 * shots + 512 * x.max + 8192)) o

/-- The paged window of the gating block at page `p`, byte `o` (Table 08-13). Which entry of its share an event takes,
and what stands in unused ones, the spec does not say (log entry 45). -/
def Dev.showGatPage (d : Dev) (p o : Nat) : Shown :=
  if p < 5 then
    let x := 65536 * p + o
    match (d.gat.prov.filter (fun e => e.ch == x / 1280))[x % 1280 / 8]? with
    | some e => half64 (e.record % 2 ^ 24 + 2 ^ 24 * e.slot + 2 ^ 32 * (e.place + 8)) x
    | none => if x % 8 = 0 then .opened else ⟨0#32, 7#32⟩
  else if 0x10 ≤ p ∧ p < 0x15 then
    let x := 65536 * (p - 0x10) + o
    if 278528 ≤ x then {}
    else match mget d.gat.shadows (x / 1088) with
      | some h => shownNat (((List.range 4).map (fun i => mgetD h.masks (x % 1088 + i) 0 % 256 * 256 ^ i)).sum)
      | none => .opened
  else {}

/-- GAT (Tables 08-10 to 08-13). -/
def Dev.showGat (d : Dev) (src a : Nat) : Option Shown :=
  let o := a - 0xA0000
  if a = R.GAT_STATUS then some ⟨setBits (d.reg a) 24 16 d.gat.shadows.length, 0⟩
  else if a = R.GAT_LAT then some (latWord d.gat.latMax d.gat.latLast)
  else if a = R.GAT_PAGE then some (shownNat (mgetD (d.req src).pages a 0))
  else if o < 0x4000 then none
  else if o < 0x8000 then some (shownEntry (mget d.gat.logRing ((o - 0x4000) / 16)) (o % 16))
  else if o < 0xC000 then some (if 40 ≤ o % 64 then {} else shownNat (mgetD d.gat.tail (16 * ((o - 0x8000) / 64) + o % 64 / 4) 0))
  else if o < 0xE000 then
    let k := 16 * ((o - 0xC000) / 32) + o % 32 / 2
    some (shownNat (mgetD d.gat.meterLast k 0 % 65536 + 65536 * (mgetD d.gat.meterLast (k + 1) 0 % 65536)))
  else if o < 0xE800 then some (d.showDescriptor ((o - 0xE000) / 8) (o % 8))
  else if 0x10000 ≤ o ∧ o < 0x20000 then some (d.showGatPage (mgetD (d.req src).pages R.GAT_PAGE 0) (o - 0x10000))
  else none

/-- The paged window of the sieve at page `p`, byte `o` (Table 09-12). -/
def Dev.showSivPage (d : Dev) (p o : Nat) : Shown :=
  if p < 6 then
    let x := 65536 * p + o
    if 344064 ≤ x then {}
    else match mget d.hst.cbuf (x / 672) with
      | some s => shownNat (leAt (s.bytes ++ List.replicate 640 0#8) (x % 672) 4 + (if x % 672 = 12 then 2 ^ 23 else 0))
      | none => if x % 672 = 12 then ⟨0#32, 0xFF7FFFFF#32⟩ else .opened
  else if 0x10 ≤ p ∧ p < 0x14 then
    let x := 65536 * (p - 0x10) + o
    match mget d.hst.lanes (x / 16384) with
    | some (ws, _, _) => (match ws[x % 16384 / 4]? with | some w => ⟨w, 0⟩ | none => .opened)
    | none => .opened
  else {}

/-- HST and SIV (Tables 09-8 to 09-12); the slot table window is `hstWords`. -/
def Dev.showSiv (d : Dev) (src a : Nat) : Option Shown :=
  if a = R.SIV_STATUS then some ⟨setBits (setBits (d.reg a) 12 8 d.hst.lanes.length) 25 16 d.hst.closing.length, 0⟩
  else if a = R.SIV_LAT then some (latWord d.hst.latMax d.hst.latLast)
  else if a = R.SIV_PAGE then some (shownNat (mgetD (d.req src).pages a 0))
  else if 0xE0000 ≤ a ∧ a < 0xF0000 then some (d.showSivPage (mgetD (d.req src).pages R.SIV_PAGE 0) (a - 0xE0000))
  else none

/-- ASY (Tables 10-19 to 10-21); the windows are `State.asyWinRead`. -/
def Dev.showAsy (d : Dev) (src a : Nat) : Option Shown :=
  let k := (a - 0x100000) / 0x10000
  if a = R.ASY_PC k then some (if (d.core k).halted then shownNat (d.core k).pc else ⟨0#32, 0x3FFF#32⟩)
  else if a = R.ASY_LAT k then some (latWord (d.core k).latMax (d.core k).latLast)
  else if a = R.ASY_PAGE k then some (shownNat (mgetD (d.req src).pages a 0))
  else if a / 8 * 8 = R.ASY_CNT_BUSY k then
    let more := match (d.core k).busySince with | some t => (d.now - t) / 2 | none => 0
    some (half64 (d.reg64 (a / 8 * 8) + more) a)
  else if a = R.ASY_DISP_WAIT then some (shownNat (satN 65535 d.asy.dispWait))
  else none

/-- Units of 64 bytes in stream `n`'s queue (Table 11-10). -/
def Dev.queueUnits (d : Dev) (n : Nat) : Nat := ((d.queue n).map (fun r => cdiv r.body.length 64)).sum

/-- PNT and WAV (Tables 11-10, 13-8). -/
def Dev.showPnt (d : Dev) (a : Nat) : Option Shown :=
  if a = R.PNT_STATUS then some ⟨setBits (d.reg a) 26 16 d.bufferFill, 0⟩
  else if a = R.PNT_LAT then some (latWord d.pnt.latMax d.pnt.latLast)
  else if 0x200100 ≤ a ∧ a < 0x200300 ∧ a % 16 = 12 then
    let n := (a - 0x200100) / 16
    some (shownNat (satN 4095 (d.queueUnits n) + 4096 * b2n (d.laneUp (d.streamLane n))))
  else if a = R.WAV_STATUS then some ⟨setBits (d.reg a) 7 0 (((List.range 8).map (fun t => 2 ^ t * b2n ((d.tap t).st == .capturing))).sum), 0⟩
  else if 0x220100 ≤ a ∧ a < 0x220500 ∧ a % 0x80 = 0x14 then
    let t := (a - 0x220100) / 0x80
    let x := d.tap t
    let st := match x.st with | .idle => 0 | .rearm => 1 | .armed => 2 | .capturing => 3
    let n := if x.st == .idle then 0 else Nat.min (64 * d.fld (R.WAV_TAP_LEN t) 7 0) (2 * d.now - x.refill)
    some ⟨setBits (setBits (d.reg a) 3 0 (st + 4 * b2n (!x.cfgPend.isEmpty) + 8 * b2n (!x.ringPend.isEmpty))) 29 16 n, 0⟩
  else none

/-- The paged window of Hoist at page `p`, byte `o` (Table 16-11). Where the oldest retry entry stands, and what stands
in unused places, the spec does not say (log entry 45). -/
def Dev.showHoiPage (d : Dev) (p o : Nat) : Shown :=
  if p < 2 then
    match (mgetD (d.hoiCh p).rh (o / 256) [])[o % 256 / 4]? with
    | some (row, n) => shownNat (row % 2 ^ 18 + 2 ^ 18 * (n % 2 ^ 14))
    | none => if 32768 ≤ o then {} else .opened
  else if p < 4 then
    if 512 < o then {}
    else if o = 512 then shownNat 0
    else match (d.hoiCh (p - 2)).retry[o / 16]? with
      | some (cmd, place, time) => shownNat ((cmd % 2 ^ 56 + 2 ^ 56 * place + 2 ^ 96 * time) / 2 ^ (8 * (o % 16)))
      | none => .opened
  else if p < 6 then
    if 1024 ≤ o then {}
    else
      let r := fun b => match mget (d.hoiCh (p - 4)).results b with | some v => (v % 65536, 0) | none => (0, 65535)
      let x := r o
      let y := r (o + 2)
      ⟨BitVec.ofNat 32 (x.1 + 65536 * y.1), BitVec.ofNat 32 (x.2 + 65536 * y.2)⟩
  else {}

/-- HOI (Tables 16-8 to 16-11). Whether a waveform port's panic is high while a tap captures or writes, the commands do
not show (log entry 22). -/
def Dev.showHoi (d : Dev) (src a : Nat) : Option Shown :=
  if a = R.HOI_STATUS then
    let busy := (List.range 8).any (fun t => (d.tap t).cap.isSome || (d.tap t).writing.isSome)
    let w := setBits (d.reg a) 6 6 (b2n (d.rbit R.HST_STATUS 1))
    some ⟨w, if !d.rbit R.HST_STATUS 1 && busy then 0x40#32 else 0#32⟩
  else if a = R.HOI_PAGE then some (shownNat (mgetD (d.req src).pages a 0))
  else if 0x258000 ≤ a ∧ a < 0x260000 then some (d.showHoiPage (mgetD (d.req src).pages R.HOI_PAGE 0) (a - 0x258000))
  else none

/-- LNK_STATUSn (Table 17-6). -/
def Dev.showLane (d : Dev) (n : Nat) : Shown :=
  let l := d.lane n
  let st := match l.st with | .down => 0 | .align => 1 | .cap => 2 | .step => 3 | .up => 4
  shownNat (st + 8 * (if l.st == .down then 0 else l.gen) + 64 * l.target + 512 * l.partnerGen + 4096 * l.partnerVer
    + 16384 * b2n l.pendCap + 32768 * b2n l.locked + 65536 * b2n (d.isRemoved (.lane n)))

/-- SNS, LNK and CAN (Tables 15-7, 17-6): the IMU ring, a controller's FIFO fill and the head of its FIFO. -/
def Dev.showIo (d : Dev) (a : Nat) : Option Shown :=
  if 0x240400 ≤ a ∧ a < 0x240800 then some (shownEntry (mget d.sns.imuRing ((a - 0x240400) / 64)) (a % 64))
  else if 0x260000 ≤ a ∧ a < 0x260800 ∧ a % 0x100 = 4 then some (d.showLane ((a - 0x260000) / 0x100))
  else if a = R.CAN_STATUS 0 ∨ a = R.CAN_STATUS 1 then some ⟨setBits (d.reg a) 31 24 (d.can ((a - 0x26E000) / 0x1000)).fifo.length, 0⟩
  else if 0x26E600 ≤ a ∧ a < 0x270000 ∧ (a - 0x26E600) % 0x1000 < 80 then
    some (shownEntry ((d.can ((a - 0x26E600) / 0x1000)).fifo.head?) ((a - 0x26E600) % 0x1000))
  else none

/-- The state code of function `k` in CNY_FUNC (Table 18-8): a released function one of whose manual pairs waits reads as
awaiting restart (log entry 46). -/
def Dev.fnCode (d : Dev) (k : Nat) : Nat :=
  let ty := d.inputField k 0 1
  let mask := d.inputField k 4 1
  if !d.inputMode || ty = 0 then 15
  else if (d.cnyFn k).locked then 3
  else if d.fnMuted k then 4
  else if (d.cnyFn k).demand then 1
  else if [0, 1].any (fun p => mask.testBit p && d.manualPair p && d.cny.wait.getD p false) then 2
  else 0

/-- CNY_STATUS (Table 18-9). -/
def Dev.cnyStatus (d : Dev) : Shown :=
  let c := d.cny
  shownNat (d.safetyMode + 4 * b2n d.safetyHold + 8 * b2n d.lockout + 16 * b2n d.demanding + 32 * b2n (!d.boot.commission.isEmpty)
    + 64 * b2n c.active.isSome + 128 * b2n c.lastWrite.isSome + 256 * b2n c.comm.isSome + 512 * d.fld R.CNY_STATUS 10 9
    + 2048 * b2n c.mute.isSome + 4096 * b2n (d.top.resetCause == 2))

/-- CNY (Tables 18-8, 18-9). -/
def Dev.showCny (d : Dev) (a : Nat) : Option Shown :=
  let c := d.cny
  let on := fun (l : List Bool) i => b2n (l.getD i false)
  if a = R.CNY_STATUS then some d.cnyStatus
  else if a = R.CNY_SEAL then some (shownNat (c.sw % 16 + 16 * (c.swReset % 16)))
  else if a = R.CNY_INPUTS then some (shownNat (((List.range 8).map (fun k => 4 ^ k * (b2n (d.cnyFn k).a + 2 * b2n (d.cnyFn k).b))).sum))
  else if a = R.CNY_FUNC then some (shownNat (((List.range 8).map (fun k => 16 ^ k * d.fnCode k)).sum))
  else if a = R.CNY_OSSD then
    let w := fun p => b2n (d.manualPair p && c.wait.getD p false)
    some (shownNat (on c.ossdOn 0 + 2 * on c.ossdOn 1 + 4 * (c.rb % 16) + 64 * w 0 + 128 * w 1))
  else if a = R.CNY_FIELDSET then
    some (shownNat (c.set.getD 0 % 32 + 256 * (c.msgSet.getD 0 % 32) + 65536 * b2n c.overlap + 131072 * b2n c.fallback))
  else if a = R.CNY_VIOL then
    let n := c.counts.foldl (fun m p => Nat.max m p.2) 0
    some (shownNat (c.lastProt % 8 + 8 * (c.lastWarn % 8) + 256 * satN 15 n + 65536 * satN 65535 c.lastBlind))
  else none

/-- Word `o` of a fault log entry (Table 20-2). -/
def LogEntry.word (e : LogEntry) (o : Nat) : Shown :=
  let cls := match e.cls with | .n => 0 | .d => 1 | .h => 2
  shownNat ((e.code % 65536 + 65536 * cls + 2 ^ 18 + 2 ^ 19 * b2n e.cleared + 2 ^ 20 * b2n e.active + 2 ^ 21 * b2n e.retained
    + 2 ^ 24 * e.count + 2 ^ 32 * (e.first % 2 ^ 48) + 2 ^ 80 * (e.last % 2 ^ 48)) / 2 ^ (8 * o))

/-- FLG (Tables 20-2, 20-3, 20-6). -/
def Dev.showFlg (d : Dev) (a : Nat) : Option Shown :=
  let o := a - 0x290000
  if a = R.FLG_STATUS then some ⟨setBits (setBits (d.reg a) 8 0 d.flg.log.length) 23 16 d.flg.newest, 0⟩
  else if a / 8 * 8 = R.FLG_JSEQ then some (half64 d.flg.jseq a)
  else if a = R.FLG_JOURNAL_WR then some (shownNat (d.flg.jwr % 1024 + 1024 * b2n d.flg.wrapped))
  else if 0x1000 ≤ o ∧ o < 0x2000 then
    some (match mget d.flg.log ((o - 0x1000) / 16) with | some e => e.word (o % 16) | none => {})
  else if 0x8000 ≤ o ∧ o < 0x10000 then
    some (match mget d.flg.ring ((o - 0x8000) / 32) with | some e => shownNat (leAt e.bytes (o % 32) 4) | none => {})
  else none

/-- MGT (Tables 21-5, 21-6): each access reaches its own requester's copy. -/
def Dev.showMgt (d : Dev) (src a : Nat) : Option Shown :=
  if a = R.MGT_STATUS then some (shownNat ((d.req src).status.toNat % 32 + 256 * src))
  else if a = R.MGT_DRAM_WIN then some (shownNat (d.req src).dramWin)
  else none

/-- What requester `src` sees at `a`, a location outside the memory windows: a composed register or window, else the
register's pending value or the one in force. -/
def Dev.look (d : Dev) (src a : Nat) : Shown :=
  let r := if a < 0x20000 then d.showTop a
    else if 0x40000 ≤ a ∧ a < 0x60000 then d.showShots a
    else if 0xA0000 ≤ a ∧ a < 0xC0000 then d.showGat src a
    else if 0xD0000 ≤ a ∧ a < 0x100000 then d.showSiv src a
    else if 0x100000 ≤ a ∧ a < 0x200000 then d.showAsy src a
    else if 0x200000 ≤ a ∧ a < 0x230000 then d.showPnt a
    else if 0x250000 ≤ a ∧ a < 0x260000 then d.showHoi src a
    else if 0x240000 ≤ a ∧ a < 0x270000 then d.showIo a
    else if 0x270000 ≤ a ∧ a < 0x280000 then d.showCny a
    else if 0x290000 ≤ a ∧ a < 0x2A0000 then d.showFlg a
    else if 0x2A0000 ≤ a ∧ a < 0x2B0000 then d.showMgt src a
    else none
  r.getD ⟨d.shown a, 0⟩

/-- The value a look gives: open bits take a free value. -/
def Dev.value (d : Dev) (src a : Nat) : Word := let s := d.look src a; s.word ||| (d.fresh 32 &&& s.free)

/-! What a read does beside answering. -/

/-- The registers a read reloads, for all requesters alike (R417), and the counts a read clears (Table 15-7). -/
def Dev.reload (d : Dev) (a : Nat) : Dev :=
  let k := (a - 0x100000) / 0x10000
  if a = R.SEQ_TALLY_STATUS then { d with seq := { d.seq with freeMin := 192 - d.tallyCount true - d.tallyCount false } }
  else if a = R.GAT_LAT then { d with gat := { d.gat with latMax := 0 } }
  else if a = R.SIV_LAT then { d with hst := { d.hst with latMax := 0 } }
  else if a = R.PNT_LAT then { d with pnt := { d.pnt with latMax := 0 } }
  else if 0x100000 ≤ a ∧ a < 0x200000 ∧ a = R.ASY_LAT k then d.onCore k (fun c => { c with latMax := 0 })
  else if a = R.ASY_DISP_WAIT then { d with asy := { d.asy with dispWait := 0 } }
  else if 0x210200 ≤ a ∧ a < 0x210260 then d.setReg a (d.reg (a - 0x80))
  else if a = R.CAN_CNT_DROP 0 ∨ a = R.CAN_CNT_DROP 1 then d.setReg a 0
  else if 0x240180 ≤ a ∧ a < 0x2401A0 ∧ a % 16 = 0 then
    let e := (a - 0x240180) / 16
    (d.setFld a 15 8 0).onSnsAll (fun q => { q with encs := mupd q.encs e {} (fun x => { x with logged := false }) })
  else if a = R.SNS_IMU_STAT then (d.setFld a 15 8 0).onSnsAll (fun q => { q with imuLogged := false })
  else if a = 0x26E64C ∨ a = 0x26F64C then d.onCan ((a - 0x26E600) / 0x1000) (fun c => { c with fifo := c.fifo.drop 1 })
  else d

/-- A read of one half of a 64-bit pair under the two-half rule (R426): the low word loads the requester's slot; the high
word comes from the slot when it holds that pair, else live with torn set; a snapshot returned before sets torn. -/
def Dev.pairRead (d : Dev) (src b : Nat) (high : Bool) : Dev × Word :=
  let live := d.value src (b + 4)
  if !high then
    let lo := d.value src b
    (d.onReq src (fun r => { r with snap := some (b, lo, live, false) }), lo)
  else match (d.req src).snap with
    | some (x, lo, hi, told) =>
      if x = b then
        let d := d.onReq src (fun r => { r with snap := some (b, lo, hi, true) })
        (if told then d.sticky src 0 else d, hi)
      else (d.sticky src 0, live)
    | none => (d.sticky src 0, live)

/-- A register or unbudgeted window word read by `src`: its value and what the read changes. -/
def Dev.registerRead (d : Dev) (src a : Nat) : Dev × Word :=
  match pairLow a with
  | some b => d.pairRead src b (a != b)
  | none =>
    let v := d.value src a
    ((if (d.look src a).free = 0 then d else d.drew).reload a, v)

end Sys2Proof.Machine
end

