-- ==== Sys2Proof/Machine/MgmtOps.lean ====
section
/-! DEFINITION. Management accesses: what a read or a write of any word does, whatever its requester (R22, R414, R421 to
R426, R431). -/
namespace Sys2Proof.Machine

/-! Which locations a write can change. -/

/-- The reserve list banks, which have no register row (Table 04-7). -/
def inReserve (a : Nat) : Bool := decide (0x48000 ≤ a ∧ a < 0x50000)

/-- The coefficient window of the filters (Table 14-6). -/
def inCoef (a : Nat) : Bool := decide (0x231000 ≤ a ∧ a < 0x235000)

/-- Windows on memories and tables: the journal's flag [1] (Table 20-3). -/
def inWindow (a : Nat) : Bool :=
  decide (0x41000 ≤ a ∧ a < 0x50000) || decide (0xA4000 ≤ a ∧ a < 0xC0000) || decide (0xC2000 ≤ a ∧ a < 0xC4000) ||
  decide (0xE0000 ≤ a ∧ a < 0xF0000) || decide (0x100000 ≤ a ∧ a < 0x200000 ∧ 0x8000 ≤ a % 0x10000) ||
  decide (0x258000 ≤ a ∧ a < 0x260000) || decide (0x291000 ≤ a ∧ a < 0x2A0000) || decide (0x1000000 ≤ a)

/-- A write of the word can change nothing: the location is reserved, or every field in it is RO (R22, R423). -/
def readOnly (a : Nat) : Bool :=
  !inReserve a && !inCoef a && (match findReg a with | none => true | some r => r.rw == 0 && r.w1c == 0 && !r.cmd)

/-- The target ignores the write in its present condition (R289, R276, Table 15-7). -/
def Dev.ignores (d : Dev) (a : Nat) : Bool :=
  readOnly a ||
  (inCoef a && !(d.bankOpen ((a - 0x231000) / 0x400) ((a - 0x231000) / 0x200 % 2)).2) ||
  (decide (0x220100 ≤ a ∧ a < 0x220500 ∧ a % 0x80 = 0x24) && d.rbit (R.WAV_TAP_CFG ((a - 0x220100) / 0x80)) 15) ||
  (decide (0x26E200 ≤ a ∧ a < 0x270000 ∧ 0x200 ≤ (a - 0x26E000) % 0x1000 ∧ (a - 0x26E000) % 0x1000 < 0x480 ∧
    18 ≤ ((a - 0x26E000) % 0x1000 - 0x200) / 4 % 20))

/-! What an accepted write of a register does. -/

/-- The registers whose writes enter a shadow copy (R106, R116, R124, R141, R186, R407). -/
def shadowed (a : Nat) : Bool :=
  decide (0x50040 ≤ a ∧ a < 0x500C0) || decide (0x50400 ≤ a ∧ a < 0x50600 ∧ a % 0x40 < 0x0C) ||
  decide (0x60000 ≤ a ∧ a < 0x60400 ∧ (a % 0x100 = 0x0C ∨ a % 0x100 = 0x10)) || decide (0x60400 ≤ a ∧ a < 0x6042C) ||
  decide (0x80000 ≤ a ∧ a < 0x84000 ∧ (a % 64 = 0x10 ∨ a % 64 = 0x14)) || a == R.SIV_CTRL ||
  decide (0xD0008 ≤ a ∧ a < 0xD0020) || decide (0xD0040 ≤ a ∧ a < 0xD0080) || decide (0x280100 ≤ a ∧ a < 0x2801A0)

/-- A write enters the shadow copy: it waits for the next frame boundary in RANGING, else is in force at once. -/
def Dev.shadowPut (d : Dev) (a : Nat) (v : Word) : Dev :=
  if d.ranging then { d with shadow := mput d.shadow a v } else d.applyOne a v

/-- A host's write of a trim of the port in its blind interval, or of its channels, is noted (R404). -/
def Dev.noteTrim (d : Dev) (a : Nat) : Dev :=
  let mine := match d.cal.turn with | some q => decide (0x80000 ≤ a ∧ a < 0x84000 ∧ (a - 0x80000) / 64 / 8 = q) | none => false
  if mine then { d with cal := { d.cal with hostWrote := true } } else d

/-- A write of a shadowed register (R422). -/
def Dev.shadowWrite (d : Dev) (a : Nat) (w : Word) : Dev := (d.shadowPut a (storedWord a (d.shown a) w)).noteTrim a

/-- A half of an aperture group's 64-bit limits (R106). -/
def inLimits (a : Nat) : Bool := decide (0x50400 ≤ a ∧ a < 0x50600 ∧ 0x10 ≤ a % 0x40 ∧ a % 0x40 < 0x28)

/-- A write of a limit's half: the low word is held for its requester, the high word commits both (R33, R106, R426). -/
def Dev.limitWrite (d : Dev) (src a : Nat) (w : Word) : Dev :=
  let b := a / 8 * 8
  if a = b then d.onReq src (fun r => { r with pair := some (b, w) })
  else
    let low := match (d.req src).pair with | some (x, lo) => if x = b then some lo else none | none => none
    let d := d.onReq src (fun r => { r with pair := none })
    match low with
    | some lo => (d.shadowPut b lo).shadowPut a (storedWord a (d.shown a) w)
    | none => (d.shadowPut a (storedWord a (d.shown a) w)).sticky src 0

/-- Writes to CLK: the rate within ±200,000, the pairs, the frame schedule (R31 to R33, R38, R40). -/
def Dev.clkWrite (d : Dev) (src a : Nat) (w : Word) : Dev :=
  if a = R.CLK_RATE_ADJ then d.setReg a (BitVec.ofInt 32 (clampI (-200000) 200000 w.toInt))
  else if a = R.CLK_FRAME_AT_CTRL then d.frameAtWrite w
  else match pairBase a with
    | some b => if a = b then d.onReq src (fun r => { r with pair := some (b, w) }) else d.pairHigh src b w
    | none => d.storeReg a w

/-- Writes to SEQ, EMT, STR, RFE and GAT. -/
def Dev.shotWrite (d : Dev) (src a : Nat) (w : Word) (o : Outside) : Dev :=
  if a = R.SEQ_SQUASH_CMD then d.squashCmd w
  else if inReserve a then d.setReg a w
  else if a = R.EMT_CMD then d.emtCmd w
  else if inLimits a then d.limitWrite src a w
  else if 0x60000 ≤ a ∧ a < 0x60400 ∧ a % 0x100 = 0 then d.strCtrlWrite ((a - 0x60000) / 0x100) w
  else if 0x60000 ≤ a ∧ a < 0x60400 ∧ a % 0x100 = 8 then d.strSetpointWrite ((a - 0x60000) / 0x100) w
  else if 0x60000 ≤ a ∧ a < 0x60400 ∧ a % 0x100 = 0x3C then d.strCmd ((a - 0x60000) / 0x100) w
  else if 0x80000 ≤ a ∧ a < 0x84000 ∧ a % 64 < 0x10 then d.rfeWrite ((a - 0x80000) / 64) a w
  else if a = R.RFE_CMD then d.rfeCmd w o.compLow
  else if 0xA0040 ≤ a ∧ a < 0xA00C0 then d.portCfgWrite ((a - 0xA0040) / 4) w
  else if a = R.GAT_PAGE then d.onReq src (fun r => { r with pages := mput r.pages a (bits w 7 0) })
  else d.storeReg a w

/-- Writes to HST, SIV, ASY, PNT and FMN. -/
def Dev.dataWrite (d : Dev) (src a : Nat) (w : Word) : Dev :=
  if a = R.SIV_PAGE then d.onReq src (fun r => { r with pages := mput r.pages a (bits w 7 0) })
  else if 0x100000 ≤ a ∧ a < 0x200000 ∧ a % 0x10000 = 0x10 then d.onReq src (fun r => { r with pages := mput r.pages a (bits w 2 0) })
  else if a = R.PNT_CMD then d.pntCmd w
  else if 0x200100 ≤ a ∧ a < 0x200300 then
    let n := (a - 0x200100) / 16
    let d := { d with pnt := { d.pnt with cfgPend := mput d.pnt.cfgPend a (storedWord a (d.shown a) w) } }
    if (d.queue n).isEmpty then d.streamApply n else d
  else if a = R.FMN_CMD then d.fmnCmd w
  else if 0x210100 ≤ a ∧ a < 0x210160 then d.allocWrite ((a - 0x210100) / 4) w
  else d.storeReg a w

/-- Writes to WAV, FLT, HKA, SNS and CAN. -/
def Dev.senseWrite (d : Dev) (a : Nat) (w : Word) : Dev :=
  let t := (a - 0x220100) / 0x80
  let o := a % 0x80
  if a = R.WAV_CMD then d.wavCmd w
  else if 0x220100 ≤ a ∧ a < 0x220500 then
    if o = 0 then d.tapCfgWrite t w
    else if o = 4 then d.tapHold t a (storedWord a (d.shown a) w)
    else if o = 0x18 ∨ o = 0x1C then
      let d := d.onTap t (fun q => { q with ringPend := mput q.ringPend a (storedWord a (d.shown a) w) })
      if (d.tap t).cap.isSome || (d.tap t).writing.isSome || d.ringUsed t != 0 then d else d.ringRestart t
    else if o = 0x24 then d.ringRdWrite t w
    else d.storeReg a w
  else if a = R.FLT_CMD then d.fltCmd w
  else if 0x230100 ≤ a ∧ a < 0x230300 ∧ a % 0x20 = 0 then d.fltCfgWrite ((a - 0x230100) / 0x20) w
  else if 0x230100 ≤ a ∧ a < 0x230300 ∧ a % 0x20 = 4 then d.bankWrite ((a - 0x230100) / 0x20) w
  else if inCoef a then d.coefWrite a w
  else if a = R.HKA_CMD then d.hkaCmd w
  else if 0x238000 ≤ a ∧ a < 0x238600 ∧ a % 0x100 = 0 then d.hkaCfgWrite ((a - 0x238000) / 0x100) w
  else if 0x238000 ≤ a ∧ a < 0x238600 ∧ 0x10 ≤ a % 0x100 ∧ a % 0x100 < 0x30 then d.hkaSeqWrite ((a - 0x238000) / 0x100) ((a % 0x100 - 0x10) / 4) w
  else if 0x240000 ≤ a ∧ a < 0x240100 ∧ a % 0x20 = 0 then d.snsCfgWrite ((a - 0x240000) / 0x20) w
  else if a = R.SNS_BIAS_BASE then d.biasBaseWrite w
  else if a = R.SNS_IMU_XFER then d.imuCmd w
  else if a = R.CAN_CMD 0 ∨ a = R.CAN_CMD 1 then d.canCmd ((a - 0x26E000) / 0x1000) w
  else if 0x26E000 ≤ a ∧ a < 0x270000 ∧ 0x100 ≤ (a - 0x26E000) % 0x1000 then d.canWord a w
  else d.storeReg a w

/-- Writes to HOI, LNK, CSI and ETH. -/
def Dev.linkWrite (d : Dev) (src a : Nat) (w : Word) (o : Outside) : Dev :=
  if a = R.HOI_CTRL then d.hoiCtrlWrite w
  else if a = R.HOI_CMD then d.hoiCmd w
  else if a = R.HOI_PAGE then d.onReq src (fun r => { r with pages := mput r.pages a (bits w 2 0) })
  else if 0x260000 ≤ a ∧ a < 0x260800 ∧ a % 0x100 = 0 then d.lnkCfgWrite ((a - 0x260000) / 0x100) w
  else if 0x260000 ≤ a ∧ a < 0x260800 ∧ a % 0x100 = 8 then d.lnkCmd ((a - 0x260000) / 0x100) w
  else if a = R.CSI_CTRL then d.csiCtrlWrite w
  else if a = R.ETH_MDIO then d.mdioCmd w o.turn o.data
  else d.storeReg a w

/-- Writes to CNY, CAL, FLG and MGT. -/
def Dev.guardWrite (d : Dev) (src a : Nat) (w : Word) : Dev :=
  if a = R.CNY_CMD then d.cnyCmd w
  else if a = R.CAL_CMD then d.calCmd w
  else if a = R.FLG_CMD then d.flgCmd w
  else if a = R.FLG_JCOPY_BASE ∨ a = R.FLG_JCOPY_LEN then d.copyHold a (storedWord a (d.shown a) w)
  else if a = R.FLG_JCOPY_RD then d.copyRead w
  else if a = R.MGT_STATUS then d.onReq src (fun r => { r with status := r.status &&& ~~~w })
  else if a = R.MGT_DRAM_WIN then d.onReq src (fun r => { r with dramWin := bits w 6 0 })
  else d.storeReg a w

/-- What an accepted write of a register does, by its block (R423). -/
def Dev.applyWrite (d : Dev) (src a : Nat) (w : Word) (o : Outside) : Dev :=
  if shadowed a then d.shadowWrite a w
  else if a < 0x20000 then d.clkWrite src a w
  else if a = R.LMP_FUSE_CMD then d.fuseCmd w
  else if a = R.LMP_ATTEST_CMD then d.attestCmd w
  else if a < 0xC0000 then d.shotWrite src a w o
  else if a < 0x220000 then d.dataWrite src a w
  else if a < 0x250000 ∨ (0x26E000 ≤ a ∧ a < 0x270000) then d.senseWrite a w
  else if a < 0x270000 then d.linkWrite src a w o
  else d.guardWrite src a w

/-! Writes. -/

/-- A write that is not a command's: journaled with the value it showed (R414), refused in HEADFRAME with status 0x02
(R43), ignored where its target ignores it. -/
def Dev.plainWrite (d : Dev) (src a : Nat) (w : Word) (o : Outside) : Dev :=
  let d := d.incSat (R.MGT_CNT_WR src) 31 0 1
  let old := d.value src a
  let d := if (d.look src a).free = 0 then d else d.drew
  if d.top.state == .headframe then (d.journal src a old w true (inWindow a)).respond src 2
  else if readOnly a then (d.journal src a old w true (inWindow a)).respond src 0
  else ((d.journal src a old w (d.ignores a) (inWindow a)).applyWrite src a w o).respond src 0

/-- A write to scan or cluster SRAM (R67, R421): the bytes change; a poisoned word stays poisoned (log entry 47). -/
def State.sramWrite (s : State) (src a : Nat) (w : Word) : State :=
  let refused := s.dev.top.state == .headframe
  let old : Word := BitVec.ofNat 32 (memLe s.sram a 4)
  let s := s.onDev (fun d => ((d.incSat (R.MGT_CNT_WR src) 31 0 1).journal src a old w refused true).respond src (if refused then 2 else 0))
  if refused then s else { s with sram := memSetBytes s.sram a (leBytes 4 w.toNat) }

/-- The DRAM byte address behind `a` of the requester's window (R431). -/
def Dev.dramAddr (d : Dev) (src a : Nat) : Nat := (d.req src).dramWin % 128 * 2 ^ 30 + (a - 0x40000000)

/-- An access to the DRAM window that does not reach Hoist: no allocation, or Hoist trains (R424, R431). -/
def Dev.dramUnserved (d : Dev) : Bool := d.reg (R.FMN_ALLOC 18) == 0 || (!d.hoistServing && !d.hoistFailed)

/-- The model's own mark of an access that waits for its activity or for Hoist: it is not answered yet (R249, R424, log
entry 48). -/
def waitsYet : Nat := 8

/-- The access waits. -/
def Dev.waits (d : Dev) (src : Nat) : Dev := d.onReq src (fun r => { r with lastStatus := waitsYet, lastData := [] })

/-- A write through the DRAM window: a merged write of one burst (R322, R424, R431). One that Hoist cannot take now
waits. -/
def State.dramWindowWrite (s : State) (src a : Nat) (w : Word) (o : Outside) : State :=
  let x := s.dev.dramAddr src a
  let word := dramBytes s.dram (x / 32 * 32) 32
  let old : Word := BitVec.ofNat 32 (leAt word (x % 32) 4)
  let note := fun (s : State) (ignored : Bool) (st : Nat) =>
    s.onDev (fun d => ((d.incSat (R.MGT_CNT_WR src) 31 0 1).journal src a old w ignored true).respond src st)
  if s.dev.top.state == .headframe then note s true 2
  else if s.dev.dramUnserved then note s true 7
  else if s.dev.hoistFailed then note s true 5
  else if s.dev.hoistBytes ≤ x then note s true 6
  else
    let lost := s.dev.wordPoison (x / 32) || 2 ≤ o.err0 || 2 ≤ o.err1
    let base := if lost then leBytes 32 (s.dev.fresh 256).toNat else word
    let data := base.take (x % 32) ++ leBytes 4 w.toNat ++ base.drop (x % 32 + 4)
    let (s2, ok) := s.burstWrite 18 (x / 32 * 32) data false o.err0 o.err1
    if ok then note (if lost then s2.onDev Dev.drew else s2) false 0 else s2.onDev (fun d => d.waits src)

/-- A management write of the word at `a` by requester `src` (R414, R421 to R424). -/
def State.mgtWrite (s : State) (src a : Nat) (w : Word) (o : Outside) : State :=
  let d := s.dev
  if !d.alive then s
  else if a % 4 ≠ 0 then s.onDev (fun d => d.respond src 1)
  else if a = R.TOP_CMD then s.topWrite src w
  else if 0x100000 ≤ a ∧ a < 0x200000 ∧ a % 0x10000 = 0 then
    s.asyCtrlWrite src { core := (a - 0x100000) / 0x10000, errU := o.err0, errV := o.err1, stall := o.stall } w
  else if 0x100000 ≤ a ∧ a < 0x200000 ∧ (0x8000 ≤ a % 0x10000 ∨ (0x100 ≤ a % 0x10000 ∧ a % 0x10000 < 0x200)) then
    s.asyWinWrite src ((a - 0x100000) / 0x10000) (a % 0x10000) w
  else if 0x1000000 ≤ a ∧ a < 0x1800000 then s.onDev (fun d => d.hstWinWrite s.sram src a w)
  else if 0x1800000 ≤ a ∧ a < 0x1D00000 then s.sramWrite src a w
  else if 0x40000000 ≤ a ∧ a < 0x80000000 then s.dramWindowWrite src a w o
  else if paramBase ≤ a ∧ a < paramBase + 0x8000 then s.onDev (fun d => d.paramWrite src a w)
  else if d.canaryOwns a then s.onDev (fun d => d.canaryWrite src a w)
  else if (findReg a).any (·.cmd) then s.onDev (fun d => d.cmdWrite src a w (fun d => d.applyWrite src a w o))
  else s.onDev (fun d => d.plainWrite src a w o)

/-! Reads. -/

/-- A requester is answered with a word. -/
def Dev.answer (d : Dev) (src : Nat) (v : Word) (status : Nat) : Dev :=
  ((d.incSat (R.MGT_CNT_RD src) 31 0 1).onReq src (fun r => { r with lastData := [v] })).respond src status

/-- The Foreman activity that budgets a read of `a`: 21 for the block windows, 19 and 20 for the SRAM windows
(Table 20-4). -/
def readActivity (a : Nat) : Option Nat :=
  if 0x41000 ≤ a ∧ a < 0x41C00 ∨ 0xA4000 ≤ a ∧ a < 0xC0000 ∨ 0xC2000 ≤ a ∧ a < 0xC4000 ∨ 0xE0000 ≤ a ∧ a < 0xF0000 ∨
    0x258000 ≤ a ∧ a < 0x260000 then some 21
  else if 0x1000000 ≤ a ∧ a < 0x1800000 then some 19
  else if 0x1800000 ≤ a ∧ a < 0x1D00000 then some 20
  else none

/-- A read of an on-chip SRAM word (R20, R178, R424): a word found poisoned logs its memory's code (log entry 44). -/
def State.sramRead (s : State) (src a err : Nat) : State :=
  let found := decide (2 ≤ err ∧ err ≤ 3) && !s.sramPoison.contains (a / 32 * 32)
  let code := match memoryOf a with | 0 => 0x0A01 | 1 => 0x0503 | _ => 0x0C03
  let (s, v, st) := s.winRead a err
  s.onDev (fun d => (if found then d.logFault code .n else d).answer src v st)

/-- A read through the DRAM window (R321, R424, R431). One that Hoist cannot take now waits. -/
def State.dramWindowRead (s : State) (src a : Nat) (o : Outside) : State :=
  let x := s.dev.dramAddr src a
  if s.dev.dramUnserved then s.onDev (fun d => (d.onReq src (fun r => { r with lastData := [0#32] })).respond src 7)
  else if s.dev.hoistFailed then s.onDev (fun d => d.answer src 0 5)
  else if s.dev.hoistBytes ≤ x then s.onDev (fun d => d.answer src 0 6)
  else
    let (s, ok) := s.burstRead 18 x o.err0 o.err1 o.tagBad
    if !ok then s.onDev (fun d => d.waits src)
    else
      let p := if x / 32 % 2 = 0 then s.dev.hoi.lastPoison.1 else s.dev.hoi.lastPoison.2
      s.onDev (fun d => if p then d.answer src 0 5 else d.answer src (BitVec.ofNat 32 (leAt d.hoi.last (x % 64) 4)) 0)

/-- A register or block window word is read and answered. -/
def Dev.readAnswer (d : Dev) (src a : Nat) : Dev :=
  if 0x41000 ≤ a ∧ a < 0x41C00 then d.tallyRead src ((a - 0x41000) / 16) (a % 16 / 4)
  else if 0xC2000 ≤ a ∧ a < 0xC4000 then d.hstRead src ((a - 0xC2000) / 16) (a % 16 / 4)
  else let (d, v) := d.registerRead src a; d.answer src v 0

/-- A management read of the word at `a` by requester `src` (R417, R421, R424). -/
def State.mgtRead (s : State) (src a : Nat) (o : Outside) : State :=
  if !s.dev.alive then s
  else if a % 4 ≠ 0 then s.onDev (fun d => (d.onReq src (fun r => { r with lastData := [] })).respond src 1)
  else if 0x100000 ≤ a ∧ a < 0x200000 ∧ (0x8000 ≤ a % 0x10000 ∨ (0x100 ≤ a % 0x10000 ∧ a % 0x10000 < 0x200)) then
    s.asyWinAnswer src ((a - 0x100000) / 0x10000) (a % 0x10000) o.err0
  else if 0x40000000 ≤ a ∧ a < 0x80000000 then s.dramWindowRead src a o
  else match readActivity a with
    | none => s.onDev (fun d => d.readAnswer src a)
    | some act =>
      if s.dev.reg (R.FMN_ALLOC act) = 0 then s.onDev (fun d => d.budgetRead src act id)
      else if act = 21 then s.onDev (fun d => d.readAnswer src a)
      else s.sramRead src a o.err0

/-! Accesses of several words (R424). -/

/-- A status that ends an access (Table 21-2), or that it waits. -/
def endsAccess (st : Nat) : Bool := st == 1 || st == 3 || st == 4 || st == 7 || st == waitsYet

/-- Write consecutive words: the state, the words performed and the first status that is not 0. -/
def State.mgtWrites (s : State) (src : Nat) : Nat → List Word → List Outside → State × Nat × Nat
  | _, [], _ => (s, 0, 0)
  | a, w :: ws, os =>
    let s := s.mgtWrite src a w (os.headD {})
    let st := (s.dev.req src).lastStatus
    if endsAccess st then (s, 0, st)
    else
      let (s, n, st') := s.mgtWrites src (a + 4) ws (os.drop 1)
      (s, n + 1, if st = 0 then st' else st)

/-- Read `n` consecutive words, up to the first whose status `ends` the access: the state, the words read and the first
status that is not 0. -/
def State.mgtReads (s : State) (src : Nat) (ends : Nat → Bool) : Nat → Nat → List Outside → State × List Word × Nat
  | _, 0, _ => (s, [], 0)
  | a, n + 1, os =>
    let s := s.mgtRead src a (os.headD {})
    let r := s.dev.req src
    if ends r.lastStatus then (s, [], r.lastStatus)
    else
      let (s, l, st) := s.mgtReads src ends (a + 4) n (os.drop 1)
      (s, r.lastData ++ l, if r.lastStatus = 0 then st else r.lastStatus)

end Sys2Proof.Machine
end

