-- ==== Sys2Proof/Machine/Management.lean ====
section
/-! DEFINITION. Management access by its interfaces: single words, SPI and I2C frames, MGT symbols, datagrams and CAN
frames, the DRAM window (chapter 21, R20, R308, R350, R359). -/
namespace Sys2Proof.Machine

/-! Single words. -/

/-- REGISTER_WRITE (R423): one management write of the word at `addr`. -/
def execRegisterWrite (src t addr : Nat) (value : Word) (out : Outside) (s : State) : Out :=
  s.atTickMem t (fun s => s.mgtWrite src addr value out)

/-- SHADOWED_REGISTER_WRITE (R422, R453): a write of a register that has a shadow copy. -/
def execShadowedRegisterWrite (src t addr : Nat) (value : Word) (s : State) : Out :=
  s.atTickMem t (fun s => if shadowed addr || inLimits addr then s.mgtWrite src addr value {} else s)

/-- LOW_WORD_READ (R426): `addr` is the low word of a 64-bit pair. -/
def execLowWordRead (src t addr : Nat) (s : State) : Out :=
  s.atTickMem t (fun s => if pairLow addr = some addr then s.mgtRead src addr {} else s)

/-- HIGH_WORD_READ (R426): `addr` is the high word of a 64-bit pair. -/
def execHighWordRead (src t addr : Nat) (s : State) : Out :=
  s.atTickMem t (fun s => if 4 ≤ addr ∧ pairLow addr = some (addr - 4) then s.mgtRead src addr {} else s)

/-! SPI and I2C frames (R427 to R429). -/

/-- The status of the last write frame, as the status command shows it. -/
def Dev.frameEnds (d : Dev) (src status written : Nat) : Dev :=
  d.onReq src (fun r => { r with frameStatus := status, lastWritten := written })

/-- A write frame's words, of which `room` found the queue of 16 not full (R427). -/
def State.writeFrame (s : State) (src addr room : Nat) (words : List Word) (outs : List Outside) : State :=
  let (s, n, st) := s.mgtWrites src addr (words.take room) outs
  let st := if st = waitsYet then 0 else st
  let full := decide (room < words.length) && !endsAccess st
  let s := if full then s.onDev (fun d => d.respond src 3) else s
  s.onDev (fun d => d.frameEnds src (if full && st == 0 then 3 else st) n)

/-- SERIAL_WRITE_FRAME (R427, Table 21-3): a frame of the SPI (0) or I2C (1) target that is neither a read nor a status
frame: its command byte, the words completed before it ended and how many of them found room in the queue. -/
def execSerialWriteFrame (src t command addr room : Nat) (words : List Word) (outs : List Outside) (s : State) : Out :=
  s.atTickMem t (fun s =>
    if 2 ≤ src ∨ command = 2 ∨ command = 5 then s
    else if command = 1 then s.writeFrame src addr room words outs
    else s.onDev (fun d => (d.respond src 4).frameEnds src 4 0))

/-- SERIAL_READ_FRAME (R428, R429): the words the host clocked. On SPI a word with a status ends what the target sends. -/
def execSerialReadFrame (src t addr count : Nat) (outs : List Outside) (s : State) : Out :=
  s.atTickMem t (fun s =>
    if 2 ≤ src then s
    else
      let (s, l, st) := s.mgtReads src (fun st => if src = 0 then st != 0 else endsAccess st) addr count outs
      s.onDev (fun d => d.onReq src (fun r => { r with lastData := l, lastStatus := st })))

/-- SERIAL_STATUS_FRAME (R427, Table 21-3). -/
def execSerialStatusFrame (src t : Nat) (s : State) : Out :=
  s.atTick t (fun d =>
    if 2 ≤ src then d
    else d.onReq src (fun r => { r with
      lastData := [BitVec.ofNat 32 (r.frameStatus % 256 + 256 * (r.lastWritten % 65536) + 2 ^ 24 * (r.status.toNat % 256))] }))

/-- I2C_WORD_TIMEOUT (R429): the target returns 0xFF for the rest of the frame. -/
def execI2cWordTimeout (t : Nat) (s : State) : Out :=
  s.atTick t (fun d => ((d.onReq 1 (fun r => { r with lastData := [], frameStatus := 7 })).respond 1 7))

/-! MGT requests (R350, R430). -/

/-- A response: the type, the request's tag, count and address, a status and the data words read. -/
def mgtResponse (req : List Byte) (status : Nat) (data : List Word) : List Byte :=
  let b := fun i => req.getD i 0#8
  ([0x21#8, b 1, BitVec.ofNat 8 status, b 3] ++ (req.drop 4).take 4 ++ data.flatMap (fun w => leBytes 4 w.toNat) ++
    List.replicate 32 0#8).take 32

/-- A request is performed: the state and its response; none while a word of it waits (log entry 48). -/
def State.mgtRequest (s : State) (src : Nat) (req : List Byte) (outs : List Outside) : State × Option (List Byte) :=
  let op := leAt req 2 1
  let n := leAt req 3 1
  let a := leAt req 4 4
  if (op ≠ 1 ∧ op ≠ 2) ∨ n = 0 ∨ 4 < n then (s.onDev (fun d => d.respond src 4), some (mgtResponse req 4 []))
  else if op = 1 then
    let (s, l, st) := s.mgtReads src endsAccess a n outs
    (s, if st = waitsYet then none else some (mgtResponse req st l))
  else
    let (s, _, st) := s.mgtWrites src a ((List.range n).map (fun i => BitVec.ofNat 32 (leAt req (8 + 4 * i) 4))) outs
    (s, if st = waitsYet then none else some (mgtResponse req st []))

/-- The answers of requests still held: those that are no busy answers. -/
def heldAnswers (l : List (Bool × List Byte)) : Nat := (l.filter (fun p => !p.1)).length

/-- A lane takes a request: a fifth one is answered at once with the busy status (R350). -/
def State.laneRequest (s : State) (n : Nat) (req : List Byte) (outs : List Outside) : State :=
  let s := s.onDev (fun d => d.inc64 (R.LNK_CNT_MGT n) 1)
  if 4 ≤ heldAnswers (s.dev.lane n).responses then
    s.onDev (fun d => (d.respond (2 + n) 3).onLane n (fun l => { l with responses := (true, (mgtResponse req 3 []).drop 1) :: l.responses }))
  else
    match s.mgtRequest (2 + n) req outs with
    | (s, some r) => s.onDev (fun d => d.onLane n (fun l => { l with responses := l.responses ++ [(false, r.drop 1)] }))
    | (s, none) => s

/-- An MGT symbol arrives on lane `n` (R337, R350). -/
def State.laneMgt (s : State) (n err : Nat) (req : List Byte) (outs : List Outside) : State :=
  let l := s.dev.lane n
  if 8 ≤ n ∨ s.dev.isRemoved (.lane n) ∨ l.st = .down ∨ l.locked = false ∨ l.discarding then s
  else if 2 ≤ err then s.onDev (fun d => d.inc64 (R.LNK_CNT_UNCORR n) 1)
  else
    let s := if err = 1 then s.onDev (fun d => d.inc64 (R.LNK_CNT_CORR n) 1) else s
    if l.st ≠ .up then s.onDev (fun d => d.rxDiscard n) else s.laneRequest n req outs

/-- MGT_READ (R350): a symbol whose operation is not a write. -/
def execMgtRead (t lane err : Nat) (req : List Byte) (outs : List Outside) (s : State) : Out :=
  s.atTickMem t (fun s => if leAt req 2 1 = 2 then s else s.laneMgt lane err req outs)

/-- MGT_WRITE (R350). -/
def execMgtWrite (t lane err : Nat) (req : List Byte) (outs : List Outside) (s : State) : Out :=
  s.atTickMem t (fun s => if leAt req 2 1 = 2 then s.laneMgt lane err req outs else s)

/-- MGT_DATAGRAM (R359, R430): a UDP datagram to `port` from `srcPort`. -/
def execMgtDatagram (t : Nat) (vid : Option Nat) (port srcPort : Nat) (req : List Byte) (outs : List Outside) (s : State) : Out :=
  s.atTickMem t (fun s =>
    let d := s.dev
    if !d.ethUp then s
    else if !d.tagOk vid || !d.rbit R.ETH_CTRL 5 || req.length != 32 || port != d.fld R.ETH_UDP 31 16 || req.headD 0 != 0x20 then
      s.onDev Dev.ethDiscard
    else
      match (s.onDev (fun d => d.inc64 R.ETH_CNT_MGT 1)).mgtRequest 0x0A req outs with
      | (s, some r) => s.onDev (fun d => d.ethSend 3 port srcPort r)
      | (s, none) => s)

/-- A management request on CAN `n` (R430): answers go out from buffer 7, one after another. -/
def State.canRequest (s : State) (n : Nat) (outs : List Outside) (req : List Byte) : State :=
  let l := (s.dev.can n).answers
  let put := fun (d : Dev) (r : List Byte) => if l.isEmpty then d.canPut n 7 (d.fld R.MGT_CAN_CFG 23 13) r else d
  if 4 ≤ heldAnswers l then
    s.onDev (fun d => (d.respond (0x0B + n) 3).onCan n (fun c => { c with answers := c.answers.take 1 ++ [(true, mgtResponse req 3 [])] ++ c.answers.drop 1 }))
  else
    match s.mgtRequest (0x0B + n) req outs with
    | (s, some r) => s.onDev (fun d => put (d.onCan n (fun c => { c with answers := c.answers ++ [(false, r)] })) r)
    | (s, none) => s

/-- CAN_FRAME_RECEIVED (R308, R309, R391, R430): a frame whose start of frame was at tick `sof`. -/
def execCanFrameReceived (t n id dlc : Nat) (ide fd brs esi : Bool) (data : List Byte) (sof : Nat) (outs : List Outside) (s : State) : Out :=
  s.atTickMem t (fun s => if 2 ≤ n then s else s.canReceive n id dlc ide fd brs esi data sof (fun s r => s.canRequest n outs r))

/-! The DRAM window and budgeted windows (R424, R431). -/

/-- DRAM_WINDOW_ACCESS (R431). -/
def execDramWindowAccess (src t addr : Nat) (write : Bool) (value : Word) (out : Outside) (s : State) : Out :=
  s.atTickMem t (fun s =>
    if addr < 0x40000000 ∨ 0x80000000 ≤ addr then s
    else if write then s.mgtWrite src addr value out else s.mgtRead src addr out)

/-- MGT_DRAM_WIN_WRITE (R431): the requester's own copy changes. -/
def execMgtDramWinWrite (src t : Nat) (value : Word) (s : State) : Out :=
  s.atTickMem t (fun s => s.mgtWrite src R.MGT_DRAM_WIN value {})

/-- WINDOW_ACCESS_TIMEOUT (R424): a budgeted access was not served within 1 ms. -/
def execWindowAccessTimeout (src t addr : Nat) (write : Bool) (value : Word) (s : State) : Out :=
  s.atTickMem t (fun s =>
    let dram := decide (0x40000000 ≤ addr ∧ addr < 0x80000000)
    if addr % 4 ≠ 0 then s
    else if write then
      if !dram || s.dev.top.state == .headframe then s
      else
        let x := s.dev.dramAddr src addr
        let old : Word := BitVec.ofNat 32 (leAt (dramBytes s.dram (x / 32 * 32) 32) (x % 32) 4)
        s.onDev (fun d => ((d.incSat (R.MGT_CNT_WR src) 31 0 1).journal src addr old value true true).respond src 7)
    else if dram || (readActivity addr).isSome then
      s.onDev (fun d => (d.onReq src (fun r => { r with lastData := [0#32] })).respond src 7)
    else s)

/-- MGT_PARITY_ERROR (R432): in a request buffer or snapshot slot (0x1B01), or in the requester's MGT_DRAM_WIN. -/
def execMgtParityError (src t : Nat) (window : Bool) (s : State) : Out :=
  s.atTick t (fun d =>
    if window then (d.onReq src (fun r => { r with dramWin := 0 })).raise 0x1B02 .n
    else (d.respond src 4).raise 0x1B01 .n)

/-! Memory (R20). -/

/-- W288_WRITE_BACK (R20): the corrected word at `word` is written back at the next idle cycle of its bank. -/
def execW288WriteBack (t word : Nat) (s : State) : Out :=
  s.atTickMem t (fun s => { s with writeBacks := s.writeBacks.filter (· != word) })

end Sys2Proof.Machine
end

