-- ==== Sys2Proof/Machine/Image.lean ====
section
/-! DEFINITION. The configuration image: its header, section table and sections, and what makes it unacceptable (R49 to
R54, R63, R225, R255, R290, R302, R367, R406). -/
namespace Sys2Proof.Machine

/-- The bytes `o .. o + n` of a list are the given ones. -/
def bytesAt (l : List Byte) (o : Nat) (m : List Byte) : Bool := (l.drop o).take m.length == m

/-- The header's fields meet Table 03-5 (R49). -/
def headerOk (h : List Byte) : Bool :=
  decide (0x140 ≤ h.length) && bytesAt h 0 [0x44, 0x5A, 0x48, 0x46, 1, 0, 0x40, 1] &&
  decide (0x160 ≤ leAt h 8 4 ∧ leAt h 8 4 ≤ 0x1000000) && leAt h 0x10 4 == 0x4256 &&
  decide (1 ≤ leAt h 0x14 2 ∧ leAt h 0x14 2 ≤ 64) && decide (leAt h 0x16 2 ≤ 1) && decide (leAt h 0x18 1 ≤ 3) &&
  zeroAt h 0x19 7 && zeroAt h 0x99 7 && zeroAt h 0x112 46

/-- How many bytes Headframe reads of an image whose first bytes are these: the header's length; only the header when it
is invalid (log entry 49). -/
def imageLength (l : List Byte) : Nat := if headerOk l then leAt l 8 4 else 0x140

/-! The section table (R50 to R52). -/

/-- A section table entry (Table 03-6). -/
structure Sec where
  idx : Nat := 0
  ty : Nat := 0
  sflags : Nat := 0
  off : Nat := 0
  size : Nat := 0
  /-- its reserved bytes are 0 -/
  clean : Bool := true
  deriving DecidableEq, Repr

/-- The section table of an image. -/
def sectionsOf (l : List Byte) : List Sec :=
  (List.range (leAt l 0x14 2)).map (fun i =>
    let o := 0x140 + 16 * i
    { idx := i, ty := leAt l o 1, sflags := leAt l (o + 1) 1, off := leAt l (o + 4) 4, size := leAt l (o + 8) 4
      clean := zeroAt l (o + 2) 2 && zeroAt l (o + 12) 4 })

/-- The bytes of a section. -/
def Sec.bytes (s : Sec) (l : List Byte) : List Byte := (l.drop s.off).take s.size

/-- The section's type is one of Table 03-7. -/
def Sec.known (s : Sec) : Bool := decide (1 ≤ s.ty ∧ s.ty ≤ 9)

/-- The greatest count of a type (Table 03-7). -/
def maxCount (ty : Nat) : Nat :=
  match ty with | 1 => 16 | 2 => 1 | 3 => 1 | 4 => 1 | 5 => 16 | 6 => 8 | 7 => 1 | 8 => 1 | _ => 64

/-- The size rule of a type (Table 03-7). -/
def sizeOk (ty n : Nat) : Bool :=
  match ty with
  | 1 => n % 8 == 0
  | 2 => decide (n ≤ 0x400000) && n % 16 == 0
  | 3 => decide (n ≤ 0x400000)
  | 4 => decide (n ≤ 0x10000)
  | 5 => decide (n ≤ 0x10000)
  | 6 => decide (n ≤ 0x1000)
  | 7 => decide (n ≤ 0x1000)
  | 8 => decide (n ≤ 0x4000)
  | _ => true

/-- The table entry breaks a rule of R50 or R52; `lo` is the end of what stands before it. -/
def Sec.bad (s : Sec) (all : List Sec) (lo length : Nat) : Bool :=
  decide (1 < s.sflags) || !s.clean || s.off % 16 != 0 || s.size == 0 || decide (s.off < lo) || decide (length < s.off + s.size) ||
  (!s.known && s.sflags == 1) || !sizeOk s.ty s.size ||
  (s.known && decide (maxCount s.ty ≤ ((all.take s.idx).filter (fun x => x.ty == s.ty)).length))

/-- The first table entry that breaks a rule: ascending offsets, inside the image, no overlap, counts and sizes. -/
def firstBad (all : List Sec) (length : Nat) : Nat → List Sec → Option Nat
  | _, [] => none
  | lo, s :: r => if s.bad all lo length then some s.idx else firstBad all length (s.off + s.size) r

/-- What is wrong with the section table: nothing, or its first bad entry, or a required section that is missing. -/
def tableFault (l : List Byte) : Option (Option Nat) :=
  let all := sectionsOf l
  match firstBad all (leAt l 8 4) (0x140 + 16 * all.length) all with
  | some i => some (some i)
  | none => if [2, 3, 7].all (fun ty => all.any (fun s => s.ty == ty)) then none else some none

/-! Section contents. -/

/-- The address of a CFG entry is invalid (R54). -/
def cfgBad (a : Nat) : Bool :=
  a % 4 != 0 || decide (0x2B0000 ≤ a) || decide (0x20000 ≤ a ∧ a < 0x40000) || decide (0x270000 ≤ a ∧ a < 0x280000) ||
  decide (0x290000 ≤ a ∧ a < 0x2A0000) || readOnly a || (findReg a).any (·.cmd)

/-- The entries of a CFG section. -/
def cfgEntries (b : List Byte) : List (Nat × Word) :=
  (List.range (b.length / 8)).map (fun i => (leAt b (8 * i) 4, BitVec.ofNat 32 (leAt b (8 * i + 4) 4)))

/-- The SCAN section holds an end marker and no invalid entry before it (R62, R63). -/
def scanOk : Nat → List Byte → Bool
  | 0, _ => false
  | n + 1, l =>
    let e := entryOf (leAt l 0 16)
    if l.length < 16 then false else if e.count = 0 then true else !e.invalid && scanOk n (l.drop 16)

/-- A segment of an ASYF section (Table 10-17). -/
structure Seg where
  space : Nat := 0
  cores : Nat := 0
  addr : Nat := 0
  words : Nat := 0
  off : Nat := 0
  deriving DecidableEq, Repr

/-- The segments of an ASYF section. -/
def segsOf (b : List Byte) : List Seg :=
  (List.range (leAt b 6 2)).map (fun i =>
    let o := 64 + 16 * i
    { space := leAt b o 1, cores := leAt b (o + 2) 2, addr := leAt b (o + 4) 4, words := leAt b (o + 8) 4, off := leAt b (o + 12) 4 })

/-- Words a space holds for segments (R225). -/
def spaceWords (space : Nat) : Nat := match space with | 0 => 16384 | 1 => 16384 | 2 => 14336 | _ => 262144

/-- The ASYF section is accepted (R225). -/
def asyfOk (b : List Byte) : Bool :=
  bytesAt b 0 [0x44, 0x5A, 0x41, 0x46, 1, 0] && decide (64 + 16 * leAt b 6 2 ≤ b.length) && leAt b 12 2 != 0 &&
  (List.range 16).all (fun k => decide (leAt b (16 + 2 * k) 2 ≤ 0x3FFF)) &&
  (segsOf b).all (fun g => decide (g.space ≤ 3) && decide (g.off + 4 * g.words ≤ b.length) &&
    decide (g.addr + g.words ≤ spaceWords g.space) && (g.space == 3 || g.cores != 0))

/-- The SAFE section is accepted (R367). -/
def safeOk (b : List Byte) : Bool :=
  b.length == 32784 && bytesAt b 0 [0x44, 0x5A, 0x53, 0x46, 1, 0, 0, 0] && zeroAt b 12 4 && blockValid (b.drop 16) &&
  leAt b 8 4 == (checkValue (b.drop 16)).toNat

/-- Coefficient `j` of a COEF section. -/
def coefAt (b : List Byte) (j : Nat) : Int := signed 32 (leAt b (16 + 4 * j) 4)

/-- The COEF section is accepted (R290). -/
def coefOk (b : List Byte) : Bool :=
  let taps := leAt b 8 1
  bytesAt b 0 [0x44, 0x5A, 0x43, 0x46, 1, 0] && decide (leAt b 6 1 ≤ 15) && decide (leAt b 7 1 ≤ 1) &&
  decide (1 ≤ taps ∧ taps ≤ 128) && decide (leAt b 9 1 ≤ 1) && zeroAt b 10 6 && b.length == 16 + 4 * taps &&
  (List.range taps).all (fun j => decide (-131072 ≤ coefAt b j ∧ coefAt b j ≤ 131071)) &&
  (leAt b 9 1 == 1 || (List.range taps).all (fun j => coefAt b j == coefAt b (taps - 1 - j)))

/-- The points of a CURV section. -/
def curvPoints (b : List Byte) : List (Nat × Int) :=
  (List.range (leAt b 7 1)).map (fun i => (leAt b (16 + 8 * i) 4, signed 32 (leAt b (20 + 8 * i) 4)))

/-- The CURV section is accepted (R302). -/
def curvOk (b : List Byte) : Bool :=
  let n := leAt b 7 1
  let p := curvPoints b
  bytesAt b 0 [0x44, 0x5A, 0x43, 0x56, 1, 0] && decide (8 ≤ leAt b 6 1 ∧ leAt b 6 1 ≤ 15) && decide (2 ≤ n) && zeroAt b 8 8 &&
  b.length == 16 + 8 * n && (p.zip (p.drop 1)).all (fun (x, y) => decide (x.1 < y.1))

/-- The greatest allocation of an activity that Headframe knows (Table 12-1, R255). -/
def allocLimit (act : Nat) : Nat :=
  if act ≤ 1 then 131072 else if act = 2 then 8192 else if act ≤ 13 then 208 else if act ≤ 18 then 2 ^ 32 - 1 else 1048575

/-- The entries of a BUDG section (Table 12-3). -/
def budgEntries (b : List Byte) : List (Nat × Nat) := (List.range 24).map (fun i => (leAt b (16 + 8 * i) 1, leAt b (20 + 8 * i) 4))

/-- The BUDG section is accepted (R255). -/
def budgOk (b : List Byte) : Bool :=
  let e := budgEntries b
  b.length == 208 && bytesAt b 0 [0x44, 0x5A, 0x42, 0x47, 1, 0] && leAt b 6 2 == 24 &&
  (List.range 24).all (fun a => (e.filter (fun p => p.1 == a)).length == 1) && e.all (fun p => decide (p.2 ≤ allocLimit p.1))

/-- The CALS section is accepted (R406). -/
def calsOk (b : List Byte) : Bool := b.length == 2160 && bytesAt b 0 [0x44, 0x5A, 0x43, 0x4C, 1, 0] && zeroAt b 6 10

/-- The section's destination accepts its content (R52, R54). -/
def Sec.contentOk (s : Sec) (l : List Byte) : Bool :=
  let b := s.bytes l
  match s.ty with
  | 1 => (cfgEntries b).all (fun p => !cfgBad p.1)
  | 2 => scanOk (b.length / 16 + 1) b
  | 3 => asyfOk b
  | 4 => safeOk b
  | 5 => coefOk b
  | 6 => curvOk b
  | 7 => budgOk b
  | 8 => calsOk b
  | _ => true

/-! Digest and signature (R53, R55). -/

/-- The digest of an image. -/
def imageDigest (l : List Byte) : List Byte := shake256 (l.take 0x20 ++ (l.take (leAt l 8 4)).drop 0x140) 64

/-- What is wrong with a keyed device's image, as a fault code; 0 when nothing is (R55). -/
def Dev.keyFault (d : Dev) (l : List Byte) (digest : List Byte) : Nat :=
  let slot := leAt l 0x18 1
  let key := (l.drop 0x60).take 57
  if !d.boot.keyed then 0
  else if leAt l 0x16 2 = 0 then 0x0306
  else if !d.boot.fused.testBit slot || d.boot.revoked.testBit slot || shake256 key 32 != d.regBytes (R.LMP_KEYHASH (8 * slot)) 8 then 0x0307
  else if !Config.ed448Verify key digest ((l.drop 0xA0).take 114) then 0x0308
  else 0

/-- What is wrong with an image, as a fault code (0 when nothing is) and the section concerned (R52 to R55, Table 03-8,
log entry 50). -/
def Dev.imageFault (d : Dev) (l : List Byte) : Nat × Option Nat :=
  if !headerOk l then (0x0303, none)
  else match tableFault l with
    | some i => (0x0304, i)
    | none => match (sectionsOf l).find? (fun s => !s.contentOk l) with
      | some s => (0x0309, some s.idx)
      | none =>
        let g := imageDigest l
        if g != (l.drop 0x20).take 64 then (0x0305, none) else (d.keyFault l g, none)

/-- The sections of an unknown type that Headframe skips before it stops loading: one entry each (R52). -/
def skippedSections (l : List Byte) (stop : Option Nat) : List Sec :=
  (sectionsOf l).filter (fun s => !s.known && (match stop with | some i => decide (s.idx < i) | none => true))

/-! Loading into memories (R51, R56, R224). -/

/-- A range of on-chip memory returns to what unwritten memory reads as, and holds no poisoned word. -/
def State.memClear (s : State) (lo hi : Nat) : State :=
  { s with sram := spClear s.sram lo hi, sramPoison := s.sramPoison.filter (fun w => !(decide (lo ≤ w ∧ w < hi))) }

/-- One segment is written (R224). -/
def State.loadSegment (s : State) (b : List Byte) (g : Seg) : State :=
  let data := (b.drop g.off).take (4 * g.words)
  let put := fun (s : State) (base : Nat) => { s with sram := memSetBytes s.sram (base + 4 * g.addr) data }
  match g.space with
  | 0 => (bitList 16 g.cores).foldl (fun s k => put s (coreI k)) s
  | 1 => (bitList 16 g.cores).foldl (fun s k => put s (coreU k)) s
  | 2 => (bitList 16 g.cores).foldl (fun s k => put s (coreV k)) s
  | _ => put s clusterBase

/-- A section whose last byte has been read is streamed into its memory: SCAN and ASYF (R56, R224). -/
def State.loadSection (s : State) (l : List Byte) (x : Sec) : State :=
  let b := x.bytes l
  if x.ty = 2 then { s with sram := memSetBytes s.sram scanBase (b.take 0x400000) }
  else if x.ty = 3 && asyfOk b then
    let s := (s.memClear memIBase (memIBase + 0x300000)).memClear clusterBase (clusterBase + 0x100000)
    (segsOf b).foldl (fun s g => s.loadSegment b g) s
  else s

end Sys2Proof.Machine
end

