-- ==== Sys2Proof/Machine/Boot.lean ====
section
/-! DEFINITION. Start-up: reset release, PLL lock, identity, flash, image, activation and the hand-over to the Canary
(chapter 3, R10, R26, R44). -/
namespace Sys2Proof.Machine

/-- The device is in HEADFRAME with its clocks running and stage `n` the last completed (Table 03-1). -/
def Dev.atStage (d : Dev) (n : Nat) : Bool := d.alive && d.top.state == .headframe && d.boot.stage == n

/-- A stage of start-up that is due when stage `n` is the last completed. -/
def State.atBoot (s : State) (t n : Nat) (f : State → State) : Out := s.atTickMem t (fun s => if s.dev.atStage n then f s else s)

/-- HDF_STATUS.phase (Table 03-11). -/
def Dev.phase (d : Dev) (p : Nat) : Dev := d.setFld R.HDF_STATUS 2 0 p

/-! RESET_RELEASE (R10, R44, R365, R366, R440, Table 22-6). -/

/-- The reset watch reports the assertion that ends at RC cycle `c`. -/
def Dev.resetWatched (d : Dev) (c : Nat) : Dev :=
  { d with top := { d.top with
      resetHeldMs := (match d.top.lowSince with | some l => satN 65535 ((c - l) / rcMs 1) | none => 0)
      resetHeldValid := d.top.lowSince.isSome
      lowSince := none } }

/-- The straps and switches are sampled, the fuse state shows, and HEADFRAME begins. -/
def Dev.release (d : Dev) (straps safeSw c : Nat) : Dev :=
  let d := (d.resetWatched c).setReg R.HDF_STRAPS (BitVec.ofNat 32 (straps % 128))
  let d := { d with
    top := { d.top with state := .headframe }
    boot := { d.boot with keyed := d.boot.fused != 0, current := d.rbit R.HDF_STRAPS 5 }
    cny := { d.cny with rc := Nat.max d.cny.rc c, sw := safeSw % 16, swReset := safeSw % 16 } }
  ((d.fuseShow.setBit R.LMP_STATUS 8 d.boot.keyed).setBit R.HDF_STATUS 5 d.boot.keyed).safetyFollow

/-- RESET_RELEASE (R10, R44): at RC cycle `c`; `straps` are the strap inputs as HDF_STRAPS holds them. -/
def execResetRelease (straps safeSw c : Nat) (s : State) : Out :=
  s.mapDev (fun d => if d.top.state == .reset && !d.top.por && d.top.suppliesBad.isEmpty then d.release straps safeSw c else d)

/-! PLL_LOCK (R26, R28, R30): stage 1. -/

/-- The clocks start; a code the Canary kept across a loss of clocks is logged now (R28). -/
def Dev.pllLock (d : Dev) : Dev :=
  let d := { d with now := 0, clk := { d.clk with locked := true, running := true, retained := none }, boot := { d.boot with stage := 1 } }
  (d.setBit R.CLK_STATUS 0 true).phase 1

/-- PLL_LOCK (R26). -/
def execPllLock (s : State) : Out :=
  s.mapDev (fun d =>
    if d.top.state == .headframe && !d.clk.locked then
      match d.clk.retained with
      | some code => d.pllLock.logFault code .h false true
      | none => d.pllLock
    else d)

/-! IDENTITY_KEY_DERIVATION (R58): stage 2. -/

/-- The public key shows, and the production certificate is checked. -/
def Dev.identify (d : Dev) : Dev :=
  let d := (List.range 15).foldl (fun (d : Dev) i => d.setReg (R.LMP_DEVKEY i) (BitVec.ofNat 32 (leAt devKey (4 * i) 4))) d
  let d := { d with boot := { d.boot with stage := 2 } }
  if Config.certificateOk then d.setBit R.LMP_STATUS 9 true else d.raise 0x0401 .h

/-- IDENTITY_KEY_DERIVATION (R58). -/
def execIdentityKeyDerivation (t : Nat) (s : State) : Out := s.atBoot t 1 (fun s => s.onDev Dev.identify)

/-! FLASH_DISCOVERY (R47, R56): stage 3. -/

/-- The limit of a read mode in MHz (Table 03-3). -/
def modeLimit (m : Nat) : Nat := match m with | 4 => 200 | 0 => 50 | _ => 133

/-- The mode chosen and its clock: the first of Table 03-3 among those declared with their greatest clocks. -/
def chooseMode (modes : List (Nat × Nat)) : Nat × Nat :=
  match [4, 3, 2, 1, 0].filterMap (fun m => (modes.find? (fun p => p.1 == m)).map (fun p => (m, Nat.min p.2 (modeLimit m)))) with
  | x :: _ => x
  | [] => (0, 50)

/-- HDF_FLASH_CFG (Table 03-10). -/
def Dev.flashCfg (d : Dev) (mode mhz sfdp log2 : Nat) : Dev :=
  d.setReg R.HDF_FLASH_CFG (BitVec.ofNat 32 (mode + 8 * sfdp + 16 * (mhz % 256) + 4096 * (log2 % 256)))

/-- Reading of the current image begins. -/
def Dev.startRead (d : Dev) : Dev :=
  ({ d with boot := { d.boot with stage := 3, image := [], retrying := false, readDone := false, readFrom := d.now } }).phase (if d.boot.current then 3 else 2)

/-- The flash answers its JEDEC ID `jedec`, and SFDP says what it declares. -/
def Dev.discover (d : Dev) (jedec : List Byte) (sfdpOk : Bool) (modes : List (Nat × Nat)) (log2 : Nat) : Dev :=
  if jedec.all (· == 0x00#8) || jedec.all (· == 0xFF#8) then
    ((d.setFld R.HDF_FAIL_A 15 0 0x0302).setFld R.HDF_FAIL_B 15 0 0x0302).raise 0x0302 .h
  else
    let slow := d.rbit R.HDF_STRAPS 6
    let d := if sfdpOk || slow then d else d.logFault 0x0301 .n
    let m := if sfdpOk && !slow then chooseMode modes else (0, 25)
    (d.flashCfg m.1 m.2 (b2n (sfdpOk && !slow)) log2).startRead

/-- FLASH_DISCOVERY (R47): the ID bytes read, whether SFDP was found valid, the modes it declares with their greatest
clocks in MHz, and the flash's size. -/
def execFlashDiscovery (t : Nat) (jedec : List Byte) (sfdpOk : Bool) (modes : List (Nat × Nat)) (sizeLog2 : Nat) (s : State) : Out :=
  s.atBoot t 2 (fun s => s.onDev (fun d => d.discover jedec sfdpOk modes sizeLog2))

/-! FLASH_READ_BURST (R48) and IMAGE_VERIFY (R52 to R56): stages 4 and 5. -/

/-- The register that keeps the current image's rejection. -/
def Dev.failReg (d : Dev) : Nat := if d.boot.current then R.HDF_FAIL_B else R.HDF_FAIL_A

/-- The current image is rejected (R56): a soft reset is due, or both have been rejected. -/
def Dev.reject (d : Dev) (code : Nat) (idx : Option Nat) : Dev :=
  let w := code + (match idx with | some i => 65536 * (i % 64) + 2 ^ 22 | none => 0)
  let d := (d.setReg d.failReg (BitVec.ofNat 32 w)).logFault code .n
  if d.boot.second then d.raise 0x030C .h
  else { d with boot := { d.boot with softResetDue := true, readDone := false } }

/-- A burst failed (R48): once it is retried, a second time the image is rejected and the other one is read slowly. -/
def Dev.burstFailed (d : Dev) : Dev :=
  if !d.boot.retrying then { d with boot := { d.boot with retrying := true } }
  else
    let d := (d.setBit R.HDF_STATUS 6 true).setReg R.HDF_FLASH_CFG ((d.reg R.HDF_FLASH_CFG &&& 0xFFFFF008#32) ||| BitVec.ofNat 32 (16 * 25))
    d.reject 0x030A none

/-- The bytes of a burst arrive: sections completed by it stream into their memories, and with the last byte stage 4
ends. -/
def State.burstIn (s : State) (data : List Byte) : State :=
  let old := s.dev.boot.image
  let img := (old ++ data).take (imageLength (old ++ data))
  let done := decide (imageLength img ≤ img.length) && decide (0x140 ≤ img.length)
  let now := if headerOk img then (sectionsOf img).filter (fun x => decide (old.length < x.off + x.size ∧ x.off + x.size ≤ img.length)) else []
  let s := now.foldl (fun s x => s.loadSection img x) s
  s.onDev (fun d =>
    let d := { d with boot := { d.boot with image := img, retrying := false, readDone := done, stage := if done then 4 else 3 } }
    if done then (d.setFld R.HDF_TIMING 31 16 (satN 65535 ((d.now - d.boot.readFrom) / 1600000))).phase 4 else d)

/-- FLASH_READ_BURST (R48): the bytes of one burst, or its failure. -/
def execFlashReadBurst (t : Nat) (data : List Byte) (failed : Bool) (s : State) : Out :=
  s.atBoot t 3 (fun s =>
    if s.dev.boot.softResetDue then s
    else if failed then s.onDev Dev.burstFailed else s.burstIn data)

/-- The current image is accepted (R53 to R56): its digest, version, slot and place show, and one journal entry is
written. -/
def Dev.accept (d : Dev) (l : List Byte) : Dev :=
  let g := imageDigest l
  let v := leAt l 0x0C 4
  let slot := leAt l 0x18 1
  let d := { d with boot := { d.boot with stage := 5, accepted := true, digest := g, keySlot := if d.boot.keyed then slot else 255 } }
  let d := (List.range 16).foldl (fun (d : Dev) i => d.setReg (R.HDF_DIGEST i) (BitVec.ofNat 32 (leAt g (4 * i) 4))) d
  let d := (d.setBit R.HDF_STATUS 3 d.boot.current).setFld R.HDF_STATUS 8 7 (if d.boot.keyed then slot else 0)
  let d := if d.boot.second then (d.setBit R.HDF_STATUS 4 true).logFault 0x030B .n else d
  ((d.journal 0x0F R.HDF_IMAGE_VERSION 0 (BitVec.ofNat 32 v) false false).setReg R.HDF_IMAGE_VERSION (BitVec.ofNat 32 v)).phase 5

/-- Verification of the current image ends (R55, R56). -/
def Dev.verifyImage (d : Dev) : Dev :=
  let l := d.boot.image
  let (code, idx) := d.imageFault l
  let skip := if code = 0x0303 ∨ code = 0x0304 then [] else skippedSections l (if code = 0x0309 then idx else none)
  let d := skip.foldl (fun d _ => d.logFault 0x030D .n) d
  if code = 0 then d.accept l else d.reject code idx

/-- IMAGE_VERIFY (R55). -/
def execImageVerify (t : Nat) (s : State) : Out :=
  s.atBoot t 4 (fun s => if s.dev.boot.readDone then s.onDev Dev.verifyImage else s)

/-! SOFT_RESET (R56). -/

/-- The register lies in HDF, LMP, CNY or FLG, or shows what lasts through a soft reset: the PLL's lock and the gate's
live inhibits. -/
def keptRegister (a : Nat) : Bool :=
  decide (0x20000 ≤ a ∧ a < 0x40000) || decide (0x270000 ≤ a ∧ a < 0x280000) || decide (0x290000 ≤ a ∧ a < 0x2A0000) ||
  a == R.CLK_STATUS || a == R.EMT_STATUS

/-- Everything outside HDF, LMP, CNY and FLG returns to its reset value; the PLL and the time base are kept, and the other
image is read. -/
def Dev.softReset (d : Dev) : Dev :=
  Dev.startRead
    { now := d.now
      regs := d.regs.filter (fun p => keptRegister p.1)
      freeCtr := d.freeCtr
      top := d.top
      clk := { locked := d.clk.locked, running := d.clk.running, timeBase := d.clk.timeBase, retained := d.clk.retained }
      boot := { d.boot with softResetDue := false, second := true, current := !d.boot.current }
      emt := { pinLow := d.emt.pinLow, demand := d.emt.demand, capAt := d.emt.capAt }
      cny := d.cny
      flg := d.flg
      jtag := d.jtag }

/-- SOFT_RESET (R56): the memories outside those blocks are as after reset. -/
def execSoftReset (t : Nat) (s : State) : Out :=
  s.atTickMem t (fun s =>
    if s.dev.top.state == .headframe && s.dev.boot.softResetDue then
      { s with dev := s.dev.softReset, sram := [], sramPoison := [], writeBacks := [] }
    else s)

/-! SECTION_ACTIVATION (R56, R224, R284, R290, R291, R340): stage 6. -/

/-- One CFG entry is written (R54): FLT_BANKn with its active bank (R290), a coefficient of any bank, and any other register
as its block's rules have it. -/
def Dev.cfgWrite (d : Dev) (a : Nat) (w : Word) : Dev :=
  if 0x230100 ≤ a ∧ a < 0x230300 ∧ a % 0x20 = 4 then d.setReg a (w &&& 0x01FFFFFF#32)
  else if inCoef a then d.setReg a (BitVec.ofInt 32 (signed 18 w.toNat))
  else d.applyWrite 0x0F a w {}

/-- A COEF section takes effect: taps, phase and coefficients of its bank (R290). -/
def Dev.coefLoad (d : Dev) (b : List Byte) : Dev :=
  let n := leAt b 6 1
  let k := leAt b 7 1
  let taps := leAt b 8 1
  let d := (d.setFld (R.FLT_BANK n) (7 + 8 * k) (1 + 8 * k) (taps - 1)).setBit (R.FLT_BANK n) (8 + 8 * k) (leAt b 9 1 == 1)
  (List.range taps).foldl (fun (d : Dev) j => d.setReg (coefAddr n k j) (BitVec.ofInt 32 (coefAt b j))) d

/-- A BUDG section takes effect (R254, R255). -/
def Dev.budgLoad (d : Dev) (b : List Byte) : Dev :=
  let d := (budgEntries b).foldl (fun (d : Dev) p => d.setReg (R.FMN_ALLOC p.1) (BitVec.ofNat 32 p.2)) d
  d.setReg R.ASY_BG_SLICE (d.reg (R.FMN_ALLOC 2))

/-- What an ASYF header declares shows (R224). -/
def Dev.asyfLoad (d : Dev) (b : List Byte) : Dev :=
  ((d.setReg R.ASY_FW_VERSION (BitVec.ofNat 32 (leAt b 8 4))).setReg R.ASY_WCET_BATCH (BitVec.ofNat 32 (leAt b 0x30 4))).setReg
    R.ASY_WCET_SET (BitVec.ofNat 32 (leAt b 0x34 4))

/-- A loaded section takes effect (R56). -/
def Dev.activateSection (d : Dev) (l : List Byte) (x : Sec) : Dev :=
  let b := x.bytes l
  match x.ty with
  | 1 => (cfgEntries b).foldl (fun d p => d.cfgWrite p.1 p.2) d
  | 3 => d.asyfLoad b
  | 5 => d.coefLoad b
  | 6 => d.onSnsAll (fun q => { q with curves := mput q.curves (leAt b 6 1) (curvPoints b) })
  | 7 => d.budgLoad b
  | 8 => { d with cal := { d.cal with seeds := b.drop 16 } }
  | _ => d

/-- Core `k` starts at its entry address, or stays stopped outside core_mask, dispatch following (R224). -/
def Dev.startCore (d : Dev) (b : List Byte) (k : Nat) : Dev :=
  let on := (leAt b 12 2).testBit k
  let d := d.setBit (R.ASY_CTRL k) 0 on
  let d := d.onCore k (fun _ => { started := on, halted := on && d.rbit (R.ASY_CTRL k) 1, pc := leAt b (16 + 2 * k) 2 })
  (if on then d.setBusy k true else d).coreReport k

/-- The blocks started at stage 6 (R56): converters are calibrated first (R284), then the sections take effect, cores and
filters start, and lanes leave DOWN. -/
def Dev.activate (d : Dev) (cals : List (Int × Int × Nat × Nat)) : Dev :=
  let l := d.boot.image
  let d := (List.range 6).foldl (fun (d : Dev) u => let (o, g, a, b) := cals.getD u (0, 0, 0, 0); d.calResult u o g a b) d
  let d := (sectionsOf l).foldl (fun d x => d.activateSection l x) d
  let d := match (sectionsOf l).find? (fun x => x.ty == 3) with
    | some x => (List.range 16).foldl (fun d k => d.startCore (x.bytes l) k) d
    | none => d
  let d := (List.range 16).foldl (fun (d : Dev) n => (d.fltActivate n).fltReset n) d
  let d := { d with boot := { d.boot with stage := 6, activated := true } }
  (List.range 8).foldl (fun d n => d.laneStart n) d

/-- SECTION_ACTIVATION (R56): `cals` are the results of the converters' self-calibrations, converter 0 first (R284). -/
def execSectionActivation (t : Nat) (cals : List (Int × Int × Nat × Nat)) (s : State) : Out :=
  s.atBoot t 5 (fun s => s.onDev (fun d => d.activate cals))

/-! COMMISSIONING_HANDOVER (R57, R368, R370): stage 7; DRAM training, stage 8, begins (R314). -/

/-- A commissioning record is valid (R370). -/
def recordOk (r : List Byte) : Bool :=
  bytesAt r 0 [0x44, 0x5A, 0x43, 0x52, 1, 0] && Config.ed448Verify devKey (shake256 (r.take 64) 64) ((r.drop 64).take 114)

/-- The record is handed to the Canary. -/
def Dev.recordIn (d : Dev) (r : List Byte) : Dev :=
  if recordOk r then
    let d := { d with boot := { d.boot with commission := r, commRead := r } }
    (d.setReg R.CNY_CHECK_CONFIRMED (BitVec.ofNat 32 (leAt r 8 4))).setReg R.CNY_COMM_COUNT (BitVec.ofNat 32 (leAt r 24 4))
  else ({ d with boot := { d.boot with commission := [], commRead := [] } }).logFault 0x030E .n

/-- The SAFE section becomes the working copy, and the Canary applies R368. -/
def Dev.cnyHandover (d : Dev) (r : List Byte) : Dev :=
  let l := d.boot.image
  let d := d.recordIn r
  let d := match (sectionsOf l).find? (fun x => x.ty == 4) with
    | some x => (Sys2Proof.Machine.blockOf ((x.bytes l).drop 16)).foldl (fun (d : Dev) (p : Nat × Word) => d.setReg p.1 p.2) d
    | none => d
  let d := (d.paramJudge true).safetyFollow
  let d := { d with boot := { d.boot with stage := 7, handedOver := true } }
  (d.phase 6).startTraining (d.fld R.HOI_CTRL 1 0) false

/-- COMMISSIONING_HANDOVER (R57): the 4 KiB read from the record region. -/
def execCommissioningHandover (t : Nat) (record : List Byte) (s : State) : Out :=
  s.atBoot t 6 (fun s => s.onDev (fun d => d.cnyHandover record))

end Sys2Proof.Machine
end

