-- ==== Sys2Proof/Machine/Power.lean ====
section
/-! DEFINITION. Supplies, RESET_n and the TAP (chapter 22). -/
namespace Sys2Proof.Machine

/-- POWER_ON (R437): every supply has been in range for 1 ms and the power-on reset ends; `cny` says that VDD_CNY itself
was powered on, which clears the reset watch (R440). -/
def execPowerOn (cny : Bool) (s : State) : Out :=
  s.mapDev (fun d =>
    if d.top.state != .reset || !d.top.por then d
    else
      let d := { d with top := { d.top with por := false, suppliesBad := [] }, cny := { d.cny with lost := false } }
      if cny then { d with top := { d.top with resetHeldMs := 0, resetHeldValid := false, resetCause := 0 }, clk := { d.clk with retained := none } } else d)

/-- RESET_N_ASSERT (R439, R440): RESET_n goes low at RC cycle `c` for `ns` nanoseconds or more. -/
def execResetNAssert (c ns : Nat) (s : State) : Out :=
  if 1000 ≤ ns ∨ (900 ≤ ns ∧ Config.shortResetPulse ns = true) then
    .next ((s.toReset 1).onDev (fun d => { d with top := { d.top with lowSince := if d.cny.lost then none else some c } }))
  else .next s

/-! Supply loss in service (R438, Table 22-5). -/

/-- VDD_SER or VDDA_SER: every lane, CSI-2 and Ethernet go down. -/
def Dev.serialLoss (d : Dev) : Dev :=
  let d := (List.range 8).foldl (fun (d : Dev) n => if (d.lane n).st == .down then d else d.laneTo n .down) d
  let d := ((d.setBit R.ETH_STATUS 0 false).setBit R.ETH_STATUS 3 false).setFld R.CSI_STATUS 5 0 0
  d.raiseD 0x0105 .serial true

/-- VDD_IO33: CAN and the heaters stop. -/
def Dev.io33Loss (d : Dev) : Dev := ((d.heaterOut 0 false).heaterOut 1 false).raise 0x0106 .n true

/-- What the loss of a supply does in service. -/
def Dev.supplyLoss (d : Dev) (x : Supply) : Dev :=
  match x with
  | .cny => d.cnyLoss
  | .cnyio => d.cnyLoss
  | .fe q => if q < 4 then d.quadrantTrip q else d
  | .pll => if d.clk.locked then d.clockLoss 0x0202 else d
  | .io18 => d.raise 0x0104 .h true
  | .an => d.raise 0x0104 .h true
  | .ser => d.serialLoss
  | .aser => d.serialLoss
  | .io33 => d.io33Loss
  | .core => d
  | .dram _ => d

/-- A supply's monitor trips at tick `t`: VDD_CORE resets the device, any other supply has its effect once, and VDDQ_DRAM
is not watched. -/
def State.supplyTrip (s : State) (t : Nat) (x : Supply) : State :=
  match x with
  | .core => (s.toReset 3).onDev (fun d => { d with top := { d.top with por := true } })
  | .dram _ => s
  | _ =>
    if s.dev.supplyBad x then s
    else
      s.onDev (fun d =>
        let d := d.supplyOut x
        if d.top.state == .reset then (if x = .cny ∨ x = .cnyio then (d.onCny (fun c => { c with lost := true })).safetyFollow else d)
        else (d.advanceTo t).supplyLoss x)

/-- SUPPLY_MONITOR_TRIP (R435, R438). -/
def execSupplyMonitorTrip (t : Nat) (x : Supply) (s : State) : Out := .next { s.supplyTrip t x with pending := s.pending }

/-- What the return of a supply ends: the cause of its fault, once no other supply keeps it up (Table 22-5). -/
def Dev.supplyReturn (d : Dev) (x : Supply) : Dev :=
  match x with
  | .cny => if d.supplyBad .cnyio then d else (d.onCny (fun c => { c with lost := false })).causeGone 0x1805 |>.safetyFollow
  | .cnyio => if d.supplyBad .cny then d else (d.onCny (fun c => { c with lost := false })).causeGone 0x1805 |>.safetyFollow
  | .fe _ => if [0, 1, 2, 3].any (fun q => d.supplyBad (.fe q)) then d else d.causeGone 0x0801
  | .io18 => if d.supplyBad .an then d else d.causeGone 0x0104
  | .an => if d.supplyBad .io18 then d else d.causeGone 0x0104
  | .ser => if d.serialOk then (List.range 8).foldl (fun d n => d.laneStart n) ((d.causeGone 0x0105).reinstateUnit .serial) else d
  | .aser => if d.serialOk then (List.range 8).foldl (fun d n => d.laneStart n) ((d.causeGone 0x0105).reinstateUnit .serial) else d
  | .io33 => d.causeGone 0x0106
  | .pll => d
  | .core => d
  | .dram _ => d

/-- SUPPLY_BACK_IN_RANGE (R438, R440): a return of VDD_CNY is a power-on of the reset watch. -/
def execSupplyBackInRange (t : Nat) (x : Supply) (s : State) : Out :=
  s.mapDev (fun d =>
    if !d.supplyBad x then d
    else
      let d := (d.advanceTo t)
      let d := { d with top := { d.top with suppliesBad := d.top.suppliesBad.filter (· != x) } }
      let d := if x = .cny then { d with top := { d.top with resetHeldMs := 0, resetHeldValid := false, resetCause := 0 } } else d
      d.supplyReturn x)

/-! The TAP (R448). Its codes of the instructions in force are the model's own. -/

/-- An instruction comes into force with what its data register captures. -/
def Dev.tapSet (d : Dev) (instr : Nat) (data : Word) : Dev := { d with jtag := { instr := instr, data := data } }

/-- EXTEST, CLAMP and HIGHZ are honoured: in HELD with SAFE_SW[0] at 1. -/
def Dev.tapOpen (d : Dev) : Bool := d.top.state == .held && d.cny.sw % 2 == 1

/-- BYPASS (R448). -/
def execBypass (s : State) : Out := s.mapDev (fun d => d.tapSet 0 0)
/-- IDCODE (R448). -/
def execIdcode (s : State) : Out := s.mapDev (fun d => d.tapSet 1 0x14256A3D)
/-- SAMPLE_PRELOAD (R448): the boundary register captures the balls, a free value. -/
def execSamplePreload (s : State) : Out := s.mapDev (fun d => (d.tapSet 2 (d.fresh 32)).drew)
/-- EXTEST (R448): the boundary register captures the balls. -/
def execExtest (s : State) : Out := s.mapDev (fun d => if d.tapOpen then (d.tapSet 3 (d.fresh 32)).drew else d.tapSet 0 0)
/-- CLAMP (R448). -/
def execClamp (s : State) : Out := s.mapDev (fun d => if d.tapOpen then d.tapSet 4 0 else d.tapSet 0 0)
/-- HIGHZ (R448). -/
def execHighz (s : State) : Out := s.mapDev (fun d => if d.tapOpen then d.tapSet 5 0 else d.tapSet 0 0)

end Sys2Proof.Machine
end

