-- ==== Sys2Proof/Machine/Dispatch.lean ====
section
/-! DEFINITION. The dispatch: one arm per command, one meaning each. -/
namespace Sys2Proof.Machine

/-- The effect of a command on everything but the queue. -/
def exec (i : Instr) (s : State) : Host.Outcome State Fault Refusal :=
  match i with
  | .powerOn cny => Sys2Proof.Machine.execPowerOn cny s
  | .resetNAssert c ns => Sys2Proof.Machine.execResetNAssert c ns s
  | .resetRelease straps safeSw c => Sys2Proof.Machine.execResetRelease straps safeSw c s
  | .pllLock => Sys2Proof.Machine.execPllLock s
  | .identityKeyDerivation t => Sys2Proof.Machine.execIdentityKeyDerivation t s
  | .flashDiscovery t jedec sfdpOk modes sizeLog2 => Sys2Proof.Machine.execFlashDiscovery t jedec sfdpOk modes sizeLog2 s
  | .flashReadBurst t data failed => Sys2Proof.Machine.execFlashReadBurst t data failed s
  | .imageVerify t => Sys2Proof.Machine.execImageVerify t s
  | .softReset t => Sys2Proof.Machine.execSoftReset t s
  | .sectionActivation t cals => Sys2Proof.Machine.execSectionActivation t cals s
  | .commissioningHandover t record => Sys2Proof.Machine.execCommissioningHandover t record s
  | .start src t => Sys2Proof.Machine.execStart src t s
  | .stop src t => Sys2Proof.Machine.execStop src t s
  | .stopComplete t => Sys2Proof.Machine.execStopComplete t s
  | .leaveHeld src t => Sys2Proof.Machine.execLeaveHeld src t s
  | .hold src t => Sys2Proof.Machine.execHold src t s
  | .w288WriteBack t word => Sys2Proof.Machine.execW288WriteBack t word s
  | .canaryClockGate t c ref per => Sys2Proof.Machine.execCanaryClockGate t c ref per s
  | .pllUnlock t => Sys2Proof.Machine.execPllUnlock t s
  | .pllRelock => Sys2Proof.Machine.execPllRelock s
  | .slewCarry t => Sys2Proof.Machine.execSlewCarry t s
  | .stepCommit src t value => Sys2Proof.Machine.execStepCommit src t value s
  | .pairLowWrite src t addr value => Sys2Proof.Machine.execPairLowWrite src t addr value s
  | .pairHighWrite src t addr value => Sys2Proof.Machine.execPairHighWrite src t addr value s
  | .lowWordRead src t addr => Sys2Proof.Machine.execLowWordRead src t addr s
  | .highWordRead src t addr => Sys2Proof.Machine.execHighWordRead src t addr s
  | .syncEpochSend t => Sys2Proof.Machine.execSyncEpochSend t s
  | .syncInEdge t phase => Sys2Proof.Machine.execSyncInEdge t phase s
  | .syncMessage t message => Sys2Proof.Machine.execSyncMessage t message s
  | .syncMessageTimeout t => Sys2Proof.Machine.execSyncMessageTimeout t s
  | .timeSourceHoldover t => Sys2Proof.Machine.execTimeSourceHoldover t s
  | .ppsInEdge t phase => Sys2Proof.Machine.execPpsInEdge t phase s
  | .ppsOutRise t => Sys2Proof.Machine.execPpsOutRise t s
  | .ppsOutFall t => Sys2Proof.Machine.execPpsOutFall t s
  | .frameAtArm src t value => Sys2Proof.Machine.execFrameAtArm src t value s
  | .scheduledFrameStart t => Sys2Proof.Machine.execScheduledFrameStart t s
  | .gptpMessage t ns => Sys2Proof.Machine.execGptpMessage t ns s
  | .gptpSyncSend t => Sys2Proof.Machine.execGptpSyncSend t s
  | .fuseKey src t slot confirm => Sys2Proof.Machine.execFuseKey src t slot confirm s
  | .revoke src t slot confirm => Sys2Proof.Machine.execRevoke src t slot confirm s
  | .fuseProgrammingDone t hash => Sys2Proof.Machine.execFuseProgrammingDone t hash s
  | .attest src t => Sys2Proof.Machine.execAttest src t s
  | .attestDone t => Sys2Proof.Machine.execAttestDone t s
  | .frameFirstEntryRead t errBytes => Sys2Proof.Machine.execFrameFirstEntryRead t errBytes s
  | .scanEntryRead t errBytes => Sys2Proof.Machine.execScanEntryRead t errBytes s
  | .frameBoundary t edgePoisoned => Sys2Proof.Machine.execFrameBoundary t edgePoisoned s
  | .shotIssue t predicted => Sys2Proof.Machine.execShotIssue t predicted s
  | .handover t => Sys2Proof.Machine.execHandover t s
  | .steeringSettled t => Sys2Proof.Machine.execSteeringSettled t s
  | .settleTimeout t port => Sys2Proof.Machine.execSettleTimeout t port s
  | .admissionTest t => Sys2Proof.Machine.execAdmissionTest t s
  | .fire t => Sys2Proof.Machine.execFire t s
  | .confidenceFlag t cell frame => Sys2Proof.Machine.execConfidenceFlag t cell frame s
  | .squash t cell frame => Sys2Proof.Machine.execSquash t cell frame s
  | .seqSquashCmd src t value => Sys2Proof.Machine.execSeqSquashCmd src t value s
  | .accountingCheck t => Sys2Proof.Machine.execAccountingCheck t s
  | .tallyParityError t => Sys2Proof.Machine.execTallyParityError t s
  | .tallySnapshotRead src t slot word => Sys2Proof.Machine.execTallySnapshotRead src t slot word s
  | .inhibitAssert t => Sys2Proof.Machine.execInhibitAssert t s
  | .enSettleExpiry t => Sys2Proof.Machine.execEnSettleExpiry t s
  | .monConversion t emitter result => Sys2Proof.Machine.execMonConversion t emitter result s
  | .monDebitCorrection t => Sys2Proof.Machine.execMonDebitCorrection t s
  | .strayMonPulse t emitter => Sys2Proof.Machine.execStrayMonPulse t emitter s
  | .budgetBucketBoundary t => Sys2Proof.Machine.execBudgetBucketBoundary t s
  | .emtReinstate src t emitter => Sys2Proof.Machine.execEmtReinstate src t emitter s
  | .budgetParityError t => Sys2Proof.Machine.execBudgetParityError t s
  | .positionSample t port a b unitDone unitOk => Sys2Proof.Machine.execPositionSample t port a b unitDone unitOk s
  | .relockTimeout t port => Sys2Proof.Machine.execRelockTimeout t port s
  | .strReinstate src t port => Sys2Proof.Machine.execStrReinstate src t port s
  | .polygonIndex t port => Sys2Proof.Machine.execPolygonIndex t port s
  | .indexTimeout t port => Sys2Proof.Machine.execIndexTimeout t port s
  | .strModeWrite src t port value => Sys2Proof.Machine.execStrModeWrite src t port value s
  | .leadingEdge t ch fine => Sys2Proof.Machine.execLeadingEdge t ch fine s
  | .eventComplete t ch width hi => Sys2Proof.Machine.execEventComplete t ch width hi s
  | .windowBoundaryApply t ch => Sys2Proof.Machine.execWindowBoundaryApply t ch s
  | .settleEnd t ch => Sys2Proof.Machine.execSettleEnd t ch s
  | .rfeModeWrite src t ch value => Sys2Proof.Machine.execRfeModeWrite src t ch value s
  | .meterRoundClose t => Sys2Proof.Machine.execMeterRoundClose t s
  | .quadrantSupplyTrip t quadrant => Sys2Proof.Machine.execQuadrantSupplyTrip t quadrant s
  | .lineMonitorCheck t ch tap => Sys2Proof.Machine.execLineMonitorCheck t ch tap s
  | .comparatorStuck t ch => Sys2Proof.Machine.execComparatorStuck t ch s
  | .trimParityError t ch => Sys2Proof.Machine.execTrimParityError t ch s
  | .reinstateCh src t ch compLow => Sys2Proof.Machine.execReinstateCh src t ch compLow s
  | .reinstateQuad src t quadrant => Sys2Proof.Machine.execReinstateQuad src t quadrant s
  | .windowOpen t => Sys2Proof.Machine.execWindowOpen t s
  | .checkIn t => Sys2Proof.Machine.execCheckIn t s
  | .eventArrival t ch => Sys2Proof.Machine.execEventArrival t ch s
  | .verdict t => Sys2Proof.Machine.execVerdict t s
  | .eventCommit t errBytes => Sys2Proof.Machine.execEventCommit t errBytes s
  | .histogramUpdate t half errBytes => Sys2Proof.Machine.execHistogramUpdate t half errBytes s
  | .histogramClosing t => Sys2Proof.Machine.execHistogramClosing t s
  | .sieveLaneTake t lane errWords exportRoom => Sys2Proof.Machine.execSieveLaneTake t lane errWords exportRoom s
  | .histogramReadoutEnd t lane => Sys2Proof.Machine.execHistogramReadoutEnd t lane s
  | .candidateHandoff t lane errBytes => Sys2Proof.Machine.execCandidateHandoff t lane errBytes s
  | .lodeWriteBack t errSlots => Sys2Proof.Machine.execLodeWriteBack t errSlots s
  | .lodeClearPass t => Sys2Proof.Machine.execLodeClearPass t s
  | .hstWindowWrite src t addr value => Sys2Proof.Machine.execHstWindowWrite src t addr value s
  | .hstSlotSnapshotRead src t entry word => Sys2Proof.Machine.execHstSlotSnapshotRead src t entry word s
  | .slotTableParityError t => Sys2Proof.Machine.execSlotTableParityError t s
  | .setCopy t core => Sys2Proof.Machine.execSetCopy t core s
  | .batch t core => Sys2Proof.Machine.execBatch t core s
  | .canary t core => Sys2Proof.Machine.execCanary t core s
  | .round t core => Sys2Proof.Machine.execRound t core s
  | .batchTimeLimit t core => Sys2Proof.Machine.execBatchTimeLimit t core s
  | .divisionResult t core => Sys2Proof.Machine.execDivisionResult t core s
  | .loopCountEnd t core => Sys2Proof.Machine.execLoopCountEnd t core s
  | .backgroundSliceExhausted t core => Sys2Proof.Machine.execBackgroundSliceExhausted t core s
  | .nop t core => Sys2Proof.Machine.execNop t core s
  | .mpy t core errU errV stall => Sys2Proof.Machine.execMpy t core errU errV stall s
  | .mac t core errU errV stall => Sys2Proof.Machine.execMac t core errU errV stall s
  | .msu t core errU errV stall => Sys2Proof.Machine.execMsu t core errU errV stall s
  | .dmpy t core errU errV stall => Sys2Proof.Machine.execDmpy t core errU errV stall s
  | .dmac t core errU errV stall => Sys2Proof.Machine.execDmac t core errU errV stall s
  | .dmsu t core errU errV stall => Sys2Proof.Machine.execDmsu t core errU errV stall s
  | .pld t core errU errV stall => Sys2Proof.Machine.execPld t core errU errV stall s
  | .add t core => Sys2Proof.Machine.execAdd t core s
  | .sub t core => Sys2Proof.Machine.execSub t core s
  | .cmp t core => Sys2Proof.Machine.execCmp t core s
  | .and t core => Sys2Proof.Machine.execAnd t core s
  | .or t core => Sys2Proof.Machine.execOr t core s
  | .xor t core => Sys2Proof.Machine.execXor t core s
  | .andn t core => Sys2Proof.Machine.execAndn t core s
  | .shl t core => Sys2Proof.Machine.execShl t core s
  | .shr t core => Sys2Proof.Machine.execShr t core s
  | .sra t core => Sys2Proof.Machine.execSra t core s
  | .min t core => Sys2Proof.Machine.execMin t core s
  | .max t core => Sys2Proof.Machine.execMax t core s
  | .abs t core => Sys2Proof.Machine.execAbs t core s
  | .neg t core => Sys2Proof.Machine.execNeg t core s
  | .ext t core => Sys2Proof.Machine.execExt t core s
  | .ins t core => Sys2Proof.Machine.execIns t core s
  | .mul t core => Sys2Proof.Machine.execMul t core s
  | .norm t core => Sys2Proof.Machine.execNorm t core s
  | .div t core => Sys2Proof.Machine.execDiv t core s
  | .divu t core => Sys2Proof.Machine.execDivu t core s
  | .clra t core => Sys2Proof.Machine.execClra t core s
  | .adda t core => Sys2Proof.Machine.execAdda t core s
  | .suba t core => Sys2Proof.Machine.execSuba t core s
  | .mova t core => Sys2Proof.Machine.execMova t core s
  | .sha t core => Sys2Proof.Machine.execSha t core s
  | .addaa t core => Sys2Proof.Machine.execAddaa t core s
  | .rnda t core => Sys2Proof.Machine.execRnda t core s
  | .ldi t core => Sys2Proof.Machine.execLdi t core s
  | .ldih t core => Sys2Proof.Machine.execLdih t core s
  | .addi t core => Sys2Proof.Machine.execAddi t core s
  | .cmpi t core => Sys2Proof.Machine.execCmpi t core s
  | .ldu t core errU errV stall => Sys2Proof.Machine.execLdu t core errU errV stall s
  | .ldv t core errU errV stall => Sys2Proof.Machine.execLdv t core errU errV stall s
  | .stu t core errU errV stall => Sys2Proof.Machine.execStu t core errU errV stall s
  | .stv t core errU errV stall => Sys2Proof.Machine.execStv t core errU errV stall s
  | .setp t core => Sys2Proof.Machine.execSetp t core s
  | .br t core => Sys2Proof.Machine.execBr t core s
  | .call t core => Sys2Proof.Machine.execCall t core s
  | .jr t core => Sys2Proof.Machine.execJr t core s
  | .doLoop t core => Sys2Proof.Machine.execDoLoop t core s
  | .rete t core => Sys2Proof.Machine.execRete t core s
  | .movs t core => Sys2Proof.Machine.execMovs t core s
  | .wait t core => Sys2Proof.Machine.execWait t core s
  | .illegalInstruction t core => Sys2Proof.Machine.execIllegalInstruction t core s
  | .poisonedFetch t core errBytes => Sys2Proof.Machine.execPoisonedFetch t core errBytes s
  | .asyHalt src t core value => Sys2Proof.Machine.execAsyHalt src t core value s
  | .asyDispatchWrite src t core value => Sys2Proof.Machine.execAsyDispatchWrite src t core value s
  | .asyStep src t core errU errV stall => Sys2Proof.Machine.execAsyStep src t core errU errV stall s
  | .breakpointHit t core => Sys2Proof.Machine.execBreakpointHit t core s
  | .asyRegisterWindowAccess src t core off write value errBytes => Sys2Proof.Machine.execAsyRegisterWindowAccess src t core off write value errBytes s
  | .pointAccept t core => Sys2Proof.Machine.execPointAccept t core s
  | .noBatchFallback t => Sys2Proof.Machine.execNoBatchFallback t s
  | .packetClose t stream errRecords csiRoom ethRoom => Sys2Proof.Machine.execPacketClose t stream errRecords csiRoom ethRoom s
  | .bulkDropGapRecord t stream => Sys2Proof.Machine.execBulkDropGapRecord t stream s
  | .lodeExport src t => Sys2Proof.Machine.execLodeExport src t s
  | .journalDump src t => Sys2Proof.Machine.execJournalDump src t s
  | .flush src t stream => Sys2Proof.Machine.execFlush src t stream s
  | .roundBoundary t => Sys2Proof.Machine.execRoundBoundary t s
  | .activityRequest t activity units panic => Sys2Proof.Machine.execActivityRequest t activity units panic s
  | .check src t => Sys2Proof.Machine.execCheck src t s
  | .admissionCheckDone t => Sys2Proof.Machine.execAdmissionCheckDone t s
  | .fmnAllocWrite src t activity value => Sys2Proof.Machine.execFmnAllocWrite src t activity value s
  | .foremanParityError t => Sys2Proof.Machine.execForemanParityError t s
  | .wavTapCfgWrite src t tap value => Sys2Proof.Machine.execWavTapCfgWrite src t tap value s
  | .levelTrigger t tap k samples => Sys2Proof.Machine.execLevelTrigger t tap k samples s
  | .trigInEdge t tick fine => Sys2Proof.Machine.execTrigInEdge t tick fine s
  | .triggerDecision t tap => Sys2Proof.Machine.execTriggerDecision t tap s
  | .writeBufferFull t tap full samples => Sys2Proof.Machine.execWriteBufferFull t tap full samples s
  | .captureEnd t tap samples => Sys2Proof.Machine.execCaptureEnd t tap samples s
  | .recordWritten t tap preEnd => Sys2Proof.Machine.execRecordWritten t tap preEnd s
  | .rearmEnd t tap => Sys2Proof.Machine.execRearmEnd t tap s
  | .wavGapRecord t tap => Sys2Proof.Machine.execWavGapRecord t tap s
  | .wavFlush src t tap => Sys2Proof.Machine.execWavFlush src t tap s
  | .flushExecute t tap => Sys2Proof.Machine.execFlushExecute t tap s
  | .ringDrainApply t tap => Sys2Proof.Machine.execRingDrainApply t tap s
  | .streamRecordRead t tap errWords => Sys2Proof.Machine.execStreamRecordRead t tap errWords s
  | .tapParityError t tap => Sys2Proof.Machine.execTapParityError t tap s
  | .hkaConversion t u value overload => Sys2Proof.Machine.execHkaConversion t u value overload s
  | .hkaStart src t u => Sys2Proof.Machine.execHkaStart src t u s
  | .hkaTimerOverflow t timer => Sys2Proof.Machine.execHkaTimerOverflow t timer s
  | .startDelayEnd t u => Sys2Proof.Machine.execStartDelayEnd t u s
  | .inject src t u burst input => Sys2Proof.Machine.execInject src t u burst input s
  | .injectionDone t u samples => Sys2Proof.Machine.execInjectionDone t u samples s
  | .hkaCal src t u => Sys2Proof.Machine.execHkaCal src t u s
  | .selfCalibrationDone t u offset gainPpm offCode gainCode => Sys2Proof.Machine.execSelfCalibrationDone t u offset gainPpm offCode gainCode s
  | .filterOutput t ch inputs => Sys2Proof.Machine.execFilterOutput t ch inputs s
  | .swap src t ch => Sys2Proof.Machine.execSwap src t ch s
  | .fadeEnd t ch => Sys2Proof.Machine.execFadeEnd t ch s
  | .fltSync src t ch => Sys2Proof.Machine.execFltSync src t ch s
  | .synchronisingReset t ch => Sys2Proof.Machine.execSynchronisingReset t ch s
  | .fltReinstate src t ch => Sys2Proof.Machine.execFltReinstate src t ch s
  | .fltBankWrite src t addr value => Sys2Proof.Machine.execFltBankWrite src t addr value s
  | .filterParityError t ch => Sys2Proof.Machine.execFilterParityError t ch s
  | .sensorSlotEnd t conv value lead tripped => Sys2Proof.Machine.execSensorSlotEnd t conv value lead tripped s
  | .biasSlewStep t => Sys2Proof.Machine.execBiasSlewStep t s
  | .openWireTrip t ch => Sys2Proof.Machine.execOpenWireTrip t ch s
  | .leadTestStart t ch => Sys2Proof.Machine.execLeadTestStart t ch s
  | .leadTestEnd t ch milliOhm first last => Sys2Proof.Machine.execLeadTestEnd t ch milliOhm first last s
  | .heaterPeriodStart t k => Sys2Proof.Machine.execHeaterPeriodStart t k s
  | .heaterDutyEnd t k => Sys2Proof.Machine.execHeaterDutyEnd t k s
  | .encoderEdge t k a b => Sys2Proof.Machine.execEncoderEdge t k a b s
  | .encoderIndex t k => Sys2Proof.Machine.execEncoderIndex t k s
  | .imuTrigger t byInt => Sys2Proof.Machine.execImuTrigger t byInt s
  | .imuXfer src t => Sys2Proof.Machine.execImuXfer src t s
  | .imuTransferDone t data => Sys2Proof.Machine.execImuTransferDone t data s
  | .canFrameReceived t n id dlc ide fd brs esi data sof outs => Sys2Proof.Machine.execCanFrameReceived t n id dlc ide fd brs esi data sof outs s
  | .canFrameTransmitted t n => Sys2Proof.Machine.execCanFrameTransmitted t n s
  | .canBusOff t n => Sys2Proof.Machine.execCanBusOff t n s
  | .recover src t n => Sys2Proof.Machine.execRecover src t n s
  | .canAutoRecovery t n => Sys2Proof.Machine.execCanAutoRecovery t n s
  | .canCanaryWrite src t addr value => Sys2Proof.Machine.execCanCanaryWrite src t addr value s
  | .trainingStepDone t ok results => Sys2Proof.Machine.execTrainingStepDone t ok results s
  | .trainingComplete t baseline => Sys2Proof.Machine.execTrainingComplete t baseline s
  | .hoiRetrain src t => Sys2Proof.Machine.execHoiRetrain src t s
  | .hoiRateWrite src t value => Sys2Proof.Machine.execHoiRateWrite src t value s
  | .laneTest src t ch rank => Sys2Proof.Machine.execLaneTest src t ch rank s
  | .laneTestDone t bad => Sys2Proof.Machine.execLaneTestDone t bad s
  | .dramRead t activity addr err0 err1 tagBad => Sys2Proof.Machine.execDramRead t activity addr err0 err1 tagBad s
  | .dramWrite t activity addr data poison err0 err1 => Sys2Proof.Machine.execDramWrite t activity addr data poison err0 err1 s
  | .correctedWriteBack t ch => Sys2Proof.Machine.execCorrectedWriteBack t ch s
  | .refreshDue t ch rank bankIdx wavPanic => Sys2Proof.Machine.execRefreshDue t ch rank bankIdx wavPanic s
  | .temperaturePoll t ch rank asks => Sys2Proof.Machine.execTemperaturePoll t ch rank asks s
  | .neighbourRefresh t ch => Sys2Proof.Machine.execNeighbourRefresh t ch s
  | .refreshWindowEnd t ch => Sys2Proof.Machine.execRefreshWindowEnd t ch s
  | .parityAlert t ch inReplay => Sys2Proof.Machine.execParityAlert t ch inReplay s
  | .selfRefreshEntry t ch aborted => Sys2Proof.Machine.execSelfRefreshEntry t ch aborted s
  | .selfRefreshExit t ch => Sys2Proof.Machine.execSelfRefreshExit t ch s
  | .hoistQueueParityError t => Sys2Proof.Machine.execHoistQueueParityError t s
  | .laneEnable src t lane value => Sys2Proof.Machine.execLaneEnable src t lane value s
  | .laneLock t lane => Sys2Proof.Machine.execLaneLock t lane s
  | .lockLoss t lane => Sys2Proof.Machine.execLockLoss t lane s
  | .lockLossTimeout t lane => Sys2Proof.Machine.execLockLossTimeout t lane s
  | .capSymbol t lane err version highest dev number seen part => Sys2Proof.Machine.execCapSymbol t lane err version highest dev number seen part s
  | .rateSymbol t lane err op gen pass => Sys2Proof.Machine.execRateSymbol t lane err op gen pass s
  | .prbsMarker t lane err gen => Sys2Proof.Machine.execPrbsMarker t lane err gen s
  | .prbsCheckEnd t lane errors => Sys2Proof.Machine.execPrbsCheckEnd t lane errors s
  | .rateResultTimeout t lane => Sys2Proof.Machine.execRateResultTimeout t lane s
  | .dataSymbol t lane err => Sys2Proof.Machine.execDataSymbol t lane err s
  | .timeSymbol t lane err => Sys2Proof.Machine.execTimeSymbol t lane err s
  | .safeSymbol t c lane err msg => Sys2Proof.Machine.execSafeSymbol t c lane err msg s
  | .unknownSymbol t lane err => Sys2Proof.Machine.execUnknownSymbol t lane err s
  | .stuffingError t lane => Sys2Proof.Machine.execStuffingError t lane s
  | .elasticBufferAdjust t lane fill trailing broken => Sys2Proof.Machine.execElasticBufferAdjust t lane fill trailing broken s
  | .frameSlotTransmit t lane dur => Sys2Proof.Machine.execFrameSlotTransmit t lane dur s
  | .timeSymbolDue t lane => Sys2Proof.Machine.execTimeSymbolDue t lane s
  | .lnkRetrain src t lane => Sys2Proof.Machine.execLnkRetrain src t lane s
  | .lnkReinstate src t lane => Sys2Proof.Machine.execLnkReinstate src t lane s
  | .genCapWrite src t lane value => Sys2Proof.Machine.execGenCapWrite src t lane value s
  | .laneParityError t lane => Sys2Proof.Machine.execLaneParityError t lane s
  | .csiEnable src t value => Sys2Proof.Machine.execCsiEnable src t value s
  | .dphyPllUnlock t => Sys2Proof.Machine.execDphyPllUnlock t s
  | .arpRequest t vid target sender => Sys2Proof.Machine.execArpRequest t vid target sender s
  | .neighbourSolicitation t vid target => Sys2Proof.Machine.execNeighbourSolicitation t vid target s
  | .mgtDatagram t vid port srcPort req outs => Sys2Proof.Machine.execMgtDatagram t vid port srcPort req outs s
  | .safetyDatagram t c vid msg => Sys2Proof.Machine.execSafetyDatagram t c vid msg s
  | .otherFrame t => Sys2Proof.Machine.execOtherFrame t s
  | .ethLinkDown t => Sys2Proof.Machine.execEthLinkDown t s
  | .c22Read src t phy reg turn data => Sys2Proof.Machine.execC22Read src t phy reg turn data s
  | .c22Write src t phy reg turn => Sys2Proof.Machine.execC22Write src t phy reg turn s
  | .c45Address src t phy reg turn => Sys2Proof.Machine.execC45Address src t phy reg turn s
  | .c45Read src t phy reg turn data => Sys2Proof.Machine.execC45Read src t phy reg turn data s
  | .c45Write src t phy reg turn => Sys2Proof.Machine.execC45Write src t phy reg turn s
  | .mdioTimeout t => Sys2Proof.Machine.execMdioTimeout t s
  | .vddCnyLoss t => Sys2Proof.Machine.execVddCnyLoss t s
  | .heartbeatLost t c => Sys2Proof.Machine.execHeartbeatLost t c s
  | .selfComparisonMismatch t c present => Sys2Proof.Machine.execSelfComparisonMismatch t c present s
  | .watchdogTimeout t c => Sys2Proof.Machine.execWatchdogTimeout t c s
  | .sealSwitchSample t c value => Sys2Proof.Machine.execSealSwitchSample t c value s
  | .cnyParamWrite src t c addr value => Sys2Proof.Machine.execCnyParamWrite src t c addr value s
  | .checkRecompute t c => Sys2Proof.Machine.execCheckRecompute t c s
  | .commission src t => Sys2Proof.Machine.execCommission src t s
  | .commissionDone t c ok => Sys2Proof.Machine.execCommissionDone t c ok s
  | .cnyClear src t => Sys2Proof.Machine.execCnyClear src t s
  | .functionalSample t c levels rb => Sys2Proof.Machine.execFunctionalSample t c levels rb s
  | .testPulseCheck t c j levels => Sys2Proof.Machine.execTestPulseCheck t c j levels s
  | .canaryEncoderEdge t c k a b z => Sys2Proof.Machine.execCanaryEncoderEdge t c k a b z s
  | .axisComputation t c j => Sys2Proof.Machine.execAxisComputation t c j s
  | .echoEvaluation t c => Sys2Proof.Machine.execEchoEvaluation t c s
  | .fieldEvaluationClose t c => Sys2Proof.Machine.execFieldEvaluationClose t c s
  | .ossdReadbackCheck t c rb => Sys2Proof.Machine.execOssdReadbackCheck t c rb s
  | .ossdOffTest t c pair high => Sys2Proof.Machine.execOssdOffTest t c pair high s
  | .stateSend t c => Sys2Proof.Machine.execStateSend t c s
  | .select t c net msg => Sys2Proof.Machine.execSelect t c net msg s
  | .mute t c net msg => Sys2Proof.Machine.execMute t c net msg s
  | .loneCopyDiscard t c => Sys2Proof.Machine.execLoneCopyDiscard t c s
  | .messageTimeout t c => Sys2Proof.Machine.execMessageTimeout t c s
  | .muteExpiry t c => Sys2Proof.Machine.execMuteExpiry t c s
  | .livenessRequest t c => Sys2Proof.Machine.execLivenessRequest t c s
  | .livenessDeadline t c core => Sys2Proof.Machine.execLivenessDeadline t c core s
  | .calFull src t => Sys2Proof.Machine.execCalFull src t s
  | .fullCalibrationComplete t codes badPorts badEmit badTaps times shots => Sys2Proof.Machine.execFullCalibrationComplete t codes badPorts badEmit badTaps times shots s
  | .calPort src t port => Sys2Proof.Machine.execCalPort src t port s
  | .portTurn t => Sys2Proof.Machine.execPortTurn t s
  | .blindIntervalEnd t ok codes => Sys2Proof.Machine.execBlindIntervalEnd t ok codes s
  | .clear src t index => Sys2Proof.Machine.execClear src t index s
  | .clearCode src t => Sys2Proof.Machine.execClearCode src t s
  | .clearAll src t => Sys2Proof.Machine.execClearAll src t s
  | .clearJournal src t => Sys2Proof.Machine.execClearJournal src t s
  | .journalCopy t => Sys2Proof.Machine.execJournalCopy t s
  | .logParityError t journal index => Sys2Proof.Machine.execLogParityError t journal index s
  | .registerWrite src t addr value out => Sys2Proof.Machine.execRegisterWrite src t addr value out s
  | .shadowedRegisterWrite src t addr value => Sys2Proof.Machine.execShadowedRegisterWrite src t addr value s
  | .serialWriteFrame src t command addr room words outs => Sys2Proof.Machine.execSerialWriteFrame src t command addr room words outs s
  | .serialReadFrame src t addr count outs => Sys2Proof.Machine.execSerialReadFrame src t addr count outs s
  | .serialStatusFrame src t => Sys2Proof.Machine.execSerialStatusFrame src t s
  | .i2cWordTimeout t => Sys2Proof.Machine.execI2cWordTimeout t s
  | .mgtRead t lane err req outs => Sys2Proof.Machine.execMgtRead t lane err req outs s
  | .mgtWrite t lane err req outs => Sys2Proof.Machine.execMgtWrite t lane err req outs s
  | .dramWindowAccess src t addr write value out => Sys2Proof.Machine.execDramWindowAccess src t addr write value out s
  | .mgtDramWinWrite src t value => Sys2Proof.Machine.execMgtDramWinWrite src t value s
  | .windowAccessTimeout src t addr write value => Sys2Proof.Machine.execWindowAccessTimeout src t addr write value s
  | .mgtParityError src t window => Sys2Proof.Machine.execMgtParityError src t window s
  | .supplyMonitorTrip t x => Sys2Proof.Machine.execSupplyMonitorTrip t x s
  | .bypass => Sys2Proof.Machine.execBypass s
  | .idcode => Sys2Proof.Machine.execIdcode s
  | .samplePreload => Sys2Proof.Machine.execSamplePreload s
  | .extest => Sys2Proof.Machine.execExtest s
  | .clamp => Sys2Proof.Machine.execClamp s
  | .highz => Sys2Proof.Machine.execHighz s
  | .supplyBackInRange t x => Sys2Proof.Machine.execSupplyBackInRange t x s
  | .ethernetLinkUp t speed => Sys2Proof.Machine.execEthernetLinkUp t speed s
  | .dphyPllRelock t => Sys2Proof.Machine.execDphyPllRelock t s
  | .inhibitNRelease t => Sys2Proof.Machine.execInhibitNRelease t s
  | .alertNRise t ch clean => Sys2Proof.Machine.execAlertNRise t ch clean s
  | .parityRecoveryTimeout t ch => Sys2Proof.Machine.execParityRecoveryTimeout t ch s
  | .rowCloseOnIdle t ch bank maxOpen => Sys2Proof.Machine.execRowCloseOnIdle t ch bank maxOpen s
  | .framePeriodOverFrameMax t c => Sys2Proof.Machine.execFramePeriodOverFrameMax t c s
  | .testPulse t c k => Sys2Proof.Machine.execTestPulse t c k s

end Sys2Proof.Machine
end

