-- ==== Sys2Proof/Safety.lean ====
section
/-! DEFINITION. The terms in which claims speak of the block: steps that go on, the canonical form of what it stores, and
outputs that cannot start emission or motion. -/
namespace Sys2Proof.Machine

/-- The state an outcome goes on with. -/
def nextOf (o : Out) : Option State := match o with | .next s => some s | .fault _ => none | .refused _ => none

/-- The command goes on from the state: neither a fault nor a refusal. -/
def goesOn (c : Instr) (s : State) : Prop := ∃ s', exec c s = .next s'

/-- On-chip memory and DRAM are in canonical form: addresses rise, and no entry reads as an unlisted address does. -/
def Memory.wf (s : State) : Bool := spWf memDflt s.sram && spWf dramDflt s.dram

/-- A byte of DRAM as a read delivers it. -/
def dramByte (s : State) (a : Nat) : Byte := spGet dramDflt s.dram a

/-- The OSSD controls of both pairs are off. -/
def Dev.ossdsOff (d : Dev) : Bool := d.cny.ossdOn.all (fun b => !b)

/-- Both memories of two states are the same, their poison marks and waiting write-backs included. -/
def sameMemory (s s' : State) : Prop :=
  s'.sram = s.sram ∧ s'.dram = s.dram ∧ s'.sramPoison = s.sramPoison ∧ s'.writeBacks = s.writeBacks

/-- Every register word but those whose address `p` names is unchanged. -/
def sameRegs (p : Nat → Prop) (d d' : Dev) : Prop := ∀ a, ¬ p a → d'.reg a = d.reg a

/-! Fault log and commands. -/

/-- The fault log holds an entry of the code that is not cleared (R411). -/
def Dev.logged (d : Dev) (code : Nat) : Bool := (openEntry d.flg.log code).isSome

/-- A fault of the code can be logged: it has an open entry, or an entry can be taken. -/
def Dev.faultRoom (d : Dev) (code : Nat) : Bool := d.logged code || (logSlot d.flg.log).isSome

/-- A management write of the command register at `a` is accepted: the device lives, is past HEADFRAME, and the register
does not read busy (R423). -/
def Dev.takesCmd (d : Dev) (a : Nat) : Bool := d.alive && d.top.state != .headframe && !d.cmdBusy a

/-- The device and both its memories go from `s` to `s'` by one accepted management write of `src`: it is journaled and
answered with status 0, and no memory changes. -/
def writeTaken (src : Nat) (s s' : State) : Prop :=
  s'.dev.flg.jseq = s.dev.flg.jseq + 1 ∧ (s'.dev.req src).lastStatus = 0 ∧ sameMemory s s'

/-! Assay cores. -/

/-- Core `k` holds word `w` of instruction `op` in D and can issue it at once: no event, commit, slice, WAIT or poison holds
it, no earlier result has still to land, and D is no delay slot and lies in no loop (R210 to R223). -/
def State.stands (s : State) (k w : Nat) (op : AsyOp) : Bool :=
  let c := s.dev.core k
  s.dev.alive && decide (k < 16) && s.coreWord k == w && decodeAsy w == some op && s.dev.canIssue k false && !s.fetchPoisoned k &&
  !c.waiting && !(c.eligible && c.nextEvent.isSome) && c.div.isNone && c.delayed.isEmpty && c.slots == 0 && c.cur.loops.isEmpty

/-- Register G n of core `k`, of the set in use. -/
def State.gOf (s : State) (k n : Nat) : Word := (s.dev.core k).cur.g.getD n 0

/-- The core one plain instruction later: the set in use changed by `h` and nothing else of either set, the next address in
D, and the flags and the sign of A0 of before kept for the branches to come. -/
def Core.step (c : Core) (h : RegSet → RegSet) : Core :=
  { c.onCur h with pc := (c.pc + 1) % 2 ^ 14, oldFlags := c.cur.flags, oldNeg := c.cur.a0.msb }

/-- Sticky STATUS bit `i` set when `b`. -/
def Core.stick (c : Core) (b : Bool) (i : Nat) : Core := if b then { c with sticky := c.sticky ||| 2 ^ i } else c

/-- The result leaves the signed 32-bit range. -/
def outRange (x : Int) : Bool := decide (x < -2147483648 ∨ 2147483647 < x)

/-- The 32-bit result under the S bit: clamped to the signed range with S, else wrapped (R208). -/
def satWord (s : Bool) (x : Int) : Word :=
  if s && outRange x then (if x < 0 then 0x80000000#32 else 0x7FFFFFFF#32) else BitVec.ofInt 32 x

/-- One accumulator of the set replaced. -/
def RegSet.setAcc (r : RegSet) (one : Bool) (v : BitVec 40) : RegSet := if one then { r with a1 := v } else { r with a0 := v }

/-- One accumulator of the set. -/
def RegSet.accOf (r : RegSet) (one : Bool) : BitVec 40 := if one then r.a1 else r.a0

/-- Z and N of a 40-bit result. -/
def accFlag (v : BitVec 40) : Nat := b2n (v == 0#40) + 2 * b2n v.msb

/-- A multiply operand: the high or low half of a register, unsigned with bit 0 of the word set (R209). -/
def halfOf (w : Nat) (v : Word) (hi : Bool) : Int :=
  let h := if hi then bits v 31 16 else bits v 15 0
  if fieldOf w 0 0 = 1 then (h : Int) else signed 16 h

/-- The bus address of a load or store of format I, from the set before it (Table 10-10). -/
def RegSet.busAddr (r : RegSet) (w : Nat) (v : Bool) : Nat :=
  let a := r.addrOf ((if v then 4 else 0) + fieldOf w 19 18)
  match fieldOf w 17 16 with
  | 0 => unsigned 20 ((a : Int) + signed 16 (fieldOf w 15 0))
  | 3 => fieldOf w 15 0
  | _ => a

/-- The set after the address of a load or store of format I was formed: its pointer post-modified (Table 10-10). -/
def RegSet.afterAddr (r : RegSet) (w : Nat) (v : Bool) : RegSet :=
  let i := (if v then 4 else 0) + fieldOf w 19 18
  match fieldOf w 17 16 with
  | 1 => r.postMod i (signed 16 (fieldOf w 15 0))
  | 2 => r.postMod i (r.step.getD i 0)
  | _ => r

/-- Of the device outside the memories, an instruction of core `k` changes that core, its status words and the draw of free
values only; time has advanced to its tick. -/
def coreOnly (k : Nat) (s s' : State) : Prop :=
  (∀ j, j ≠ k → s'.dev.core j = s.dev.core j) ∧ s'.dev.asy.sems = s.dev.asy.sems ∧ s'.dev.top = s.dev.top ∧ s'.dev.flg = s.dev.flg ∧
  s'.dev.seq = s.dev.seq ∧ s'.dev.gat = s.dev.gat ∧ s'.dev.hst = s.dev.hst ∧ s'.dev.pnt = s.dev.pnt ∧ s'.dev.cny = s.dev.cny ∧
  s'.dev.fmn = s.dev.fmn ∧ s'.dev.mgt = s.dev.mgt ∧ s'.dev.corrected = s.dev.corrected ∧ s'.pending = s.pending ∧
  (∀ a, a ≠ R.ASY_STATUS k → a ≠ R.ASY_CL_STATUS → a ≠ R.ASY_BG_USED k → s'.dev.reg a = s.dev.reg a)

/-! Whole-machine terms. -/

/-- The commands that reach an on-chip memory or DRAM: resets and their supplies, the loading of an image, the reads and
write-backs of the memories' owners, core instructions with a bus access, and management accesses. -/
def touchesMemory : Instr → Bool
  | .resetNAssert .. | .supplyMonitorTrip .. | .watchdogTimeout .. | .identityKeyDerivation .. | .flashDiscovery .. | .flashReadBurst ..
  | .imageVerify .. | .softReset .. | .sectionActivation .. | .commissioningHandover .. | .w288WriteBack .. | .lowWordRead ..
  | .highWordRead .. | .frameFirstEntryRead .. | .scanEntryRead .. | .histogramUpdate .. | .sieveLaneTake .. | .lodeWriteBack ..
  | .lodeClearPass .. | .setCopy .. | .illegalInstruction .. | .poisonedFetch .. | .asyHalt .. | .asyDispatchWrite .. | .asyStep ..
  | .asyRegisterWindowAccess .. | .activityRequest .. | .triggerDecision .. | .recordWritten .. | .wavGapRecord .. | .flushExecute ..
  | .streamRecordRead .. | .canFrameReceived .. | .dramRead .. | .dramWrite .. | .mgtDatagram .. | .journalCopy .. | .registerWrite ..
  | .shadowedRegisterWrite .. | .serialWriteFrame .. | .serialReadFrame .. | .mgtRead .. | .mgtWrite .. | .dramWindowAccess ..
  | .mgtDramWinWrite .. | .windowAccessTimeout .. | .ldu .. | .ldv .. | .stu .. | .stv .. | .pld .. | .mpy .. | .mac .. | .msu ..
  | .dmpy .. | .dmac .. | .dmsu .. => true
  | _ => false

/-- The commands that have an effect in RESET: the supplies and RESET_n, and the TAP (R10, R437, R448). -/
def actsInReset : Instr → Bool
  | .powerOn .. | .resetNAssert .. | .resetRelease .. | .supplyMonitorTrip .. | .supplyBackInRange .. | .bypass | .idcode
  | .samplePreload | .extest | .clamp | .highz => true
  | _ => false

/-- The commands that can take the device out of HELD: LEAVE_HELD, by itself or inside a management write, and a reset
(Table 01-3). -/
def leavesHeld : Instr → Bool
  | .leaveHeld .. | .registerWrite .. | .serialWriteFrame .. | .mgtWrite .. | .mgtDatagram .. | .canFrameReceived ..
  | .resetNAssert .. | .supplyMonitorTrip .. => true
  | _ => false

/-- Commands of the sensor bridging, the housekeeping converters, the waveform taps, Hoist, the lanes and the network that
have no part in the way from a shot to its point. -/
def sparesShotPath : Instr → Bool
  | .sensorSlotEnd .. | .biasSlewStep .. | .openWireTrip .. | .leadTestStart .. | .leadTestEnd .. | .heaterPeriodStart ..
  | .heaterDutyEnd .. | .encoderEdge .. | .encoderIndex .. | .imuTrigger .. | .imuXfer .. | .imuTransferDone ..
  | .canFrameTransmitted .. | .canBusOff .. | .canAutoRecovery .. | .recover .. | .canCanaryWrite ..
  | .hkaStart .. | .hkaTimerOverflow .. | .startDelayEnd .. | .inject .. | .injectionDone .. | .hkaCal ..
  | .wavTapCfgWrite .. | .levelTrigger .. | .trigInEdge .. | .triggerDecision .. | .captureEnd .. | .writeBufferFull .. | .rearmEnd ..
  | .wavFlush .. | .ringDrainApply .. | .tapParityError ..
  | .hoiRetrain .. | .hoiRateWrite .. | .laneTest .. | .laneTestDone .. | .refreshDue .. | .temperaturePoll .. | .neighbourRefresh ..
  | .refreshWindowEnd .. | .rowCloseOnIdle .. | .parityAlert .. | .alertNRise .. | .selfRefreshEntry .. | .selfRefreshExit ..
  | .laneEnable .. | .genCapWrite .. | .lnkRetrain .. | .lnkReinstate .. | .laneLock .. | .lockLoss .. | .lockLossTimeout ..
  | .capSymbol .. | .rateSymbol .. | .prbsMarker .. | .prbsCheckEnd .. | .rateResultTimeout .. | .dataSymbol .. | .timeSymbol ..
  | .unknownSymbol .. | .stuffingError .. | .elasticBufferAdjust .. | .timeSymbolDue .. | .laneParityError ..
  | .csiEnable .. | .dphyPllUnlock .. | .dphyPllRelock .. | .ethLinkDown .. | .ethernetLinkUp .. | .arpRequest ..
  | .neighbourSolicitation .. | .otherFrame .. | .c22Read .. | .c22Write .. | .c45Address .. | .c45Read .. | .c45Write .. | .mdioTimeout ..
  | .bypass | .idcode | .samplePreload | .extest | .clamp | .highz => true
  | _ => false

/-- The device state, the sequencer, the emission gate, the gating block, the histogram engine, the assay cores, the Canary
and calibration are unchanged. -/
def sameShotPath (d d' : Dev) : Prop :=
  d'.top.state = d.top.state ∧ d'.seq = d.seq ∧ d'.emt = d.emt ∧ d'.gat = d.gat ∧ d'.hst = d.hst ∧ d'.asy = d.asy ∧ d'.cny = d.cny ∧
  d'.cal = d.cal

/-- EMIT_EN is high only in RANGING or in the skew step of a calibration, with no Canary demand and VDD_CNY good (R97). -/
def Dev.emitSafe (d : Dev) : Bool :=
  !d.emt.emitEn || ((d.ranging || d.emt.calFire) && !d.demanding && !d.cny.lost)

/-- A pair is on only while the conditions of R387 hold. -/
def Dev.ossdSafe (d : Dev) : Bool := [0, 1].all (fun p => !d.cny.ossdOn.getD p false || d.ossdMay p false)

end Sys2Proof.Machine
end

