-- ==== Sys2Proof/WellFormed.lean ====
section
/-! DEFINITION. Well-formed commands: every operand that names a unit, a requester or a field's value lies in the range the
spec gives it. What a command outside these ranges does is no statement of the model. -/
namespace Sys2Proof

/-- The operands of the command lie in their ranges. -/
def Instr.wf (i : Instr) : Bool :=
  match i with
  | .powerOn _ => true
  | .resetNAssert _ _ => true
  | .resetRelease straps safeSw _ => decide (straps < 128) && decide (safeSw < 16)
  | .pllLock => true
  | .identityKeyDerivation _ => true
  | .flashDiscovery _ _ _ _ _ => true
  | .flashReadBurst _ _ _ => true
  | .imageVerify _ => true
  | .softReset _ => true
  | .sectionActivation _ _ => true
  | .commissioningHandover _ record => record.length == 4096
  | .start src _ => decide (src < 13)
  | .stop src _ => decide (src < 13)
  | .stopComplete _ => true
  | .leaveHeld src _ => decide (src < 13)
  | .hold src _ => decide (src < 13)
  | .w288WriteBack _ _ => true
  | .canaryClockGate _ _ _ _ => true
  | .pllUnlock _ => true
  | .pllRelock => true
  | .slewCarry _ => true
  | .stepCommit src _ _ => decide (src < 13)
  | .pairLowWrite src _ addr _ => decide (src < 13) && decide (addr < 2 ^ 32)
  | .pairHighWrite src _ addr _ => decide (src < 13) && decide (addr < 2 ^ 32)
  | .lowWordRead src _ addr => decide (src < 13) && decide (addr < 2 ^ 32)
  | .highWordRead src _ addr => decide (src < 13) && decide (addr < 2 ^ 32)
  | .syncEpochSend _ => true
  | .syncInEdge _ phase => decide (phase < 32)
  | .syncMessage _ message => decide (message < 2 ^ 96)
  | .syncMessageTimeout _ => true
  | .timeSourceHoldover _ => true
  | .ppsInEdge _ phase => decide (phase < 32)
  | .ppsOutRise _ => true
  | .ppsOutFall _ => true
  | .frameAtArm src _ _ => decide (src < 13)
  | .scheduledFrameStart _ => true
  | .gptpMessage _ _ => true
  | .gptpSyncSend _ => true
  | .fuseKey src _ slot confirm => decide (src < 13) && decide (slot < 4) && decide (confirm < 65536)
  | .revoke src _ slot confirm => decide (src < 13) && decide (slot < 4) && decide (confirm < 65536)
  | .fuseProgrammingDone _ _ => true
  | .attest src _ => decide (src < 13)
  | .attestDone _ => true
  | .frameFirstEntryRead _ errBytes => decide (errBytes < 37)
  | .scanEntryRead _ errBytes => decide (errBytes < 37)
  | .frameBoundary _ _ => true
  | .shotIssue _ _ => true
  | .handover _ => true
  | .steeringSettled _ => true
  | .settleTimeout _ port => decide (port < 4)
  | .admissionTest _ => true
  | .fire _ => true
  | .confidenceFlag _ cell frame => decide (cell < 2 ^ 24) && decide (frame < 2 ^ 32)
  | .squash _ cell frame => decide (cell < 2 ^ 24) && decide (frame < 2 ^ 32)
  | .seqSquashCmd src _ _ => decide (src < 13)
  | .accountingCheck _ => true
  | .tallyParityError _ => true
  | .tallySnapshotRead src _ slot word => decide (src < 13) && decide (slot < 192) && decide (word < 4)
  | .inhibitAssert _ => true
  | .enSettleExpiry _ => true
  | .monConversion _ emitter _ => decide (emitter < 32)
  | .monDebitCorrection _ => true
  | .strayMonPulse _ emitter => decide (emitter < 32)
  | .budgetBucketBoundary _ => true
  | .emtReinstate src _ emitter => decide (src < 13) && decide (emitter < 32)
  | .budgetParityError _ => true
  | .positionSample _ port _ _ _ _ => decide (port < 4)
  | .relockTimeout _ port => decide (port < 4)
  | .strReinstate src _ port => decide (src < 13) && decide (port < 4)
  | .polygonIndex _ port => decide (port < 4)
  | .indexTimeout _ port => decide (port < 4)
  | .strModeWrite src _ port _ => decide (src < 13) && decide (port < 4)
  | .leadingEdge _ ch fine => decide (ch < 256) && decide (fine < 32)
  | .eventComplete _ ch width _ => decide (ch < 256) && decide (width < 32)
  | .windowBoundaryApply _ ch => decide (ch < 256)
  | .settleEnd _ ch => decide (ch < 256)
  | .rfeModeWrite src _ ch _ => decide (src < 13) && decide (ch < 256)
  | .meterRoundClose _ => true
  | .quadrantSupplyTrip _ quadrant => decide (quadrant < 4)
  | .lineMonitorCheck _ ch tap => decide (ch < 256) && decide (tap < 8)
  | .comparatorStuck _ ch => decide (ch < 256)
  | .trimParityError _ ch => decide (ch < 256)
  | .reinstateCh src _ ch _ => decide (src < 13) && decide (ch < 256)
  | .reinstateQuad src _ quadrant => decide (src < 13) && decide (quadrant < 4)
  | .windowOpen _ => true
  | .checkIn _ => true
  | .eventArrival _ ch => decide (ch < 256)
  | .verdict _ => true
  | .eventCommit _ errBytes => decide (errBytes < 37)
  | .histogramUpdate _ half errBytes => decide (half < 2) && decide (errBytes < 37)
  | .histogramClosing _ => true
  | .sieveLaneTake _ lane _ _ => decide (lane < 16)
  | .histogramReadoutEnd _ lane => decide (lane < 16)
  | .candidateHandoff _ lane errBytes => decide (lane < 16) && decide (errBytes < 37)
  | .lodeWriteBack _ _ => true
  | .lodeClearPass _ => true
  | .hstWindowWrite src _ addr _ => decide (src < 13) && decide (addr < 2 ^ 32)
  | .hstSlotSnapshotRead src _ entry word => decide (src < 13) && decide (entry < 512) && decide (word < 4)
  | .slotTableParityError _ => true
  | .setCopy _ core => decide (core < 16)
  | .batch _ core => decide (core < 16)
  | .canary _ core => decide (core < 16)
  | .round _ core => decide (core < 16)
  | .batchTimeLimit _ core => decide (core < 16)
  | .divisionResult _ core => decide (core < 16)
  | .loopCountEnd _ core => decide (core < 16)
  | .backgroundSliceExhausted _ core => decide (core < 16)
  | .nop _ core => decide (core < 16)
  | .mpy _ core errU errV _ => decide (core < 16) && decide (errU < 37) && decide (errV < 37)
  | .mac _ core errU errV _ => decide (core < 16) && decide (errU < 37) && decide (errV < 37)
  | .msu _ core errU errV _ => decide (core < 16) && decide (errU < 37) && decide (errV < 37)
  | .dmpy _ core errU errV _ => decide (core < 16) && decide (errU < 37) && decide (errV < 37)
  | .dmac _ core errU errV _ => decide (core < 16) && decide (errU < 37) && decide (errV < 37)
  | .dmsu _ core errU errV _ => decide (core < 16) && decide (errU < 37) && decide (errV < 37)
  | .pld _ core errU errV _ => decide (core < 16) && decide (errU < 37) && decide (errV < 37)
  | .add _ core => decide (core < 16)
  | .sub _ core => decide (core < 16)
  | .cmp _ core => decide (core < 16)
  | .and _ core => decide (core < 16)
  | .or _ core => decide (core < 16)
  | .xor _ core => decide (core < 16)
  | .andn _ core => decide (core < 16)
  | .shl _ core => decide (core < 16)
  | .shr _ core => decide (core < 16)
  | .sra _ core => decide (core < 16)
  | .min _ core => decide (core < 16)
  | .max _ core => decide (core < 16)
  | .abs _ core => decide (core < 16)
  | .neg _ core => decide (core < 16)
  | .ext _ core => decide (core < 16)
  | .ins _ core => decide (core < 16)
  | .mul _ core => decide (core < 16)
  | .norm _ core => decide (core < 16)
  | .div _ core => decide (core < 16)
  | .divu _ core => decide (core < 16)
  | .clra _ core => decide (core < 16)
  | .adda _ core => decide (core < 16)
  | .suba _ core => decide (core < 16)
  | .mova _ core => decide (core < 16)
  | .sha _ core => decide (core < 16)
  | .addaa _ core => decide (core < 16)
  | .rnda _ core => decide (core < 16)
  | .ldi _ core => decide (core < 16)
  | .ldih _ core => decide (core < 16)
  | .addi _ core => decide (core < 16)
  | .cmpi _ core => decide (core < 16)
  | .ldu _ core errU errV _ => decide (core < 16) && decide (errU < 37) && decide (errV < 37)
  | .ldv _ core errU errV _ => decide (core < 16) && decide (errU < 37) && decide (errV < 37)
  | .stu _ core errU errV _ => decide (core < 16) && decide (errU < 37) && decide (errV < 37)
  | .stv _ core errU errV _ => decide (core < 16) && decide (errU < 37) && decide (errV < 37)
  | .setp _ core => decide (core < 16)
  | .br _ core => decide (core < 16)
  | .call _ core => decide (core < 16)
  | .jr _ core => decide (core < 16)
  | .doLoop _ core => decide (core < 16)
  | .rete _ core => decide (core < 16)
  | .movs _ core => decide (core < 16)
  | .wait _ core => decide (core < 16)
  | .illegalInstruction _ core => decide (core < 16)
  | .poisonedFetch _ core errBytes => decide (core < 16) && decide (errBytes < 37)
  | .asyHalt src _ core _ => decide (src < 13) && decide (core < 16)
  | .asyDispatchWrite src _ core _ => decide (src < 13) && decide (core < 16)
  | .asyStep src _ core errU errV _ => decide (src < 13) && decide (core < 16) && decide (errU < 37) && decide (errV < 37)
  | .breakpointHit _ core => decide (core < 16)
  | .asyRegisterWindowAccess src _ core _ _ _ errBytes => decide (src < 13) && decide (core < 16) && decide (errBytes < 37)
  | .pointAccept _ core => decide (core < 16)
  | .noBatchFallback _ => true
  | .packetClose _ stream _ _ _ => decide (stream < 16)
  | .bulkDropGapRecord _ stream => decide (stream < 16)
  | .lodeExport src _ => decide (src < 13)
  | .journalDump src _ => decide (src < 13)
  | .flush src _ stream => decide (src < 13) && decide (stream < 16)
  | .roundBoundary _ => true
  | .activityRequest _ activity _ _ => decide (activity < 24)
  | .check src _ => decide (src < 13)
  | .admissionCheckDone _ => true
  | .fmnAllocWrite src _ activity _ => decide (src < 13) && decide (activity < 24)
  | .foremanParityError _ => true
  | .wavTapCfgWrite src _ tap _ => decide (src < 13) && decide (tap < 8)
  | .levelTrigger _ tap _ _ => decide (tap < 8)
  | .trigInEdge _ _ fine => decide (fine < 32)
  | .triggerDecision _ tap => decide (tap < 8)
  | .writeBufferFull _ tap _ _ => decide (tap < 8)
  | .captureEnd _ tap _ => decide (tap < 8)
  | .recordWritten _ tap _ => decide (tap < 8)
  | .rearmEnd _ tap => decide (tap < 8)
  | .wavGapRecord _ tap => decide (tap < 8)
  | .wavFlush src _ tap => decide (src < 13) && decide (tap < 8)
  | .flushExecute _ tap => decide (tap < 8)
  | .ringDrainApply _ tap => decide (tap < 8)
  | .streamRecordRead _ tap _ => decide (tap < 8)
  | .tapParityError _ tap => decide (tap < 8)
  | .hkaConversion _ u _ _ => decide (u < 6)
  | .hkaStart src _ u => decide (src < 13) && decide (u < 6)
  | .hkaTimerOverflow _ timer => decide (timer < 4)
  | .startDelayEnd _ u => decide (u < 6)
  | .inject src _ u burst input => decide (src < 13) && decide (u < 6) && decide (burst < 8) && decide (input < 64)
  | .injectionDone _ u _ => decide (u < 6)
  | .hkaCal src _ u => decide (src < 13) && decide (u < 6)
  | .selfCalibrationDone _ u _ _ _ _ => decide (u < 6)
  | .filterOutput _ ch _ => decide (ch < 16)
  | .swap src _ ch => decide (src < 13) && decide (ch < 16)
  | .fadeEnd _ ch => decide (ch < 16)
  | .fltSync src _ ch => decide (src < 13) && decide (ch < 16)
  | .synchronisingReset _ ch => decide (ch < 16)
  | .fltReinstate src _ ch => decide (src < 13) && decide (ch < 16)
  | .fltBankWrite src _ addr _ => decide (src < 13) && decide (addr < 2 ^ 32)
  | .filterParityError _ ch => decide (ch < 16)
  | .sensorSlotEnd _ conv _ _ _ => decide (conv < 2)
  | .biasSlewStep _ => true
  | .openWireTrip _ ch => decide (ch < 8)
  | .leadTestStart _ ch => decide (ch < 8)
  | .leadTestEnd _ ch _ _ _ => decide (ch < 8)
  | .heaterPeriodStart _ k => decide (k < 2)
  | .heaterDutyEnd _ k => decide (k < 2)
  | .encoderEdge _ k _ _ => decide (k < 2)
  | .encoderIndex _ k => decide (k < 2)
  | .imuTrigger _ _ => true
  | .imuXfer src _ => decide (src < 13)
  | .imuTransferDone _ _ => true
  | .canFrameReceived _ n id dlc _ _ _ _ _ _ _ => decide (n < 2) && decide (id < 2 ^ 29) && decide (dlc < 16)
  | .canFrameTransmitted _ n => decide (n < 2)
  | .canBusOff _ n => decide (n < 2)
  | .recover src _ n => decide (src < 13) && decide (n < 2)
  | .canAutoRecovery _ n => decide (n < 2)
  | .canCanaryWrite src _ addr _ => decide (src < 13) && decide (addr < 2 ^ 32)
  | .trainingStepDone _ _ _ => true
  | .trainingComplete _ _ => true
  | .hoiRetrain src _ => decide (src < 13)
  | .hoiRateWrite src _ _ => decide (src < 13)
  | .laneTest src _ ch rank => decide (src < 13) && decide (ch < 2) && decide (rank < 2)
  | .laneTestDone _ _ => true
  | .dramRead _ activity addr err0 err1 _ => decide (activity < 24) && decide (addr < 2 ^ 37) && decide (err0 < 37) && decide (err1 < 37)
  | .dramWrite _ activity addr _ _ err0 err1 => decide (activity < 24) && decide (addr < 2 ^ 37) && decide (err0 < 37) && decide (err1 < 37)
  | .correctedWriteBack _ ch => decide (ch < 2)
  | .refreshDue _ ch rank _ _ => decide (ch < 2) && decide (rank < 2)
  | .temperaturePoll _ ch rank _ => decide (ch < 2) && decide (rank < 2)
  | .neighbourRefresh _ ch => decide (ch < 2)
  | .refreshWindowEnd _ ch => decide (ch < 2)
  | .parityAlert _ ch _ => decide (ch < 2)
  | .selfRefreshEntry _ ch _ => decide (ch < 2)
  | .selfRefreshExit _ ch => decide (ch < 2)
  | .hoistQueueParityError _ => true
  | .laneEnable src _ lane _ => decide (src < 13) && decide (lane < 8)
  | .laneLock _ lane => decide (lane < 8)
  | .lockLoss _ lane => decide (lane < 8)
  | .lockLossTimeout _ lane => decide (lane < 8)
  | .capSymbol _ lane _ _ _ _ _ _ _ => decide (lane < 8)
  | .rateSymbol _ lane _ _ _ _ => decide (lane < 8)
  | .prbsMarker _ lane _ _ => decide (lane < 8)
  | .prbsCheckEnd _ lane _ => decide (lane < 8)
  | .rateResultTimeout _ lane => decide (lane < 8)
  | .dataSymbol _ lane _ => decide (lane < 8)
  | .timeSymbol _ lane _ => decide (lane < 8)
  | .safeSymbol _ _ lane _ _ => decide (lane < 8)
  | .unknownSymbol _ lane _ => decide (lane < 8)
  | .stuffingError _ lane => decide (lane < 8)
  | .elasticBufferAdjust _ lane _ _ _ => decide (lane < 8)
  | .frameSlotTransmit _ lane _ => decide (lane < 8)
  | .timeSymbolDue _ lane => decide (lane < 8)
  | .lnkRetrain src _ lane => decide (src < 13) && decide (lane < 8)
  | .lnkReinstate src _ lane => decide (src < 13) && decide (lane < 8)
  | .genCapWrite src _ lane _ => decide (src < 13) && decide (lane < 8)
  | .laneParityError _ lane => decide (lane < 8)
  | .csiEnable src _ _ => decide (src < 13)
  | .dphyPllUnlock _ => true
  | .arpRequest _ _ _ _ => true
  | .neighbourSolicitation _ _ _ => true
  | .mgtDatagram _ _ port srcPort _ _ => decide (port < 65536) && decide (srcPort < 65536)
  | .safetyDatagram _ _ _ _ => true
  | .otherFrame _ => true
  | .ethLinkDown _ => true
  | .c22Read src _ phy reg _ _ => decide (src < 13) && decide (phy < 32) && decide (reg < 32)
  | .c22Write src _ phy reg _ => decide (src < 13) && decide (phy < 32) && decide (reg < 32)
  | .c45Address src _ phy reg _ => decide (src < 13) && decide (phy < 32) && decide (reg < 32)
  | .c45Read src _ phy reg _ _ => decide (src < 13) && decide (phy < 32) && decide (reg < 32)
  | .c45Write src _ phy reg _ => decide (src < 13) && decide (phy < 32) && decide (reg < 32)
  | .mdioTimeout _ => true
  | .vddCnyLoss _ => true
  | .heartbeatLost _ _ => true
  | .selfComparisonMismatch _ _ _ => true
  | .watchdogTimeout _ _ => true
  | .sealSwitchSample _ _ value => decide (value < 16)
  | .cnyParamWrite src _ _ addr _ => decide (src < 13) && decide (addr < 2 ^ 32)
  | .checkRecompute _ _ => true
  | .commission src _ => decide (src < 13)
  | .commissionDone _ _ _ => true
  | .cnyClear src _ => decide (src < 13)
  | .functionalSample _ _ _ _ => true
  | .testPulseCheck _ _ j _ => decide (j < 4)
  | .canaryEncoderEdge _ _ k _ _ _ => decide (k < 2)
  | .axisComputation _ _ j => decide (j < 2)
  | .echoEvaluation _ _ => true
  | .fieldEvaluationClose _ _ => true
  | .ossdReadbackCheck _ _ _ => true
  | .ossdOffTest _ _ pair _ => decide (pair < 2)
  | .stateSend _ _ => true
  | .select _ _ net msg => decide (net < 2) && msg.length == 27
  | .mute _ _ net msg => decide (net < 2) && msg.length == 27
  | .loneCopyDiscard _ _ => true
  | .messageTimeout _ _ => true
  | .muteExpiry _ _ => true
  | .livenessRequest _ _ => true
  | .livenessDeadline _ _ core => decide (core < 16)
  | .calFull src _ => decide (src < 13)
  | .fullCalibrationComplete _ _ _ _ _ _ _ => true
  | .calPort src _ port => decide (src < 13) && decide (port < 32)
  | .portTurn _ => true
  | .blindIntervalEnd _ _ _ => true
  | .clear src _ index => decide (src < 13) && decide (index < 256)
  | .clearCode src _ => decide (src < 13)
  | .clearAll src _ => decide (src < 13)
  | .clearJournal src _ => decide (src < 13)
  | .journalCopy _ => true
  | .logParityError _ _ _ => true
  | .registerWrite src _ addr _ _ => decide (src < 13) && decide (addr < 2 ^ 32)
  | .shadowedRegisterWrite src _ addr _ => decide (src < 13) && decide (addr < 2 ^ 32)
  | .serialWriteFrame src _ _ addr _ _ _ => decide (src < 2) && decide (addr < 2 ^ 32)
  | .serialReadFrame src _ addr _ _ => decide (src < 2) && decide (addr < 2 ^ 32)
  | .serialStatusFrame src _ => decide (src < 2)
  | .i2cWordTimeout _ => true
  | .mgtRead _ lane _ req _ => decide (lane < 8) && req.length == 32
  | .mgtWrite _ lane _ req _ => decide (lane < 8) && req.length == 32
  | .dramWindowAccess src _ addr _ _ _ => decide (src < 13) && decide (addr < 2 ^ 32)
  | .mgtDramWinWrite src _ _ => decide (src < 13)
  | .windowAccessTimeout src _ addr _ _ => decide (src < 13) && decide (addr < 2 ^ 32)
  | .mgtParityError src _ _ => decide (src < 13)
  | .supplyMonitorTrip _ _ => true
  | .bypass => true
  | .idcode => true
  | .samplePreload => true
  | .extest => true
  | .clamp => true
  | .highz => true
  | .supplyBackInRange _ _ => true
  | .ethernetLinkUp _ speed => decide (speed < 4)
  | .dphyPllRelock _ => true
  | .inhibitNRelease _ => true
  | .alertNRise _ ch _ => decide (ch < 2)
  | .parityRecoveryTimeout _ ch => decide (ch < 2)
  | .rowCloseOnIdle _ ch _ _ => decide (ch < 2)
  | .framePeriodOverFrameMax _ _ => true
  | .testPulse _ _ k => decide (k < 4)

/-- The requester a command names by its source code (Table 20-3): its `src`, or the code of its lane, the Ethernet port or its CAN
controller. -/
def Instr.requester (i : Instr) : Option Nat :=
  match i with
  | .powerOn _ => none
  | .resetNAssert _ _ => none
  | .resetRelease _ _ _ => none
  | .pllLock => none
  | .identityKeyDerivation _ => none
  | .flashDiscovery _ _ _ _ _ => none
  | .flashReadBurst _ _ _ => none
  | .imageVerify _ => none
  | .softReset _ => none
  | .sectionActivation _ _ => none
  | .commissioningHandover _ _ => none
  | .start src _ => some src
  | .stop src _ => some src
  | .stopComplete _ => none
  | .leaveHeld src _ => some src
  | .hold src _ => some src
  | .w288WriteBack _ _ => none
  | .canaryClockGate _ _ _ _ => none
  | .pllUnlock _ => none
  | .pllRelock => none
  | .slewCarry _ => none
  | .stepCommit src _ _ => some src
  | .pairLowWrite src _ _ _ => some src
  | .pairHighWrite src _ _ _ => some src
  | .lowWordRead src _ _ => some src
  | .highWordRead src _ _ => some src
  | .syncEpochSend _ => none
  | .syncInEdge _ _ => none
  | .syncMessage _ _ => none
  | .syncMessageTimeout _ => none
  | .timeSourceHoldover _ => none
  | .ppsInEdge _ _ => none
  | .ppsOutRise _ => none
  | .ppsOutFall _ => none
  | .frameAtArm src _ _ => some src
  | .scheduledFrameStart _ => none
  | .gptpMessage _ _ => none
  | .gptpSyncSend _ => none
  | .fuseKey src _ _ _ => some src
  | .revoke src _ _ _ => some src
  | .fuseProgrammingDone _ _ => none
  | .attest src _ => some src
  | .attestDone _ => none
  | .frameFirstEntryRead _ _ => none
  | .scanEntryRead _ _ => none
  | .frameBoundary _ _ => none
  | .shotIssue _ _ => none
  | .handover _ => none
  | .steeringSettled _ => none
  | .settleTimeout _ _ => none
  | .admissionTest _ => none
  | .fire _ => none
  | .confidenceFlag _ _ _ => none
  | .squash _ _ _ => none
  | .seqSquashCmd src _ _ => some src
  | .accountingCheck _ => none
  | .tallyParityError _ => none
  | .tallySnapshotRead src _ _ _ => some src
  | .inhibitAssert _ => none
  | .enSettleExpiry _ => none
  | .monConversion _ _ _ => none
  | .monDebitCorrection _ => none
  | .strayMonPulse _ _ => none
  | .budgetBucketBoundary _ => none
  | .emtReinstate src _ _ => some src
  | .budgetParityError _ => none
  | .positionSample _ _ _ _ _ _ => none
  | .relockTimeout _ _ => none
  | .strReinstate src _ _ => some src
  | .polygonIndex _ _ => none
  | .indexTimeout _ _ => none
  | .strModeWrite src _ _ _ => some src
  | .leadingEdge _ _ _ => none
  | .eventComplete _ _ _ _ => none
  | .windowBoundaryApply _ _ => none
  | .settleEnd _ _ => none
  | .rfeModeWrite src _ _ _ => some src
  | .meterRoundClose _ => none
  | .quadrantSupplyTrip _ _ => none
  | .lineMonitorCheck _ _ _ => none
  | .comparatorStuck _ _ => none
  | .trimParityError _ _ => none
  | .reinstateCh src _ _ _ => some src
  | .reinstateQuad src _ _ => some src
  | .windowOpen _ => none
  | .checkIn _ => none
  | .eventArrival _ _ => none
  | .verdict _ => none
  | .eventCommit _ _ => none
  | .histogramUpdate _ _ _ => none
  | .histogramClosing _ => none
  | .sieveLaneTake _ _ _ _ => none
  | .histogramReadoutEnd _ _ => none
  | .candidateHandoff _ _ _ => none
  | .lodeWriteBack _ _ => none
  | .lodeClearPass _ => none
  | .hstWindowWrite src _ _ _ => some src
  | .hstSlotSnapshotRead src _ _ _ => some src
  | .slotTableParityError _ => none
  | .setCopy _ _ => none
  | .batch _ _ => none
  | .canary _ _ => none
  | .round _ _ => none
  | .batchTimeLimit _ _ => none
  | .divisionResult _ _ => none
  | .loopCountEnd _ _ => none
  | .backgroundSliceExhausted _ _ => none
  | .nop _ _ => none
  | .mpy _ _ _ _ _ => none
  | .mac _ _ _ _ _ => none
  | .msu _ _ _ _ _ => none
  | .dmpy _ _ _ _ _ => none
  | .dmac _ _ _ _ _ => none
  | .dmsu _ _ _ _ _ => none
  | .pld _ _ _ _ _ => none
  | .add _ _ => none
  | .sub _ _ => none
  | .cmp _ _ => none
  | .and _ _ => none
  | .or _ _ => none
  | .xor _ _ => none
  | .andn _ _ => none
  | .shl _ _ => none
  | .shr _ _ => none
  | .sra _ _ => none
  | .min _ _ => none
  | .max _ _ => none
  | .abs _ _ => none
  | .neg _ _ => none
  | .ext _ _ => none
  | .ins _ _ => none
  | .mul _ _ => none
  | .norm _ _ => none
  | .div _ _ => none
  | .divu _ _ => none
  | .clra _ _ => none
  | .adda _ _ => none
  | .suba _ _ => none
  | .mova _ _ => none
  | .sha _ _ => none
  | .addaa _ _ => none
  | .rnda _ _ => none
  | .ldi _ _ => none
  | .ldih _ _ => none
  | .addi _ _ => none
  | .cmpi _ _ => none
  | .ldu _ _ _ _ _ => none
  | .ldv _ _ _ _ _ => none
  | .stu _ _ _ _ _ => none
  | .stv _ _ _ _ _ => none
  | .setp _ _ => none
  | .br _ _ => none
  | .call _ _ => none
  | .jr _ _ => none
  | .doLoop _ _ => none
  | .rete _ _ => none
  | .movs _ _ => none
  | .wait _ _ => none
  | .illegalInstruction _ _ => none
  | .poisonedFetch _ _ _ => none
  | .asyHalt src _ _ _ => some src
  | .asyDispatchWrite src _ _ _ => some src
  | .asyStep src _ _ _ _ _ => some src
  | .breakpointHit _ _ => none
  | .asyRegisterWindowAccess src _ _ _ _ _ _ => some src
  | .pointAccept _ _ => none
  | .noBatchFallback _ => none
  | .packetClose _ _ _ _ _ => none
  | .bulkDropGapRecord _ _ => none
  | .lodeExport src _ => some src
  | .journalDump src _ => some src
  | .flush src _ _ => some src
  | .roundBoundary _ => none
  | .activityRequest _ _ _ _ => none
  | .check src _ => some src
  | .admissionCheckDone _ => none
  | .fmnAllocWrite src _ _ _ => some src
  | .foremanParityError _ => none
  | .wavTapCfgWrite src _ _ _ => some src
  | .levelTrigger _ _ _ _ => none
  | .trigInEdge _ _ _ => none
  | .triggerDecision _ _ => none
  | .writeBufferFull _ _ _ _ => none
  | .captureEnd _ _ _ => none
  | .recordWritten _ _ _ => none
  | .rearmEnd _ _ => none
  | .wavGapRecord _ _ => none
  | .wavFlush src _ _ => some src
  | .flushExecute _ _ => none
  | .ringDrainApply _ _ => none
  | .streamRecordRead _ _ _ => none
  | .tapParityError _ _ => none
  | .hkaConversion _ _ _ _ => none
  | .hkaStart src _ _ => some src
  | .hkaTimerOverflow _ _ => none
  | .startDelayEnd _ _ => none
  | .inject src _ _ _ _ => some src
  | .injectionDone _ _ _ => none
  | .hkaCal src _ _ => some src
  | .selfCalibrationDone _ _ _ _ _ _ => none
  | .filterOutput _ _ _ => none
  | .swap src _ _ => some src
  | .fadeEnd _ _ => none
  | .fltSync src _ _ => some src
  | .synchronisingReset _ _ => none
  | .fltReinstate src _ _ => some src
  | .fltBankWrite src _ _ _ => some src
  | .filterParityError _ _ => none
  | .sensorSlotEnd _ _ _ _ _ => none
  | .biasSlewStep _ => none
  | .openWireTrip _ _ => none
  | .leadTestStart _ _ => none
  | .leadTestEnd _ _ _ _ _ => none
  | .heaterPeriodStart _ _ => none
  | .heaterDutyEnd _ _ => none
  | .encoderEdge _ _ _ _ => none
  | .encoderIndex _ _ => none
  | .imuTrigger _ _ => none
  | .imuXfer src _ => some src
  | .imuTransferDone _ _ => none
  | .canFrameReceived _ n _ _ _ _ _ _ _ _ _ => some (11 + n)
  | .canFrameTransmitted _ _ => none
  | .canBusOff _ _ => none
  | .recover src _ _ => some src
  | .canAutoRecovery _ _ => none
  | .canCanaryWrite src _ _ _ => some src
  | .trainingStepDone _ _ _ => none
  | .trainingComplete _ _ => none
  | .hoiRetrain src _ => some src
  | .hoiRateWrite src _ _ => some src
  | .laneTest src _ _ _ => some src
  | .laneTestDone _ _ => none
  | .dramRead _ _ _ _ _ _ => none
  | .dramWrite _ _ _ _ _ _ _ => none
  | .correctedWriteBack _ _ => none
  | .refreshDue _ _ _ _ _ => none
  | .temperaturePoll _ _ _ _ => none
  | .neighbourRefresh _ _ => none
  | .refreshWindowEnd _ _ => none
  | .parityAlert _ _ _ => none
  | .selfRefreshEntry _ _ _ => none
  | .selfRefreshExit _ _ => none
  | .hoistQueueParityError _ => none
  | .laneEnable src _ _ _ => some src
  | .laneLock _ _ => none
  | .lockLoss _ _ => none
  | .lockLossTimeout _ _ => none
  | .capSymbol _ _ _ _ _ _ _ _ _ => none
  | .rateSymbol _ _ _ _ _ _ => none
  | .prbsMarker _ _ _ _ => none
  | .prbsCheckEnd _ _ _ => none
  | .rateResultTimeout _ _ => none
  | .dataSymbol _ _ _ => none
  | .timeSymbol _ _ _ => none
  | .safeSymbol _ _ _ _ _ => none
  | .unknownSymbol _ _ _ => none
  | .stuffingError _ _ => none
  | .elasticBufferAdjust _ _ _ _ _ => none
  | .frameSlotTransmit _ _ _ => none
  | .timeSymbolDue _ _ => none
  | .lnkRetrain src _ _ => some src
  | .lnkReinstate src _ _ => some src
  | .genCapWrite src _ _ _ => some src
  | .laneParityError _ _ => none
  | .csiEnable src _ _ => some src
  | .dphyPllUnlock _ => none
  | .arpRequest _ _ _ _ => none
  | .neighbourSolicitation _ _ _ => none
  | .mgtDatagram _ _ _ _ _ _ => some 10
  | .safetyDatagram _ _ _ _ => none
  | .otherFrame _ => none
  | .ethLinkDown _ => none
  | .c22Read src _ _ _ _ _ => some src
  | .c22Write src _ _ _ _ => some src
  | .c45Address src _ _ _ _ => some src
  | .c45Read src _ _ _ _ _ => some src
  | .c45Write src _ _ _ _ => some src
  | .mdioTimeout _ => none
  | .vddCnyLoss _ => none
  | .heartbeatLost _ _ => none
  | .selfComparisonMismatch _ _ _ => none
  | .watchdogTimeout _ _ => none
  | .sealSwitchSample _ _ _ => none
  | .cnyParamWrite src _ _ _ _ => some src
  | .checkRecompute _ _ => none
  | .commission src _ => some src
  | .commissionDone _ _ _ => none
  | .cnyClear src _ => some src
  | .functionalSample _ _ _ _ => none
  | .testPulseCheck _ _ _ _ => none
  | .canaryEncoderEdge _ _ _ _ _ _ => none
  | .axisComputation _ _ _ => none
  | .echoEvaluation _ _ => none
  | .fieldEvaluationClose _ _ => none
  | .ossdReadbackCheck _ _ _ => none
  | .ossdOffTest _ _ _ _ => none
  | .stateSend _ _ => none
  | .select _ _ _ _ => none
  | .mute _ _ _ _ => none
  | .loneCopyDiscard _ _ => none
  | .messageTimeout _ _ => none
  | .muteExpiry _ _ => none
  | .livenessRequest _ _ => none
  | .livenessDeadline _ _ _ => none
  | .calFull src _ => some src
  | .fullCalibrationComplete _ _ _ _ _ _ _ => none
  | .calPort src _ _ => some src
  | .portTurn _ => none
  | .blindIntervalEnd _ _ _ => none
  | .clear src _ _ => some src
  | .clearCode src _ => some src
  | .clearAll src _ => some src
  | .clearJournal src _ => some src
  | .journalCopy _ => none
  | .logParityError _ _ _ => none
  | .registerWrite src _ _ _ _ => some src
  | .shadowedRegisterWrite src _ _ _ => some src
  | .serialWriteFrame src _ _ _ _ _ _ => some src
  | .serialReadFrame src _ _ _ _ => some src
  | .serialStatusFrame src _ => some src
  | .i2cWordTimeout _ => some 1
  | .mgtRead _ lane _ _ _ => some (2 + lane)
  | .mgtWrite _ lane _ _ _ => some (2 + lane)
  | .dramWindowAccess src _ _ _ _ _ => some src
  | .mgtDramWinWrite src _ _ => some src
  | .windowAccessTimeout src _ _ _ _ => some src
  | .mgtParityError src _ _ => some src
  | .supplyMonitorTrip _ _ => none
  | .bypass => none
  | .idcode => none
  | .samplePreload => none
  | .extest => none
  | .clamp => none
  | .highz => none
  | .supplyBackInRange _ _ => none
  | .ethernetLinkUp _ _ => none
  | .dphyPllRelock _ => none
  | .inhibitNRelease _ => none
  | .alertNRise _ _ _ => none
  | .parityRecoveryTimeout _ _ => none
  | .rowCloseOnIdle _ _ _ _ => none
  | .framePeriodOverFrameMax _ _ => none
  | .testPulse _ _ _ => none

end Sys2Proof
end

