-- ==== Sys2Proof/Certificates/Slice0/Obligations.lean ====
section
/-! DEFINITION. The statements for the provers. -/
open Sys2Proof Sys2Proof.Machine

/-- A step runs the command at the front of the queue. For every command c and state s whose queue is c followed by rest, step s
is exec c on s with the queue rest. (95_what_each_step_holds.md: steps; INDEX.md: the block and its commands.) -/
def Obligations.StepRunsFront : Prop :=
  ∀ (c : Instr) (s : State) (rest : List Instr), s.pending = c :: rest → step s = exec c { s with pending := rest }

/-- An empty queue idles. On an empty queue a step answers the same state (the model's choice, log entry 1).
(95_what_each_step_holds.md: steps.) -/
def Obligations.StepIdlesWhenEmpty : Prop :=
  ∀ s : State, s.pending = [] → step s = .next s

/-- What reset leaves. State.reset is in RESET with no command waiting, both memories in canonical form and without a listed byte,
EMIT_EN low and both pairs off in the sense of the two output invariants, no tally slot taken, no cell, no fault logged and
nothing journaled, and every register at its reset value. (01_organisation.md: Table 01-2; 22_package_pins_electrical.md:
Reset.) -/
def Obligations.ResetState : Prop :=
  State.reset.dev.top.state = .reset ∧ State.reset.pending = [] ∧ Memory.wf State.reset = true ∧ (∀ a, memByte State.reset.sram a = memDflt a) ∧
  (∀ a, dramByte State.reset a = dramDflt a) ∧ State.reset.dev.emitSafe = true ∧ State.reset.dev.ossdSafe = true ∧ State.reset.dev.ossdsOff = true ∧
  State.reset.dev.emt.emitEn = false ∧ State.reset.dev.seq.tally = [] ∧ State.reset.dev.seq.cells = [] ∧ State.reset.dev.flg.log = [] ∧
  State.reset.dev.flg.jseq = 0 ∧ State.reset.dev.clk.running = false ∧ (∀ a, State.reset.dev.reg a = resetOf a)

/-- Every command answers a next state and leaves the queue. In every state exec of every command answers a next state, with the
waiting commands as they were. (95_what_each_step_holds.md: steps.) -/
def Obligations.EveryCommandGoesOn : Prop :=
  ∀ (c : Instr) (s : State), ∃ s', exec c s = .next s' ∧ s'.pending = s.pending

/-- Every step keeps the canonical form of both memories. For every state whose on-chip memory and DRAM are in canonical form
(addresses rise, no entry equal to what an unlisted address reads as), a step leaves them so. (00_scope.md: memories;
16_hoist_dram.md: accesses.) -/
def Obligations.MemoryFormKept : Prop :=
  ∀ s s' : State, Memory.wf s = true → step s = .next s' → Memory.wf s' = true

/-- EMIT_EN is never high without its three conditions. For every state in which EMIT_EN is low, or the device is in RANGING or a
skew step with no Canary demand and VDD_CNY good, a step leaves it so, whatever the command. That the skew step stands for the
calibration step that fires emitters is log entry 64. (05_emitters_eye_safety.md: EMIT_EN; 18_canary_safety.md: Demands.) -/
def Obligations.EmitEnSafeKept : Prop :=
  ∀ s s' : State, s.dev.emitSafe = true → step s = .next s' → s'.dev.emitSafe = true

/-- An OSSD pair is never on without its conditions. For every state in which each pair that is on has the conditions of the OSSD
chapter (mode, VDD_CNY, no hold, lockout or demand, ARMED or RANGING, inputs released, no violated axis or field), a step
leaves it so, whatever the command. Log entries 17 to 19 are the model's readings of the conditions. (18_canary_safety.md:
OSSDs.) -/
def Obligations.OssdSafeKept : Prop :=
  ∀ s s' : State, s.dev.ossdSafe = true → step s = .next s' → s'.dev.ossdSafe = true

/-- In RESET only power, reset and the TAP act. In RESET a command other than those of the supplies, RESET_n and the TAP leaves
the state exactly as it is. (01_organisation.md: Tables 01-2 and 01-3.) -/
def Obligations.ResetIsQuiet : Prop :=
  ∀ (c : Instr) (s : State), s.dev.top.state = .reset → actsInReset c = false → exec c s = .next s

/-- What can take the device out of HELD. From HELD a command other than LEAVE_HELD, by itself or inside a management write, and a
reset leaves the device in HELD; and those that leave it lead to ARMED or RESET only. (01_organisation.md: Table 01-3.) -/
def Obligations.OnlyTheseLeaveHeld : Prop :=
  ∀ (c : Instr) (s s' : State), s.dev.top.state = .held → exec c s = .next s' →
  (leavesHeld c = false → s'.dev.top.state = .held) ∧ (s'.dev.top.state = .held ∨ s'.dev.top.state = .armed ∨ s'.dev.top.state = .reset)

/-- HEADFRAME refuses every management write. While the device lives in HEADFRAME, an aligned write of any address by any
requester answers status 0x02, is journaled, and changes no memory, no register below the requesters' counters, no device
state, shadow copy or Canary state. (03_headframe_boot.md: access during Headframe; 21_management_access.md: Table 21-2.) -/
def Obligations.HeadframeRefusesWrites : Prop :=
  ∀ (s : State) (src t a : Nat) (v : Word) (o : Outside), s.dev.alive = true → s.dev.top.state = .headframe → a % 4 = 0 →
  ∃ s', exec (.registerWrite src t a v o) s = .next s' ∧ (s'.dev.req src).lastStatus = 2 ∧ s'.dev.flg.jseq = s.dev.flg.jseq + 1 ∧ s'.dev.top = s.dev.top ∧
    s'.dev.cny = s.dev.cny ∧ s'.dev.shadow = s.dev.shadow ∧ (∀ b, b < 0x2A0000 → s'.dev.reg b = s.dev.reg b) ∧ sameMemory s s'

/-- Commands that reach no memory. A command that is none of the memories' owners, resets, image loading, bus-accessing core
instructions or management accesses changes no byte, poison mark or write-back of the on-chip memories and of DRAM.
(00_scope.md: memories; 01_organisation.md: organisation.) -/
def Obligations.MemoryUntouched : Prop :=
  ∀ (c : Instr) (s s' : State), touchesMemory c = false → exec c s = .next s' → sameMemory s s'

/-- Side units leave the shot path alone. Commands of the sensors, converters, taps, Hoist, lanes, network and TAP listed in
sparesShotPath change neither the device state nor the sequencer, the emission gate, the gating block, the histogram engine,
the assay cores, the Canary and calibration. (01_organisation.md: bounded path; 15_sensor_bridging.md: faults; 17_links.md:
faults.) -/
def Obligations.ShotPathUntouched : Prop :=
  ∀ (c : Instr) (s s' : State), sparesShotPath c = true → exec c s = .next s' → sameShotPath s.dev s'.dev

/-- Power-on, RESET_n, supplies, the watchdog and the TAP. Power-on ends the power-on reset. RESET_n low for 1 µs or more, a
VDD_CORE trip and the watchdog take the device to RESET with the cause recorded, EMIT_EN low, and (RESET_n) every register but
the key fuses at its reset value. The release samples straps and seal switches and enters HEADFRAME. A trip of VDD_IO18 or
VDDA enters HELD, one of the serial supplies removes the serial links. The six TAP instructions change the TAP only; EXTEST,
CLAMP and HIGHZ are honoured in HELD with SAFE_SW[0] at 1. Log entries 36 and 65 are the model's choices here.
(22_package_pins_electrical.md: Power, reset, TAP; 01_organisation.md: Table 01-3; 18_canary_safety.md: reset watch and
watchdog.) -/
def Obligations.PowerAndResetComplete : Prop :=
  -- powerOn
  (∀ (s : State) (cny : Bool), s.dev.top.state = .reset → s.dev.top.por = true → ∃ s', exec (.powerOn cny) s = .next s' ∧ s'.dev.top.por = false ∧ s'.dev.top.suppliesBad = [] ∧ s'.dev.cny.lost = false ∧ s'.dev.top.state = .reset ∧ s'.dev.regs = s.dev.regs ∧ sameMemory s s') ∧
  -- resetNAssert
  (∀ (s : State) (c ns : Nat), 1000 ≤ ns → ∃ s', exec (.resetNAssert c ns) s = .next s' ∧ s'.dev.top.state = .reset ∧ s'.dev.top.resetCause = 1 ∧ (∀ a, ¬ (0x30200 ≤ a ∧ a < 0x30280) → s'.dev.reg a = resetOf a) ∧ s'.dev.clk.running = false ∧ s'.dev.cny.ossdOn = [false, false] ∧ s'.dev.emt.emitEn = false) ∧
  -- resetRelease
  (∀ (s : State) (straps sw c : Nat), s.dev.top.state = .reset → s.dev.top.por = false → s.dev.top.suppliesBad = [] → ∃ s', exec (.resetRelease straps sw c) s = .next s' ∧ s'.dev.top.state = .headframe ∧ s'.dev.reg R.HDF_STRAPS = BitVec.ofNat 32 (straps % 128) ∧ s'.dev.cny.sw = sw % 16 ∧ s'.dev.cny.swReset = sw % 16 ∧ sameMemory s s') ∧
  -- supplyTripCore
  (∀ (s : State) (t : Nat), ∃ s', exec (.supplyMonitorTrip t .core) s = .next s' ∧ s'.dev.top.state = .reset ∧ s'.dev.top.por = true ∧ s'.dev.top.resetCause = 3 ∧ s'.dev.clk.running = false ∧ s'.dev.emt.emitEn = false) ∧
  -- supplyTripHeld
  (∀ (s : State) (t : Nat) (x : Supply), (x = .io18 ∨ x = .an) → s.dev.supplyBad x = false → s.dev.top.state ≠ .reset → ∃ s', exec (.supplyMonitorTrip t x) s = .next s' ∧ s'.dev.top.state = .held ∧ sameMemory s s') ∧
  -- supplyTripSerial
  (∀ (s : State) (t : Nat) (x : Supply), (x = .ser ∨ x = .aser) → s.dev.supplyBad x = false → s.dev.top.state ≠ .reset → ∃ s', exec (.supplyMonitorTrip t x) s = .next s' ∧ s'.dev.isRemoved .serial = true ∧ sameMemory s s') ∧
  -- supplyBackInRange
  (∀ (s : State) (t : Nat) (x : Supply), s.dev.supplyBad x = true → ∃ s', exec (.supplyBackInRange t x) s = .next s' ∧ s'.dev.supplyBad x = false ∧ sameMemory s s') ∧
  -- watchdogTimeout
  (∀ (s : State) (t c w : Nat), s.dev.cny.watch = some w → w + 48000 ≤ c → s.dev.top.state ≠ .reset → s.dev.top.state ≠ .held → s.dev.cny.lost = false → ∃ s', exec (.watchdogTimeout t c) s = .next s' ∧ s'.dev.top.state = .reset ∧ s'.dev.top.resetCause = 2 ∧ s'.dev.emt.emitEn = false) ∧
  -- bypass
  (∀ (s : State), ∃ s', exec .bypass s = .next s' ∧ s'.dev.jtag = { instr := 0, data := 0#32 } ∧ s' = { s with dev := { s.dev with jtag := s'.dev.jtag } }) ∧
  -- idcode
  (∀ (s : State), ∃ s', exec .idcode s = .next s' ∧ s'.dev.jtag = { instr := 1, data := 0x14256A3D#32 } ∧ s' = { s with dev := { s.dev with jtag := s'.dev.jtag } }) ∧
  -- samplePreload
  (∀ (s : State), ∃ s', exec .samplePreload s = .next s' ∧ s'.dev.jtag = { instr := 2, data := s.dev.fresh 32 } ∧ s' = { s with dev := { s.dev with jtag := s'.dev.jtag, freeCtr := s'.dev.freeCtr } }) ∧
  -- extest
  (∀ (s : State), s.dev.top.state = .held → s.dev.cny.sw % 2 = 1 → ∃ s', exec .extest s = .next s' ∧ s'.dev.jtag = { instr := 3, data := s.dev.fresh 32 } ∧ s' = { s with dev := { s.dev with jtag := s'.dev.jtag, freeCtr := s'.dev.freeCtr } }) ∧
  -- clamp
  (∀ (s : State), s.dev.top.state = .held → s.dev.cny.sw % 2 = 1 → ∃ s', exec .clamp s = .next s' ∧ s'.dev.jtag = { instr := 4, data := 0#32 } ∧ s' = { s with dev := { s.dev with jtag := s'.dev.jtag } }) ∧
  -- highz
  (∀ (s : State), s.dev.top.state = .held → s.dev.cny.sw % 2 = 1 → ∃ s', exec .highz s = .next s' ∧ s'.dev.jtag = { instr := 5, data := 0#32 } ∧ s' = { s with dev := { s.dev with jtag := s'.dev.jtag } })

/-- The stages of start-up complete in their order. PLL lock starts the clocks and the tick at 0 and completes stage 1; the
identity key, flash discovery, the read bursts, the verification of an acceptable image, its activation and the hand-over
complete stages 2 to 7; an unacceptable first image makes a soft reset due, an unacceptable second one enters HELD; the soft
reset turns to the other image, clears the on-chip memories and resets the registers it does not keep. Log entries 49, 50 and
61 are the model's readings. (03_headframe_boot.md: Table 03-1 and the stages of start-up; 03_headframe_boot.md: Acceptance,
fall-back and failure.) -/
def Obligations.StartUpCompletes : Prop :=
  -- pllLock
  (∀ (s : State), s.dev.top.state = .headframe → s.dev.clk.locked = false → ∃ s', exec .pllLock s = .next s' ∧ s'.dev.clk.locked = true ∧ s'.dev.clk.running = true ∧ s'.dev.now = 0 ∧ s'.dev.boot.stage = 1 ∧ s'.dev.rbit R.CLK_STATUS 0 = true ∧ s'.dev.top.state = .headframe ∧ sameMemory s s') ∧
  -- identityKeyDerivation
  (∀ (s : State) (t : Nat), s.dev.atStage 1 = true → ∃ s', exec (.identityKeyDerivation t) s = .next s' ∧ s'.dev.boot.stage = 2 ∧ (Config.certificateOk = true → s'.dev.top.state = .headframe) ∧ (Config.certificateOk = false → s'.dev.top.state = .held) ∧ sameMemory s s') ∧
  -- flashDiscovery
  (∀ (s : State) (t : Nat) (jedec : List Byte) (ok : Bool) (modes : List (Nat × Nat)) (size : Nat), s.dev.atStage 2 = true → jedec.all (· == 0x00#8) = false → jedec.all (· == 0xFF#8) = false → ∃ s', exec (.flashDiscovery t jedec ok modes size) s = .next s' ∧ s'.dev.boot.stage = 3 ∧ s'.dev.boot.image = [] ∧ s'.dev.fld R.HDF_FLASH_CFG 2 0 = (if ok && !s.dev.rbit R.HDF_STRAPS 6 then (chooseMode modes).1 else 0) % 8 ∧ sameMemory s s') ∧
  -- flashReadBurst
  (∀ (s : State) (t : Nat) (data : List Byte), s.dev.atStage 3 = true → s.dev.boot.softResetDue = false → ∃ s', exec (.flashReadBurst t data false) s = .next s' ∧ s'.dev.boot.image = (s.dev.boot.image ++ data).take (imageLength (s.dev.boot.image ++ data)) ∧ s'.dev.boot.retrying = false) ∧
  -- flashReadBurstFails
  (∀ (s : State) (t : Nat) (data : List Byte), s.dev.atStage 3 = true → s.dev.boot.softResetDue = false → s.dev.boot.retrying = false → ∃ s', exec (.flashReadBurst t data true) s = .next s' ∧ s'.dev.boot.retrying = true ∧ sameMemory s s') ∧
  -- imageVerify
  (∀ (s : State) (t : Nat), s.dev.atStage 4 = true → s.dev.boot.readDone = true → (s.dev.advanceTo t).imageFault s.dev.boot.image = (0, none) → ∃ s', exec (.imageVerify t) s = .next s' ∧ s'.dev.boot.stage = 5 ∧ s'.dev.boot.accepted = true ∧ s'.dev.boot.digest = imageDigest s.dev.boot.image ∧ s'.dev.reg R.HDF_IMAGE_VERSION = BitVec.ofNat 32 (leAt s.dev.boot.image 0x0C 4) ∧ sameMemory s s') ∧
  -- imageReject
  (∀ (s : State) (t : Nat), s.dev.atStage 4 = true → s.dev.boot.readDone = true → ((s.dev.advanceTo t).imageFault s.dev.boot.image).1 ≠ 0 → ∃ s', exec (.imageVerify t) s = .next s' ∧ (s.dev.boot.second = false → s'.dev.boot.softResetDue = true ∧ s'.dev.top.state = .headframe) ∧ (s.dev.boot.second = true → s'.dev.top.state = .held) ∧ sameMemory s s') ∧
  -- softReset
  (∀ (s : State) (t : Nat), s.dev.alive = true → s.dev.top.state = .headframe → s.dev.boot.softResetDue = true → ∃ s', exec (.softReset t) s = .next s' ∧ s'.dev.boot.current = !s.dev.boot.current ∧ s'.dev.boot.second = true ∧ s'.dev.boot.softResetDue = false ∧ s'.dev.boot.stage = 3 ∧ s'.sram = [] ∧ s'.dram = s.dram ∧ (∀ a, keptRegister a = false → s'.dev.reg a = resetOf a)) ∧
  -- sectionActivation
  (∀ (s : State) (t : Nat) (cals : List (Int × Int × Nat × Nat)), s.dev.atStage 5 = true → ∃ s', exec (.sectionActivation t cals) s = .next s' ∧ s'.dev.boot.stage = 6 ∧ s'.dev.boot.activated = true ∧ sameMemory s s') ∧
  -- commissioningHandover
  (∀ (s : State) (t : Nat) (r : List Byte), s.dev.atStage 6 = true → ∃ s', exec (.commissioningHandover t r) s = .next s' ∧ s'.dev.boot.stage = 7 ∧ s'.dev.boot.handedOver = true ∧ s'.dev.hoi.training.isSome = true ∧ sameMemory s s')

/-- START, STOP, LEAVE_HELD and HOLD. START in ARMED after a passed calibration and a passing admission check enters RANGING with
a new frame; STOP in RANGING becomes pending and, when everything has drained, enters ARMED with the shadow copies applied;
LEAVE_HELD without a reason against it enters ARMED with a full calibration begun; HOLD in ARMED or RANGING enters HELD with
cause 0x0101. Log entry 42 is a reading of the model. (01_organisation.md: Device states and TOP_CMD.) -/
def Obligations.StateCommandsComplete : Prop :=
  -- start
  (∀ (s : State) (src t : Nat), s.dev.alive = true → s.dev.top.state = .armed → s.dev.cal.passed = true → (((s.dev.advanceTo t).regWrite src R.TOP_CMD 1 Dev.replaceStop).runCheck s.sram).2 = true → ∃ s', exec (.start src t) s = .next s' ∧ s'.dev.top.state = .ranging ∧ s'.dev.seq.frame = none ∧ s'.dev.seq.stopping = false ∧ s'.dev.seq.enterRanging = (((s.dev.advanceTo t).regWrite src R.TOP_CMD 1 Dev.replaceStop).runCheck s.sram).1.now ∧ sameMemory s s') ∧
  -- stop
  (∀ (s : State) (src t : Nat), s.dev.alive = true → s.dev.top.state = .ranging → ∃ s', exec (.stop src t) s = .next s' ∧ s'.dev.seq.stopping = true ∧ s'.dev.top.state = .ranging ∧ s'.dev.reg R.TOP_CMD = cmdWord 2 0xFF 3 0 ∧ sameMemory s s') ∧
  -- stopComplete
  (∀ (s : State) (t : Nat), s.dev.alive = true → s.dev.top.state = .ranging → s.dev.seq.stopping = true → (s.dev.advanceTo t).drained = true → ∃ s', exec (.stopComplete t) s = .next s' ∧ s'.dev.top.state = .armed ∧ s'.dev.seq.frame = none ∧ s'.dev.shadow = [] ∧ s'.dev.reg R.TOP_CMD = cmdWord 2 0xFF 1 0 ∧ sameMemory s s') ∧
  -- leaveHeld
  (∀ (s : State) (src t : Nat), s.dev.alive = true → s.dev.top.state = .held → s.dev.leaveReason = 0 → ∃ s', exec (.leaveHeld src t) s = .next s' ∧ s'.dev.top.state = .armed ∧ s'.dev.cal.full = some false ∧ s'.dev.cal.passed = false ∧ sameMemory s s') ∧
  -- hold
  (∀ (s : State) (src t : Nat), s.dev.alive = true → (s.dev.top.state = .armed ∨ s.dev.top.state = .ranging) → ∃ s', exec (.hold src t) s = .next s' ∧ s'.dev.top.state = .held ∧ s'.dev.top.heldCause = 0x0101 ∧ s'.dev.cal.passed = false ∧ sameMemory s s')

/-- Clock gates, PLL unlock and relock, W288 write-back. A gate outside 92 to 108 edges while the clocks run enters HELD; a good
gate ends the clock fault; a PLL unlock stops the clocks, keeps the code, and drops EMIT_EN; the relock starts the clocks,
spends the retained code and leaves the device in HELD. A W288 write-back strikes its word from those waiting and changes no
stored byte. Log entry 57 is the model's reading. (02_clocks_and_time.md: Clock supervision; 00_scope.md: W288.) -/
def Obligations.ClockFaultsComplete : Prop :=
  -- clockGateFault
  (∀ (s : State) (t c ref per : Nat), s.dev.top.state ≠ .reset → s.dev.cny.lost = false → s.dev.clk.locked = true → s.dev.clk.running = true → s.dev.cny.clockFault = false → 0 < ref → 0 < per → (ref < 92 ∨ 108 < ref ∨ per < 92 ∨ 108 < per) → ∃ s', exec (.canaryClockGate t c ref per) s = .next s' ∧ s'.dev.top.state = .held ∧ sameMemory s s') ∧
  -- clockGateGood
  (∀ (s : State) (t c ref per : Nat), s.dev.top.state ≠ .reset → s.dev.cny.lost = false → s.dev.clk.locked = true → s.dev.clk.running = true → s.dev.cny.clockFault = true → 92 ≤ ref → ref ≤ 108 → 92 ≤ per → per ≤ 108 → ∃ s', exec (.canaryClockGate t c ref per) s = .next s' ∧ s'.dev.cny.clockFault = false ∧ sameMemory s s') ∧
  -- pllUnlock
  (∀ (s : State) (t : Nat), s.dev.alive = true → s.dev.clk.locked = true → ∃ s', exec (.pllUnlock t) s = .next s' ∧ s'.dev.clk.running = false ∧ s'.dev.clk.retained.isSome = true ∧ s'.dev.cny.clockFault = true ∧ s'.dev.emt.emitEn = false ∧ s'.dev.rbit R.CLK_STATUS 0 = false ∧ sameMemory s s') ∧
  -- pllRelock
  (∀ (s : State), s.dev.top.state ≠ .reset → s.dev.clk.running = false → s.dev.clk.locked = true → ∃ s', exec .pllRelock s = .next s' ∧ s'.dev.clk.running = true ∧ s'.dev.clk.retained = none ∧ s'.dev.top.state = .held ∧ sameMemory s s') ∧
  -- w288WriteBack
  (∀ (s : State) (t word : Nat), s.dev.alive = true → ∃ s', exec (.w288WriteBack t word) s = .next s' ∧ word ∉ s'.writeBacks ∧ (∀ w, w ≠ word → (w ∈ s'.writeBacks ↔ w ∈ s.writeBacks)) ∧ s'.sram = s.sram ∧ s'.dram = s.dram ∧ s'.sramPoison = s.sramPoison ∧ s'.dev.regs = s.dev.regs)

/-- The time base, its sources and its outputs. The slew, SYNC epochs and messages, PPS edges in and out, gPTP messages and the
scheduled frame start have their effects on the time base, the status bits and the fault log. (02_clocks_and_time.md: Time
base and time sources.) -/
def Obligations.TimeBaseComplete : Prop :=
  -- slewCarry
  (∀ (s : State) (t : Nat), s.dev.alive = true → s.dev.now < t →
    ∃ s', exec (.slewCarry t) s = .next s' ∧ s'.dev.now = t ∧ s'.dev.regs = s.dev.regs ∧ sameMemory s s' ∧
      (s.dev.reg R.CLK_RATE_ADJ = 0#32 → s.dev.clk.frac = 0 → s'.dev.clk.timeBase = s.dev.clk.timeBase + BitVec.ofNat 64 (t - s.dev.now) ∧ s'.dev.clk.frac = 0)) ∧
  -- syncEpochSend
  (∀ (s : State) (t : Nat), s.dev.alive = true → s.dev.rbit R.CLK_SYNC_CTRL 0 = true → s.dev.fld R.CLK_SYNC_CTRL 9 2 ≠ 0 → s.dev.clk.syncOutEdge = none →
    ∃ s', exec (.syncEpochSend t) s = .next s' ∧ s'.dev.clk.syncOut = syncMessage (s.dev.advanceTo t).time 0 ∧
      s'.dev.clk.syncOutEdge = some (s.dev.advanceTo t).now ∧ s'.dev.regs = s.dev.regs ∧ sameMemory s s') ∧
  -- syncInEdge
  (∀ (s : State) (t phase : Nat), s.dev.alive = true → s.dev.rbit R.CLK_SYNC_CTRL 0 = false →
    ∃ s', exec (.syncInEdge t phase) s = .next s' ∧ s'.dev.reg R.CLK_EPOCH_PHASE = BitVec.ofNat 32 (phase % 32) ∧
      s'.dev.clk.syncEdge = some ((s.dev.advanceTo t).now, (s.dev.advanceTo t).time, phase % 32) ∧
      s'.dev.clk.syncOutEdge = some ((s.dev.advanceTo t).now + 8) ∧ sameMemory s s') ∧
  -- syncMessage
  (∀ (s : State) (t message tick cap phase : Nat), s.dev.alive = true → s.dev.clk.syncEdge = some (tick, cap, phase) → (s.dev.advanceTo t).now ≤ tick + 3200 →
    message < 2 ^ 96 → syncGood message = true → s.dev.timeSource = 1 →
    ∃ s', exec (.syncMessage t message) s = .next s' ∧ s'.dev.clk.syncEdge = none ∧
      s'.dev.clk.syncOut = syncMessage (message / 2 ^ 8 % 2 ^ 64) (message / 2 ^ 72 % 256 + 1) ∧
      s'.dev.clk.lastEpoch = (s.dev.advanceTo t).now ∧ s'.dev.rbit R.CLK_STATUS 2 = false ∧ sameMemory s s') ∧
  -- syncMessageBad
  (∀ (s : State) (t message tick cap phase : Nat), s.dev.alive = true → s.dev.clk.syncEdge = some (tick, cap, phase) → (s.dev.advanceTo t).now ≤ tick + 3200 →
    message < 2 ^ 96 → syncGood message = false →
    ∃ s', exec (.syncMessage t message) s = .next s' ∧ s'.dev.clk.syncEdge = none ∧ s'.dev.clk.syncOut = message ∧
      (s.dev.faultRoom 0x0203 = true → s'.dev.logged 0x0203 = true) ∧ sameMemory s s') ∧
  -- syncMessageTimeout
  (∀ (s : State) (t tick cap phase : Nat), s.dev.alive = true → s.dev.clk.syncEdge = some (tick, cap, phase) → tick + 3200 ≤ (s.dev.advanceTo t).now →
    ∃ s', exec (.syncMessageTimeout t) s = .next s' ∧ s'.dev.clk.syncEdge = none ∧
      (s.dev.faultRoom 0x0203 = true → s'.dev.logged 0x0203 = true) ∧ sameMemory s s') ∧
  -- timeSourceHoldover
  (∀ (s : State) (t : Nat), s.dev.alive = true → s.dev.timeSource = 2 → s.dev.rbit R.CLK_STATUS 2 = false → s.dev.clk.lastEpoch + 4800000000 ≤ (s.dev.advanceTo t).now →
    ∃ s', exec (.timeSourceHoldover t) s = .next s' ∧ s'.dev.rbit R.CLK_STATUS 2 = true ∧
      (s.dev.faultRoom 0x0204 = true → s'.dev.logged 0x0204 = true) ∧ sameMemory s s') ∧
  -- ppsInEdge
  (∀ (s : State) (t phase : Nat), s.dev.alive = true →
    ∃ s', exec (.ppsInEdge t phase) s = .next s' ∧ s'.dev.reg R.CLK_EPOCH_PHASE = BitVec.ofNat 32 (phase % 32) ∧ sameMemory s s' ∧
      (s.dev.timeSource = 2 → s.dev.clk.ppsWritten = false → s.dev.clk.lastPps = none →
        s'.dev.clk.lastPps = some (s.dev.advanceTo t).time ∧ s'.dev.clk.lastEpoch = (s.dev.advanceTo t).now ∧ s'.dev.rbit R.CLK_STATUS 2 = false)) ∧
  -- ppsOutRise
  (∀ (s : State) (t : Nat), s.dev.alive = true → s.dev.fld R.CLK_PPS_OUT 7 0 ≠ 0 → (((s.dev.advanceTo t).time : Int) - s.dev.fld R.CLK_PPS_OUT 31 8) % 1600000000 = 0 →
    ∃ s', exec (.ppsOutRise t) s = .next s' ∧ s'.dev.clk.ppsOut = true ∧ s'.dev.clk.ppsAt = (s.dev.advanceTo t).now ∧ s'.dev.regs = s.dev.regs ∧ sameMemory s s') ∧
  -- ppsOutFall
  (∀ (s : State) (t : Nat), s.dev.alive = true → s.dev.clk.ppsOut = true → s.dev.clk.ppsAt + 1600000 * s.dev.fld R.CLK_PPS_OUT 7 0 ≤ (s.dev.advanceTo t).now →
    ∃ s', exec (.ppsOutFall t) s = .next s' ∧ s'.dev.clk.ppsOut = false ∧ s'.dev.regs = s.dev.regs ∧ sameMemory s s') ∧
  -- gptpMessage
  (∀ (s : State) (t ns : Nat), s.dev.alive = true → s.dev.rbit R.ETH_PTP_CFG 0 = true → s.dev.ethUp = true → s.dev.timeSource = 3 → s.dev.rbit R.CLK_TIME_CTRL 2 = false →
    ∃ s', exec (.gptpMessage t ns) s = .next s' ∧ s'.dev.clk.lastEpoch = (s.dev.advanceTo t).now ∧ s'.dev.rbit R.ETH_STATUS 3 = true ∧ s'.dev.rbit R.CLK_STATUS 2 = false ∧ sameMemory s s') ∧
  -- gptpSyncSend
  (∀ (s : State) (t : Nat), s.dev.alive = true → s.dev.rbit R.ETH_PTP_CFG 0 = true → s.dev.ethUp = true → s.dev.timeSource = 3 → s.dev.rbit R.CLK_TIME_CTRL 2 = true → s.dev.clk.ptpAt = none →
    ∃ s', exec (.gptpSyncSend t) s = .next s' ∧ s'.dev.clk.ptpAt = some (s.dev.advanceTo t).now ∧ sameMemory s s') ∧
  -- scheduledFrameStart
  (∀ (s : State) (t : Nat) (f : FrameRec), s.dev.alive = true → s.dev.seq.frame = some f → f.sched = true → f.startTick ≤ (s.dev.advanceTo t).now →
    ∃ s', exec (.scheduledFrameStart t) s = .next s' ∧ s'.dev.seq.frame = some { f with sched := false } ∧ sameMemory s s' ∧
      (s.dev.fld R.CLK_FRAME_AT_CTRL 15 2 = 0 → s'.dev.rbit R.CLK_FRAME_AT_CTRL 0 = false))

/-- Writable 64-bit pairs of CLK. A low-word write is held for its requester; the high-word write of the same requester commits
both halves; CLK_STEP commits a step, held in RANGING; CLK_FRAME_AT_CTRL arms a scheduled start. (02_clocks_and_time.md:
two-half rule, steps and scheduled frames.) -/
def Obligations.TimePairsComplete : Prop :=
  -- pairLowWrite
  (∀ (s : State) (src t addr b : Nat) (v : Word), s.dev.alive = true → s.dev.top.state ≠ .headframe → pairBase addr = some b →
    ∃ s', exec (.pairLowWrite src t addr v) s = .next s' ∧ (s'.dev.req src).pair = some (b, v) ∧
      (∀ a, a ≠ R.MGT_CNT_WR src → s'.dev.reg a = s.dev.reg a) ∧ sameMemory s s') ∧
  -- pairHighWrite
  (∀ (s : State) (src t addr b : Nat) (v lo : Word), s.dev.alive = true → s.dev.top.state ≠ .headframe → pairBase addr = some b → (s.dev.req src).pair = some (b, lo) →
    ∃ s', exec (.pairHighWrite src t addr v) s = .next s' ∧ (s'.dev.req src).pair = none ∧ s'.dev.reg b = lo ∧ s'.dev.reg (b + 4) = v ∧ sameMemory s s') ∧
  -- stepCommit
  (∀ (s : State) (src t : Nat) (v lo : Word), s.dev.alive = true → s.dev.top.state ≠ .headframe → s.dev.top.state ≠ .ranging → (s.dev.req src).pair = some (R.CLK_STEP, lo) →
    ∃ s', exec (.stepCommit src t v) s = .next s' ∧ s'.dev.reg R.CLK_STEP = lo ∧ s'.dev.reg (R.CLK_STEP + 4) = v ∧ s'.dev.rbit R.CLK_STATUS 3 = true ∧
      s'.dev.clk.timeBase = BitVec.ofInt 64 (((s.dev.advanceTo t).time : Int) + signed 64 (lo.toNat + 2 ^ 32 * v.toNat)) ∧ sameMemory s s') ∧
  -- frameAtArm
  (∀ (s : State) (src t : Nat) (v : Word), s.dev.alive = true → s.dev.top.state ≠ .headframe → bit v 0 = true → (s.dev.advanceTo t).time + 256 ≤ s.dev.reg64 R.CLK_FRAME_AT →
    ∃ s', exec (.frameAtArm src t v) s = .next s' ∧ s'.dev.reg R.CLK_FRAME_AT_CTRL = storedWord R.CLK_FRAME_AT_CTRL (s.dev.reg R.CLK_FRAME_AT_CTRL) v ∧ sameMemory s s')

/-- Fusing, revocation and attestation. FUSE_KEY and REVOKE start programming, which ends with the slot fused or revoked; ATTEST
takes the nonce and its end delivers the report, whose signature is a free constant (log entry 6). (03_headframe_boot.md: Lamp
room.) -/
def Obligations.LampRoomComplete : Prop :=
  -- fuseKey
  (∀ (s : State) (src t slot confirm : Nat), s.dev.alive = true → (s.dev.top.state = .armed ∨ s.dev.top.state = .held) → confirm % 65536 = 0xF05E →
    s.dev.cmdBusy R.LMP_FUSE_CMD = false → s.dev.boot.fusing = none → s.dev.boot.revoked.testBit (slot % 4) = false → s.dev.boot.fused.testBit (slot % 4) = false →
    ∃ s', exec (.fuseKey src t slot confirm) s = .next s' ∧ s'.dev.boot.fusing = some (slot % 4, false) ∧ s'.dev.fld R.LMP_FUSE_CMD 11 10 = 3 ∧
      s'.dev.rbit R.LMP_STATUS 10 = true ∧ sameMemory s s') ∧
  -- revoke
  (∀ (s : State) (src t slot confirm : Nat), s.dev.alive = true → (s.dev.top.state = .armed ∨ s.dev.top.state = .held) → confirm % 65536 = 0xF05E →
    s.dev.cmdBusy R.LMP_FUSE_CMD = false → s.dev.boot.fusing = none → s.dev.boot.revoked.testBit (slot % 4) = false → s.dev.boot.fused.testBit (slot % 4) = true →
    ∃ s', exec (.revoke src t slot confirm) s = .next s' ∧ s'.dev.boot.fusing = some (slot % 4, true) ∧ s'.dev.fld R.LMP_FUSE_CMD 11 10 = 3 ∧
      s'.dev.rbit R.LMP_STATUS 10 = true ∧ sameMemory s s') ∧
  -- fuseProgrammed
  (∀ (s : State) (t slot : Nat) (hash : List Word), s.dev.alive = true → slot < 4 → s.dev.boot.fusing = some (slot, false) →
    (∀ i < 8, hash.getD i 0 = s.dev.reg (R.LMP_FUSE_DATA i)) →
    ∃ s', exec (.fuseProgrammingDone t hash) s = .next s' ∧ s'.dev.boot.fusing = none ∧ s'.dev.boot.fused = s.dev.boot.fused ||| 2 ^ slot ∧
      s'.dev.fld R.LMP_FUSE_CMD 11 10 = 1 ∧ s'.dev.rbit R.LMP_STATUS 10 = false ∧
      (∀ i < 8, s'.dev.reg (R.LMP_KEYHASH (8 * slot + i)) = hash.getD i 0) ∧ sameMemory s s') ∧
  -- revocationProgrammed
  (∀ (s : State) (t slot : Nat) (hash : List Word), s.dev.alive = true → slot < 4 → s.dev.boot.fusing = some (slot, true) →
    ∃ s', exec (.fuseProgrammingDone t hash) s = .next s' ∧ s'.dev.boot.fusing = none ∧ s'.dev.boot.revoked = s.dev.boot.revoked ||| 2 ^ slot ∧
      s'.dev.boot.fused = s.dev.boot.fused ∧ s'.dev.fld R.LMP_FUSE_CMD 11 10 = 1 ∧ s'.dev.rbit R.LMP_STATUS 10 = false ∧ sameMemory s s') ∧
  -- attest
  (∀ (s : State) (src t : Nat), s.dev.alive = true → s.dev.top.state ≠ .headframe → s.dev.cmdBusy R.LMP_ATTEST_CMD = false → s.dev.boot.attest = none →
    ∃ s', exec (.attest src t) s = .next s' ∧ s'.dev.boot.attest = some ((List.range 8).map (fun i => s.dev.reg (R.LMP_ATTEST_NONCE i))) ∧
      s'.dev.reg R.LMP_ATTEST_CMD = cmdWord 1 0xFF 3 0 ∧ s'.dev.rbit R.LMP_STATUS 11 = true ∧ s'.dev.rbit R.LMP_STATUS 12 = false ∧ sameMemory s s') ∧
  -- attestDone
  (∀ (s : State) (t : Nat) (nonce : List Word), s.dev.alive = true → s.dev.boot.attest = some nonce →
    ∃ s', exec (.attestDone t) s = .next s' ∧ s'.dev.boot.attest = none ∧
      (∀ i < 132, s'.dev.reg (R.LMP_ATTEST_BUF i) = BitVec.ofNat 32 (leAt ((s.dev.advanceTo t).report nonce) (4 * i) 4)) ∧
      s'.dev.reg R.LMP_ATTEST_CMD = cmdWord 1 0xFF 1 0 ∧ s'.dev.rbit R.LMP_STATUS 11 = false ∧ s'.dev.rbit R.LMP_STATUS 12 = true ∧ sameMemory s s')

/-- Reading the scan program and the frame boundary. The first entry starts a frame at its start tick; each entry is read once, a
poisoned or invalid one skipped as the chapter says; a valid one becomes the run being issued; the boundary of a frame is
reported. (04_shot_sequencer.md: Scan program and frames.) -/
def Obligations.ScanReadingComplete : Prop :=
  -- frameFirstEntryRead
  (∀ (s : State) (t err : Nat), s.dev.alive = true → (s.dev.advanceTo t).canStartFrame = true →
    ∃ s', exec (.frameFirstEntryRead t err) s = .next s' ∧ s'.dev.seq.nextFrame = (s.dev.seq.nextFrame + 1) % 2 ^ 32 ∧
      s'.dev.seq.frame.map (fun f => (f.num, f.startTick, f.next)) =
        some (s.dev.seq.nextFrame, (s.dev.advanceTo t).frameStart, s.dev.fld R.SEQ_PROG_BASE 17 0 + 1) ∧
      s'.dev.seq.lastNom = [] ∧ s'.sram = s.sram ∧ s'.dram = s.dram) ∧
  -- scanEntryRead
  (∀ (s : State) (t err : Nat) (f : FrameRec), s.dev.alive = true → s.dev.top.state = .ranging → s.dev.seq.frame = some f → f.ended = false → f.run = none →
    ∃ s', exec (.scanEntryRead t err) s = .next s' ∧ s'.dev.seq.frame.map (fun g => (g.num, g.startTick, g.next)) = some (f.num, f.startTick, f.next + 1) ∧
      s'.dev.fld R.SEQ_ENTRY 17 0 = f.next % 2 ^ 18 ∧ s'.sram = s.sram ∧ s'.dram = s.dram) ∧
  -- entryTaken
  (∀ (s : State) (t : Nat) (f : FrameRec), s.dev.alive = true → s.dev.top.state = .ranging → s.dev.seq.frame = some f → f.ended = false → f.run = none → f.next < 262143 →
    s.sramPoison.contains ((scanBase + 16 * f.next) / 32 * 32) = false →
    (entryOf (memLe s.sram (scanBase + 16 * f.next) 16)).count ≠ 0 → (entryOf (memLe s.sram (scanBase + 16 * f.next) 16)).invalid = false →
    (runEmitters (entryOf (memLe s.sram (scanBase + 16 * f.next) 16)) f.enables).isEmpty = false →
    ∃ s', exec (.scanEntryRead t 0) s = .next s' ∧
      s'.dev.seq.frame.map (·.run) = some (some (entryOf (memLe s.sram (scanBase + 16 * f.next) 16), 0)) ∧ sameMemory s s') ∧
  -- entryPoisoned
  (∀ (s : State) (t err : Nat) (f : FrameRec), s.dev.alive = true → s.dev.top.state = .ranging → s.dev.seq.frame = some f → f.ended = false → f.run = none → f.next < 262143 →
    s.sramPoison.contains ((scanBase + 16 * f.next) / 32 * 32) = true → s.dev.faultRoom 0x0503 = true →
    ∃ s', exec (.scanEntryRead t err) s = .next s' ∧ s'.dev.seq.frame.map (·.run) = some none ∧ s'.dev.logged 0x0503 = true ∧ s'.sram = s.sram ∧ s'.dram = s.dram) ∧
  -- frameBoundary
  (∀ (s : State) (t : Nat) (p : Bool) (f : FrameRec), s.dev.alive = true → s.dev.seq.frame = some f → (s.dev.advanceTo t).boundaryDue f = true →
    ∃ s', exec (.frameBoundary t p) s = .next s' ∧ s'.dev.seq.frame.map (fun g => (g.num, g.boundary)) = some (f.num, true) ∧
      s'.dev.reg R.SEQ_FRAME = BitVec.ofNat 32 f.num ∧ s'.dev.shadow = [] ∧ s'.dev.clk.stepPend = none ∧ s'.dev.fld R.SEQ_STATUS 23 16 = 0 ∧ sameMemory s s')

/-- Issue, handover, settling and check-in of shots. A due shot takes a free tally slot; a handed-over slot changes its state; a
settle command goes to its port and ends by its tick or its timeout; a fired slot that checks in becomes free and is counted.
(04_shot_sequencer.md: Tally board and issue; 06_steering.md: settle commands.) -/
def Obligations.ShotIssueComplete : Prop :=
  -- shotIssue
  (∀ (s : State) (t predicted n e uid i : Nat) (f : FrameRec) (c : CellRec), s.dev.alive = true → s.dev.top.state = .ranging → (s.dev.advanceTo t).now % 4 = 0 →
    s.dev.seq.lastIssueEdge ≠ some (s.dev.advanceTo t).now → s.dev.seq.frame = some f → f.run = none → s.dev.nextShot = some (n, e, uid) →
    n ≤ (s.dev.advanceTo t).now + s.dev.fld R.SEQ_CTRL 31 16 → s.dev.freeSlotAt (s.dev.advanceTo t).now = some i → mget s.dev.seq.cells uid = some c →
    ∃ s', exec (.shotIssue t predicted) s = .next s' ∧
      (mget s'.dev.seq.tally i).map (fun x => (x.st, x.shotId, x.uid, x.emitter, x.nom, x.k)) = some (.issued, (s.dev.reg R.SEQ_NEXT_ID).toNat, uid, e, n, mgetD c.issued e 0) ∧
      s'.dev.reg R.SEQ_NEXT_ID = s.dev.reg R.SEQ_NEXT_ID + 1#32 ∧ mget s'.dev.seq.lastNom e = some n ∧
      s'.dev.seq.lastIssueEdge = some (s.dev.advanceTo t).now ∧ (mget s'.dev.seq.cells uid).map (fun x => mget x.issued e) = some (some (mgetD c.issued e 0 + 1)) ∧ sameMemory s s') ∧
  -- handover
  (∀ (s : State) (t : Nat), s.dev.alive = true →
    ∃ s', exec (.handover t) s = .next s' ∧
      s'.dev.seq.tally = s.dev.seq.tally.map (fun p => if p.2.st == .issued && decide (handEdge p.2.dec ≤ (s.dev.advanceTo t).now) then (p.1, { p.2 with st := .handed }) else p) ∧
      sameMemory s s') ∧
  -- settleCellCommanded
  (∀ (s : State) (t i : Nat) (f : FrameRec) (e : Entry), s.dev.alive = true → s.dev.seq.frame = some f → f.run = some (e, i) → e.steer = 1 → s.dev.seq.settleFor = none → s.dev.seq.settledAt = none →
    s.dev.seq.cells = [] → s.dev.seq.tally = [] →
    ∃ s', exec (.handover t) s = .next s' ∧ s'.dev.seq.settleFor = some (e.cellAt i) ∧ s'.dev.rbit R.SEQ_STATUS 1 = true ∧ sameMemory s s') ∧
  -- steeringSettled
  (∀ (s : State) (t cell : Nat), s.dev.alive = true → s.dev.seq.settleFor = some cell → s.dev.allSettled = true →
    ∃ s', exec (.steeringSettled t) s = .next s' ∧ s'.dev.seq.settleFor = none ∧ s'.dev.seq.settledAt = some (s.dev.advanceTo t).now ∧ s'.dev.regs = s.dev.regs ∧ sameMemory s s') ∧
  -- settleTimeout
  (∀ (s : State) (t port : Nat), s.dev.alive = true → port < 4 → (s.dev.port port).settling = true →
    (s.dev.port port).settleAt + 1600 * s.dev.fld (R.STR_SETTLE port) 23 8 ≤ (s.dev.advanceTo t).now → s.dev.faultRoom 0x0705 = true →
    ∃ s', exec (.settleTimeout t port) s = .next s' ∧ (s'.dev.port port).settling = false ∧ s'.dev.rbit (R.STR_STATUS port) 1 = true ∧ s'.dev.logged 0x0705 = true ∧ sameMemory s s') ∧
  -- checkIn
  (∀ (s : State) (t : Nat), s.dev.alive = true →
    ∃ s', exec (.checkIn t) s = .next s' ∧
      (∀ p, p ∈ s'.dev.seq.tally ↔ p ∈ s.dev.seq.tally ∧ ∀ q ∈ s.dev.seq.tally, q.1 = p.1 → ¬ (q.2.st = .fired ∧ q.2.dec + 6 + q.2.winStart + q.2.winLen ≤ (s.dev.advanceTo t).now)) ∧
      sameMemory s s') ∧
  -- checkInCounts
  (∀ (s : State) (t i : Nat) (sl : Slot), s.dev.alive = true → s.dev.seq.tally = [(i, sl)] → sl.st = .fired → sl.dec + 6 + sl.winStart + sl.winLen ≤ (s.dev.advanceTo t).now →
    ∃ s', exec (.checkIn t) s = .next s' ∧ s'.dev.seq.tally = [] ∧ s'.dev.reg64 R.SEQ_CNT_CHECKED_IN = (s.dev.reg64 R.SEQ_CNT_CHECKED_IN + 1) % 2 ^ 64 ∧
      mget s'.dev.seq.freedAt i = some (sl.dec + 6 + sl.winStart + sl.winLen) ∧ sameMemory s s')

/-- Confidence flags, squashes and the accounting check. A confidence flag or a squash cancels the cell's ISSUED slots and
unissued shots only; SEQ_SQUASH_CMD does the same by command; the accounting check enters HELD only when the counts disagree;
a tally parity error enters HELD; the tally window reads a snapshot. (04_shot_sequencer.md: Squash and accounting.) -/
def Obligations.SquashComplete : Prop :=
  -- confidenceFlag
  (∀ (s : State) (t cell frame : Nat) (c : CellRec), s.dev.alive = true → s.dev.rbit R.SEQ_CTRL 0 = true → s.dev.cellsAt cell frame = [c] → mget s.dev.seq.cells c.uid = some c → s.dev.cellOpen c = true →
    ∃ s', exec (.confidenceFlag t cell frame) s = .next s' ∧ mget s'.dev.seq.cells c.uid = some { c with flagHeld := true } ∧ s'.dev.regs = s.dev.regs ∧
      s'.dev.seq.tally = s.dev.seq.tally ∧ sameMemory s s') ∧
  -- squash
  (∀ (s : State) (t cell frame : Nat) (c : CellRec), s.dev.alive = true → s.dev.rbit R.SEQ_CTRL 0 = true → s.dev.cellsAt cell frame = [c] → mget s.dev.seq.cells c.uid = some c →
    c.flagHeld = true → c.minFired = true →
    ∃ s', exec (.squash t cell frame) s = .next s' ∧ (mget s'.dev.seq.cells c.uid).map (fun x => (x.cancelled, x.flagHeld)) = some (true, false) ∧
      (∀ p ∈ s'.dev.seq.tally, p.2.uid = c.uid → p.2.st ≠ .issued) ∧ sameMemory s s') ∧
  -- seqSquashCmd
  (∀ (s : State) (src t : Nat) (v : Word) (c : CellRec), s.dev.alive = true → s.dev.top.state = .ranging → s.dev.cmdBusy R.SEQ_SQUASH_CMD = false → bits v 7 0 = 1 →
    (s.dev.seq.cells.map (·.2)).filter (fun c => c.cell == s.dev.fld R.SEQ_SQUASH_CELL 23 0 && s.dev.cellOpen c) = [c] → mget s.dev.seq.cells c.uid = some c →
    ∃ s', exec (.seqSquashCmd src t v) s = .next s' ∧ (mget s'.dev.seq.cells c.uid).map (fun x => (x.cancelled, x.flagHeld)) = some (true, false) ∧
      s'.dev.reg R.SEQ_SQUASH_CMD = cmdWord v 0xFF 1 0 ∧ sameMemory s s') ∧
  -- accountingCheck
  (∀ (s : State) (t : Nat), s.dev.alive = true → s.dev.accountingHolds = false →
    ∃ s', exec (.accountingCheck t) s = .next s' ∧ s'.dev.top.state = .held ∧ sameMemory s s') ∧
  -- tallyParityError
  (∀ (s : State) (t : Nat), s.dev.alive = true →
    ∃ s', exec (.tallyParityError t) s = .next s' ∧ s'.dev.top.state = .held ∧ sameMemory s s') ∧
  -- tallySnapshotRead
  (∀ (s : State) (src t slot word : Nat), s.dev.alive = true → s.dev.reg (R.FMN_ALLOC 21) ≠ 0 →
    ∃ s', exec (.tallySnapshotRead src t slot word) s = .next s' ∧
      (s'.dev.req src).lastData = [(snapRead (s.dev.req src).tallySnap ((s.dev.advanceTo t).tallyWords slot) slot word).1] ∧
      (s'.dev.req src).tallySnap = (snapRead (s.dev.req src).tallySnap ((s.dev.advanceTo t).tallyWords slot) slot word).2.1 ∧
      (s'.dev.req src).lastStatus = 0 ∧ s'.dev.seq = s.dev.seq ∧ sameMemory s s')

/-- The admission test, the fire instant and the inhibits. A HANDED shot with no inhibit and room in every budget window is
admitted and debited; with an inhibit or no room it is withheld, counted under its cause and its slot freed; an admitted shot
fires at its instant; INHIBIT_n sets and clears its inhibit; EMIT_EN counts as an inhibit until it has settled.
(05_emitters_eye_safety.md: Emission gate and budgets.) -/
def Obligations.EmissionGateComplete : Prop :=
  -- admitted
  (∀ (s : State) (t i : Nat) (sl : Slot), s.dev.alive = true →
    s.dev.seq.tally.filter (fun p => p.2.st == .handed && !p.2.admitted && decide (p.2.dec ≤ (s.dev.advanceTo t).now)) = [(i, sl)] →
    s.dev.inhibited sl.emitter sl.dec = false → s.dev.budgetPasses sl.emitter sl.dec = true → s.dev.emitSteerNone sl.emitter = true →
    ∃ s', exec (.admissionTest t) s = .next s' ∧ mget s'.dev.seq.tally i = some { sl with admitted := true } ∧ s'.dev.regs = s.dev.regs ∧ sameMemory s s') ∧
  -- withheldInhibited
  (∀ (s : State) (t i : Nat) (sl : Slot), s.dev.alive = true →
    s.dev.seq.tally.filter (fun p => p.2.st == .handed && !p.2.admitted && decide (p.2.dec ≤ (s.dev.advanceTo t).now)) = [(i, sl)] →
    s.dev.inhibited sl.emitter sl.dec = true →
    ∃ s', exec (.admissionTest t) s = .next s' ∧ mget s'.dev.seq.tally i = none ∧ s'.dev.reg64 R.EMT_CNT_REF_INHIBIT = (s.dev.reg64 R.EMT_CNT_REF_INHIBIT + 1) % 2 ^ 64 ∧
      s'.dev.reg64 R.SEQ_CNT_WITHHELD = (s.dev.reg64 R.SEQ_CNT_WITHHELD + 1) % 2 ^ 64 ∧ sameMemory s s') ∧
  -- withheldBudget
  (∀ (s : State) (t i : Nat) (sl : Slot), s.dev.alive = true →
    s.dev.seq.tally.filter (fun p => p.2.st == .handed && !p.2.admitted && decide (p.2.dec ≤ (s.dev.advanceTo t).now)) = [(i, sl)] → sl.emitter < 32 →
    s.dev.inhibited sl.emitter sl.dec = false → s.dev.budgetPasses sl.emitter sl.dec = false →
    ∃ s', exec (.admissionTest t) s = .next s' ∧ mget s'.dev.seq.tally i = none ∧ s'.dev.rbit R.EMT_STATUS (12 + s.dev.emitGroup sl.emitter) = true ∧
      s'.dev.reg64 R.EMT_CNT_REF_BUDGET = (s.dev.reg64 R.EMT_CNT_REF_BUDGET + 1) % 2 ^ 64 ∧ sameMemory s s') ∧
  -- fire
  (∀ (s : State) (t i : Nat) (sl : Slot), s.dev.alive = true → sl.emitter < 32 →
    s.dev.seq.tally.filter (fun p => p.2.admitted && p.2.st == .handed && decide (p.2.dec + 6 ≤ (s.dev.advanceTo t).now)) = [(i, sl)] →
    ∃ s', exec (.fire t) s = .next s' ∧ (mget s'.dev.seq.tally i).map (fun x => (x.st, x.shotId, x.admitted)) = some (.fired, sl.shotId, false) ∧
      s'.dev.reg64 R.SEQ_CNT_FIRED = (s.dev.reg64 R.SEQ_CNT_FIRED + 1) % 2 ^ 64 ∧
      s'.dev.gat.wins.getLast?.map (fun w => (w.shotId, w.openT, w.len)) = some (sl.shotId, sl.dec + 6 + sl.winStart, sl.winLen) ∧
      s'.dev.emt.mon.getLast?.map (fun r => (r.emitter, r.fire, r.nominal)) = some (sl.emitter, sl.dec + 6, s.dev.emitNominal sl.emitter) ∧ sameMemory s s') ∧
  -- inhibitAssert
  (∀ (s : State) (t : Nat), s.dev.alive = true →
    ∃ s', exec (.inhibitAssert t) s = .next s' ∧ s'.dev.emt.pinLow = true ∧ s'.dev.rbit R.EMT_STATUS 0 = true ∧
      (s.dev.rbit R.EMT_STATUS 0 = false → s'.dev.rbit R.EMT_INHIBIT_STICKY 0 = true ∧ mget s'.dev.emt.capAt 0 = some ((s.dev.advanceTo t).now + 2)) ∧
      s'.dev.top = s.dev.top ∧ sameMemory s s') ∧
  -- inhibitNRelease
  (∀ (s : State) (t : Nat), s.dev.alive = true →
    ∃ s', exec (.inhibitNRelease t) s = .next s' ∧ s'.dev.emt.pinLow = false ∧ s'.dev.rbit R.EMT_STATUS 0 = false ∧
      s'.dev.reg R.EMT_INHIBIT_STICKY = s.dev.reg R.EMT_INHIBIT_STICKY ∧ s'.dev.top = s.dev.top ∧ sameMemory s s') ∧
  -- enSettleExpiry
  (∀ (s : State) (t : Nat), s.dev.alive = true → s.dev.emt.emitEn = true → s.dev.emt.enSince + 1600 * s.dev.fld R.EMT_CTRL 15 8 ≤ (s.dev.advanceTo t).now →
    ∃ s', exec (.enSettleExpiry t) s = .next s' ∧ s'.dev.rbit R.EMT_STATUS 2 = false ∧ s'.dev.emt = s.dev.emt ∧ sameMemory s s')

/-- Emission monitors, budget windows and reinstatement. A monitor conversion is compared with the nominal energy and corrects the
debit; stray pulses and mismatches are counted and, at their limits, remove the emitter; buckets move with time; REINSTATE
returns an emitter; a parity error of the budget memory enters HELD. (05_emitters_eye_safety.md: Monitors and faults.) -/
def Obligations.EmissionMonitorComplete : Prop :=
  -- monConversion
  (∀ (s : State) (t e result : Nat) (r : MonRec), s.dev.alive = true → e < 32 →
    s.dev.emt.mon.find? (fun r => r.emitter == e && r.result.isNone && decide (r.done ≤ (s.dev.advanceTo t).now)) = some r → result ≤ 1023 →
    (s.dev.rbit R.EMT_CTRL 0 && r.checked) = false →
    ∃ s', exec (.monConversion t e result) s = .next s' ∧ s'.dev.fld (R.EMT_MON_LAST e) 15 0 = result + 1024 ∧
      s'.dev.emt.mon = s.dev.emt.mon.map (fun x => if x == r then { x with result := some result } else x) ∧ sameMemory s s') ∧
  -- monConversionStrong
  (∀ (s : State) (t e result : Nat) (r : MonRec), s.dev.alive = true → e < 32 →
    s.dev.emt.mon.find? (fun r => r.emitter == e && r.result.isNone && decide (r.done ≤ (s.dev.advanceTo t).now)) = some r →
    (s.dev.rbit R.EMT_CTRL 0 && r.checked) = true → 1023 ≤ result →
    ∃ s', exec (.monConversion t e result) s = .next s' ∧ s'.dev.top.state = .held ∧ sameMemory s s') ∧
  -- monDebitCorrection
  (∀ (s : State) (t : Nat), s.dev.alive = true →
    ∃ s', exec (.monDebitCorrection t) s = .next s' ∧
      s'.dev.emt.mon = s.dev.emt.mon.filter (fun r => !(r.result.isSome && decide (r.apply ≤ (s.dev.advanceTo t).now))) ∧ s'.dev.regs = s.dev.regs ∧
      (s.dev.rbit R.EMT_CTRL 0 = false → s'.dev.emt.wins = s.dev.emt.wins) ∧ sameMemory s s') ∧
  -- strayMonPulse
  (∀ (s : State) (t e : Nat), s.dev.alive = true → s.dev.rbit R.EMT_CTRL 0 = true → s.dev.inMonGate e (s.dev.advanceTo t).now = false →
    ∃ s', exec (.strayMonPulse t e) s = .next s' ∧ (mgetD s.dev.emt.stray e 0 = 4 → s'.dev.top.state = .held) ∧
      (mgetD s.dev.emt.stray e 0 ≠ 4 → s'.dev.top = s.dev.top ∧ s'.dev.fld R.EMT_CNT_STRAY 31 0 = satN 4294967295 (s.dev.fld R.EMT_CNT_STRAY 31 0 + 1) ∧ mget s'.dev.emt.stray e = some (mgetD s.dev.emt.stray e 0 + 1)) ∧ sameMemory s s') ∧
  -- budgetBucketBoundary
  (∀ (s : State) (t : Nat), s.dev.alive = true →
    ∃ s', exec (.budgetBucketBoundary t) s = .next s' ∧ s'.dev.regs = s.dev.regs ∧ sameMemory s s' ∧
      (∀ g w, w < 3 → s'.dev.winSum g w (s.dev.advanceTo t).now = s.dev.winSum g w (s.dev.advanceTo t).now)) ∧
  -- emtReinstate
  (∀ (s : State) (src t e : Nat), s.dev.alive = true → (s.dev.top.state = .armed ∨ s.dev.top.state = .ranging) → e < 32 → s.dev.cmdBusy R.EMT_CMD = false →
    s.dev.rbit R.EMT_REMOVED e = true → s.dev.faultCleared 0x0602 = true →
    ∃ s', exec (.emtReinstate src t e) s = .next s' ∧ s'.dev.top.rejoining = s.dev.top.rejoining ++ [.emitter e] ∧
      s'.dev.reg R.EMT_CMD = cmdWord (BitVec.ofNat 32 (1 + 2 ^ 24 * e)) 0x1F0000FF 1 0 ∧ sameMemory s s') ∧
  -- budgetParityError
  (∀ (s : State) (t : Nat), s.dev.alive = true →
    ∃ s', exec (.budgetParityError t) s = .next s' ∧ s'.dev.top.state = .held ∧ sameMemory s s')

/-- Steering ports. Position samples move the port's lock; a lost lock times out with the port's removal; REINSTATE returns it;
polygon indexes and their timeout; a mode write is accepted outside RANGING and refused in it. Log entries 16 and 28 name the
roundings. (06_steering.md: Ports, lock and registers.) -/
def Obligations.SteeringComplete : Prop :=
  -- positionSample
  (∀ (s : State) (t port : Nat) (a b : Int) (unitDone unitOk : Bool), s.dev.alive = true → port < 4 →
    ∃ s', exec (.positionSample t port a b unitDone unitOk) s = .next s' ∧
      (s'.dev.port port).pos = positionCode a b ∧ (s'.dev.port port).vel = positionCode a b - (s.dev.port port).pos ∧ (s'.dev.port port).tick = (s.dev.advanceTo t).now ∧
      s'.dev.fld (R.STR_POS port) 15 0 = unsigned 16 (positionCode a b) ∧ s'.dev.top.state = s.dev.top.state ∧ s'.dev.seq = s.dev.seq ∧ sameMemory s s') ∧
  -- relockTimeout
  (∀ (s : State) (t port x : Nat), s.dev.alive = true → port < 4 → (s.dev.port port).lostAt = some x → s.dev.strRuns port = true → s.dev.rbit (R.STR_STATUS port) 0 = false →
    x + 1600000 * s.dev.fld (R.STR_CTRL port) 15 8 ≤ (s.dev.advanceTo t).now → s.dev.faultRoom 0x0702 = true →
    ∃ s', exec (.relockTimeout t port) s = .next s' ∧ s'.dev.isRemoved (.steering port) = true ∧ s'.dev.logged 0x0702 = true ∧
      s'.dev.rbit (R.STR_STATUS port) 2 = true ∧ (s'.dev.port port).lostAt = none ∧ s'.dev.fld (R.STR_DRV port) 15 0 = s.dev.fld (R.STR_PARK port) 15 0 ∧ sameMemory s s') ∧
  -- strReinstate
  (∀ (s : State) (src t port : Nat), s.dev.alive = true → port < 4 → (s.dev.top.state = .armed ∨ s.dev.top.state = .ranging) → s.dev.cmdBusy (R.STR_CMD port) = false →
    s.dev.isRemoved (.steering port) = true → s.dev.faultCleared (s.dev.port port).cause = true →
    ∃ s', exec (.strReinstate src t port) s = .next s' ∧ s'.dev.isRemoved (.steering port) = false ∧ s'.dev.rbit (R.STR_STATUS port) 2 = false ∧
      (s'.dev.port port).cause = 0 ∧ s'.dev.reg (R.STR_CMD port) = cmdWord 1 0xFF 1 0 ∧ sameMemory s s') ∧
  -- polygonIndex
  (∀ (s : State) (t port : Nat), s.dev.alive = true → port < 4 →
    ∃ s', exec (.polygonIndex t port) s = .next s' ∧ (s'.dev.port port).lastIdx = (s.dev.advanceTo t).now ∧ (s'.dev.port port).idxSeen = (s.dev.port port).idxSeen + 1 ∧
      (s'.dev.port port).period = (if (s.dev.port port).idxSeen = 0 then 0 else (s.dev.advanceTo t).now - (s.dev.port port).lastIdx) ∧ s'.dev.top.state = s.dev.top.state ∧ sameMemory s s') ∧
  -- indexTimeout
  (∀ (s : State) (t port : Nat), s.dev.alive = true → port < 4 → s.dev.strMode port = 2 → (s.dev.port port).period ≠ 0 →
    2 * (s.dev.port port).lastIdx + 3 * (s.dev.port port).period ≤ 2 * (s.dev.advanceTo t).now →
    ∃ s', exec (.indexTimeout t port) s = .next s' ∧ s'.dev.rbit (R.STR_STATUS port) 0 = false ∧ s'.dev.rbit R.EMT_STATUS (8 + port) = true ∧ s'.dev.top.state = s.dev.top.state ∧ sameMemory s s') ∧
  -- strModeWrite
  (∀ (s : State) (src t port : Nat) (v : Word), s.dev.alive = true → port < 4 → (s.dev.top.state = .armed ∨ s.dev.top.state = .held) →
    ∃ s', exec (.strModeWrite src t port v) s = .next s' ∧ s'.dev.reg (R.STR_CTRL port) = (clampWrite (R.STR_CTRL port) v &&& 0xFFFFFF7F#32) ∧
      (s'.dev.req src).lastStatus = 0 ∧ s'.dev.top.state = s.dev.top.state ∧ sameMemory s s') ∧
  -- strModeRefused
  (∀ (s : State) (src t port : Nat) (v : Word), s.dev.alive = true → port < 4 → s.dev.top.state = .ranging → bits (clampWrite (R.STR_CTRL port) v &&& 0xFFFFFF7F#32) 2 1 ≠ s.dev.strMode port →
    ∃ s', exec (.strModeWrite src t port v) s = .next s' ∧ s'.dev.strMode port = s.dev.strMode port ∧ s'.dev.rbit (R.STR_STATUS port) 5 = true ∧ sameMemory s s')

/-- The return front end and the windows. Edges open and complete events, or are counted lost when the buffer is full; pending
writes come into force at window boundaries; the settle ends after 12 ticks; meter rounds close; supplies, lines, comparators
and trims that fail remove their units, and REINSTATE returns them; a window opens for a fired shot. (07_return_front_end.md:
Events, ambient control and faults; 08_gating_and_verdicts.md: Windows.) -/
def Obligations.FrontEndComplete : Prop :=
  -- leadingEdge
  (∀ (s : State) (t ch fine : Nat), s.dev.alive = true → ch < 256 → s.dev.rbit (R.RFE_CTRL ch) 0 = true → s.dev.chRemoved ch = false →
    (∀ x, (s.dev.ch ch).lastEdge = some x → x + 12 ≤ (s.dev.advanceTo t).now) →
    ∃ s', exec (.leadingEdge t ch fine) s = .next s' ∧ (s'.dev.ch ch).lastEdge = some (s.dev.advanceTo t).now ∧
      (s'.dev.ch ch).events.map (fun e => (e.tick, e.fine)) = (s.dev.ch ch).events.map (fun e => (e.tick, e.fine)) ++ [((s.dev.advanceTo t).now, fine % 32)] ∧
      s'.dev.reg64 (R.RFE_CNT_EVENT ch) = (s.dev.reg64 (R.RFE_CNT_EVENT ch) + 1) % 2 ^ 64 ∧ sameMemory s s') ∧
  -- leadingEdgeLost
  (∀ (s : State) (t ch fine x : Nat), s.dev.alive = true → ch < 256 → s.dev.rbit (R.RFE_CTRL ch) 0 = true → s.dev.chRemoved ch = false →
    (s.dev.ch ch).lastEdge = some x → (s.dev.advanceTo t).now < x + 12 →
    ∃ s', exec (.leadingEdge t ch fine) s = .next s' ∧ (s'.dev.ch ch).lastEdge = some x ∧
      (s'.dev.ch ch).events = (s.dev.ch ch).events.map (fun e => if e.tick = x then { e with lost := true, pileup := true } else e) ∧
      s'.dev.reg64 (R.RFE_CNT_LOST ch) = (s.dev.reg64 (R.RFE_CNT_LOST ch) + 1) % 2 ^ 64 ∧ sameMemory s s') ∧
  -- eventComplete
  (∀ (s : State) (t ch width : Nat) (hi : Bool) (e : TdcEvent), s.dev.alive = true → ch < 256 → (s.dev.ch ch).events.find? (fun e => !e.complete) = some e →
    Nat.min (e.tick + Nat.max 12 (satN 31 width)) (e.tick + 31) ≤ (s.dev.advanceTo t).now →
    ∃ s', exec (.eventComplete t ch width hi) s = .next s' ∧
      s'.dev.reg (R.RFE_LAST ch) = BitVec.ofNat 32 (eventRecord (e.tick % 4096) e.fine (satN 31 width) hi
        (e.pileup || (s.dev.fld (R.RFE_CTRL ch) 12 8 != 0 && decide (s.dev.fld (R.RFE_CTRL ch) 12 8 ≤ satN 31 width)))) ∧
      (s'.dev.ch ch).events.length = (s.dev.ch ch).events.length ∧ sameMemory s s') ∧
  -- windowBoundaryApply
  (∀ (s : State) (t ch : Nat), s.dev.alive = true → ch < 256 →
    ∃ s', exec (.windowBoundaryApply t ch) s = .next s' ∧ (s'.dev.ch ch).pend = [] ∧ (s'.dev.ch ch).upReq = false ∧ (s'.dev.ch ch).downReq = false ∧
      s'.dev.rbit (R.RFE_STATUS ch) 2 = s'.dev.rbit (R.RFE_CTRL ch) 2 ∧ s'.dev.fld (R.RFE_STATUS ch) 17 8 = s'.dev.thrEff ch ∧
      sameMemory s s') ∧
  -- pendingWriteApplied
  (∀ (s : State) (t ch : Nat) (v : Word), s.dev.alive = true → ch < 256 → (s.dev.ch ch).pend = [(R.RFE_CTRL ch, v)] →
    ∃ s', exec (.windowBoundaryApply t ch) s = .next s' ∧ s'.dev.reg (R.RFE_CTRL ch) = v ∧ (s'.dev.ch ch).pend = [] ∧
      (bits v 2 2 = s.dev.fld (R.RFE_CTRL ch) 2 2 ∨ (s'.dev.ch ch).settleFrom = some (s.dev.advanceTo t).now) ∧ sameMemory s s') ∧
  -- settleEnd
  (∀ (s : State) (t ch x : Nat), s.dev.alive = true → ch < 256 → (s.dev.ch ch).settleFrom = some x → x + 12 ≤ (s.dev.advanceTo t).now →
    ∃ s', exec (.settleEnd t ch) s = .next s' ∧ (s'.dev.ch ch).settleFrom = none ∧ s'.dev.rbit (R.RFE_STATUS ch) 3 = false ∧ sameMemory s s') ∧
  -- rfeModeWrite
  (∀ (s : State) (src t ch : Nat) (v : Word), s.dev.alive = true → ch < 256 → (s.dev.top.state = .armed ∨ s.dev.top.state = .held) → (s.dev.ch ch).pend = [] →
    ∃ s', exec (.rfeModeWrite src t ch v) s = .next s' ∧ s'.dev.reg (R.RFE_CTRL ch) = v &&& 0x1F1F#32 ∧ (s'.dev.ch ch).pend = [] ∧ (s'.dev.req src).lastStatus = 0 ∧ sameMemory s s') ∧
  -- rfeModeRefused
  (∀ (s : State) (src t ch : Nat) (v : Word), s.dev.alive = true → ch < 256 → s.dev.top.state = .ranging → s.dev.scheduled ch = true → bits (v &&& 0x1F1F#32) 1 1 ≠ s.dev.fld (R.RFE_CTRL ch) 1 1 →
    ∃ s', exec (.rfeModeWrite src t ch v) s = .next s' ∧ s'.dev.fld (R.RFE_CTRL ch) 1 1 = s.dev.fld (R.RFE_CTRL ch) 1 1 ∧ s'.dev.rbit (R.RFE_STATUS ch) 18 = true ∧ sameMemory s s') ∧
  -- meterRoundClose
  (∀ (s : State) (t : Nat), s.dev.alive = true → (s.dev.gat.round + 1) * 16384 + 36 ≤ (s.dev.advanceTo t).now →
    ∃ s', exec (.meterRoundClose t) s = .next s' ∧ s'.dev.gat.meterLast = s.dev.gat.meter ∧ s'.dev.gat.meterNext = [] ∧ s'.dev.gat.hadWinNext = [] ∧
      s'.dev.gat.round = ((s.dev.advanceTo t).now - 36) / 16384 ∧ sameMemory s s') ∧
  -- quadrantSupplyTrip
  (∀ (s : State) (t q : Nat), s.dev.alive = true → q < 4 → s.dev.faultRoom 0x0801 = true →
    ∃ s', exec (.quadrantSupplyTrip t q) s = .next s' ∧ s'.dev.isRemoved (.quadrant q) = true ∧ s'.dev.logged 0x0801 = true ∧
      s'.dev.rbit R.RFE_GLOBAL_STATUS q = false ∧ s'.dev.rbit R.RFE_GLOBAL_STATUS (4 + q) = true ∧ s'.dev.rbit (R.RFE_STATUS (64 * q)) 1 = true ∧
      s'.dev.rbit (R.RFE_STATUS (64 * q + 63)) 1 = true ∧ s'.dev.top.state = s.dev.top.state ∧ sameMemory s s') ∧
  -- lineMonitorGood
  (∀ (s : State) (t ch tap : Nat), s.dev.alive = true → ch < 256 → 29 ≤ tap → tap ≤ 33 →
    ∃ s', exec (.lineMonitorCheck t ch tap) s = .next s' ∧ s'.dev.rbit (R.RFE_STATUS ch) 19 = false ∧ (s'.dev.ch ch).driftRounds = 0 ∧ s'.dev.top = s.dev.top ∧ sameMemory s s') ∧
  -- lineMonitorBad
  (∀ (s : State) (t ch tap : Nat), s.dev.alive = true → ch < 256 → (tap < 29 ∨ 33 < tap) →
    ∃ s', exec (.lineMonitorCheck t ch tap) s = .next s' ∧ s'.dev.rbit (R.RFE_STATUS ch) 19 = true ∧ (s'.dev.ch ch).driftRounds = (s.dev.ch ch).driftRounds + 1 ∧
      ((s.dev.ch ch).driftRounds = 63 → s'.dev.isRemoved (.channel ch) = true) ∧ sameMemory s s') ∧
  -- comparatorStuck
  (∀ (s : State) (t ch : Nat), s.dev.alive = true → ch < 256 → s.dev.isRemoved (.channel ch) = false → s.dev.faultRoom 0x0804 = true →
    ∃ s', exec (.comparatorStuck t ch) s = .next s' ∧ s'.dev.isRemoved (.channel ch) = true ∧ s'.dev.logged 0x0804 = true ∧ (s'.dev.ch ch).cause = 0x0804 ∧
      (s'.dev.ch ch).events = [] ∧ s'.dev.rbit (R.RFE_STATUS ch) 20 = true ∧ s'.dev.rbit (R.RFE_STATUS ch) 1 = true ∧ sameMemory s s') ∧
  -- trimParityError
  (∀ (s : State) (t ch : Nat), s.dev.alive = true → ch < 256 → s.dev.isRemoved (.channel ch) = false → s.dev.faultRoom 0x0805 = true →
    ∃ s', exec (.trimParityError t ch) s = .next s' ∧ s'.dev.isRemoved (.channel ch) = true ∧ s'.dev.logged 0x0805 = true ∧ (s'.dev.ch ch).cause = 0x0805 ∧
      s'.dev.rbit (R.RFE_STATUS ch) 1 = true ∧ s'.dev.rbit (R.RFE_STATUS ch) 0 = false ∧ sameMemory s s') ∧
  -- reinstateCh
  (∀ (s : State) (src t ch : Nat) (low : Bool), s.dev.alive = true → ch < 256 → (s.dev.top.state = .armed ∨ s.dev.top.state = .ranging) → s.dev.cmdBusy R.RFE_CMD = false →
    s.dev.isRemoved (.quadrant (ch / 64)) = false → s.dev.isRemoved (.channel ch) = true → s.dev.faultCleared (s.dev.ch ch).cause = true → ((s.dev.ch ch).cause = 0x0804 → low = true) →
    ∃ s', exec (.reinstateCh src t ch low) s = .next s' ∧ s'.dev.top.rejoining = s.dev.top.rejoining ++ [.channel ch] ∧
      s'.dev.reg R.RFE_CMD = cmdWord (BitVec.ofNat 32 (1 + 2 ^ 24 * ch)) 0xFF0000FF 1 0 ∧ sameMemory s s') ∧
  -- reinstateQuad
  (∀ (s : State) (src t q : Nat), s.dev.alive = true → q < 4 → (s.dev.top.state = .armed ∨ s.dev.top.state = .ranging) → s.dev.cmdBusy R.RFE_CMD = false →
    s.dev.isRemoved (.quadrant q) = true → s.dev.faultCleared 0x0801 = true → s.dev.supplyBad (.fe q) = false →
    ∃ s', exec (.reinstateQuad src t q) s = .next s' ∧ s'.dev.top.rejoining = s.dev.top.rejoining ++ [.quadrant q] ∧
      s'.dev.reg R.RFE_CMD = cmdWord (BitVec.ofNat 32 (2 + 2 ^ 24 * q)) 0xFF0000FF 1 0 ∧ sameMemory s s') ∧
  -- windowOpen
  (∀ (s : State) (t : Nat) (w : Win), s.dev.alive = true → s.dev.gat.wins = [w] → w.opened = false → w.openT ≤ (s.dev.advanceTo t).now →
    ∃ s', exec (.windowOpen t) s = .next s' ∧ s'.dev.gat.wins = [{ w with opened := true }] ∧ s'.dev.seq.tally = s.dev.seq.tally ∧ sameMemory s s')

/-- Event gating and verdicts. An event outside every window is a tailing; one inside is recorded for its block; a verdict of a
block is clean or tainted; a committed event enters the histogram; one of a poisoned record is dropped.
(08_gating_and_verdicts.md: Stages, verdicts and rollback.) -/
def Obligations.GatingComplete : Prop :=
  -- eventOutsideWindows
  (∀ (s : State) (t ch : Nat) (e : TdcEvent) (r : List TdcEvent), s.dev.alive = true → ch < 256 → s.dev.gat.waiting = [] → (s.dev.ch ch).events = e :: r → e.complete = true →
    s.dev.chRemoved ch = false → s.dev.takingWin ch e.tick = none →
    ∃ s', exec (.eventArrival t ch) s = .next s' ∧ (s'.dev.ch ch).events = r ∧ s'.dev.reg64 (R.GAT_TAIL_TOTAL 0) = (s.dev.reg64 (R.GAT_TAIL_TOTAL 0) + 1) % 2 ^ 64 ∧
      s'.dev.gat.waiting = [] ∧ sameMemory s s') ∧
  -- eventArrival
  (∀ (s : State) (t ch : Nat) (e : TdcEvent) (r : List TdcEvent) (w : Win), s.dev.alive = true → ch < 256 → s.dev.gat.waiting = [] → (s.dev.ch ch).events = e :: r → e.complete = true →
    s.dev.chRemoved ch = false → s.dev.takingWin ch e.tick = some w → e.settle = false → bits (s.dev.portCfgAt ch) 20 16 ≤ e.width →
    ∃ s', exec (.eventArrival t ch) s = .next s' ∧ (s'.dev.ch ch).events = r ∧
      s'.dev.gat.waiting = [{ ch := ch, tick := e.tick, fine := e.fine, bin := e.tick - w.openT, width := e.width, hi := e.hi, pileup := e.pileup, shotId := w.shotId }] ∧
      s'.dev.regs = s.dev.regs ∧ sameMemory s s') ∧
  -- verdictClean
  (∀ (s : State) (t : Nat) (b : Block), s.dev.alive = true → s.dev.gat.waiting = [] → s.dev.gat.blocks = [b] → s.dev.gat.prov = [] → s.dev.gat.wins = [] → s.dev.hst.updates = [] →
    b.judged = false → b.checked = false → b.unchecked = false → b.trunc = [] → b.closedAt.isSome = true → b.x + 48 ≤ (s.dev.advanceTo t).now → (s.dev.advanceTo t).now ≤ b.x + 1280 →
    ∃ s', exec (.verdict t) s = .next s' ∧ s'.dev.gat.blocks = [] ∧ s'.dev.reg64 R.GAT_CNT_BLOCKS = (s.dev.reg64 R.GAT_CNT_BLOCKS + 1) % 2 ^ 64 ∧
      s'.dev.gat.latLast = (s.dev.advanceTo t).now - b.x ∧ s'.dev.top = s.dev.top ∧ sameMemory s s') ∧
  -- verdictTainted
  (∀ (s : State) (t : Nat) (b : Block) (e : ProvEntry) (sh : Shadow), s.dev.alive = true → s.dev.gat.waiting = [] → s.dev.gat.blocks = [b] → s.dev.gat.prov = [e] → s.dev.gat.wins = [] → s.dev.hst.updates = [] →
    s.dev.gat.shadows.map (·.2) = [sh] → sh.emitter = b.emitter → sh.blockSeq = b.seq → kOf b.k b.shots ≤ sh.max → sh.parity = false → e.emitter = b.emitter → e.blockSeq = b.seq →
    b.judged = false → b.checked = true → b.trunc = [] → b.closedAt.isSome = true → b.x + 48 ≤ (s.dev.advanceTo t).now →
    ∃ s', exec (.verdict t) s = .next s' ∧ s'.dev.gat.blocks = [] ∧ s'.dev.gat.prov = [] ∧ s'.dev.gat.shadows = [] ∧
      s'.dev.reg64 R.GAT_CNT_TAINTED = (s.dev.reg64 R.GAT_CNT_TAINTED + 1) % 2 ^ 64 ∧
      s'.dev.reg64 (R.GAT_TAIL_TOTAL 6) = (s.dev.reg64 (R.GAT_TAIL_TOTAL 6) + 1) % 2 ^ 64 ∧ s'.dev.hst.updates = [] ∧ sameMemory s s') ∧
  -- eventCommit
  (∀ (s : State) (t err k : Nat) (e : ProvEntry) (h : Hist), s.dev.alive = true → err < 2 →
    s.dev.gat.prov.find? (fun e => e.committing && (match mget s.dev.gat.lastCommit e.ch with | some x => decide (x + 4 ≤ (s.dev.advanceTo t).now) | none => true)) = some e →
    s.dev.targetHist e.ch e.uid e.reattr e.measured = some k → mget s.dev.hst.hists k = some h →
    ∃ s', exec (.eventCommit t err) s = .next s' ∧ s'.dev.gat.prov = s.dev.gat.prov.erase e ∧
      s'.dev.hst.updates = s.dev.hst.updates ++ [{ ch := e.ch, slot := k % 2, bin := nbits e.record 11 0, fine := nbits e.record 16 12, emitter := e.emitter, blockSeq := e.blockSeq }] ∧
      (mget s'.dev.hst.hists k).map (·.events) = some (satN 0xFFFFFFFF (h.events + 1)) ∧ sameMemory s s') ∧
  -- eventCommitPoisoned
  (∀ (s : State) (t err : Nat) (e : ProvEntry), s.dev.alive = true → 2 ≤ err →
    s.dev.gat.prov.find? (fun e => e.committing && (match mget s.dev.gat.lastCommit e.ch with | some x => decide (x + 4 ≤ (s.dev.advanceTo t).now) | none => true)) = some e →
    ∃ s', exec (.eventCommit t err) s = .next s' ∧ s'.dev.gat.prov = s.dev.gat.prov.erase e ∧ s'.dev.hst.updates = s.dev.hst.updates ∧ sameMemory s s')

/-- Histograms, the sieve and their hand-off. Updates add to the bins; a closing cell's histogram is read by a sieve lane; sets
with and without candidates are handed off, in HELD with their place freed; the windows and snapshots answer; a slot table
parity error enters HELD. (09_histogram_engine.md: Histograms and sieve.) -/
def Obligations.HistogramComplete : Prop :=
  -- histogramUpdate
  (∀ (s : State) (t half : Nat) (u : Update), s.dev.alive = true → s.dev.hst.updates.find? (fun u => 2 * (u.ch / 4) + u.slot == half) = some u →
    s.sramPoison.contains (binAddr (2 * u.ch + u.slot) (u.bin / 8 * 8)) = false →
    ∃ s', exec (.histogramUpdate t half 0) s = .next s' ∧ s'.dev.hst.updates = s.dev.hst.updates.erase u ∧
      memLe s'.sram (binAddr (2 * u.ch + u.slot) u.bin) 4 = (binAdd (BitVec.ofNat 32 (memLe s.sram (binAddr (2 * u.ch + u.slot) u.bin) 4)) u.fine).toNat ∧
      (∀ a, (a < binAddr (2 * u.ch + u.slot) u.bin ∨ binAddr (2 * u.ch + u.slot) u.bin + 4 ≤ a) → memByte s'.sram a = memByte s.sram a) ∧
      s'.dram = s.dram ∧ s'.sramPoison = s.sramPoison ∧ s'.writeBacks = s.writeBacks) ∧
  -- histogramClosing
  (∀ (s : State) (t : Nat) (c : CellRec), s.dev.alive = true → (s.dev.seq.cells.map (·.2)).filter (fun c => !c.closed && decide (0 < c.firedTotal) && s.dev.cellClosable c.uid) = [c] →
    mget s.dev.seq.cells c.uid = some c →
    ∃ s', exec (.histogramClosing t) s = .next s' ∧ mget s'.dev.seq.cells c.uid = some { c with closed := true } ∧
      s'.dev.hst.closing = s.dev.hst.closing ++ (s.dev.hst.hists.filter (fun p => p.2.uid == c.uid && p.2.st == .open)).map (·.1) ∧
      s'.dev.hst.noSlotSets = s.dev.hst.noSlotSets ++ c.noSlot.map (fun ch => (s.dev.advanceTo t).noSlotSet c ch) ∧ s'.dev.regs = s.dev.regs ∧ sameMemory s s') ∧
  -- sieveLaneTake
  (∀ (s : State) (t lane k : Nat) (bad : List Nat) (room : Bool) (rest : List Nat) (h : Hist), s.dev.alive = true → lane < 16 → mget s.dev.hst.lanes lane = none →
    s.dev.hst.closing = k :: rest → mget s.dev.hst.hists k = some h → s.dev.hst.updates.any (fun u => 2 * u.ch + u.slot == k) = false →
    ∃ s', exec (.sieveLaneTake t lane bad room) s = .next s' ∧ s'.dev.hst.closing = rest ∧
      (mget s'.dev.hst.lanes lane).map (fun x => (x.1.length, x.2.1.uid, x.2.2)) = some (h.winLen, h.uid, k) ∧
      (mget s'.dev.hst.hists k).map (fun x => (x.st, x.lane)) = some (.readout, some lane) ∧
      (∀ a, memByte s'.sram a = (if binAddr k 0 ≤ a ∧ a < binAddr k 4096 then memDflt a else memByte s.sram a)) ∧ s'.dram = s.dram) ∧
  -- histogramReadoutEnd
  (∀ (s : State) (t lane k : Nat) (ws : List Word) (h h' : Hist), s.dev.alive = true → mget s.dev.hst.lanes lane = some (ws, h, k) → mget s.dev.hst.hists k = some h' →
    h'.lane = some lane → h'.st = .readout →
    ∃ s', exec (.histogramReadoutEnd t lane) s = .next s' ∧ mget s'.dev.hst.hists k = none ∧ s'.dev.reg64 R.HST_CNT_CLOSED = (s.dev.reg64 R.HST_CNT_CLOSED + 1) % 2 ^ 64 ∧
      s'.dev.hst.lanes = s.dev.hst.lanes ∧ sameMemory s s') ∧
  -- emptySetHandedOff
  (∀ (s : State) (t lane n : Nat) (x : CandSet) (r : List CandSet), s.dev.alive = true → s.dev.top.state ≠ .held → 16 ≤ lane → s.dev.hst.noSlotSets = x :: r → s.dev.freePlace = some n →
    ∃ s', exec (.candidateHandoff t lane 0) s = .next s' ∧ s'.dev.hst.noSlotSets = r ∧ s'.dev.hst.handed = s.dev.hst.handed + 1 ∧
      (mget s'.dev.hst.cbuf n).map (fun q => (q.uid, q.cell, q.channel, q.order)) = some (x.uid, x.cell, x.channel, s.dev.hst.handed) ∧ sameMemory s s') ∧
  -- candidateHandoff
  (∀ (s : State) (t lane k n : Nat) (ws : List Word) (h : Hist), s.dev.alive = true → s.dev.top.state ≠ .held → lane < 16 → mget s.dev.hst.lanes lane = some (ws, h, k) → mget s.dev.hst.hists k = none →
    s.dev.freePlace = some n →
    ∃ s', exec (.candidateHandoff t lane 0) s = .next s' ∧ mget s'.dev.hst.lanes lane = none ∧ s'.dev.hst.handed = s.dev.hst.handed + 1 ∧
      (mget s'.dev.hst.cbuf n).map (fun q => (q.uid, q.cell, q.channel, q.order)) = some (h.uid, h.cell, k / 2, s.dev.hst.handed) ∧ sameMemory s s') ∧
  -- handoffInHeld
  (∀ (s : State) (t lane k : Nat) (ws : List Word) (h : Hist), s.dev.alive = true → s.dev.top.state = .held → lane < 16 → mget s.dev.hst.lanes lane = some (ws, h, k) → mget s.dev.hst.hists k = none →
    ∃ s', exec (.candidateHandoff t lane 0) s = .next s' ∧ mget s'.dev.hst.lanes lane = none ∧ s'.dev.hst.handed = s.dev.hst.handed ∧
      s'.dev.reg64 R.SIV_CNT_HELD = (s.dev.reg64 R.SIV_CNT_HELD + 1) % 2 ^ 64 ∧ sameMemory s s') ∧
  -- hstWindowWrite
  (∀ (s : State) (src t addr : Nat) (v : Word), s.dev.alive = true → s.dev.top.state ≠ .headframe →
    ∃ s', exec (.hstWindowWrite src t addr v) s = .next s' ∧ s'.dev.rbit R.HST_STATUS 5 = true ∧ (s'.dev.req src).lastStatus = 0 ∧ s'.dev.flg.jseq = s.dev.flg.jseq + 1 ∧ sameMemory s s') ∧
  -- hstSlotSnapshotRead
  (∀ (s : State) (src t entry word : Nat), s.dev.alive = true → s.dev.reg (R.FMN_ALLOC 21) ≠ 0 →
    ∃ s', exec (.hstSlotSnapshotRead src t entry word) s = .next s' ∧
      (s'.dev.req src).lastData = [(snapRead (s.dev.req src).hstSnap (s.dev.hstWords entry) entry word).1] ∧
      (s'.dev.req src).hstSnap = (snapRead (s.dev.req src).hstSnap (s.dev.hstWords entry) entry word).2.1 ∧ (s'.dev.req src).lastStatus = 0 ∧ s'.dev.hst = s.dev.hst ∧ sameMemory s s') ∧
  -- slotTableParityError
  (∀ (s : State) (t : Nat), s.dev.alive = true →
    ∃ s', exec (.slotTableParityError t) s = .next s' ∧ s'.dev.top.state = .held ∧ sameMemory s s')

/-- The lode store. A histogram is written back to the lode with its cell's address and the activity charged; with Hoist failed
the write-back is dropped and counted; a clearing pass empties a bank. (09_histogram_engine.md: Lode store.) -/
def Obligations.LodeComplete : Prop :=
  -- lodeWriteBack
  (∀ (s : State) (t j : Nat) (set : CandSet) (c : Cand) (rest : List (CandSet × Cand)), s.dev.alive = true → s.dev.hst.lodeQueue = (set, c) :: rest → s.dev.hoistFailed = false → s.dev.hoistServing = true →
    s.dev.lodeUnread s.dev.hst.lodeBank (fun j => s.dev.lodeMap.slot set.cell set.channel j) s.dev.lodeMap.cands false = [] →
    lodePick ((List.range s.dev.lodeMap.cands).map (fun j => dramLe s.dram (s.dev.lodeAnchorAddr s.dev.hst.lodeBank (s.dev.lodeMap.slot set.cell set.channel j)) 8)) s.dev.hst.lodeEpoch s.dev.lodeMap.tol c.bin = some (j, true) →
    ∃ s', exec (.lodeWriteBack t []) s = .next s' ∧ s'.dev.hst.lodeQueue = rest ∧ s'.dev.reg64 R.HST_CNT_LODE_ADDED = (s.dev.reg64 R.HST_CNT_LODE_ADDED + 1) % 2 ^ 64 ∧
      s'.dev.hst.lodeAddedFrame.contains (s.dev.lodeMap.slot set.cell set.channel j) = true ∧ s'.sram = s.sram) ∧
  -- lodeDroppedOnFailedHoist
  (∀ (s : State) (t : Nat) (set : CandSet) (c : Cand) (rest : List (CandSet × Cand)) (e : List Nat), s.dev.alive = true → s.dev.hst.lodeQueue = (set, c) :: rest → s.dev.hoistFailed = true →
    ∃ s', exec (.lodeWriteBack t e) s = .next s' ∧ s'.dev.hst.lodeQueue = rest ∧ sameMemory s s') ∧
  -- lodeClearPass
  (∀ (s : State) (t : Nat), s.dev.alive = true → (s.dev.top.state = .armed ∨ s.dev.hst.clearing = true) → s.dev.hoistServing = true →
    ∃ s', exec (.lodeClearPass t) s = .next s' ∧ s'.dev.hst.clearing = false ∧ s'.dev.rbit R.HST_STATUS 4 = false ∧
      s'.dram = spClear s.dram (s.dev.lodeAnchorAddr 0 0) (s.dev.lodeAnchorAddr 0 0 + 0x1000000) ∧ s'.sram = s.sram)

/-- Integer instructions of the assay cores. Each instruction writes its destination with the value the table gives, sets the
flags it names and no others, advances the core by one address and changes nothing else of the block; the carry after ABS and
the quotient and flags of a division by zero are free values (log entry 21). (10_assay_cores.md: Tables 10-8 to 10-10.) -/
def Obligations.AssayIntegerComplete : Prop :=
  -- nop
  (∀ (s : State) (t k w : Nat), s.stands k w .nop = true →
    ∃ s', exec (.nop t k) s = .next s' ∧ s'.dev.core k = (s.dev.core k).step id ∧ coreOnly k s s' ∧ sameMemory s s') ∧
  -- add
  (∀ (s : State) (t k w : Nat) (a b : Word), s.stands k w .add = true → s.gOf k (fieldOf w 18 15) = a → s.gOf k (fieldOf w 14 11) = b →
    ∃ s', exec (.add t k) s = .next s' ∧ s'.dev.core k = ((s.dev.core k).step (fun r => { r with g := r.g.set (fieldOf w 22 19) (satWord (fieldOf w 23 23 == 1) (a.toInt + b.toInt)), flags := putFlags r.flags 15 (flagWord (satWord (fieldOf w 23 23 == 1) (a.toInt + b.toInt)) (decide (2 ^ 32 ≤ a.toNat + b.toNat)) (outRange (a.toInt + b.toInt))) })).stick ((fieldOf w 23 23 == 1) && outRange (a.toInt + b.toInt)) 0 ∧ coreOnly k s s' ∧ sameMemory s s') ∧
  -- sub
  (∀ (s : State) (t k w : Nat) (a b : Word), s.stands k w .sub = true → s.gOf k (fieldOf w 18 15) = a → s.gOf k (fieldOf w 14 11) = b →
    ∃ s', exec (.sub t k) s = .next s' ∧ s'.dev.core k = ((s.dev.core k).step (fun r => { r with g := r.g.set (fieldOf w 22 19) (satWord (fieldOf w 23 23 == 1) (a.toInt - b.toInt)), flags := putFlags r.flags 15 (flagWord (satWord (fieldOf w 23 23 == 1) (a.toInt - b.toInt)) (decide (b.toNat ≤ a.toNat)) (outRange (a.toInt - b.toInt))) })).stick ((fieldOf w 23 23 == 1) && outRange (a.toInt - b.toInt)) 0 ∧ coreOnly k s s' ∧ sameMemory s s') ∧
  -- cmp
  (∀ (s : State) (t k w : Nat) (a b : Word), s.stands k w .cmp = true → s.gOf k (fieldOf w 18 15) = a → s.gOf k (fieldOf w 14 11) = b →
    ∃ s', exec (.cmp t k) s = .next s' ∧ s'.dev.core k = (s.dev.core k).step (fun r => { r with flags := putFlags r.flags 15 (flagWord (a - b) (decide (b.toNat ≤ a.toNat)) (outRange (a.toInt - b.toInt))) }) ∧ coreOnly k s s' ∧ sameMemory s s') ∧
  -- and
  (∀ (s : State) (t k w : Nat) (a b : Word), s.stands k w .and = true → s.gOf k (fieldOf w 18 15) = a → s.gOf k (fieldOf w 14 11) = b →
    ∃ s', exec (.and t k) s = .next s' ∧ s'.dev.core k = (s.dev.core k).step (fun r => { r with g := r.g.set (fieldOf w 22 19) (a &&& b), flags := putFlags r.flags 3 (flagWord (a &&& b) false false) }) ∧ coreOnly k s s' ∧ sameMemory s s') ∧
  -- or
  (∀ (s : State) (t k w : Nat) (a b : Word), s.stands k w .or = true → s.gOf k (fieldOf w 18 15) = a → s.gOf k (fieldOf w 14 11) = b →
    ∃ s', exec (.or t k) s = .next s' ∧ s'.dev.core k = (s.dev.core k).step (fun r => { r with g := r.g.set (fieldOf w 22 19) (a ||| b), flags := putFlags r.flags 3 (flagWord (a ||| b) false false) }) ∧ coreOnly k s s' ∧ sameMemory s s') ∧
  -- xor
  (∀ (s : State) (t k w : Nat) (a b : Word), s.stands k w .xor = true → s.gOf k (fieldOf w 18 15) = a → s.gOf k (fieldOf w 14 11) = b →
    ∃ s', exec (.xor t k) s = .next s' ∧ s'.dev.core k = (s.dev.core k).step (fun r => { r with g := r.g.set (fieldOf w 22 19) (a ^^^ b), flags := putFlags r.flags 3 (flagWord (a ^^^ b) false false) }) ∧ coreOnly k s s' ∧ sameMemory s s') ∧
  -- andn
  (∀ (s : State) (t k w : Nat) (a b : Word), s.stands k w .andn = true → s.gOf k (fieldOf w 18 15) = a → s.gOf k (fieldOf w 14 11) = b →
    ∃ s', exec (.andn t k) s = .next s' ∧ s'.dev.core k = (s.dev.core k).step (fun r => { r with g := r.g.set (fieldOf w 22 19) (a &&& ~~~b), flags := putFlags r.flags 3 (flagWord (a &&& ~~~b) false false) }) ∧ coreOnly k s s' ∧ sameMemory s s') ∧
  -- shl
  (∀ (s : State) (t k w : Nat) (a b : Word), s.stands k w .shl = true → s.gOf k (fieldOf w 18 15) = a → s.gOf k (fieldOf w 14 11) = b →
    ∃ s', exec (.shl t k) s = .next s' ∧ s'.dev.core k = (s.dev.core k).step (fun r => { r with g := r.g.set (fieldOf w 22 19) (a <<< (if fieldOf w 5 5 = 1 then b.toNat % 32 else fieldOf w 4 0)), flags := putFlags r.flags 3 (flagWord (a <<< (if fieldOf w 5 5 = 1 then b.toNat % 32 else fieldOf w 4 0)) false false) }) ∧ coreOnly k s s' ∧ sameMemory s s') ∧
  -- shr
  (∀ (s : State) (t k w : Nat) (a b : Word), s.stands k w .shr = true → s.gOf k (fieldOf w 18 15) = a → s.gOf k (fieldOf w 14 11) = b →
    ∃ s', exec (.shr t k) s = .next s' ∧ s'.dev.core k = (s.dev.core k).step (fun r => { r with g := r.g.set (fieldOf w 22 19) (a >>> (if fieldOf w 5 5 = 1 then b.toNat % 32 else fieldOf w 4 0)), flags := putFlags r.flags 3 (flagWord (a >>> (if fieldOf w 5 5 = 1 then b.toNat % 32 else fieldOf w 4 0)) false false) }) ∧ coreOnly k s s' ∧ sameMemory s s') ∧
  -- sra
  (∀ (s : State) (t k w : Nat) (a b : Word), s.stands k w .sra = true → s.gOf k (fieldOf w 18 15) = a → s.gOf k (fieldOf w 14 11) = b →
    ∃ s', exec (.sra t k) s = .next s' ∧ s'.dev.core k = (s.dev.core k).step (fun r => { r with g := r.g.set (fieldOf w 22 19) (a.sshiftRight (if fieldOf w 5 5 = 1 then b.toNat % 32 else fieldOf w 4 0)), flags := putFlags r.flags 3 (flagWord (a.sshiftRight (if fieldOf w 5 5 = 1 then b.toNat % 32 else fieldOf w 4 0)) false false) }) ∧ coreOnly k s s' ∧ sameMemory s s') ∧
  -- min
  (∀ (s : State) (t k w : Nat) (a b : Word), s.stands k w .min = true → s.gOf k (fieldOf w 18 15) = a → s.gOf k (fieldOf w 14 11) = b →
    ∃ s', exec (.min t k) s = .next s' ∧ s'.dev.core k = (s.dev.core k).step (fun r => { r with g := r.g.set (fieldOf w 22 19) (if a.toInt ≤ b.toInt then a else b), flags := putFlags r.flags 3 (flagWord (if a.toInt ≤ b.toInt then a else b) false false) }) ∧ coreOnly k s s' ∧ sameMemory s s') ∧
  -- max
  (∀ (s : State) (t k w : Nat) (a b : Word), s.stands k w .max = true → s.gOf k (fieldOf w 18 15) = a → s.gOf k (fieldOf w 14 11) = b →
    ∃ s', exec (.max t k) s = .next s' ∧ s'.dev.core k = (s.dev.core k).step (fun r => { r with g := r.g.set (fieldOf w 22 19) (if a.toInt ≤ b.toInt then b else a), flags := putFlags r.flags 3 (flagWord (if a.toInt ≤ b.toInt then b else a) false false) }) ∧ coreOnly k s s' ∧ sameMemory s s') ∧
  -- absNegative
  (∀ (s : State) (t k w : Nat) (a : Word), s.stands k w .abs = true → s.gOf k (fieldOf w 18 15) = a →
    a.msb = true →
    ∃ s', exec (.abs t k) s = .next s' ∧ s'.dev.core k = ((s.dev.core k).step (fun r => { r with g := r.g.set (fieldOf w 22 19) (satWord (fieldOf w 23 23 == 1) (-a.toInt)), flags := putFlags r.flags 15 (flagWord (satWord (fieldOf w 23 23 == 1) (-a.toInt)) false (outRange (-a.toInt))) })).stick ((fieldOf w 23 23 == 1) && outRange (-a.toInt)) 0 ∧ coreOnly k s s' ∧ sameMemory s s') ∧
  -- abs
  (∀ (s : State) (t k w : Nat) (a : Word), s.stands k w .abs = true → s.gOf k (fieldOf w 18 15) = a →
    a.msb = false →
    ∃ s', exec (.abs t k) s = .next s' ∧ (∃ f, s'.dev.core k = (s.dev.core k).step (fun r => { r with g := r.g.set (fieldOf w 22 19) a, flags := putFlags r.flags 15 (flagWord a f false) })) ∧ sameMemory s s' ∧ coreOnly k s s') ∧
  -- neg
  (∀ (s : State) (t k w : Nat) (a : Word), s.stands k w .neg = true → s.gOf k (fieldOf w 18 15) = a →
    ∃ s', exec (.neg t k) s = .next s' ∧ s'.dev.core k = ((s.dev.core k).step (fun r => { r with g := r.g.set (fieldOf w 22 19) (satWord (fieldOf w 23 23 == 1) (-a.toInt)), flags := putFlags r.flags 15 (flagWord (satWord (fieldOf w 23 23 == 1) (-a.toInt)) (a == 0#32) (outRange (-a.toInt))) })).stick ((fieldOf w 23 23 == 1) && outRange (-a.toInt)) 0 ∧ coreOnly k s s' ∧ sameMemory s s') ∧
  -- ext
  (∀ (s : State) (t k w : Nat) (a : Word), s.stands k w .ext = true → s.gOf k (fieldOf w 18 15) = a →
    ∃ s', exec (.ext t k) s = .next s' ∧ s'.dev.core k = (s.dev.core k).step (fun r => { r with g := r.g.set (fieldOf w 22 19) (BitVec.ofInt 32 (if fieldOf w 10 10 = 1 then signed (fieldOf w 9 5 + 1) (a.toNat / 2 ^ fieldOf w 4 0) else (a.toNat / 2 ^ fieldOf w 4 0 % 2 ^ (fieldOf w 9 5 + 1) : Nat))), flags := putFlags r.flags 3 (flagWord (BitVec.ofInt 32 (if fieldOf w 10 10 = 1 then signed (fieldOf w 9 5 + 1) (a.toNat / 2 ^ fieldOf w 4 0) else (a.toNat / 2 ^ fieldOf w 4 0 % 2 ^ (fieldOf w 9 5 + 1) : Nat))) false false) }) ∧ coreOnly k s s' ∧ sameMemory s s') ∧
  -- ins
  (∀ (s : State) (t k w : Nat) (a : Word), s.stands k w .ins = true → s.gOf k (fieldOf w 18 15) = a →
    ∃ s', exec (.ins t k) s = .next s' ∧ s'.dev.core k = (s.dev.core k).step (fun r => { r with g := r.g.set (fieldOf w 22 19) ((s.gOf k (fieldOf w 22 19) &&& ~~~BitVec.ofNat 32 ((2 ^ (fieldOf w 9 5 + 1) - 1) * 2 ^ fieldOf w 4 0)) ||| BitVec.ofNat 32 (a.toNat % 2 ^ (fieldOf w 9 5 + 1) * 2 ^ fieldOf w 4 0)), flags := putFlags r.flags 3 (flagWord ((s.gOf k (fieldOf w 22 19) &&& ~~~BitVec.ofNat 32 ((2 ^ (fieldOf w 9 5 + 1) - 1) * 2 ^ fieldOf w 4 0)) ||| BitVec.ofNat 32 (a.toNat % 2 ^ (fieldOf w 9 5 + 1) * 2 ^ fieldOf w 4 0)) false false) }) ∧ coreOnly k s s' ∧ sameMemory s s') ∧
  -- mul
  (∀ (s : State) (t k w : Nat) (a b : Word), s.stands k w .mul = true → s.gOf k (fieldOf w 18 15) = a → s.gOf k (fieldOf w 14 11) = b →
    ∃ s', exec (.mul t k) s = .next s' ∧ s'.dev.core k = ((s.dev.core k).step (fun r => { r with g := r.g.set (fieldOf w 22 19) (satWord (fieldOf w 23 23 == 1) (a.toInt * b.toInt)), flags := putFlags r.flags 11 (flagWord (satWord (fieldOf w 23 23 == 1) (a.toInt * b.toInt)) false (outRange (a.toInt * b.toInt))) })).stick ((fieldOf w 23 23 == 1) && outRange (a.toInt * b.toInt)) 0 ∧ coreOnly k s s' ∧ sameMemory s s') ∧
  -- norm
  (∀ (s : State) (t k w n : Nat) (a : Word), s.stands k w .norm = true → s.gOf k (fieldOf w 18 15) = a → n < 32 → (a <<< n).sshiftRight n = a →
    (n = 31 ∨ (a <<< n).getLsbD 31 ≠ (a <<< n).getLsbD 30) →
    ∃ s', exec (.norm t k) s = .next s' ∧ s'.dev.core k = (s.dev.core k).step (fun r => { r with g := r.g.set (fieldOf w 22 19) (BitVec.ofNat 32 n), flags := putFlags r.flags 1 (flagWord (BitVec.ofNat 32 n) false false) }) ∧ coreOnly k s s' ∧ sameMemory s s') ∧
  -- div
  (∀ (s : State) (t k w : Nat) (a b : Word), s.stands k w .div = true → s.gOf k (fieldOf w 18 15) = a → s.gOf k (fieldOf w 14 11) = b →
    b ≠ 0#32 →
    ∃ s', exec (.div t k) s = .next s' ∧ s'.dev.core k = { ((s.dev.core k).step (fun r => { r with flags := putFlags r.flags 11 (flagWord (satWord (fieldOf w 23 23 == 1) (a.toInt.tdiv b.toInt)) false (outRange (a.toInt.tdiv b.toInt))) })).stick ((fieldOf w 23 23 == 1) && outRange (a.toInt.tdiv b.toInt)) 0 with div := some { left := 7, shadow := (s.dev.core k).inHandler, dest := .gen (fieldOf w 22 19), value := satWord (fieldOf w 23 23 == 1) (a.toInt.tdiv b.toInt) } } ∧ sameMemory s s' ∧ coreOnly k s s') ∧
  -- divByZero
  (∀ (s : State) (t k w : Nat) (a b : Word), s.stands k w .div = true → s.gOf k (fieldOf w 18 15) = a → s.gOf k (fieldOf w 14 11) = b →
    b = 0#32 →
    ∃ s', exec (.div t k) s = .next s' ∧ (∃ f, s'.dev.core k = { ((s.dev.core k).step (fun r => { r with flags := putFlags r.flags 11 (flagWord (if a.msb then 0x80000000#32 else 0x7FFFFFFF#32) false (f)) })).stick true 3 with div := some { left := 7, shadow := (s.dev.core k).inHandler, dest := .gen (fieldOf w 22 19), value := if a.msb then 0x80000000#32 else 0x7FFFFFFF#32 } }) ∧ sameMemory s s' ∧ coreOnly k s s') ∧
  -- divu
  (∀ (s : State) (t k w : Nat) (a b : Word), s.stands k w .divu = true → s.gOf k (fieldOf w 18 15) = a → s.gOf k (fieldOf w 14 11) = b →
    b ≠ 0#32 →
    ∃ s', exec (.divu t k) s = .next s' ∧ s'.dev.core k = { ((s.dev.core k).step (fun r => { r with flags := putFlags r.flags 1 (flagWord (BitVec.ofNat 32 (a.toNat / b.toNat)) false (false)) })) with div := some { left := 7, shadow := (s.dev.core k).inHandler, dest := .gen (fieldOf w 22 19), value := BitVec.ofNat 32 (a.toNat / b.toNat) } } ∧ sameMemory s s' ∧ coreOnly k s s') ∧
  -- divuByZero
  (∀ (s : State) (t k w : Nat) (a b : Word), s.stands k w .divu = true → s.gOf k (fieldOf w 18 15) = a → s.gOf k (fieldOf w 14 11) = b →
    b = 0#32 →
    ∃ s', exec (.divu t k) s = .next s' ∧ s'.dev.core k = { ((s.dev.core k).step (fun r => { r with flags := putFlags r.flags 1 (flagWord (0xFFFFFFFF#32) false (false)) })).stick true 3 with div := some { left := 7, shadow := (s.dev.core k).inHandler, dest := .gen (fieldOf w 22 19), value := 0xFFFFFFFF#32 } } ∧ sameMemory s s' ∧ coreOnly k s s') ∧
  -- ldi
  (∀ (s : State) (t k w : Nat) (a : Word), s.stands k w .ldi = true → s.gOf k (fieldOf w 25 22) = a →
    ∃ s', exec (.ldi t k) s = .next s' ∧ s'.dev.core k = (s.dev.core k).step (fun r => { r with g := r.g.set (fieldOf w 25 22) (BitVec.ofInt 32 (signed 16 (fieldOf w 15 0))) }) ∧ coreOnly k s s' ∧ sameMemory s s') ∧
  -- ldih
  (∀ (s : State) (t k w : Nat) (a : Word), s.stands k w .ldih = true → s.gOf k (fieldOf w 25 22) = a →
    ∃ s', exec (.ldih t k) s = .next s' ∧ s'.dev.core k = (s.dev.core k).step (fun r => { r with g := r.g.set (fieldOf w 25 22) (BitVec.ofNat 32 (a.toNat % 65536 + 65536 * fieldOf w 15 0)) }) ∧ coreOnly k s s' ∧ sameMemory s s') ∧
  -- addi
  (∀ (s : State) (t k w : Nat) (a : Word), s.stands k w .addi = true → s.gOf k (fieldOf w 25 22) = a →
    ∃ s', exec (.addi t k) s = .next s' ∧ s'.dev.core k = ((s.dev.core k).step (fun r => { r with g := r.g.set (fieldOf w 25 22) (satWord (fieldOf w 21 21 == 1) (a.toInt + signed 16 (fieldOf w 15 0))), flags := putFlags r.flags 15 (flagWord (satWord (fieldOf w 21 21 == 1) (a.toInt + signed 16 (fieldOf w 15 0))) (decide (2 ^ 32 ≤ a.toNat + (BitVec.ofInt 32 (signed 16 (fieldOf w 15 0))).toNat)) (outRange (a.toInt + signed 16 (fieldOf w 15 0)))) })).stick ((fieldOf w 21 21 == 1) && outRange (a.toInt + signed 16 (fieldOf w 15 0))) 0 ∧ coreOnly k s s' ∧ sameMemory s s') ∧
  -- cmpi
  (∀ (s : State) (t k w : Nat) (a : Word), s.stands k w .cmpi = true → s.gOf k (fieldOf w 25 22) = a →
    ∃ s', exec (.cmpi t k) s = .next s' ∧ s'.dev.core k = (s.dev.core k).step (fun r => { r with flags := putFlags r.flags 15 (flagWord (a - BitVec.ofInt 32 (signed 16 (fieldOf w 15 0))) (decide ((BitVec.ofInt 32 (signed 16 (fieldOf w 15 0))).toNat ≤ a.toNat)) (outRange (a.toInt - signed 16 (fieldOf w 15 0)))) }) ∧ coreOnly k s s' ∧ sameMemory s s') ∧
  -- setp
  (∀ (s : State) (t k w : Nat), s.stands k w .setp = true →
    ∃ s', exec (.setp t k) s = .next s' ∧ s'.dev.core k = (s.dev.core k).step (fun r => { r with p := r.p.set (fieldOf w 24 22) (fieldOf w 19 0) }) ∧ coreOnly k s s' ∧ sameMemory s s')

/-- Accumulator and multiply instructions. Each instruction changes the accumulators it names, clamped or wrapped to 40 bits by
its S bit, sets the sticky bits that follow, and changes nothing else of the block. (10_assay_cores.md: Tables 10-8 to 10-10.) -/
def Obligations.AssayAccumulatorComplete : Prop :=
  -- adda
  (∀ (s : State) (t k w : Nat) (a : Word) (x : Int), s.stands k w .adda = true → s.gOf k (fieldOf w 18 15) = a → ((s.dev.core k).cur.accOf (fieldOf w 10 10 == 1)).toInt = x →
    ∃ s', exec (.adda t k) s = .next s' ∧ s'.dev.core k = (((s.dev.core k).step (fun r => { r.setAcc (fieldOf w 10 10 == 1) (narrow40 (fieldOf w 23 23 == 1) (x + a.toInt * 2 ^ fieldOf w 4 0)).1 with flags := putFlags r.flags 3 (accFlag (narrow40 (fieldOf w 23 23 == 1) (x + a.toInt * 2 ^ fieldOf w 4 0)).1) })).stick (narrow40 (fieldOf w 23 23 == 1) (x + a.toInt * 2 ^ fieldOf w 4 0)).2.1 1).stick (narrow40 (fieldOf w 23 23 == 1) (x + a.toInt * 2 ^ fieldOf w 4 0)).2.2 2 ∧ coreOnly k s s' ∧ sameMemory s s') ∧
  -- suba
  (∀ (s : State) (t k w : Nat) (a : Word) (x : Int), s.stands k w .suba = true → s.gOf k (fieldOf w 18 15) = a → ((s.dev.core k).cur.accOf (fieldOf w 10 10 == 1)).toInt = x →
    ∃ s', exec (.suba t k) s = .next s' ∧ s'.dev.core k = (((s.dev.core k).step (fun r => { r.setAcc (fieldOf w 10 10 == 1) (narrow40 (fieldOf w 23 23 == 1) (x - a.toInt * 2 ^ fieldOf w 4 0)).1 with flags := putFlags r.flags 3 (accFlag (narrow40 (fieldOf w 23 23 == 1) (x - a.toInt * 2 ^ fieldOf w 4 0)).1) })).stick (narrow40 (fieldOf w 23 23 == 1) (x - a.toInt * 2 ^ fieldOf w 4 0)).2.1 1).stick (narrow40 (fieldOf w 23 23 == 1) (x - a.toInt * 2 ^ fieldOf w 4 0)).2.2 2 ∧ coreOnly k s s' ∧ sameMemory s s') ∧
  -- sha
  (∀ (s : State) (t k w : Nat) (a : Word) (x : Int), s.stands k w .sha = true → s.gOf k (fieldOf w 18 15) = a → ((s.dev.core k).cur.accOf (fieldOf w 10 10 == 1)).toInt = x →
    ∃ s', exec (.sha t k) s = .next s' ∧ s'.dev.core k = (((s.dev.core k).step (fun r => { r.setAcc (fieldOf w 10 10 == 1) (narrow40 (fieldOf w 23 23 == 1) (shiftInt x (signed 6 (fieldOf w 5 0)))).1 with flags := putFlags r.flags 3 (accFlag (narrow40 (fieldOf w 23 23 == 1) (shiftInt x (signed 6 (fieldOf w 5 0)))).1) })).stick (narrow40 (fieldOf w 23 23 == 1) (shiftInt x (signed 6 (fieldOf w 5 0)))).2.1 1).stick (narrow40 (fieldOf w 23 23 == 1) (shiftInt x (signed 6 (fieldOf w 5 0)))).2.2 2 ∧ coreOnly k s s' ∧ sameMemory s s') ∧
  -- rnda
  (∀ (s : State) (t k w : Nat) (a : Word) (x : Int), s.stands k w .rnda = true → s.gOf k (fieldOf w 18 15) = a → ((s.dev.core k).cur.accOf (fieldOf w 10 10 == 1)).toInt = x →
    ∃ s', exec (.rnda t k) s = .next s' ∧ s'.dev.core k = (((s.dev.core k).step (fun r => { r.setAcc (fieldOf w 10 10 == 1) (narrow40 (fieldOf w 23 23 == 1) (if fieldOf w 4 0 = 0 then x else (x + 2 ^ (fieldOf w 4 0 - 1)) / 2 ^ fieldOf w 4 0 * 2 ^ fieldOf w 4 0)).1 with flags := putFlags r.flags 3 (accFlag (narrow40 (fieldOf w 23 23 == 1) (if fieldOf w 4 0 = 0 then x else (x + 2 ^ (fieldOf w 4 0 - 1)) / 2 ^ fieldOf w 4 0 * 2 ^ fieldOf w 4 0)).1) })).stick (narrow40 (fieldOf w 23 23 == 1) (if fieldOf w 4 0 = 0 then x else (x + 2 ^ (fieldOf w 4 0 - 1)) / 2 ^ fieldOf w 4 0 * 2 ^ fieldOf w 4 0)).2.1 1).stick (narrow40 (fieldOf w 23 23 == 1) (if fieldOf w 4 0 = 0 then x else (x + 2 ^ (fieldOf w 4 0 - 1)) / 2 ^ fieldOf w 4 0 * 2 ^ fieldOf w 4 0)).2.2 2 ∧ coreOnly k s s' ∧ sameMemory s s') ∧
  -- clra
  (∀ (s : State) (t k w : Nat), s.stands k w .clra = true →
    ∃ s', exec (.clra t k) s = .next s' ∧ s'.dev.core k = (s.dev.core k).step (fun r => { r.setAcc (fieldOf w 10 10 == 1) 0#40 with flags := putFlags r.flags 3 1 }) ∧ coreOnly k s s' ∧ sameMemory s s') ∧
  -- addaa
  (∀ (s : State) (t k w : Nat) (x : Int), s.stands k w .addaa = true → (s.dev.core k).cur.a0.toInt + (s.dev.core k).cur.a1.toInt = x →
    ∃ s', exec (.addaa t k) s = .next s' ∧ s'.dev.core k = (((s.dev.core k).step (fun r => { r.setAcc (fieldOf w 10 10 == 1) (narrow40 (fieldOf w 23 23 == 1) (x)).1 with flags := putFlags r.flags 3 (accFlag (narrow40 (fieldOf w 23 23 == 1) (x)).1) })).stick (narrow40 (fieldOf w 23 23 == 1) (x)).2.1 1).stick (narrow40 (fieldOf w 23 23 == 1) (x)).2.2 2 ∧ coreOnly k s s' ∧ sameMemory s s') ∧
  -- mova
  (∀ (s : State) (t k w : Nat) (x : Int), s.stands k w .mova = true → shiftInt ((s.dev.core k).cur.accOf (fieldOf w 10 10 == 1)).toInt (signed 6 (fieldOf w 5 0)) = x →
    ∃ s', exec (.mova t k) s = .next s' ∧ s'.dev.core k = ((s.dev.core k).step (fun r => { r with g := r.g.set (fieldOf w 22 19) (satWord (fieldOf w 23 23 == 1) x), flags := putFlags r.flags 3 (accFlag (BitVec.ofInt 40 x)) })).stick ((fieldOf w 23 23 == 1) && outRange x) 0 ∧ coreOnly k s s' ∧ sameMemory s s') ∧
  -- mpy
  (∀ (s : State) (t k w : Nat) (p x : Int), s.stands k w .mpy = true → fieldOf w 18 18 = 0 → fieldOf w 10 10 = 0 →
    halfOf w (s.gOf k (fieldOf w 24 22)) (fieldOf w 2 2 == 1) * halfOf w (s.gOf k (8 + fieldOf w 21 19)) (fieldOf w 1 1 == 1) = p → ((s.dev.core k).cur.accOf (fieldOf w 25 25 == 1)).toInt = x →
    ∃ s', exec (.mpy t k 0 0 0) s = .next s' ∧ s'.dev.core k = (((s.dev.core k).step (fun r => r.setAcc (fieldOf w 25 25 == 1) (narrow40 (fieldOf w 26 26 == 1) (p)).1)).stick (narrow40 (fieldOf w 26 26 == 1) (p)).2.1 1).stick (narrow40 (fieldOf w 26 26 == 1) (p)).2.2 2 ∧ coreOnly k s s' ∧ sameMemory s s') ∧
  -- mac
  (∀ (s : State) (t k w : Nat) (p x : Int), s.stands k w .mac = true → fieldOf w 18 18 = 0 → fieldOf w 10 10 = 0 →
    halfOf w (s.gOf k (fieldOf w 24 22)) (fieldOf w 2 2 == 1) * halfOf w (s.gOf k (8 + fieldOf w 21 19)) (fieldOf w 1 1 == 1) = p → ((s.dev.core k).cur.accOf (fieldOf w 25 25 == 1)).toInt = x →
    ∃ s', exec (.mac t k 0 0 0) s = .next s' ∧ s'.dev.core k = (((s.dev.core k).step (fun r => r.setAcc (fieldOf w 25 25 == 1) (narrow40 (fieldOf w 26 26 == 1) (x + p)).1)).stick (narrow40 (fieldOf w 26 26 == 1) (x + p)).2.1 1).stick (narrow40 (fieldOf w 26 26 == 1) (x + p)).2.2 2 ∧ coreOnly k s s' ∧ sameMemory s s') ∧
  -- msu
  (∀ (s : State) (t k w : Nat) (p x : Int), s.stands k w .msu = true → fieldOf w 18 18 = 0 → fieldOf w 10 10 = 0 →
    halfOf w (s.gOf k (fieldOf w 24 22)) (fieldOf w 2 2 == 1) * halfOf w (s.gOf k (8 + fieldOf w 21 19)) (fieldOf w 1 1 == 1) = p → ((s.dev.core k).cur.accOf (fieldOf w 25 25 == 1)).toInt = x →
    ∃ s', exec (.msu t k 0 0 0) s = .next s' ∧ s'.dev.core k = (((s.dev.core k).step (fun r => r.setAcc (fieldOf w 25 25 == 1) (narrow40 (fieldOf w 26 26 == 1) (x - p)).1)).stick (narrow40 (fieldOf w 26 26 == 1) (x - p)).2.1 1).stick (narrow40 (fieldOf w 26 26 == 1) (x - p)).2.2 2 ∧ coreOnly k s s' ∧ sameMemory s s') ∧
  -- dmpy
  (∀ (s : State) (t k w : Nat) (p q : Int), s.stands k w .dmpy = true → fieldOf w 18 18 = 0 → fieldOf w 10 10 = 0 →
    halfOf w (s.gOf k (fieldOf w 24 22)) true * halfOf w (s.gOf k (8 + fieldOf w 21 19)) true = p → halfOf w (s.gOf k (fieldOf w 24 22)) false * halfOf w (s.gOf k (8 + fieldOf w 21 19)) false = q →
    ∃ s', exec (.dmpy t k 0 0 0) s = .next s' ∧ s'.dev.core k = (((((s.dev.core k).step (fun r => { r with a0 := (narrow40 (fieldOf w 26 26 == 1) (p)).1, a1 := (narrow40 (fieldOf w 26 26 == 1) (q)).1 })).stick (narrow40 (fieldOf w 26 26 == 1) (p)).2.1 1).stick (narrow40 (fieldOf w 26 26 == 1) (p)).2.2 2).stick (narrow40 (fieldOf w 26 26 == 1) (q)).2.1 1).stick (narrow40 (fieldOf w 26 26 == 1) (q)).2.2 2 ∧ coreOnly k s s' ∧ sameMemory s s') ∧
  -- dmac
  (∀ (s : State) (t k w : Nat) (p q : Int), s.stands k w .dmac = true → fieldOf w 18 18 = 0 → fieldOf w 10 10 = 0 →
    halfOf w (s.gOf k (fieldOf w 24 22)) true * halfOf w (s.gOf k (8 + fieldOf w 21 19)) true = p → halfOf w (s.gOf k (fieldOf w 24 22)) false * halfOf w (s.gOf k (8 + fieldOf w 21 19)) false = q →
    ∃ s', exec (.dmac t k 0 0 0) s = .next s' ∧ s'.dev.core k = (((((s.dev.core k).step (fun r => { r with a0 := (narrow40 (fieldOf w 26 26 == 1) ((s.dev.core k).cur.a0.toInt + p)).1, a1 := (narrow40 (fieldOf w 26 26 == 1) ((s.dev.core k).cur.a1.toInt + q)).1 })).stick (narrow40 (fieldOf w 26 26 == 1) ((s.dev.core k).cur.a0.toInt + p)).2.1 1).stick (narrow40 (fieldOf w 26 26 == 1) ((s.dev.core k).cur.a0.toInt + p)).2.2 2).stick (narrow40 (fieldOf w 26 26 == 1) ((s.dev.core k).cur.a1.toInt + q)).2.1 1).stick (narrow40 (fieldOf w 26 26 == 1) ((s.dev.core k).cur.a1.toInt + q)).2.2 2 ∧ coreOnly k s s' ∧ sameMemory s s') ∧
  -- dmsu
  (∀ (s : State) (t k w : Nat) (p q : Int), s.stands k w .dmsu = true → fieldOf w 18 18 = 0 → fieldOf w 10 10 = 0 →
    halfOf w (s.gOf k (fieldOf w 24 22)) true * halfOf w (s.gOf k (8 + fieldOf w 21 19)) true = p → halfOf w (s.gOf k (fieldOf w 24 22)) false * halfOf w (s.gOf k (8 + fieldOf w 21 19)) false = q →
    ∃ s', exec (.dmsu t k 0 0 0) s = .next s' ∧ s'.dev.core k = (((((s.dev.core k).step (fun r => { r with a0 := (narrow40 (fieldOf w 26 26 == 1) ((s.dev.core k).cur.a0.toInt - p)).1, a1 := (narrow40 (fieldOf w 26 26 == 1) ((s.dev.core k).cur.a1.toInt - q)).1 })).stick (narrow40 (fieldOf w 26 26 == 1) ((s.dev.core k).cur.a0.toInt - p)).2.1 1).stick (narrow40 (fieldOf w 26 26 == 1) ((s.dev.core k).cur.a0.toInt - p)).2.2 2).stick (narrow40 (fieldOf w 26 26 == 1) ((s.dev.core k).cur.a1.toInt - q)).2.1 1).stick (narrow40 (fieldOf w 26 26 == 1) ((s.dev.core k).cur.a1.toInt - q)).2.2 2 ∧ coreOnly k s s' ∧ sameMemory s s')

/-- Loads and stores on the U and V buses. A load of a good local word is visible after one more instruction; a store changes
exactly the four bytes of its word, whose address is computed from the pointer before its post-modification; the pointers are
post-modified as their mode says. (10_assay_cores.md: Table 10-10 and the address modes.) -/
def Obligations.AssayLoadStoreComplete : Prop :=
  -- ldu
  (∀ (s : State) (t k w a : Nat), s.stands k w .ldu = true → (s.dev.core k).cur.busAddr w false = a → a < 0x4000 → s.sramPoison.contains ((coreU k + 4 * a) / 32 * 32) = false →
    ∃ s', exec (.ldu t k 0 0 0) s = .next s' ∧ s'.dev.core k = { (s.dev.core k).step (fun r => r.afterAddr w false) with delayed := [{ left := 1, shadow := (s.dev.core k).inHandler, dest := .gen (fieldOf w 25 22), value := BitVec.ofNat 32 (memLe s.sram (coreU k + 4 * a) 4) }] } ∧ coreOnly k s s' ∧ sameMemory s s') ∧
  -- ldv
  (∀ (s : State) (t k w a : Nat), s.stands k w .ldv = true → (s.dev.core k).cur.busAddr w true = a → a < 0x3800 → s.sramPoison.contains ((coreV k + 4 * a) / 32 * 32) = false →
    ∃ s', exec (.ldv t k 0 0 0) s = .next s' ∧ s'.dev.core k = { (s.dev.core k).step (fun r => r.afterAddr w true) with delayed := [{ left := 1, shadow := (s.dev.core k).inHandler, dest := .gen (fieldOf w 25 22), value := BitVec.ofNat 32 (memLe s.sram (coreV k + 4 * a) 4) }] } ∧ coreOnly k s s' ∧ sameMemory s s') ∧
  -- stu
  (∀ (s : State) (t k w a : Nat), s.stands k w .stu = true → (s.dev.core k).cur.busAddr w false = a → a < 0x4000 →
    ∃ s', exec (.stu t k 0 0 0) s = .next s' ∧ s'.dev.core k = (s.dev.core k).step (fun r => r.afterAddr w false) ∧ memLe s'.sram (coreU k + 4 * a) 4 = (s.gOf k (fieldOf w 25 22)).toNat ∧ coreOnly k s s' ∧
      s'.dram = s.dram ∧ s'.sramPoison = s.sramPoison ∧ s'.writeBacks = s.writeBacks ∧ (∀ x, (x < coreU k + 4 * a ∨ coreU k + 4 * a + 4 ≤ x) → memByte s'.sram x = memByte s.sram x)) ∧
  -- stv
  (∀ (s : State) (t k w a : Nat), s.stands k w .stv = true → (s.dev.core k).cur.busAddr w true = a → a < 0x4000 →
    ∃ s', exec (.stv t k 0 0 0) s = .next s' ∧ s'.dev.core k = (s.dev.core k).step (fun r => r.afterAddr w true) ∧ memLe s'.sram (coreV k + 4 * a) 4 = (s.gOf k (fieldOf w 25 22)).toNat ∧ coreOnly k s s' ∧
      s'.dram = s.dram ∧ s'.sramPoison = s.sramPoison ∧ s'.writeBacks = s.writeBacks ∧ (∀ x, (x < coreV k + 4 * a ∨ coreV k + 4 * a + 4 ≤ x) → memByte s'.sram x = memByte s.sram x)) ∧
  -- pld
  (∀ (s : State) (t k w a b : Nat), s.stands k w .pld = true → fieldOf w 18 18 = 1 → fieldOf w 10 10 = 1 → (s.dev.core k).cur.addrOf (fieldOf w 17 16) = a → a < 0x4000 → (s.dev.core k).cur.addrOf (4 + fieldOf w 9 8) = b → b < 0x3800 →
    s.sramPoison.contains ((coreU k + 4 * a) / 32 * 32) = false → s.sramPoison.contains ((coreV k + 4 * b) / 32 * 32) = false →
    ∃ s', exec (.pld t k 0 0 0) s = .next s' ∧ s'.dev.core k = { (s.dev.core k).step (fun r => (r.postMod (fieldOf w 17 16) (r.modStep (fieldOf w 17 16) (fieldOf w 15 14))).postMod (4 + fieldOf w 9 8) (r.modStep (4 + fieldOf w 9 8) (fieldOf w 7 6))) with
        delayed := [{ left := 1, shadow := (s.dev.core k).inHandler, dest := .gen (fieldOf w 13 11), value := BitVec.ofNat 32 (memLe s.sram (coreU k + 4 * a) 4) },
          { left := 1, shadow := (s.dev.core k).inHandler, dest := .gen (8 + fieldOf w 5 3), value := BitVec.ofNat 32 (memLe s.sram (coreV k + 4 * b) 4) }] } ∧ coreOnly k s s' ∧ sameMemory s s')

/-- Branches, loops, special registers and WAIT. BR, CALL and JR set their target behind two delay slots, DO pushes a loop or
skips its body, RETE leaves the handler, MOVS reads and writes the special registers with their delays, WAIT stands in D until
an event. (10_assay_cores.md: Tables 10-11 and 10-12.) -/
def Obligations.AssayControlComplete : Prop :=
  -- br
  (∀ (s : State) (t k w : Nat), s.stands k w .br = true →
    ∃ s', exec (.br t k) s = .next s' ∧ s'.dev.core k = { (s.dev.core k).step id with slots := 2, target := if condHolds (fieldOf w 25 22) (s.dev.core k).oldFlags (s.dev.core k).ringCount (s.dev.core k).oldNeg then some (unsigned 14 (((s.dev.core k).pc : Int) + signed 22 (fieldOf w 21 0))) else none } ∧ coreOnly k s s' ∧ sameMemory s s') ∧
  -- call
  (∀ (s : State) (t k w : Nat), s.stands k w .call = true →
    ∃ s', exec (.call t k) s = .next s' ∧ s'.dev.core k = { (s.dev.core k).step (fun r => { r with lr := ((s.dev.core k).pc + 3) % 2 ^ 14 }) with slots := 2, target := some (unsigned 14 (((s.dev.core k).pc : Int) + signed 22 (fieldOf w 21 0))) } ∧ coreOnly k s s' ∧ sameMemory s s') ∧
  -- jr
  (∀ (s : State) (t k w : Nat), s.stands k w .jr = true →
    ∃ s', exec (.jr t k) s = .next s' ∧ s'.dev.core k = { (s.dev.core k).step id with slots := 2, target := some (if fieldOf w 21 21 = 1 then (s.dev.core k).cur.lr else (s.gOf k (fieldOf w 25 22)).toNat % 2 ^ 14) } ∧ coreOnly k s s' ∧ sameMemory s s') ∧
  -- doLoop
  (∀ (s : State) (t k w : Nat), s.stands k w .doLoop = true →
    (if fieldOf w 25 25 = 1 then bits (s.gOf k (fieldOf w 18 15)) 15 0 else fieldOf w 14 0) ≠ 0 →
    ∃ s', exec (.doLoop t k) s = .next s' ∧ s'.dev.core k = (s.dev.core k).step (fun r => { r with loops := [{ count := (if fieldOf w 25 25 = 1 then bits (s.gOf k (fieldOf w 18 15)) 15 0 else fieldOf w 14 0), start := ((s.dev.core k).pc + 1) % 2 ^ 14, stop := ((s.dev.core k).pc + fieldOf w 24 19 + 1) % 2 ^ 14 }] }) ∧ coreOnly k s s' ∧ sameMemory s s') ∧
  -- doSkipped
  (∀ (s : State) (t k w : Nat), s.stands k w .doLoop = true →
    (if fieldOf w 25 25 = 1 then bits (s.gOf k (fieldOf w 18 15)) 15 0 else fieldOf w 14 0) = 0 →
    ∃ s', exec (.doLoop t k) s = .next s' ∧ s'.dev.core k = { (s.dev.core k).step id with pc := ((s.dev.core k).pc + fieldOf w 24 19 + 2) % 2 ^ 14 } ∧ coreOnly k s s' ∧ sameMemory s s') ∧
  -- rete
  (∀ (s : State) (t k w : Nat), s.stands k w .rete = true →
    ∃ s', exec (.rete t k) s = .next s' ∧ s'.dev.core k = { (s.dev.core k).step id with slots := 2, target := none, rete := true } ∧ coreOnly k s s' ∧ sameMemory s s') ∧
  -- movsRead
  (∀ (s : State) (t k w : Nat), s.stands k w .movs = true →
    fieldOf w 25 25 = 1 → 16 ≤ fieldOf w 7 0 → fieldOf w 7 0 < 24 →
    ∃ s', exec (.movs t k) s = .next s' ∧ s'.dev.core k = (s.dev.core k).step (fun r => { r with g := r.g.set (fieldOf w 24 21) (BitVec.ofNat 32 (r.p.getD (fieldOf w 7 0 - 16) 0)) }) ∧ coreOnly k s s' ∧ sameMemory s s') ∧
  -- movsWriteLr
  (∀ (s : State) (t k w : Nat), s.stands k w .movs = true →
    fieldOf w 25 25 = 0 → fieldOf w 7 0 = 1 →
    ∃ s', exec (.movs t k) s = .next s' ∧ s'.dev.core k = (s.dev.core k).step (fun r => { r with lr := (s.gOf k (fieldOf w 24 21)).toNat % 2 ^ 14 }) ∧ coreOnly k s s' ∧ sameMemory s s') ∧
  -- movsWriteLate
  (∀ (s : State) (t k w : Nat), s.stands k w .movs = true →
    fieldOf w 25 25 = 0 → 16 ≤ fieldOf w 7 0 → fieldOf w 7 0 < 48 →
    ∃ s', exec (.movs t k) s = .next s' ∧ s'.dev.core k = { (s.dev.core k).step id with delayed := [{ left := 2, shadow := (s.dev.core k).inHandler, dest := .special (fieldOf w 7 0), value := s.gOf k (fieldOf w 24 21) }] } ∧ coreOnly k s s' ∧ sameMemory s s') ∧
  -- movsStatus
  (∀ (s : State) (t k w : Nat), s.stands k w .movs = true →
    fieldOf w 25 25 = 0 → fieldOf w 7 0 = 0 → (s.dev.core k).inHandler = false →
    ∃ s', exec (.movs t k) s = .next s' ∧ s'.dev.core k = { (s.dev.core k).step (fun r => { r with flags := putFlags r.flags 31 ((s.gOf k (fieldOf w 24 21)).toNat % 32) }) with sticky := (s.dev.core k).sticky &&& (63 - bits (s.gOf k (fieldOf w 24 21)) 13 8) } ∧ coreOnly k s s' ∧ sameMemory s s') ∧
  -- wait
  (∀ (s : State) (t k w : Nat), s.stands k w .wait = true →
    (s.dev.core k).nextEvent = none →
    ∃ s', exec (.wait t k) s = .next s' ∧ s'.dev.core k = { (s.dev.core k) with waiting := true, busySince := none } ∧ s'.dev.rbit (R.ASY_STATUS k) 4 = true ∧ s'.dev.top = s.dev.top ∧ s'.dev.seq = s.dev.seq ∧ sameMemory s s')

/-- Events, batches, slices and illegal words of the cores. A set is copied into the ring and raises BATCH when it is enabled;
CANARY, BATCH and ROUND enter their handlers with the return address saved; the batch time limit enters HELD; an illegal word
or a poisoned fetch removes the core. (10_assay_cores.md: Batches, events and faults.) -/
def Obligations.AssayEventsComplete : Prop :=
  -- setCopy
  (∀ (s : State) (t k n : Nat) (x : CandSet) (b : Batch), s.dev.alive = true → k < 16 → s.dev.hst.cbuf = [(n, x)] → s.dev.coreOf x.uid = some k → (s.dev.core k).ringCount < 8 → (s.dev.core k).removed = false →
    (s.dev.core k).batches = [b] → b.uid = x.uid →
    ∃ s', exec (.setCopy t k) s = .next s' ∧ s'.dev.hst.cbuf = [] ∧
      s'.dev.core k = { (s.dev.core k) with ringCount := (s.dev.core k).ringCount + 1, evPend := (s.dev.core k).evPend ||| 2, batches := [{ b with copied := b.copied + 1 }] } ∧
      s'.sram = memSetBytes s.sram (coreV k + 4 * (0x3800 + 256 * (((s.dev.core k).ringRd + (s.dev.core k).ringCount) % 8))) ((s.dev.advanceTo t).ringBytes x b) ∧
      s'.dev.reg64 (R.ASY_CNT_SET k) = (s.dev.reg64 (R.ASY_CNT_SET k) + 1) % 2 ^ 64 ∧ s'.dev.fld (R.ASY_STATUS k) 11 8 = (s.dev.core k).ringCount + 1 ∧
      s'.dram = s.dram ∧ s'.sramPoison = s.sramPoison ∧ s'.writeBacks = s.writeBacks) ∧
  -- setWaitsForRing
  (∀ (s : State) (t k n : Nat) (x : CandSet), s.dev.alive = true → s.dev.hst.cbuf = [(n, x)] → s.dev.coreOf x.uid = some k → (s.dev.core k).ringCount = 8 →
    ∃ s', exec (.setCopy t k) s = .next s' ∧ s'.dev.hst.cbuf = [(n, x)] ∧ s'.dev.core k = s.dev.core k ∧ s'.dev.regs = s.dev.regs ∧ sameMemory s s') ∧
  -- canary
  (∀ (s : State) (t k : Nat), s.dev.alive = true → k < 16 → (s.dev.core k).eligible = true → (s.dev.core k).nextEvent = some 0 → (s.dev.core k).delayed = [] →
    ∃ s', exec (.canary t k) s = .next s' ∧ (s'.dev.core k).inHandler = true ∧ (s'.dev.core k).pc = (s.dev.core k).vec.getD 0 0 ∧
      (s'.dev.core k).epc = (if (s.dev.core k).waiting then ((s.dev.core k).pc + 1) % 2 ^ 14 else (s.dev.core k).pc) ∧ (s'.dev.core k).evPend = (s.dev.core k).evPend &&& 6 ∧
      (s'.dev.core k).fg = (s.dev.core k).fg ∧ (s'.dev.core k).sh = (s.dev.core k).sh ∧ (s'.dev.core k).waiting = false ∧ s'.dev.rbit (R.ASY_STATUS k) 3 = true ∧ s'.dev.top = s.dev.top ∧ sameMemory s s') ∧
  -- batch
  (∀ (s : State) (t k : Nat), s.dev.alive = true → k < 16 → (s.dev.core k).eligible = true → (s.dev.core k).nextEvent = some 1 → (s.dev.core k).delayed = [] →
    ∃ s', exec (.batch t k) s = .next s' ∧ (s'.dev.core k).inHandler = true ∧ (s'.dev.core k).pc = (s.dev.core k).vec.getD 1 0 ∧
      (s'.dev.core k).epc = (if (s.dev.core k).waiting then ((s.dev.core k).pc + 1) % 2 ^ 14 else (s.dev.core k).pc) ∧ (s'.dev.core k).evPend = (s.dev.core k).evPend &&& 5 ∧
      (s'.dev.core k).fg = (s.dev.core k).fg ∧ (s'.dev.core k).sh = (s.dev.core k).sh ∧ (s'.dev.core k).waiting = false ∧ s'.dev.rbit (R.ASY_STATUS k) 3 = true ∧ s'.dev.top = s.dev.top ∧ sameMemory s s') ∧
  -- round
  (∀ (s : State) (t k : Nat), s.dev.alive = true → k < 16 → (s.dev.core k).eligible = true → (s.dev.core k).nextEvent = some 2 → (s.dev.core k).delayed = [] →
    ∃ s', exec (.round t k) s = .next s' ∧ (s'.dev.core k).inHandler = true ∧ (s'.dev.core k).pc = (s.dev.core k).vec.getD 2 0 ∧
      (s'.dev.core k).epc = (if (s.dev.core k).waiting then ((s.dev.core k).pc + 1) % 2 ^ 14 else (s.dev.core k).pc) ∧ (s'.dev.core k).evPend = (s.dev.core k).evPend &&& 3 ∧
      (s'.dev.core k).fg = (s.dev.core k).fg ∧ (s'.dev.core k).sh = (s.dev.core k).sh ∧ (s'.dev.core k).waiting = false ∧ s'.dev.rbit (R.ASY_STATUS k) 3 = true ∧ s'.dev.top = s.dev.top ∧ sameMemory s s') ∧
  -- batchTimeLimit
  (∀ (s : State) (t k x : Nat) (b : Batch), s.dev.alive = true → s.dev.top.state = .held → k < 16 → (s.dev.core k).batches = [b] → b.late = false → b.lastAt = some x →
    s.dev.fld R.ASY_BATCH_LIMIT 15 0 < ((s.dev.advanceTo t).now - x) / 2 → s.dev.faultRoom 0x0C05 = true →
    ∃ s', exec (.batchTimeLimit t k) s = .next s' ∧ (s'.dev.core k).batches = [{ b with late := true }] ∧ s'.dev.rbit (R.ASY_STATUS k) 18 = true ∧ s'.dev.fld (R.ASY_STATUS k) 31 24 = 5 ∧
      s'.dev.logged 0x0C05 = true ∧ s'.dev.top.causes.contains 0x0C05 = true ∧ sameMemory s s') ∧
  -- batchTimeLimitHolds
  (∀ (s : State) (t k x : Nat) (b : Batch), s.dev.alive = true → (s.dev.core k).batches = [b] → b.late = false → b.lastAt = some x →
    s.dev.fld R.ASY_BATCH_LIMIT 15 0 < ((s.dev.advanceTo t).now - x) / 2 →
    ∃ s', exec (.batchTimeLimit t k) s = .next s' ∧ s'.dev.top.state = .held ∧ sameMemory s s') ∧
  -- divisionResult
  (∀ (s : State) (t k n : Nat) (v : Word), s.dev.alive = true → (s.dev.core k).div = some { left := 0, shadow := false, dest := .gen n, value := v } →
    ∃ s', exec (.divisionResult t k) s = .next s' ∧ (s'.dev.core k).div = none ∧ (s'.dev.core k).fg = { (s.dev.core k).fg with g := (s.dev.core k).fg.g.set n v } ∧
      (s'.dev.core k).sh = (s.dev.core k).sh ∧ (s'.dev.core k).pc = (s.dev.core k).pc ∧ s'.dev.regs = s.dev.regs ∧ s'.dev.top = s.dev.top ∧ sameMemory s s') ∧
  -- loopCountEnd
  (∀ (s : State) (t k : Nat) (l : LoopRec) (r : List LoopRec), s.dev.alive = true → (s.dev.core k).inHandler = false → (s.dev.core k).fg.loops = l :: r → l.count = 0 → r.all (fun x => x.count != 0) = true →
    ∃ s', exec (.loopCountEnd t k) s = .next s' ∧ (s'.dev.core k).fg = { (s.dev.core k).fg with loops := r } ∧ (s'.dev.core k).pc = (s.dev.core k).pc ∧ s'.dev.regs = s.dev.regs ∧ s'.dev.top = s.dev.top ∧ sameMemory s s') ∧
  -- backgroundSliceExhausted
  (∀ (s : State) (t k : Nat), s.dev.alive = true → k < 16 → (s.dev.core k).fg.flags.testBit 4 = true → (s.dev.core k).started = true → (s.dev.reg R.ASY_BG_SLICE).toNat ≤ (s.dev.reg (R.ASY_BG_USED k)).toNat →
    ∃ s', exec (.backgroundSliceExhausted t k) s = .next s' ∧ s'.dev.core k = { (s.dev.core k) with bgHeld := true } ∧ s'.dev.rbit (R.ASY_STATUS k) 6 = true ∧ s'.dev.top = s.dev.top ∧ sameMemory s s') ∧
  -- illegalInstruction
  (∀ (s : State) (t k : Nat), s.dev.alive = true → k < 16 → s.dev.canIssue k false = true → s.fetchPoisoned k = false → decodeAsy (s.coreWord k) = none → s.dev.faultRoom 0x0C01 = true → (s.dev.core k).batches = [] →
    ∃ s', exec (.illegalInstruction t k) s = .next s' ∧ (s'.dev.core k).removed = true ∧ (s'.dev.core k).pc = (s.dev.core k).pc ∧ s'.dev.isRemoved (.core k) = true ∧ s'.dev.logged 0x0C01 = true ∧
      s'.dev.rbit (R.ASY_STATUS k) 2 = true ∧ s'.dev.fld (R.ASY_STATUS k) 31 24 = 1 ∧ s'.dev.rbit R.ASY_CL_STATUS (16 + k) = true ∧ s'.dev.top.state = s.dev.top.state ∧ sameMemory s s') ∧
  -- poisonedFetch
  (∀ (s : State) (t k : Nat), s.dev.alive = true → k < 16 → s.dev.canIssue k false = true → s.dev.faultRoom 0x0C02 = true → (s.dev.core k).batches = [] →
    ∃ s', exec (.poisonedFetch t k 2) s = .next s' ∧ (s'.dev.core k).removed = true ∧ s'.dev.isRemoved (.core k) = true ∧ s'.dev.logged 0x0C02 = true ∧ s'.dev.fld (R.ASY_STATUS k) 31 24 = 2 ∧
      s'.sramPoison.contains ((coreI k + 4 * (s.dev.core k).pc) / 32 * 32) = true ∧ s'.sram = s.sram ∧ s'.dram = s.dram)

/-- Halting, stepping and the windows of the cores. Halt, resume and step act on a core as its control register says; a breakpoint
halts it; the register window of a halted core reads and writes its registers, and refuses while it runs. (10_assay_cores.md:
Debug and registers.) -/
def Obligations.AssayDebugComplete : Prop :=
  -- asyHalt
  (∀ (s : State) (src t k : Nat) (v : Word), s.dev.alive = true → k < 16 → s.dev.top.state ≠ .headframe → s.dev.top.state ≠ .ranging → v.getLsbD 1 = true → v.getLsbD 2 = false →
    (s.dev.core k).halted = false → (s.dev.core k).delayed = [] → (s.dev.core k).div = none →
    ∃ s', exec (.asyHalt src t k v) s = .next s' ∧ (s'.dev.core k).halted = true ∧ (s'.dev.core k).pc = (s.dev.core k).pc ∧ (s'.dev.core k).fg = (s.dev.core k).fg ∧ (s'.dev.core k).sh = (s.dev.core k).sh ∧
      s'.dev.rbit (R.ASY_CTRL k) 1 = true ∧ s'.dev.rbit (R.ASY_STATUS k) 1 = true ∧ s'.dev.flg.jseq = s.dev.flg.jseq + 1 ∧ (s'.dev.req src).lastStatus = 0 ∧ sameMemory s s') ∧
  -- haltRefused
  (∀ (s : State) (src t k : Nat) (v : Word), s.dev.alive = true → k < 16 → s.dev.top.state = .ranging → v.getLsbD 0 = true → v.getLsbD 1 = true → v.getLsbD 2 = false → (s.dev.core k).halted = false →
    ∃ s', exec (.asyHalt src t k v) s = .next s' ∧ s'.dev.core k = s.dev.core k ∧ s'.dev.rbit (R.ASY_STATUS k) 17 = true ∧ (s'.dev.req src).lastStatus = 0 ∧ sameMemory s s') ∧
  -- resume
  (∀ (s : State) (src t k : Nat) (v : Word), s.dev.alive = true → k < 16 → s.dev.top.state ≠ .headframe → s.dev.top.state ≠ .ranging → v.getLsbD 1 = false → v.getLsbD 2 = false → (s.dev.core k).halted = true →
    ∃ s', exec (.asyHalt src t k v) s = .next s' ∧ (s'.dev.core k).halted = false ∧ (s'.dev.core k).pc = (s.dev.core k).pc ∧ s'.dev.rbit (R.ASY_CTRL k) 1 = false ∧ s'.dev.rbit (R.ASY_STATUS k) 1 = false ∧ sameMemory s s') ∧
  -- asyDispatchWrite
  (∀ (s : State) (src t k : Nat) (v : Word), s.dev.alive = true → k < 16 → s.dev.top.state ≠ .headframe → (s.dev.top.state ≠ .ranging ∨ v.getLsbD 0 = true) → v.getLsbD 1 = false → v.getLsbD 2 = false →
    (s.dev.core k).halted = false → s.dev.rbit (R.ASY_CTRL k) 1 = false →
    ∃ s', exec (.asyDispatchWrite src t k v) s = .next s' ∧ s'.dev.rbit (R.ASY_CTRL k) 0 = v.getLsbD 0 ∧ s'.dev.rbit (R.ASY_CTRL k) 3 = v.getLsbD 3 ∧ s'.dev.core k = s.dev.core k ∧
      (s'.dev.req src).lastStatus = 0 ∧ s'.dev.flg.jseq = s.dev.flg.jseq + 1 ∧ sameMemory s s') ∧
  -- asyStep
  (∀ (s : State) (src t k : Nat), s.dev.alive = true → k < 16 → s.dev.top.state ≠ .headframe → (s.dev.top.state ≠ .ranging ∨ s.dev.rbit (R.ASY_CTRL k) 0 = true) → s.dev.rbit (R.ASY_CTRL k) 1 = true → s.dev.core k = { started := true, halted := true, pc := (s.dev.core k).pc } →
    decodeAsy (s.coreWord k) = some .nop → s.fetchPoisoned k = false →
    ∃ s', exec (.asyStep src t k 0 0 0) s = .next s' ∧ (s'.dev.core k).pc = ((s.dev.core k).pc + 1) % 2 ^ 14 ∧ (s'.dev.core k).halted = true ∧ (s'.dev.core k).fg = (s.dev.core k).fg ∧ (s'.dev.req src).lastStatus = 0 ∧ sameMemory s s') ∧
  -- breakpointHit
  (∀ (s : State) (t k : Nat), s.dev.alive = true → k < 16 → s.dev.top.state ≠ .ranging → s.dev.rbit (R.ASY_CTRL k) 3 = true → (s.dev.core k).running = true → (s.dev.core k).pc = s.dev.fld (R.ASY_BKPT k) 13 0 →
    (s.dev.core k).delayed = [] → (s.dev.core k).div = none →
    ∃ s', exec (.breakpointHit t k) s = .next s' ∧ (s'.dev.core k).halted = true ∧ (s'.dev.core k).pc = (s.dev.core k).pc ∧ (s'.dev.core k).fg = (s.dev.core k).fg ∧ s'.dev.rbit (R.ASY_STATUS k) 1 = true ∧ s'.dev.top = s.dev.top ∧ sameMemory s s') ∧
  -- windowRead
  (∀ (s : State) (src t k off : Nat), s.dev.alive = true → (s.dev.core k).running = false → off < 0x8000 →
    ∃ s', exec (.asyRegisterWindowAccess src t k off false 0 0) s = .next s' ∧ (s'.dev.req src).lastData = [(s.dev.core k).winWord (decide (0x180 ≤ off)) (off % 128 / 4)] ∧ (s'.dev.req src).lastStatus = 0 ∧ s'.dev.core k = s.dev.core k ∧ sameMemory s s') ∧
  -- windowReadRunning
  (∀ (s : State) (src t k off : Nat), s.dev.alive = true → k < 16 → (s.dev.core k).running = true → off < 0x8000 →
    ∃ s', exec (.asyRegisterWindowAccess src t k off false 0 0) s = .next s' ∧ (s'.dev.req src).lastData = [0#32] ∧ s'.dev.rbit (R.ASY_STATUS k) 15 = true ∧ s'.dev.core k = s.dev.core k ∧ sameMemory s s') ∧
  -- windowWrite
  (∀ (s : State) (src t k off : Nat) (v : Word), s.dev.alive = true → s.dev.top.state ≠ .headframe → (s.dev.core k).running = false → off < 0x8000 →
    ∃ s', exec (.asyRegisterWindowAccess src t k off true v 0) s = .next s' ∧ s'.dev.core k = (s.dev.core k).winPut (decide (0x180 ≤ off)) (off % 128 / 4) v ∧ (s'.dev.req src).lastStatus = 0 ∧
      s'.dev.flg.jseq = s.dev.flg.jseq + 1 ∧ sameMemory s s') ∧
  -- windowWriteRunning
  (∀ (s : State) (src t k off : Nat) (v : Word), s.dev.alive = true → (s.dev.core k).running = true → off < 0x8000 →
    ∃ s', exec (.asyRegisterWindowAccess src t k off true v 0) s = .next s' ∧ s'.dev.core k = s.dev.core k ∧ s'.dev.flg.jseq = s.dev.flg.jseq + 1 ∧ sameMemory s s') ∧
  -- pageWrite
  (∀ (s : State) (src t k off : Nat) (v : Word), s.dev.alive = true → s.dev.top.state ≠ .headframe → k < 16 → (s.dev.core k).running = false → s.dev.asyPage src k = 3 → 0x8000 ≤ off → off + 4 ≤ 0x10000 →
    ∃ s', exec (.asyRegisterWindowAccess src t k off true v 0) s = .next s' ∧ memLe s'.sram (coreU k + off) 4 = v.toNat ∧
      (∀ a, (a < coreU k + off ∨ coreU k + off + 4 ≤ a) → memByte s'.sram a = memByte s.sram a) ∧ s'.dram = s.dram ∧ s'.dev.core k = s.dev.core k)

/-- Point records, packets, exports and dumps. A committed record is composed, counted and queued; a malformed one is refused; a
cell without a batch yields a fallback record; packets close by length or wait; gap records, lode exports, the journal dump
and FLUSH have their effects. (11_points_and_streams.md: Records, packets and commands.) -/
def Obligations.PointRecordsComplete : Prop :=
  -- pointAccept
  (∀ (s : State) (t k t0 : Nat) (w0 w1 w2 w3 : Word) (b : Batch) (r : CellRec), s.dev.alive = true → k < 16 → (s.dev.core k).committing = some t0 → s.dev.bufferFill < 1024 → (s.dev.core k).staging = [w0, w1, w2, w3] →
    (s.dev.core k).stagingOver = false → bits w1 19 16 = 0 → (s.dev.core k).batches = [b] → b.cell = bits w0 31 16 + 65536 * bits w1 7 0 → s.dev.cellOf b.uid = some r → r.recorded = false → r.heldClosed = false → r.uid = b.uid →
    r.entry.stream < 4 → s.dev.streamOn r.entry.stream = true → s.dev.streamLaneEn r.entry.stream = false →
    ∃ s', exec (.pointAccept t k) s = .next s' ∧ s'.dev.core k = { (s.dev.core k) with committing := none, staging := [], commitOk := true, commitBad := false } ∧
      s'.dev.reg64 R.PNT_CNT_RECORDS = (s.dev.reg64 R.PNT_CNT_RECORDS + 1) % 2 ^ 64 ∧ s'.dev.reg64 (R.ASY_CNT_REC k) = (s.dev.reg64 (R.ASY_CNT_REC k) + 1) % 2 ^ 64 ∧
      ((s'.dev.queue r.entry.stream).getLast?.map (fun q => (q.kind, q.seq, q.body.length))) = some (1, (s.dev.reg (R.PNT_STREAM_SEQ r.entry.stream)).toNat, 16) ∧
      (s'.dev.queue r.entry.stream).length = (s.dev.queue r.entry.stream).length + 1 ∧ sameMemory s s') ∧
  -- recordMalformed
  (∀ (s : State) (t k t0 : Nat), s.dev.alive = true → k < 16 → (s.dev.core k).committing = some t0 → s.dev.bufferFill < 1024 → (s.dev.core k).staging.length ≠ 4 + 2 * bits ((s.dev.core k).staging.getD 1 0) 19 16 → s.dev.faultRoom 0x0D01 = true →
    ∃ s', exec (.pointAccept t k) s = .next s' ∧ s'.dev.core k = { (s.dev.core k) with committing := none, staging := [], stagingOver := false, commitOk := false, commitBad := true } ∧
      s'.dev.reg64 R.PNT_CNT_MALFORMED = (s.dev.reg64 R.PNT_CNT_MALFORMED + 1) % 2 ^ 64 ∧ s'.dev.logged 0x0D01 = true ∧ s'.dev.pnt = s.dev.pnt ∧ s'.dev.top.state = s.dev.top.state ∧ sameMemory s s') ∧
  -- noBatchFallback
  (∀ (s : State) (t : Nat) (c : CellRec), s.dev.alive = true → c.entry.stream < 4 →
    (s.dev.seq.cells.map (·.2)).filter (fun c => !c.recorded && c.setCount == 0 && (s.dev.advanceTo t).cellClosable c.uid && s.dev.gat.wins.all (fun w => w.uid != c.uid || w.opened)) = [c] →
    ∃ s', exec (.noBatchFallback t) s = .next s' ∧ s'.dev.reg64 R.PNT_CNT_FALLBACK = (s.dev.reg64 R.PNT_CNT_FALLBACK + 1) % 2 ^ 64 ∧
      s'.dev.reg64 R.PNT_CNT_RECORDS = (s.dev.reg64 R.PNT_CNT_RECORDS + 1) % 2 ^ 64 ∧ sameMemory s s') ∧
  -- packetClose
  (∀ (s : State) (t n : Nat) (r : PntRec) (x y : Bool), s.dev.alive = true → s.dev.queue n = [r] → s.dev.fld (R.PNT_STREAM_WAIT n) 10 0 = 0 → s.dev.streamLaneEn n = true → n ≠ 4 →
    ∃ s', exec (.packetClose t n [] x y) s = .next s' ∧ s'.dev.queue n = [] ∧
      ((mgetD s'.dev.pnt.lanes (s.dev.streamLane n) []).getLast?.map (fun p => (p.stream, p.kind, p.records, p.seq))) = some (n, r.kind, 1, r.seq) ∧
      ((mgetD s'.dev.pnt.lanes (s.dev.streamLane n) []).getLast?.map (·.bytes)) = some ((s.dev.advanceTo t).packetHeader n r.kind 1 r.seq r.body.length ++ r.body) ∧ sameMemory s s') ∧
  -- packetPoisoned
  (∀ (s : State) (t n : Nat) (r : PntRec) (x y : Bool), s.dev.alive = true → s.dev.queue n = [r] → r.kind = 1 → s.dev.fld (R.PNT_STREAM_WAIT n) 10 0 = 0 → s.dev.streamLaneEn n = true → n < 4 → s.dev.faultRoom 0x0D04 = true →
    s.dev.rbit (R.PNT_STREAM_CFG n) 6 = false → s.dev.rbit (R.PNT_STREAM_CFG n) 12 = false → s.dev.pnt.cfgPend = [] →
    ∃ s', exec (.packetClose t n [0] x y) s = .next s' ∧ s'.dev.queue n = [] ∧
      ((mgetD s'.dev.pnt.lanes (s.dev.streamLane n) []).getLast?.map (·.bytes)) = some ((s.dev.advanceTo t).packetHeader n 1 1 r.seq r.fallback.length ++ r.fallback) ∧
      s'.dev.reg64 R.PNT_CNT_FALLBACK = (s.dev.reg64 R.PNT_CNT_FALLBACK + 1) % 2 ^ 64 ∧ s'.dev.logged 0x0D04 = true ∧ sameMemory s s') ∧
  -- bulkDropGapRecord
  (∀ (s : State) (t n m : Nat), s.dev.alive = true → n < 16 → mget s.dev.pnt.drops n = some m → 0 < m → s.dev.streamOn n = true →
    ∃ s', exec (.bulkDropGapRecord t n) s = .next s' ∧ s'.dev.pnt.drops = mdel s.dev.pnt.drops n ∧ (s'.dev.queue n).length = (s.dev.queue n).length + 1 ∧
      ((s'.dev.queue n).getLast?.map (fun q => (q.kind, q.seq, q.body.take 5))) = some (2, (s.dev.reg (R.PNT_STREAM_SEQ n)).toNat, leBytes 4 (Nat.min 0xFFFFFFFF m) ++ [2#8]) ∧
      s'.dev.reg (R.PNT_STREAM_SEQ n) = s.dev.reg (R.PNT_STREAM_SEQ n) + 1 ∧ sameMemory s s') ∧
  -- lodeExport
  (∀ (s : State) (src t bank ep : Nat) (mp : List Word), s.dev.takesCmd R.PNT_CMD = true → s.dev.pnt.export_ = none → s.dev.hst.sealedBank = some (bank, ep, mp) → lodeBad mp = false →
    bits (mp.getD 1 0) 23 0 * bits (mp.getD 2 0) 16 8 * 2 ^ bits (mp.getD 3 0) 12 11 ≠ 0 →
    ∃ s', exec (.lodeExport src t) s = .next s' ∧ s'.dev.pnt.export_.map (fun x => (x.bank, x.epoch, x.map, x.total, x.next)) =
        some (bank, ep, mp, bits (mp.getD 1 0) 23 0 * bits (mp.getD 2 0) 16 8 * 2 ^ bits (mp.getD 3 0) 12 11, 0) ∧
      s'.dev.rbit R.PNT_STATUS 3 = true ∧ s'.dev.fld R.PNT_CMD 9 8 = 1 ∧ writeTaken src s s') ∧
  -- lodeExportRejected
  (∀ (s : State) (src t : Nat), s.dev.takesCmd R.PNT_CMD = true → s.dev.pnt.export_ = none → s.dev.hst.sealedBank = none →
    ∃ s', exec (.lodeExport src t) s = .next s' ∧ s'.dev.pnt = s.dev.pnt ∧ s'.dev.fld R.PNT_CMD 9 8 = 2 ∧ s'.dev.fld R.PNT_CMD 23 16 = 1 ∧ writeTaken src s s') ∧
  -- journalDump
  (∀ (s : State) (src t : Nat), s.dev.takesCmd R.PNT_CMD = true → s.dev.pnt.export_ = none → s.dev.streamOn 11 = true → s.dev.flg.ring = [] → s.dev.flg.jwr = 0 → s.dev.flg.wrapped = false →
    ∃ s', exec (.journalDump src t) s = .next s' ∧ (s'.dev.queue 11).length = (s.dev.queue 11).length + 1 ∧
      ((s'.dev.queue 11).getLast?.map (fun q => (q.kind, q.seq, q.body.length))) = some (6, (s.dev.reg (R.PNT_STREAM_SEQ 11)).toNat, 32) ∧ s'.dev.fld R.PNT_CMD 9 8 = 1 ∧ writeTaken src s s') ∧
  -- flush
  (∀ (s : State) (src t n : Nat), s.dev.takesCmd R.PNT_CMD = true → 8 ≤ n → n ≤ 13 → s.dev.streamOn n = true →
    ∃ s', exec (.flush src t n) s = .next s' ∧ (s'.dev.queue n).map (fun q => (q.kind, q.body.take 5)) = [(2, leBytes 4 (Nat.min 0xFFFFFFFF (s.dev.queue n).length) ++ [5#8])] ∧
      s'.dev.fld R.PNT_CMD 9 8 = 1 ∧ writeTaken src s s') ∧
  -- flushRejected
  (∀ (s : State) (src t n : Nat), s.dev.takesCmd R.PNT_CMD = true → n < 8 →
    ∃ s', exec (.flush src t n) s = .next s' ∧ s'.dev.pnt = s.dev.pnt ∧ s'.dev.fld R.PNT_CMD 9 8 = 2 ∧ s'.dev.fld R.PNT_CMD 23 16 = 3 ∧ writeTaken src s s')

/-- The Foreman. A round renews every allocation and reports what was used; requests are served, wait or overrun by their class;
CHECK runs and passes or fails with the first failing condition; allocation writes wait; a parity error is raised.
(12_foreman_budgets.md: Rounds, requests and the check.) -/
def Obligations.ForemanComplete : Prop :=
  -- roundBoundary
  (∀ (s : State) (t : Nat), s.dev.alive = true → s.dev.reg64 R.FMN_ROUND < (s.dev.advanceTo t).now / 16384 → (s.dev.advanceTo t).now / 16384 < 2 ^ 64 → s.dev.fmn.approved = false → s.dev.fmn.waiting = [] →
    ∃ s', exec (.roundBoundary t) s = .next s' ∧ s'.dev.reg64 R.FMN_ROUND = (s.dev.advanceTo t).now / 16384 ∧ s'.dev.fmn.used = [] ∧ s'.dev.fmn.lent = [] ∧ s'.dev.fmn.overrun = false ∧
      (∀ a : Nat, a < 24 → s'.dev.reg (R.FMN_USED a) = BitVec.ofNat 32 (Nat.min 0xFFFFFFFF (mgetD s.dev.fmn.used a 0))) ∧
      (∀ k : Nat, k < 16 → (s'.dev.core k).evPend = (if (s.dev.core k).started && !(s.dev.core k).removed then (s.dev.core k).evPend ||| 4 else (s.dev.core k).evPend)) ∧
      (∀ k : Nat, k < 16 → s'.dev.reg (R.ASY_BG_USED k) = 0#32 ∧ (s'.dev.core k).bgHeld = false) ∧ s'.dev.rbit R.FMN_STATUS 5 = false ∧ sameMemory s s') ∧
  -- allocationsApplied
  (∀ (s : State) (t a v : Nat), s.dev.alive = true → s.dev.reg64 R.FMN_ROUND < (s.dev.advanceTo t).now / 16384 → s.dev.fmn.approved = true → s.dev.fmn.waiting = [] → s.dev.fmn.pend = [(a, v)] → a < 24 →
    ∃ s', exec (.roundBoundary t) s = .next s' ∧ s'.dev.reg (R.FMN_ALLOC a) = BitVec.ofNat 32 v ∧ s'.dev.reg R.ASY_BG_SLICE = (if a = 2 then BitVec.ofNat 32 v else s.dev.reg (R.FMN_ALLOC 2)) ∧
      s'.dev.fmn.pend = [] ∧ s'.dev.fmn.approved = false ∧ s'.dev.rbit R.FMN_STATUS 1 = false ∧ sameMemory s s') ∧
  -- activityServed
  (∀ (s : State) (t a n : Nat) (panic : Bool), s.dev.alive = true → 8 ≤ a → a < 24 → a ≠ 16 → n ≤ s.dev.actLeft a →
    ∃ s', exec (.activityRequest t a n panic) s = .next s' ∧ mgetD s'.dev.fmn.used a 0 = mgetD s.dev.fmn.used a 0 + n ∧ s'.dev.fmn.waiting = s.dev.fmn.waiting ∧ s'.dev.regs = s.dev.regs ∧ sameMemory s s') ∧
  -- activityWaits
  (∀ (s : State) (t a n : Nat), s.dev.alive = true → 8 ≤ a → a < 24 → a ≠ 14 → s.dev.actLeft a < n →
    ∃ s', exec (.activityRequest t a n false) s = .next s' ∧ s'.dev.fmn.used = s.dev.fmn.used ∧ s'.dev.fmn.waiting = s.dev.fmn.waiting ++ [(a, n)] ∧ s'.dev.fmn.starved.contains a = true ∧ s'.dev.regs = s.dev.regs ∧ sameMemory s s') ∧
  -- activityOverruns
  (∀ (s : State) (t a n : Nat) (panic : Bool), s.dev.alive = true → a < 8 → a ≠ 2 → (s.dev.reg (R.FMN_ALLOC a)).toNat < mgetD s.dev.fmn.used a 0 + n → s.dev.fmn.overrun = false → s.dev.faultRoom 0x0E02 = true →
    ∃ s', exec (.activityRequest t a n panic) s = .next s' ∧ mgetD s'.dev.fmn.used a 0 = mgetD s.dev.fmn.used a 0 + n ∧ s'.dev.fmn.overrun = true ∧ s'.dev.rbit R.FMN_STATUS 3 = true ∧
      s'.dev.reg64 R.FMN_CNT_OVERRUN = (s.dev.reg64 R.FMN_CNT_OVERRUN + 1) % 2 ^ 64 ∧ s'.dev.logged 0x0E02 = true ∧ s'.dev.fmn.waiting = s.dev.fmn.waiting ∧ sameMemory s s') ∧
  -- check
  (∀ (s : State) (src t : Nat), s.dev.takesCmd R.FMN_CMD = true →
    ∃ s', exec (.check src t) s = .next s' ∧ s'.dev.fmn.checking = true ∧ s'.dev.fld R.FMN_CMD 9 8 = 3 ∧ s'.dev.fld R.FMN_CMD 7 0 = 1 ∧ writeTaken src s s') ∧
  -- admissionPassed
  (∀ (s : State) (t : Nat), s.dev.alive = true → s.dev.fmn.checking = true → s.dev.fmn.recheckDue = false → s.dev.top.stage10 = false → (s.dev.admission s.sram s.dev.dispatchCores).code = 0 →
    ∃ s', exec (.admissionCheckDone t) s = .next s' ∧ s'.dev.fmn.checking = false ∧ s'.dev.rbit R.FMN_STATUS 0 = true ∧ s'.dev.fld R.FMN_ADMIT 3 0 = 0 ∧ s'.dev.fld R.FMN_CMD 9 8 = 1 ∧
      s'.dev.reg R.FMN_CORES = BitVec.ofNat 32 s.dev.dispatchCores ∧ s'.dev.top = s.dev.top ∧ sameMemory s s') ∧
  -- admissionFailed
  (∀ (s : State) (t : Nat), s.dev.alive = true → s.dev.fmn.checking = true → s.dev.fmn.recheckDue = false → s.dev.top.stage10 = false → (s.dev.admission s.sram s.dev.dispatchCores).code ≠ 0 → s.dev.faultRoom 0x0E01 = true →
    ∃ s', exec (.admissionCheckDone t) s = .next s' ∧ s'.dev.fmn.checking = false ∧ s'.dev.rbit R.FMN_STATUS 0 = false ∧ s'.dev.fld R.FMN_CMD 9 8 = 2 ∧ s'.dev.logged 0x0E01 = true ∧ s'.dev.top.state = s.dev.top.state ∧ sameMemory s s') ∧
  -- fmnAllocWrite
  (∀ (s : State) (src t a : Nat) (v : Word), s.dev.alive = true → s.dev.top.state ≠ .headframe → a < 24 →
    ∃ s', exec (.fmnAllocWrite src t a v) s = .next s' ∧ mget s'.dev.fmn.pend a = some v.toNat ∧ s'.dev.fmn.approved = false ∧ s'.dev.rbit R.FMN_STATUS 1 = true ∧
      s'.dev.reg (R.FMN_ALLOC a) = s.dev.reg (R.FMN_ALLOC a) ∧ writeTaken src s s') ∧
  -- foremanParityError
  (∀ (s : State) (t : Nat), s.dev.alive = true →
    ∃ s', exec (.foremanParityError t) s = .next s' ∧ s'.dev.top.state = .held ∧ sameMemory s s')

/-- Waveform taps. A tap starts, arms, is triggered, captures, writes its record and re-arms; triggers that find it busy are
counted; a full ring or buffer gives a gap; FLUSH and the drained ring act; stream records are read; a parity error removes
the tap. (13_waveform_capture.md: Taps, records and rings.) -/
def Obligations.WaveformComplete : Prop :=
  -- wavTapCfgWrite
  (∀ (s : State) (src t tap : Nat) (v : Word), s.dev.alive = true → s.dev.top.state ≠ .headframe → tap < 8 → (s.dev.tap tap).st = .idle → (s.dev.tap tap).cfgPend = [] → v.getLsbD 0 = false → bits v 11 9 ≠ 7 →
    ∃ s', exec (.wavTapCfgWrite src t tap v) s = .next s' ∧ s'.dev.reg (R.WAV_TAP_CFG tap) &&& 0x003FFFFF#32 = v &&& 0x003FFFFF#32 ∧ (s'.dev.tap tap).st = .idle ∧ writeTaken src s s') ∧
  -- tapStarts
  (∀ (s : State) (src t tap : Nat) (v : Word), s.dev.alive = true → s.dev.inState [.armed, .ranging, .held] = true → tap < 8 → s.dev.hoistServing = true → (s.dev.tap tap).st = .idle → (s.dev.tap tap).dead = false → (s.dev.tap tap).cfgPend = [] → v.getLsbD 0 = true →
    ∃ s', exec (.wavTapCfgWrite src t tap v) s = .next s' ∧ s'.dev.rbit (R.WAV_TAP_CFG tap) 0 = true ∧ (s'.dev.tap tap).st = .rearm ∧ (s'.dev.tap tap).rearmEnd = 2 * (s.dev.advanceTo t).now + 64 ∧ writeTaken src s s') ∧
  -- cfgHeld
  (∀ (s : State) (src t tap : Nat) (v : Word), s.dev.alive = true → s.dev.top.state ≠ .headframe → tap < 8 → (s.dev.tap tap).st = .capturing → v.getLsbD 0 = true → bits v 11 9 ≠ 7 → s.dev.reg (R.WAV_TAP_CFG tap) = 1#32 → v &&& 0x003F3FFE#32 ≠ 0#32 → bits v 15 14 = 0 →
    ∃ s', exec (.wavTapCfgWrite src t tap v) s = .next s' ∧ s'.dev.reg (R.WAV_TAP_CFG tap) = 1#32 ∧ (s'.dev.tap tap).st = .capturing ∧ mget (s'.dev.tap tap).cfgPend (R.WAV_TAP_CFG tap) = some v ∧ writeTaken src s s') ∧
  -- levelTrigger
  (∀ (s : State) (t tap k a b : Nat), s.dev.alive = true → tap < 8 → (s.dev.tap tap).st = .armed → (s.dev.tap tap).flushing = false → (s.dev.tap tap).primed = true → (s.dev.tap tap).recent = [a] → s.dev.rbit (R.WAV_TAP_TRIG tap) 1 = true → s.dev.rbit (R.WAV_TAP_TRIG tap) 5 = false → s.dev.fld (R.WAV_TAP_CFG tap) 13 12 = 0 → a < s.dev.fld (R.WAV_TAP_LEVEL tap) 7 0 → s.dev.fld (R.WAV_TAP_LEVEL tap) 7 0 ≤ b → b < 256 → 1 ≤ k →
    ∃ s', exec (.levelTrigger t tap k [b]) s = .next s' ∧ (s'.dev.tap tap).trigs = (s.dev.tap tap).trigs ++ [{ source := 1, tick := (16 * (k - 1) + 16 * (s.dev.fld (R.WAV_TAP_LEVEL tap) 7 0 - a) / (b - a)) / 32, fine := (16 * (k - 1) + 16 * (s.dev.fld (R.WAV_TAP_LEVEL tap) 7 0 - a) / (b - a)) % 32 }] ∧ (s'.dev.tap tap).primed = false ∧ (s'.dev.tap tap).st = .armed ∧ s'.dev.regs = s.dev.regs ∧ sameMemory s s') ∧
  -- trigInEdge
  (∀ (s : State) (t tick fine tap : Nat), s.dev.alive = true → tap < 8 → (s.dev.tap tap).st = .armed → (s.dev.tap tap).flushing = false → s.dev.rbit (R.WAV_TAP_TRIG tap) 3 = true →
    ∃ s', exec (.trigInEdge t tick fine) s = .next s' ∧ (s'.dev.tap tap).trigs = (s.dev.tap tap).trigs ++ [{ source := 3, tick := tick, fine := fine }] ∧ sameMemory s s') ∧
  -- triggerIgnored
  (∀ (s : State) (t tick fine tap : Nat), s.dev.alive = true → tap < 8 → (s.dev.tap tap).st = .rearm → s.dev.rbit (R.WAV_TAP_TRIG tap) 3 = true →
    ∃ s', exec (.trigInEdge t tick fine) s = .next s' ∧ (s'.dev.tap tap).trigs = (s.dev.tap tap).trigs ∧ (s'.dev.tap tap).st = .rearm ∧ s'.dev.reg64 (R.WAV_CNT_IGN tap) = (s.dev.reg64 (R.WAV_CNT_IGN tap) + 1) % 2 ^ 64 ∧ sameMemory s s') ∧
  -- triggerDecision
  (∀ (s : State) (t tap : Nat) (x : Trig), s.dev.alive = true → tap < 8 → (s.dev.tap tap).st = .armed → (s.dev.tap tap).trigs = [x] → (s.dev.tap tap).gaps = [] → trigSample x.tick x.fine + 256 ≤ 2 * (s.dev.advanceTo t).now → recordBytes (bits ((s.dev.advanceTo t).newRecord tap (trigSample x.tick x.fine) [x]).cfg 11 9) (((s.dev.advanceTo t).newRecord tap (trigSample x.tick x.fine) [x]).preValid + ((s.dev.advanceTo t).newRecord tap (trigSample x.tick x.fine) [x]).post) ≤ s.dev.ringFree tap →
    ∃ s', exec (.triggerDecision t tap) s = .next s' ∧ (s'.dev.tap tap).st = .capturing ∧ (s'.dev.tap tap).trigs = [] ∧ (s'.dev.tap tap).cap = some ((s.dev.advanceTo t).newRecord tap (trigSample x.tick x.fine) [x]) ∧ s'.dev.regs = s.dev.regs ∧ sameMemory s s') ∧
  -- ringFull
  (∀ (s : State) (t tap : Nat) (x : Trig), s.dev.alive = true → tap < 8 → (s.dev.tap tap).st = .armed → (s.dev.tap tap).trigs = [x] → trigSample x.tick x.fine + 256 ≤ 2 * (s.dev.advanceTo t).now → s.dev.ringFree tap < recordBytes (bits ((s.dev.advanceTo t).newRecord tap (trigSample x.tick x.fine) [x]).cfg 11 9) (((s.dev.advanceTo t).newRecord tap (trigSample x.tick x.fine) [x]).preValid + ((s.dev.advanceTo t).newRecord tap (trigSample x.tick x.fine) [x]).post) → s.dev.rbit (R.WAV_TAP_STATUS tap) 5 = false → s.dev.faultRoom 0x0F02 = true →
    ∃ s', exec (.triggerDecision t tap) s = .next s' ∧ (s'.dev.tap tap).st = .rearm ∧ (s'.dev.tap tap).trigs = [] ∧ (s'.dev.tap tap).cap = (s.dev.tap tap).cap ∧ s'.dev.reg64 (R.WAV_CNT_DROP tap) = (s.dev.reg64 (R.WAV_CNT_DROP tap) + 1) % 2 ^ 64 ∧ s'.dev.rbit (R.WAV_TAP_STATUS tap) 5 = true ∧ s'.dev.logged 0x0F02 = true ∧ sameMemory s s') ∧
  -- captureEnd
  (∀ (s : State) (t tap : Nat) (xs : List Nat) (r : WavRec), s.dev.alive = true → (s.dev.tap tap).cap = some r → (s.dev.tap tap).cfgPend = [] → r.k + r.post ≤ 2 * (s.dev.advanceTo t).now + 2 →
    ∃ s', exec (.captureEnd t tap xs) s = .next s' ∧ (s'.dev.tap tap).st = .rearm ∧ (s'.dev.tap tap).cap = none ∧ (s'.dev.tap tap).writing = some { r with postValid := r.post, truncated := false, samples := (List.range (r.preValid + r.post)).map (fun i => xs.getD i 0 % 256), chRemoved := r.chRemoved || s.dev.chRemoved (s.dev.tapChannel tap) } ∧ (s'.dev.tap tap).refill = r.k + r.post ∧ s'.dev.regs = s.dev.regs ∧ sameMemory s s') ∧
  -- writeBufferFull
  (∀ (s : State) (t tap n : Nat) (xs : List Nat) (r : WavRec), s.dev.alive = true → tap < 8 → (s.dev.tap tap).cap = some r → (s.dev.tap tap).cfgPend = [] → r.k ≤ n → n < r.k + r.post → bits r.cfg 11 9 = 0 → s.dev.faultRoom 0x0F01 = true → s.dev.rbit (R.WAV_TAP_STATUS tap) 4 = false →
    ∃ s', exec (.writeBufferFull t tap n xs) s = .next s' ∧ (s'.dev.tap tap).cap = none ∧ (s'.dev.tap tap).st = .rearm ∧ (s'.dev.tap tap).writing.map (fun w => (w.postValid, w.truncated, w.samples)) = some (n - r.k, true, (List.range (r.preValid + (n - r.k))).map (fun i => xs.getD i 0 % 256)) ∧ s'.dev.rbit (R.WAV_TAP_STATUS tap) 4 = true ∧ s'.dev.logged 0x0F01 = true ∧ sameMemory s s') ∧
  -- recordWritten
  (∀ (s : State) (t tap pre : Nat) (r : WavRec), s.dev.alive = true → tap < 8 → (s.dev.tap tap).writing = some r →
    ∃ s', exec (.recordWritten t tap pre) s = .next s' ∧ (s'.dev.tap tap).writing = none ∧ (s'.dev.tap tap).ring = (s.dev.tap tap).ring ++ [((s.dev.reg (R.WAV_RING_WR tap)).toNat, recordBytes (bits r.cfg 11 9) r.samples.length)] ∧ s'.dev.reg (R.WAV_RING_WR tap) = BitVec.ofNat 32 (((s.dev.reg (R.WAV_RING_WR tap)).toNat + recordBytes (bits r.cfg 11 9) r.samples.length) % s.dev.ringLen tap) ∧ s'.dev.reg (R.WAV_SEQ tap) = s.dev.reg (R.WAV_SEQ tap) + 1 ∧ s'.dev.reg64 (R.WAV_CNT_REC tap) = (s.dev.reg64 (R.WAV_CNT_REC tap) + 1) % 2 ^ 64 ∧ s'.sram = s.sram) ∧
  -- rearmEnd
  (∀ (s : State) (t tap : Nat), s.dev.alive = true → (s.dev.tap tap).st = .rearm → (s.dev.tap tap).writing = none → (s.dev.tap tap).rearmEnd ≤ 2 * (s.dev.advanceTo t).now →
    ∃ s', exec (.rearmEnd t tap) s = .next s' ∧ (s'.dev.tap tap) = { (s.dev.tap tap) with st := .armed, trigs := [] } ∧ s'.dev.regs = s.dev.regs ∧ sameMemory s s') ∧
  -- wavGapRecord
  (∀ (s : State) (t tap : Nat) (g : Nat × Nat × Nat × Nat), s.dev.alive = true → tap < 8 → s.dev.hoistServing = true → (s.dev.tap tap).cap = none → (s.dev.tap tap).writing = none → (s.dev.tap tap).st ≠ .idle → (s.dev.tap tap).gaps = [g] → 32 ≤ s.dev.ringFree tap →
    ∃ s', exec (.wavGapRecord t tap) s = .next s' ∧ (s'.dev.tap tap).gaps = [] ∧ (s'.dev.tap tap).ring = (s.dev.tap tap).ring ++ [((s.dev.reg (R.WAV_RING_WR tap)).toNat, 32)] ∧ s'.dev.reg (R.WAV_RING_WR tap) = BitVec.ofNat 32 (((s.dev.reg (R.WAV_RING_WR tap)).toNat + 32) % s.dev.ringLen tap) ∧ s'.dev.reg (R.WAV_SEQ tap) = s.dev.reg (R.WAV_SEQ tap) + 1 ∧ s'.sram = s.sram) ∧
  -- wavFlush
  (∀ (s : State) (src t tap : Nat), s.dev.takesCmd R.WAV_CMD = true → tap < 8 → (s.dev.tap tap).st ≠ .idle → (s.dev.tap tap).flushing = false →
    ∃ s', exec (.wavFlush src t tap) s = .next s' ∧ (s'.dev.tap tap) = { (s.dev.tap tap) with flushing := true } ∧ s'.dev.fld R.WAV_CMD 9 8 = 3 ∧ s'.dev.fld R.WAV_CMD 14 12 = tap ∧ writeTaken src s s') ∧
  -- wavFlushIdle
  (∀ (s : State) (src t tap : Nat), s.dev.takesCmd R.WAV_CMD = true → tap < 8 → (s.dev.tap tap).st = .idle →
    ∃ s', exec (.wavFlush src t tap) s = .next s' ∧ (s'.dev.tap tap) = (s.dev.tap tap) ∧ s'.dev.fld R.WAV_CMD 9 8 = 2 ∧ s'.dev.fld R.WAV_CMD 23 16 = 1 ∧ writeTaken src s s') ∧
  -- flushExecute
  (∀ (s : State) (t tap : Nat), s.dev.alive = true → tap < 8 → (s.dev.tap tap).flushing = true → (s.dev.tap tap).cap = none → (s.dev.tap tap).writing = none → (s.dev.tap tap).ringPend = [] →
    ∃ s', exec (.flushExecute t tap) s = .next s' ∧ (s'.dev.tap tap).flushing = false ∧ (s'.dev.tap tap).ring = [(0, 32)] ∧ s'.dev.reg (R.WAV_RING_WR tap) = 32#32 ∧ s'.dev.reg (R.WAV_RING_RD tap) = 0#32 ∧ s'.dev.reg (R.WAV_SEQ tap) = s.dev.reg (R.WAV_SEQ tap) + 1 ∧ s'.sram = s.sram) ∧
  -- ringDrainApply
  (∀ (s : State) (t tap : Nat) (v : Word), s.dev.alive = true → tap < 8 → (s.dev.tap tap).ringPend = [(R.WAV_RING_LEN tap, v)] → (s.dev.tap tap).cap = none → (s.dev.tap tap).writing = none → s.dev.ringUsed tap = 0 →
    ∃ s', exec (.ringDrainApply t tap) s = .next s' ∧ s'.dev.reg (R.WAV_RING_LEN tap) = v ∧ s'.dev.reg (R.WAV_RING_WR tap) = 0#32 ∧ s'.dev.reg (R.WAV_RING_RD tap) = 0#32 ∧ (s'.dev.tap tap) = { (s.dev.tap tap) with ringPend := [], ring := [] } ∧ sameMemory s s') ∧
  -- streamRecordRead
  (∀ (s : State) (t tap off len : Nat) (rest : List (Nat × Nat)), s.dev.alive = true → tap < 8 → s.dev.hoistServing = true → (s.dev.tap tap).ring = (off, len) :: rest → len % 32 = 0 → s.dev.rbit (R.WAV_TAP_CFG tap) 15 = true → s.dev.streamOn 10 = true →
    ∃ s', exec (.streamRecordRead t tap []) s = .next s' ∧ (s'.dev.queue 10).length = (s.dev.queue 10).length + 1 ∧ ((s'.dev.queue 10).getLast?.map (fun q => (q.kind, q.seq, q.body.length))) = some (5, (s.dev.reg (R.PNT_STREAM_SEQ 10)).toNat, len) ∧ s'.dev.reg (R.WAV_RING_RD tap) = BitVec.ofNat 32 ((off + len) % s.dev.ringLen tap) ∧ sameMemory s s') ∧
  -- tapParityError
  (∀ (s : State) (t tap : Nat), s.dev.alive = true → tap < 8 → s.dev.faultRoom 0x0F04 = true →
    ∃ s', exec (.tapParityError t tap) s = .next s' ∧ (s'.dev.tap tap).st = .idle ∧ (s'.dev.tap tap).dead = true ∧ (s'.dev.tap tap).cap = none ∧ s'.dev.isRemoved (.tap tap) = true ∧ s'.dev.logged 0x0F04 = true ∧ s'.dev.top.state = s.dev.top.state ∧ sameMemory s s')

/-- Housekeeping converters. Conversions, starts by command and by timer, delays, injections and self-calibrations have their
effects and are rejected where the chapter says. (14_filters_and_housekeeping_adc.md: Housekeeping conversion.) -/
def Obligations.HousekeepingComplete : Prop :=
  -- hkaConversion
  (∀ (s : State) (t u e n : Nat) (x : Int) (ovl : Bool), s.dev.alive = true → u < 6 → e < 8 → (s.dev.hka u).run = some (e, n) → (s.dev.hka u).cal = false → (s.dev.hka u).calWait = false → mget (s.dev.hka u).seqPend e = none → s.dev.senseMode u = false → s.dev.isRemoved (.converter u) = false → inputOk u (s.dev.fld (R.HKA_SEQ u e) 5 0) = true →
    ∃ s', exec (.hkaConversion t u x ovl) s = .next s' ∧ s'.dev.fld (R.HKA_RESULT u e) 23 0 = unsigned 24 x ∧ s'.dev.rbit (R.HKA_RESULT u e) 24 = true ∧ s'.dev.rbit (R.HKA_RESULT u e) 25 = decide (n + 1 < (if u < 4 then 1 else s.dev.fld (R.HKA_CFG u) 25 24 + 1)) ∧ s'.dev.rbit (R.HKA_RESULT u e) 26 = ovl ∧ (s'.dev.hka u).run = (if s.dev.fld (R.HKA_SEQ u e) 12 9 ≤ n then (if e < s.dev.fld (R.HKA_CFG u) 23 21 then some (e + 1, 0) else none) else some (e, n + 1)) ∧ sameMemory s s') ∧
  -- hkaStart
  (∀ (s : State) (src t u : Nat), s.dev.takesCmd R.HKA_CMD = true → u < 6 → s.dev.rbit (R.HKA_CFG u) 0 = true → s.dev.scanned u = false → s.dev.senseMode u = false → s.dev.fld (R.HKA_CFG u) 20 5 = 0 → (s.dev.hka u) = {} →
    ∃ s', exec (.hkaStart src t u) s = .next s' ∧ (s'.dev.hka u).run = some (0, 0) ∧ s'.dev.rbit (R.HKA_STATUS u) 0 = true ∧ s'.dev.fld R.HKA_CMD 9 8 = 1 ∧ writeTaken src s s') ∧
  -- hkaStartDelayed
  (∀ (s : State) (src t u : Nat), s.dev.takesCmd R.HKA_CMD = true → u < 6 → s.dev.rbit (R.HKA_CFG u) 0 = true → s.dev.scanned u = false → s.dev.senseMode u = false → s.dev.fld (R.HKA_CFG u) 20 5 ≠ 0 → (s.dev.hka u) = {} →
    ∃ s', exec (.hkaStart src t u) s = .next s' ∧ (s'.dev.hka u).delayEnd = some ((s.dev.advanceTo t).now + 16 * s.dev.fld (R.HKA_CFG u) 20 5) ∧ (s'.dev.hka u).run = none ∧ s'.dev.rbit (R.HKA_STATUS u) 1 = true ∧ s'.dev.fld R.HKA_CMD 9 8 = 1 ∧ writeTaken src s s') ∧
  -- hkaStartRejected
  (∀ (s : State) (src t u : Nat), s.dev.takesCmd R.HKA_CMD = true → u < 6 → s.dev.rbit (R.HKA_CFG u) 0 = false →
    ∃ s', exec (.hkaStart src t u) s = .next s' ∧ (s'.dev.hka u) = (s.dev.hka u) ∧ s'.dev.fld R.HKA_CMD 9 8 = 2 ∧ s'.dev.fld R.HKA_CMD 23 16 = 1 ∧ writeTaken src s s') ∧
  -- hkaTimerOverflow
  (∀ (s : State) (t timer u : Nat), s.dev.alive = true → u < 6 → s.dev.reg (R.HKA_TIMER timer) ≠ 0#32 → s.dev.fld (R.HKA_CFG u) 4 1 = timer + 1 → s.dev.rbit (R.HKA_CFG u) 0 = true → s.dev.scanned u = false → s.dev.senseMode u = false → s.dev.fld (R.HKA_CFG u) 20 5 = 0 → (s.dev.hka u) = {} →
    ∃ s', exec (.hkaTimerOverflow t timer) s = .next s' ∧ (s'.dev.hka u).run = some (0, 0) ∧ s'.dev.rbit (R.HKA_STATUS u) 0 = true ∧ sameMemory s s') ∧
  -- startDelayEnd
  (∀ (s : State) (t u x : Nat), s.dev.alive = true → (s.dev.hka u) = { delayEnd := some x } → x ≤ (s.dev.advanceTo t).now →
    ∃ s', exec (.startDelayEnd t u) s = .next s' ∧ (s'.dev.hka u) = { run := some (0, 0) } ∧ s'.dev.rbit (R.HKA_STATUS u) 0 = true ∧ s'.dev.rbit (R.HKA_STATUS u) 1 = false ∧ sameMemory s s') ∧
  -- inject
  (∀ (s : State) (src t u a code : Nat), s.dev.takesCmd R.HKA_CMD = true → u < 4 → a ≤ 5 → s.dev.senseMode u = false → (s.dev.hka u) = {} →
    ∃ s', exec (.inject src t u a code) s = .next s' ∧ (s'.dev.hka u) = { inj := some (a, code % 64) } ∧ s'.dev.rbit (R.HKA_STATUS u) 2 = true ∧ s'.dev.fld R.HKA_CMD 9 8 = 1 ∧ writeTaken src s s') ∧
  -- injectRejected
  (∀ (s : State) (src t u a code : Nat), s.dev.takesCmd R.HKA_CMD = true → 4 ≤ u → u < 6 →
    ∃ s', exec (.inject src t u a code) s = .next s' ∧ (s'.dev.hka u) = (s.dev.hka u) ∧ s'.dev.fld R.HKA_CMD 9 8 = 2 ∧ s'.dev.fld R.HKA_CMD 23 16 = 4 ∧ s'.dev.reg64 (R.HKA_CNT_INJ_DROP u) = (s.dev.reg64 (R.HKA_CNT_INJ_DROP u) + 1) % 2 ^ 64 ∧ writeTaken src s s') ∧
  -- injectionDone
  (∀ (s : State) (t u a code : Nat) (xs : List Int), s.dev.alive = true → u < 6 → (s.dev.hka u) = { inj := some (a, code) } → s.dev.isRemoved (.converter u) = false →
    ∃ s', exec (.injectionDone t u xs) s = .next s' ∧ (s'.dev.hka u) = {} ∧ s'.dev.fld (R.HKA_INJ_RESULT u) 23 0 = unsigned 24 (((List.range (2 ^ a)).map (fun i => xs.getD i 0)).sum / ((2 ^ a : Nat) : Int)) ∧ s'.dev.rbit (R.HKA_INJ_RESULT u) 24 = inputOk u code ∧ sameMemory s s') ∧
  -- hkaCal
  (∀ (s : State) (src t u : Nat), s.dev.takesCmd R.HKA_CMD = true → u < 6 → s.dev.senseMode u = false → s.dev.isRemoved (.converter u) = false → (s.dev.hka u) = {} →
    ∃ s', exec (.hkaCal src t u) s = .next s' ∧ (s'.dev.hka u) = { cal := true } ∧ s'.dev.rbit (R.HKA_STATUS u) 3 = true ∧ s'.dev.fld R.HKA_CMD 9 8 = 1 ∧ writeTaken src s s') ∧
  -- hkaCalWaits
  (∀ (s : State) (src t u e n : Nat), s.dev.takesCmd R.HKA_CMD = true → u < 6 → s.dev.senseMode u = false → s.dev.isRemoved (.converter u) = false → (s.dev.hka u) = { run := some (e, n) } →
    ∃ s', exec (.hkaCal src t u) s = .next s' ∧ (s'.dev.hka u) = { run := some (e, n), calWait := true } ∧ s'.dev.rbit (R.HKA_STATUS u) 4 = true ∧ s'.dev.fld R.HKA_CMD 9 8 = 3 ∧ writeTaken src s s') ∧
  -- selfCalibrationDone
  (∀ (s : State) (t u oc gc : Nat) (off gain : Int), s.dev.alive = true → u < 6 → (s.dev.hka u) = { cal := true } → off.natAbs ≤ 64 → gain.natAbs ≤ 20000 →
    ∃ s', exec (.selfCalibrationDone t u off gain oc gc) s = .next s' ∧ (s'.dev.hka u) = { passed := true } ∧ s'.dev.isRemoved (.converter u) = false ∧ s'.dev.reg (R.HKA_TRIM u) = BitVec.ofNat 32 (oc % 256 + 256 * (gc % 256)) ∧ s'.dev.rbit (R.HKA_STATUS u) 7 = true ∧ sameMemory s s') ∧
  -- selfCalibrationFailed
  (∀ (s : State) (t u oc gc : Nat) (off gain : Int), s.dev.alive = true → u < 6 → (s.dev.hka u) = { cal := true } → 64 < off.natAbs ∨ 20000 < gain.natAbs → s.dev.faultRoom (if u < 4 then 0x1101 else 0x1102) = true →
    ∃ s', exec (.selfCalibrationDone t u off gain oc gc) s = .next s' ∧ (s'.dev.hka u) = {} ∧ s'.dev.isRemoved (.converter u) = true ∧ s'.dev.logged (if u < 4 then 0x1101 else 0x1102) = true ∧ s'.dev.rbit (R.HKA_STATUS u) 6 = true ∧ sameMemory s s')

/-- The filter chain. An output is delivered, or counted as an overrun; a fade ends; SYNC resets a channel; SWAP changes banks, or
is refused; REINSTATE returns a channel; coefficient writes reach the open bank only; a parity error removes the channel.
(14_filters_and_housekeeping_adc.md: Filter chain.) -/
def Obligations.FilterComplete : Prop :=
  -- filterOutput
  (∀ (s : State) (t n at0 : Nat) (x : Int) (rest : List (Int × Nat)), s.dev.alive = true → n < 16 → (s.dev.flt n).ready = (x, at0) :: rest → (s.dev.flt n).lastOut = none → (s.dev.flt n).fade = none → (s.dev.flt n).swapNow = false → (s.dev.flt n).left = 0 →
    ∃ s', exec (.filterOutput t n []) s = .next s' ∧ (s'.dev.flt n).y = clampI (-8388608) 8388607 ((((List.range (s.dev.fltTaps n (s.dev.fltActive n))).map (fun j => s.dev.coef n (s.dev.fltActive n) j * ((x :: (s.dev.flt n).hist).take 128).getD j 0)).sum + 32768) / 65536) ∧ (s'.dev.flt n).valid = true ∧ (s'.dev.flt n).ready = rest ∧ (s'.dev.flt n).hist = (x :: (s.dev.flt n).hist).take 128 ∧ (s'.dev.flt n).lastOut = some at0 ∧ s'.dev.fld (R.FLT_OUT n) 23 0 = unsigned 24 (clampI (-8388608) 8388607 ((((List.range (s.dev.fltTaps n (s.dev.fltActive n))).map (fun j => s.dev.coef n (s.dev.fltActive n) j * ((x :: (s.dev.flt n).hist).take 128).getD j 0)).sum + 32768) / 65536)) ∧ s'.dev.rbit (R.FLT_OUT n) 24 = true ∧ sameMemory s s') ∧
  -- filterOverrun
  (∀ (s : State) (t n at0 l : Nat) (x : Int) (rest : List (Int × Nat)), s.dev.alive = true → n < 16 → (s.dev.flt n).ready = (x, at0) :: rest → (s.dev.flt n).lastOut = some l → at0 < l + 1600 → s.dev.rbit R.FLT_STATUS 3 = false → s.dev.faultRoom 0x1002 = true →
    ∃ s', exec (.filterOutput t n []) s = .next s' ∧ (s'.dev.flt n) = { (s.dev.flt n) with ready := rest } ∧ s'.dev.rbit R.FLT_STATUS 3 = true ∧ s'.dev.logged 0x1002 = true ∧ sameMemory s s') ∧
  -- fadeEnd
  (∀ (s : State) (t n f i : Nat), s.dev.alive = true → n < 16 → (s.dev.flt n).fade = some (f, i) → f ≤ i →
    ∃ s', exec (.fadeEnd t n) s = .next s' ∧ (s'.dev.flt n) = { (s.dev.flt n) with fade := none, swapNow := (s.dev.flt n).swapNow || (s.dev.flt n).swapPend, swapPend := false } ∧ s'.dev.rbit (R.FLT_OUT n) 26 = false ∧ sameMemory s s') ∧
  -- synchronisingReset
  (∀ (s : State) (t n : Nat), s.dev.alive = true → n < 16 → (s.dev.flt n).resetPend = true →
    ∃ s', exec (.synchronisingReset t n) s = .next s' ∧ (s'.dev.flt n).resetPend = false ∧ (s'.dev.flt n).hist = [] ∧ (s'.dev.flt n).ready = [] ∧ (s'.dev.flt n).valid = false ∧ (s'.dev.flt n).left = s.dev.fltOrder n + Nat.max (s.dev.fltTaps n 0) (s.dev.fltTaps n 1) - 1 ∧ s'.dev.fld (R.FLT_CH_STATUS n) 8 0 = s.dev.fltOrder n + Nat.max (s.dev.fltTaps n 0) (s.dev.fltTaps n 1) - 1 ∧ (s'.dev.flt n).level = (s.dev.flt n).level ∧ s'.dev.rbit (R.FLT_OUT n) 24 = false ∧ sameMemory s s') ∧
  -- swap
  (∀ (s : State) (src t n : Nat), s.dev.takesCmd R.FLT_CMD = true → n < 16 → (s.dev.flt n).swapPend = false → (s.dev.flt n).swapNow = false → (s.dev.flt n).fade = none → s.dev.fltLinear n (1 - s.dev.fltActive n) = false ∨ s.dev.fltSymmetric n (1 - s.dev.fltActive n) = true →
    ∃ s', exec (.swap src t n) s = .next s' ∧ (s'.dev.flt n) = { (s.dev.flt n) with swapNow := true } ∧ s'.dev.fld R.FLT_CMD 9 8 = 1 ∧ writeTaken src s s') ∧
  -- swapRefused
  (∀ (s : State) (src t n : Nat), s.dev.takesCmd R.FLT_CMD = true → n < 16 → (s.dev.flt n).swapNow = true →
    ∃ s', exec (.swap src t n) s = .next s' ∧ (s'.dev.flt n) = (s.dev.flt n) ∧ s'.dev.fld R.FLT_CMD 9 8 = 2 ∧ s'.dev.fld R.FLT_CMD 23 16 = 1 ∧ s'.dev.rbit R.FLT_STATUS 1 = true ∧ writeTaken src s s') ∧
  -- fltSync
  (∀ (s : State) (src t n : Nat), s.dev.takesCmd R.FLT_CMD = true → n < 16 →
    ∃ s', exec (.fltSync src t n) s = .next s' ∧ (s'.dev.flt n) = { (s.dev.flt n) with resetPend := true } ∧ s'.dev.fld R.FLT_CMD 9 8 = 1 ∧ writeTaken src s s') ∧
  -- fltReinstate
  (∀ (s : State) (src t n : Nat), s.dev.takesCmd R.FLT_CMD = true → n < 16 → s.dev.isRemoved (.filter n) = true → s.dev.faultCleared 0x1001 = true →
    ∃ s', exec (.fltReinstate src t n) s = .next s' ∧ s'.dev.isRemoved (.filter n) = false ∧ s'.dev.rbit R.FLT_STATUS (16 + n) = false ∧ s'.dev.rbit (R.FLT_CH_STATUS n) 9 = false ∧ (s'.dev.flt n).resetPend = true ∧ s'.dev.fld R.FLT_CMD 9 8 = 1 ∧ writeTaken src s s') ∧
  -- fltReinstateRejected
  (∀ (s : State) (src t n : Nat), s.dev.takesCmd R.FLT_CMD = true → n < 16 → s.dev.isRemoved (.filter n) = false →
    ∃ s', exec (.fltReinstate src t n) s = .next s' ∧ (s'.dev.flt n) = (s.dev.flt n) ∧ s'.dev.fld R.FLT_CMD 9 8 = 2 ∧ s'.dev.fld R.FLT_CMD 23 16 = 4 ∧ s'.dev.top = s.dev.top ∧ writeTaken src s s') ∧
  -- fltBankWrite
  (∀ (s : State) (src t n j : Nat) (v : Word), s.dev.alive = true → s.dev.top.state ≠ .headframe → n < 16 → j < 128 → (s.dev.flt n).fade = none →
    ∃ s', exec (.fltBankWrite src t (coefAddr n (1 - s.dev.fltActive n) j) v) s = .next s' ∧ s'.dev.coef n (1 - s.dev.fltActive n) j = signed 18 v.toNat ∧ writeTaken src s s') ∧
  -- activeBankWrite
  (∀ (s : State) (src t n j : Nat) (v : Word), s.dev.alive = true → s.dev.top.state ≠ .headframe → n < 16 → j < 128 → (s.dev.flt n).fade = none →
    ∃ s', exec (.fltBankWrite src t (coefAddr n (s.dev.fltActive n) j) v) s = .next s' ∧ s'.dev.coef n (s.dev.fltActive n) j = s.dev.coef n (s.dev.fltActive n) j ∧ s'.dev.rbit R.FLT_STATUS 2 = true ∧ writeTaken src s s') ∧
  -- filterParityError
  (∀ (s : State) (t n : Nat), s.dev.alive = true → n < 16 → s.dev.faultRoom 0x1001 = true →
    ∃ s', exec (.filterParityError t n) s = .next s' ∧ s'.dev.isRemoved (.filter n) = true ∧ s'.dev.rbit R.FLT_STATUS (16 + n) = true ∧ s'.dev.rbit (R.FLT_CH_STATUS n) 9 = true ∧ (s'.dev.flt n).valid = false ∧ (s'.dev.flt n).level = true ∧ s'.dev.rbit (R.FLT_OUT n) 25 = true ∧ s'.dev.logged 0x1001 = true ∧ s'.dev.top.state = s.dev.top.state ∧ sameMemory s s')

/-- Sensor bridging. Slots, open wires, bias steps, lead tests, heaters, encoders and the IMU have their effects on the values,
the outputs and the fault log. Log entries 31 to 33 and 35 are the model's choices. (15_sensor_bridging.md: Slots, heaters,
encoders and IMU.) -/
def Obligations.SensorComplete : Prop :=
  -- sensorSlotEnd
  (∀ (s : State) (t cv n : Nat) (x lead : Int), s.dev.alive = true → cv < 2 → n < 8 → s.dev.rbit R.SNS_CTRL cv = true → (s.dev.hka (4 + cv)).cal = false → s.dev.scanChannel cv = some n → s.dev.wiring n = 2 → (s.dev.snsCh n).affected = false → bits (s.dev.reg (R.SNS_STATUS n)) 3 1 = 0 → s.dev.fld (R.SNS_CFG n) 11 8 = 7 → 0 ≤ x →
    ∃ s', exec (.sensorSlotEnd t cv x lead false) s = .next s' ∧ s'.dev.reg (R.SNS_LEAD n) = BitVec.ofNat 32 (unsigned 24 lead) ∧ s'.dev.reg (R.SNS_VAL n) = BitVec.ofNat 32 (unsigned 24 (clampI 0 8388607 (openQuot (x * 10 ^ (3 + (s.dev.snsCh n).range) * 64 * 16) (64 * 2 ^ 23)))) ∧ s'.dev.rbit (R.SNS_STATUS n) 0 = true ∧ mgetD s'.dev.sns.scan cv 0 = (n + 1) % 4 ∧ sameMemory s s') ∧
  -- slotOpenWire
  (∀ (s : State) (t cv n : Nat) (x lead : Int), s.dev.alive = true → cv < 2 → n < 8 → s.dev.rbit R.SNS_CTRL cv = true → (s.dev.hka (4 + cv)).cal = false → s.dev.scanChannel cv = some n → s.dev.wiring n = 2 → s.dev.rbit (R.SNS_STATUS n) 1 = true →
    ∃ s', exec (.sensorSlotEnd t cv x lead false) s = .next s' ∧ s'.dev.reg (R.SNS_VAL n) = BitVec.ofNat 32 (unsigned 24 (-8388608)) ∧ s'.dev.rbit (R.SNS_STATUS n) 0 = false ∧ s'.dev.rbit (R.SNS_STATUS n) 1 = false ∧ mgetD s'.dev.sns.scan cv 0 = (n + 1) % 4 ∧ sameMemory s s') ∧
  -- biasSlewStep
  (∀ (s : State) (t : Nat), s.dev.alive = true → s.dev.rbit R.SNS_BIAS_STATUS 16 = false → s.dev.sns.biasTarget < 65536 →
    ∃ s', exec (.biasSlewStep t) s = .next s' ∧ s'.dev.fld R.SNS_BIAS_STATUS 15 0 = (if s.dev.fld R.SNS_BIAS_STATUS 15 0 ≤ s.dev.sns.biasTarget then Nat.min s.dev.sns.biasTarget (s.dev.fld R.SNS_BIAS_STATUS 15 0 + s.dev.fld R.SNS_BIAS_CFG 31 16) else Nat.max s.dev.sns.biasTarget (s.dev.fld R.SNS_BIAS_STATUS 15 0 - s.dev.fld R.SNS_BIAS_CFG 31 16)) ∧ s'.dev.sns = s.dev.sns ∧ sameMemory s s') ∧
  -- openWireTrip
  (∀ (s : State) (t n : Nat), s.dev.alive = true → n < 8 → s.dev.rbit (R.SNS_CFG n) 0 = true → s.dev.faultRoom 0x1201 = true →
    ∃ s', exec (.openWireTrip t n) s = .next s' ∧ s'.dev.rbit (R.SNS_STATUS n) 1 = true ∧ s'.dev.reg (R.SNS_VAL n) = BitVec.ofNat 32 (unsigned 24 (-8388608)) ∧ s'.dev.rbit (R.SNS_STATUS n) 0 = false ∧ s'.dev.logged 0x1201 = true ∧ (s'.dev.snsCh n).affected = true ∧ s'.dev.top.state = s.dev.top.state ∧ sameMemory s s') ∧
  -- leadTestStart
  (∀ (s : State) (t n : Nat), s.dev.alive = true → n < 8 → s.dev.rbit (R.SNS_CFG n) 0 = true →
    ∃ s', exec (.leadTestStart t n) s = .next s' ∧ (s'.dev.snsCh n) = { (s.dev.snsCh n) with tone := some (s.dev.advanceTo t).now } ∧ s'.dev.regs = s.dev.regs ∧ sameMemory s s') ∧
  -- leadTestEnd
  (∀ (s : State) (t n mo x : Nat), s.dev.alive = true → n < 8 → (s.dev.snsCh n).tone.isSome = true → s.dev.wiring n ≠ 0 → 250 * s.dev.fld (R.SNS_CFG n) 23 16 < mo → s.dev.faultRoom 0x1202 = true →
    ∃ s', exec (.leadTestEnd t n mo x x) s = .next s' ∧ (s'.dev.snsCh n).tone = none ∧ s'.dev.rbit (R.SNS_STATUS n) 2 = true ∧ s'.dev.rbit (R.SNS_STATUS n) 3 = false ∧ s'.dev.logged 0x1202 = true ∧ s'.dev.top.state = s.dev.top.state ∧ sameMemory s s') ∧
  -- leadIntermittent
  (∀ (s : State) (t n mo x y : Nat), s.dev.alive = true → n < 8 → (s.dev.snsCh n).tone.isSome = true → s.dev.wiring n = 0 → x < y → y < 4 * (y - x) → s.dev.faultRoom 0x1203 = true →
    ∃ s', exec (.leadTestEnd t n mo x y) s = .next s' ∧ (s'.dev.snsCh n).tone = none ∧ s'.dev.rbit (R.SNS_STATUS n) 2 = false ∧ s'.dev.rbit (R.SNS_STATUS n) 3 = true ∧ s'.dev.logged 0x1203 = true ∧ s'.dev.top.state = s.dev.top.state ∧ sameMemory s s') ∧
  -- heaterPeriodStart
  (∀ (s : State) (t k : Nat), s.dev.alive = true → k < 2 → s.dev.rbit (R.SNS_HTR k) 0 = true → s.dev.inState [.armed, .ranging, .held] = true → s.dev.supplyBad .io33 = false → s.dev.rbit (R.SNS_HTR k) 1 = false →
    ∃ s', exec (.heaterPeriodStart t k) s = .next s' ∧ (s'.dev.heater k) = { (s.dev.heater k) with period := s.dev.fld (R.SNS_HTR k) 31 16, duty := s.dev.fld (R.SNS_HTR_SET k) 15 0, on := decide (0 < s.dev.fld (R.SNS_HTR_SET k) 15 0) } ∧ sameMemory s s') ∧
  -- thermostatOn
  (∀ (s : State) (t k n : Nat), s.dev.alive = true → k < 2 → s.dev.rbit (R.SNS_HTR k) 0 = true → s.dev.inState [.armed, .ranging, .held] = true → s.dev.supplyBad .io33 = false → s.dev.rbit (R.SNS_HTR k) 1 = true → s.dev.fld (R.SNS_HTR k) 4 2 = n → s.dev.rbit (R.SNS_STATUS n) 0 = true → signed 24 (s.dev.reg (R.SNS_VAL n)).toNat < 64 * signed 12 (s.dev.fld (R.SNS_HTR_SET k) 27 16) - 64 * (s.dev.fld (R.SNS_HTR_HYST k) 7 0 : Nat) →
    ∃ s', exec (.heaterPeriodStart t k) s = .next s' ∧ (s'.dev.heater k) = { (s.dev.heater k) with choice := true, period := s.dev.fld (R.SNS_HTR k) 31 16, duty := s.dev.fld (R.SNS_HTR_SET k) 15 0, on := decide (0 < s.dev.fld (R.SNS_HTR_SET k) 15 0) } ∧ sameMemory s s') ∧
  -- thermostatOff
  (∀ (s : State) (t k n : Nat), s.dev.alive = true → k < 2 → s.dev.rbit (R.SNS_HTR k) 0 = true → s.dev.inState [.armed, .ranging, .held] = true → s.dev.supplyBad .io33 = false → s.dev.rbit (R.SNS_HTR k) 1 = true → s.dev.fld (R.SNS_HTR k) 4 2 = n → s.dev.rbit (R.SNS_STATUS n) 0 = true → 64 * signed 12 (s.dev.fld (R.SNS_HTR_SET k) 27 16) < signed 24 (s.dev.reg (R.SNS_VAL n)).toNat →
    ∃ s', exec (.heaterPeriodStart t k) s = .next s' ∧ (s'.dev.heater k) = { (s.dev.heater k) with choice := false, period := s.dev.fld (R.SNS_HTR k) 31 16, duty := 0, on := false } ∧ sameMemory s s') ∧
  -- heaterOff
  (∀ (s : State) (t k : Nat), s.dev.alive = true → k < 2 → s.dev.rbit (R.SNS_HTR k) 0 = false →
    ∃ s', exec (.heaterPeriodStart t k) s = .next s' ∧ (s'.dev.heater k) = { (s.dev.heater k) with on := false } ∧ sameMemory s s') ∧
  -- heaterDutyEnd
  (∀ (s : State) (t k : Nat), s.dev.alive = true → (s.dev.heater k).on = true → (s.dev.heater k).duty < (s.dev.heater k).period →
    ∃ s', exec (.heaterDutyEnd t k) s = .next s' ∧ (s'.dev.heater k) = { (s.dev.heater k) with on := false } ∧ sameMemory s s') ∧
  -- encoderEdge
  (∀ (s : State) (t k : Nat) (a b : Bool), s.dev.alive = true → k < 2 → (grayPos a b + 4 - grayPos (s.dev.enc k).a (s.dev.enc k).b) % 4 = 1 →
    ∃ s', exec (.encoderEdge t k a b) s = .next s' ∧ s'.dev.reg (R.SNS_ENC_CNT k) = s.dev.reg (R.SNS_ENC_CNT k) + BitVec.ofInt 32 (if Config.encoderUp then 1 else -1) ∧ s'.dev.enc k = { (s.dev.enc k) with a := a, b := b, lastEdge := some (s.dev.advanceTo t).now } ∧ s'.dev.top = s.dev.top ∧ sameMemory s s') ∧
  -- encoderEdgeBack
  (∀ (s : State) (t k : Nat) (a b : Bool), s.dev.alive = true → k < 2 → (grayPos a b + 4 - grayPos (s.dev.enc k).a (s.dev.enc k).b) % 4 = 3 →
    ∃ s', exec (.encoderEdge t k a b) s = .next s' ∧ s'.dev.reg (R.SNS_ENC_CNT k) = s.dev.reg (R.SNS_ENC_CNT k) + BitVec.ofInt 32 (if Config.encoderUp then -1 else 1) ∧ s'.dev.enc k = { (s.dev.enc k) with a := a, b := b, lastEdge := some (s.dev.advanceTo t).now } ∧ s'.dev.top = s.dev.top ∧ sameMemory s s') ∧
  -- encoderIllegal
  (∀ (s : State) (t k : Nat), s.dev.alive = true → k < 2 → (s.dev.enc k).logged = false → s.dev.faultRoom 0x1207 = true →
    ∃ s', exec (.encoderEdge t k (!(s.dev.enc k).a) (!(s.dev.enc k).b)) s = .next s' ∧ s'.dev.reg (R.SNS_ENC_CNT k) = s.dev.reg (R.SNS_ENC_CNT k) ∧ s'.dev.fld (R.SNS_ENC_CFG k) 15 8 = Nat.min 255 (s.dev.fld (R.SNS_ENC_CFG k) 15 8 + 1) ∧ s'.dev.logged 0x1207 = true ∧ s'.dev.top.state = s.dev.top.state ∧ sameMemory s s') ∧
  -- encoderIndex
  (∀ (s : State) (t k : Nat), s.dev.alive = true → k < 2 →
    ∃ s', exec (.encoderIndex t k) s = .next s' ∧ s'.dev.reg (R.SNS_ENC_IDX k) = s.dev.reg (R.SNS_ENC_CNT k) ∧ s'.dev.reg (R.SNS_ENC_CNT k) = (if s.dev.rbit (R.SNS_ENC_CFG k) 4 then 0#32 else s.dev.reg (R.SNS_ENC_CNT k)) ∧ sameMemory s s') ∧
  -- imuTrigger
  (∀ (s : State) (t : Nat), s.dev.alive = true → s.dev.rbit R.SNS_IMU_CFG 0 = true → s.dev.rbit R.SNS_IMU_CFG 1 = true → s.dev.sns.imu = none →
    ∃ s', exec (.imuTrigger t true) s = .next s' ∧ s'.dev.sns = { s.dev.sns with imu := some ((s.dev.advanceTo t).time, false) } ∧ s'.dev.regs = s.dev.regs ∧ sameMemory s s') ∧
  -- imuTriggerDropped
  (∀ (s : State) (t : Nat), s.dev.alive = true → s.dev.rbit R.SNS_IMU_CFG 0 = true → s.dev.rbit R.SNS_IMU_CFG 1 = true → s.dev.sns.imu.isSome = true →
    ∃ s', exec (.imuTrigger t true) s = .next s' ∧ s'.dev.sns.imu = s.dev.sns.imu ∧ s'.dev.fld R.SNS_IMU_STAT 15 8 = Nat.min 255 (s.dev.fld R.SNS_IMU_STAT 15 8 + 1) ∧ sameMemory s s') ∧
  -- imuXfer
  (∀ (s : State) (src t : Nat), s.dev.takesCmd R.SNS_IMU_XFER = true → s.dev.rbit R.SNS_IMU_CFG 0 = false → s.dev.sns.imu = none →
    ∃ s', exec (.imuXfer src t) s = .next s' ∧ s'.dev.sns = { s.dev.sns with imu := some ((s.dev.advanceTo t).time, true) } ∧ s'.dev.fld R.SNS_IMU_XFER 9 8 = 3 ∧ writeTaken src s s') ∧
  -- imuXferRejected
  (∀ (s : State) (src t : Nat), s.dev.takesCmd R.SNS_IMU_XFER = true → s.dev.rbit R.SNS_IMU_CFG 0 = true →
    ∃ s', exec (.imuXfer src t) s = .next s' ∧ s'.dev.sns = s.dev.sns ∧ s'.dev.fld R.SNS_IMU_XFER 9 8 = 2 ∧ s'.dev.fld R.SNS_IMU_XFER 23 16 = 1 ∧ writeTaken src s s') ∧
  -- imuTransferDone
  (∀ (s : State) (t x : Nat) (cmd : Bool) (data : List Byte), s.dev.alive = true → s.dev.sns.imu = some (x, cmd) → 56 ≤ data.length → 56 ≤ s.dev.fld R.SNS_IMU_CFG 19 14 →
    ∃ s', exec (.imuTransferDone t data) s = .next s' ∧ s'.dev.sns.imu = none ∧ mget s'.dev.sns.imuRing (s.dev.fld R.SNS_IMU_STAT 3 0) = some (leBytes 8 x ++ data.take 56) ∧ s'.dev.fld R.SNS_IMU_STAT 3 0 = (s.dev.fld R.SNS_IMU_STAT 3 0 + 1) % 16 ∧ (cmd = true → s'.dev.fld R.SNS_IMU_XFER 9 8 = 1 ∧ s'.dev.fld R.SNS_IMU_XFER 31 24 = s.dev.fld R.SNS_IMU_STAT 3 0) ∧ sameMemory s s')

/-- CAN FD. A frame that passes a filter enters the FIFO, or is dropped and counted when it is full; a transmitted buffer is done;
bus-off and both recoveries act; a management write of what the Canary owns is ignored and shown. Log entry 34 gives the
buffer's layout. (15_sensor_bridging.md: CAN FD.) -/
def Obligations.CanComplete : Prop :=
  -- canFrameReceived
  (∀ (s : State) (t n id dlc sof f : Nat) (ide brs esi : Bool) (data : List Byte), s.dev.alive = true → n < 2 → s.dev.canOn n = true → s.dev.canFilter n id ide = some f → s.dev.canMgt n = false ∨ f ≠ 31 → s.dev.cnyRoutes = false ∨ 4 ≤ f → (s.dev.can n).fifo.length < 32 → s.dev.rbit (R.CAN_CTRL n) 1 = true →
    ∃ s', exec (.canFrameReceived t n id dlc ide true brs esi data sof []) s = .next s' ∧ (s'.dev.can n).fifo = (s.dev.can n).fifo ++ [canEntry (id % 2 ^ 29 + 2 ^ 29 * b2n ide) (dlc % 16 + 16 + 32 * b2n brs + 64 * b2n esi) ((s.dev.advanceTo t).time - ((s.dev.advanceTo t).now - sof)) (data.take (dlcBytes dlc true))] ∧ s'.dev.regs = s.dev.regs ∧ sameMemory s s') ∧
  -- canFrameFiltered
  (∀ (s : State) (t n id dlc sof : Nat) (ide fd brs esi : Bool) (data : List Byte), s.dev.alive = true → n < 2 → s.dev.canFilter n id ide = none →
    ∃ s', exec (.canFrameReceived t n id dlc ide fd brs esi data sof []) s = .next s' ∧ (s'.dev.can n).fifo = (s.dev.can n).fifo ∧ s'.dev.regs = s.dev.regs ∧ sameMemory s s') ∧
  -- canFifoFull
  (∀ (s : State) (t n id dlc sof f : Nat) (ide brs esi : Bool) (data : List Byte), s.dev.alive = true → n < 2 → s.dev.canOn n = true → s.dev.canFilter n id ide = some f → s.dev.canMgt n = false ∨ f ≠ 31 → s.dev.cnyRoutes = false ∨ 4 ≤ f → (s.dev.can n).fifo.length = 32 → s.dev.rbit (R.CAN_CTRL n) 1 = true → s.dev.faultRoom 0x1702 = true →
    ∃ s', exec (.canFrameReceived t n id dlc ide true brs esi data sof []) s = .next s' ∧ (s'.dev.can n).fifo = (s.dev.can n).fifo ∧ s'.dev.reg (R.CAN_CNT_DROP n) = (if s.dev.reg (R.CAN_CNT_DROP n) = 0xFFFFFFFF#32 then 0xFFFFFFFF#32 else s.dev.reg (R.CAN_CNT_DROP n) + 1) ∧ s'.dev.logged 0x1702 = true ∧ s'.dev.top.state = s.dev.top.state ∧ sameMemory s s') ∧
  -- canFrameTransmitted
  (∀ (s : State) (t n b : Nat), s.dev.alive = true → n < 2 → s.dev.canOn n = true → s.dev.canNext n = some b → b < 7 →
    ∃ s', exec (.canFrameTransmitted t n) s = .next s' ∧ (s'.dev.can n) = { (s.dev.can n) with sent := (List.range 18).map (fun i => s.dev.reg (R.CAN_TX n (20 * b + i))) } ∧ s'.dev.rbit (R.CAN_TX n (20 * b + 1)) 31 = false ∧ s'.dev.reg (R.CAN_TX n (20 * b)) = s.dev.reg (R.CAN_TX n (20 * b)) ∧ sameMemory s s') ∧
  -- canBusOff
  (∀ (s : State) (t n : Nat), s.dev.alive = true → n < 2 → s.dev.canOn n = true → s.dev.faultRoom 0x1701 = true →
    ∃ s', exec (.canBusOff t n) s = .next s' ∧ s'.dev.fld (R.CAN_STATUS n) 1 0 = 2 ∧ s'.dev.logged 0x1701 = true ∧ s'.dev.top.state = s.dev.top.state ∧ sameMemory s s') ∧
  -- recover
  (∀ (s : State) (src t n : Nat), n < 2 → s.dev.takesCmd (R.CAN_CMD n) = true → s.dev.fld (R.CAN_STATUS n) 1 0 = 2 →
    ∃ s', exec (.recover src t n) s = .next s' ∧ (s'.dev.can n) = { (s.dev.can n) with recovering := true } ∧ s'.dev.fld (R.CAN_CMD n) 9 8 = 1 ∧ writeTaken src s s') ∧
  -- recoverRejected
  (∀ (s : State) (src t n : Nat), n < 2 → s.dev.takesCmd (R.CAN_CMD n) = true → s.dev.fld (R.CAN_STATUS n) 1 0 ≠ 2 →
    ∃ s', exec (.recover src t n) s = .next s' ∧ (s'.dev.can n) = (s.dev.can n) ∧ s'.dev.fld (R.CAN_CMD n) 9 8 = 2 ∧ s'.dev.fld (R.CAN_CMD n) 23 16 = 1 ∧ writeTaken src s s') ∧
  -- canAutoRecovery
  (∀ (s : State) (t n : Nat), s.dev.alive = true → n < 2 → s.dev.fld (R.CAN_STATUS n) 1 0 = 2 → s.dev.rbit (R.CAN_CTRL n) 3 = true ∨ (s.dev.can n).recovering = true →
    ∃ s', exec (.canAutoRecovery t n) s = .next s' ∧ s'.dev.fld (R.CAN_STATUS n) 1 0 = 0 ∧ s'.dev.fld (R.CAN_STATUS n) 15 8 = 0 ∧ s'.dev.fld (R.CAN_STATUS n) 23 16 = 0 ∧ (s'.dev.can n) = { (s.dev.can n) with recovering := false } ∧ sameMemory s s') ∧
  -- canCanaryWrite
  (∀ (s : State) (src t a : Nat) (v : Word), s.dev.alive = true → s.dev.top.state ≠ .headframe → s.dev.canaryOwns a = true →
    ∃ s', exec (.canCanaryWrite src t a v) s = .next s' ∧ s'.dev.reg a = s.dev.reg a ∧ s'.dev.rbit (R.CAN_STATUS 0) 2 = true ∧ writeTaken src s s')

/-- Hoist: training, the rate and the lane test. Each training step advances, is repeated once or fails the training with Hoist
removed; the last one serves with a new epoch; RETRAIN, a rate write and LANE_TEST start what they name in the states that
allow it. (16_hoist_dram.md: Training and commands.) -/
def Obligations.HoistTrainingComplete : Prop :=
  -- trainingStepDone
  (∀ (s : State) (t : Nat) (x : Training), s.dev.alive = true → s.dev.hoi.training = some x → s.dev.hoi.ratePend = none → 1 ≤ x.step → x.step < 6 →
    ∃ s', exec (.trainingStepDone t true []) s = .next s' ∧ s'.dev.hoi.training = some { x with step := x.step + 1, again := false } ∧ s'.dev.fld R.HOI_TRAIN 3 0 = x.step + 1 ∧ s'.dev.top = s.dev.top ∧ sameMemory s s') ∧
  -- trainingStepAgain
  (∀ (s : State) (t : Nat) (x : Training), s.dev.alive = true → s.dev.hoi.training = some x → s.dev.hoi.ratePend = none → 1 ≤ x.step → x.step ≤ 6 → x.again = false →
    ∃ s', exec (.trainingStepDone t false []) s = .next s' ∧ s'.dev.hoi.training = some { x with again := true } ∧ s'.dev.fld R.HOI_TRAIN 15 8 = Nat.min 255 (s.dev.fld R.HOI_TRAIN 15 8 + 1) ∧ s'.dev.top = s.dev.top ∧ sameMemory s s') ∧
  -- trainingFails
  (∀ (s : State) (t : Nat) (x : Training), s.dev.alive = true → s.dev.hoi.training = some x → s.dev.hoi.ratePend = none → 1 ≤ x.step → x.step ≤ 6 → x.again = true → x.rate ≠ 0 → s.dev.faultRoom 0x1301 = true →
    ∃ s', exec (.trainingStepDone t false []) s = .next s' ∧ s'.dev.hoi.training = none ∧ s'.dev.isRemoved .hoist = true ∧ s'.dev.fld R.HOI_STATUS 2 0 = 2 ∧ s'.dev.reg R.FMN_DRAM_CAP = 0#32 ∧ s'.dev.logged 0x1301 = true ∧ sameMemory s s') ∧
  -- trainingComplete
  (∀ (s : State) (t : Nat) (x : Training) (b : Bool), s.dev.alive = true → s.dev.hoi.training = some x → s.dev.hoi.ratePend = none → x.step = 7 → x.rate < 4 →
    ∃ s', exec (.trainingComplete t b) s = .next s' ∧ s'.dev.hoi.training = none ∧ s'.dev.isRemoved .hoist = false ∧ s'.dev.fld R.HOI_STATUS 2 0 = 1 ∧ s'.dev.fld R.HOI_STATUS 9 8 = x.rate ∧ s'.dev.reg R.HOI_EPOCH = s.dev.reg R.HOI_EPOCH + 1 ∧ s'.dev.reg R.FMN_DRAM_CAP = BitVec.ofNat 32 (dramCap x.rate) ∧ s'.dev.boot.dramDone = true ∧ sameMemory s s') ∧
  -- hoiRetrain
  (∀ (s : State) (src t : Nat), s.dev.takesCmd R.HOI_CMD = true → s.dev.inState [.armed, .held] = true → s.dev.hoistFailed = false → s.dev.hoi.training = none →
    ∃ s', exec (.hoiRetrain src t) s = .next s' ∧ s'.dev.hoi.training = some { target := s.dev.fld R.HOI_CTRL 1 0, rate := firstRate (s.dev.fld R.HOI_CTRL 1 0), start := (s.dev.advanceTo t).now, retrain := true } ∧ s'.dev.rbit R.HOI_STATUS 0 = false ∧ s'.dev.reg R.FMN_DRAM_CAP = 0#32 ∧ s'.dev.fld R.HOI_CMD 9 8 = 1 ∧ writeTaken src s s') ∧
  -- hoiRetrainRejected
  (∀ (s : State) (src t : Nat), s.dev.takesCmd R.HOI_CMD = true → s.dev.inState [.armed, .held] = false →
    ∃ s', exec (.hoiRetrain src t) s = .next s' ∧ s'.dev.hoi = s.dev.hoi ∧ s'.dev.fld R.HOI_CMD 9 8 = 2 ∧ s'.dev.fld R.HOI_CMD 23 16 = 1 ∧ writeTaken src s s') ∧
  -- hoiRateWrite
  (∀ (s : State) (src t : Nat) (v : Word), s.dev.alive = true → s.dev.inState [.armed, .held] = true → s.dev.hoistFailed = false → s.dev.hoi.training = none → bits v 1 0 ≠ s.dev.fld R.HOI_CTRL 1 0 →
    ∃ s', exec (.hoiRateWrite src t v) s = .next s' ∧ s'.dev.hoi.training = some { target := bits v 1 0, rate := firstRate (bits v 1 0), start := (s.dev.advanceTo t).now, retrain := false } ∧ s'.dev.reg R.HOI_CTRL = v &&& 0x1F#32 ∧ s'.dev.reg R.FMN_DRAM_CAP = 0#32 ∧ writeTaken src s s') ∧
  -- hoiRateRefused
  (∀ (s : State) (src t : Nat) (v : Word), s.dev.alive = true → s.dev.top.state = .ranging → bits v 1 0 ≠ s.dev.fld R.HOI_CTRL 1 0 →
    ∃ s', exec (.hoiRateWrite src t v) s = .next s' ∧ s'.dev.hoi = s.dev.hoi ∧ s'.dev.fld R.HOI_CTRL 1 0 = s.dev.fld R.HOI_CTRL 1 0 ∧ s'.dev.fld R.HOI_CTRL 4 2 = bits v 4 2 ∧ s'.dev.rbit R.HOI_STATUS 4 = true ∧ writeTaken src s s') ∧
  -- laneTest
  (∀ (s : State) (src t n r : Nat), s.dev.takesCmd R.HOI_CMD = true → n < 2 → r < 2 → s.dev.hoi.training = none → s.dev.hoi.laneTest = none → s.dev.hoistServing = true →
    ∃ s', exec (.laneTest src t n r) s = .next s' ∧ s'.dev.hoi = { s.dev.hoi with laneTest := some (n, r, true) } ∧ s'.dev.fld R.HOI_CMD 9 8 = 3 ∧ writeTaken src s s') ∧
  -- laneTestRejected
  (∀ (s : State) (src t n r : Nat), s.dev.takesCmd R.HOI_CMD = true → s.dev.hoi.training = none → s.dev.hoi.laneTest = none → s.dev.hoistServing = false →
    ∃ s', exec (.laneTest src t n r) s = .next s' ∧ s'.dev.hoi = s.dev.hoi ∧ s'.dev.fld R.HOI_CMD 9 8 = 2 ∧ s'.dev.fld R.HOI_CMD 23 16 = 1 ∧ writeTaken src s s') ∧
  -- laneTestDone
  (∀ (s : State) (t n r p : Nat), s.dev.alive = true → s.dev.hoi.laneTest = some (n, r, true) → n < 2 → p < 20 → s.dev.rbit (if r = 0 then R.HOI_CH_DEAD0 n else R.HOI_CH_DEAD1 n) p = false → s.dev.fld R.HOI_CMD 9 8 = 3 → s.dev.faultRoom 0x1306 = true →
    ∃ s', exec (.laneTestDone t [p]) s = .next s' ∧ s'.dev.hoi.laneTest = none ∧ s'.dev.rbit (if r = 0 then R.HOI_CH_DEAD0 n else R.HOI_CH_DEAD1 n) p = true ∧ s'.dev.isRemoved (.dramDevice n r p) = true ∧ s'.dev.fld R.HOI_CMD 9 8 = 1 ∧ s'.dev.logged 0x1306 = true ∧ s'.dev.top.state = s.dev.top.state ∧ sameMemory s s')

/-- Hoist: reads and writes. A read delivers the stored bytes of a good burst; an uncorrectable one is poisoned, counted and
logged; with Hoist failed everything reads poisoned; a whole burst and a merged half are written to exactly their bytes and
charged to their activity. (16_hoist_dram.md: Protection, tags and accesses.) -/
def Obligations.HoistAccessComplete : Prop :=
  -- dramRead
  (∀ (s : State) (t act a n : Nat) (g : DTag), s.dev.alive = true → s.dev.hoistServing = true → s.dev.hoistFailed = false → chanOf a = n → (s.dev.hoiCh n).recovery = none → s.dev.rbit R.HOI_RH_CFG 16 = false → a % 64 = 0 → a < s.dev.hoistBytes → 2 ≤ s.dev.actLeft act → s.dev.tagOf (a / 64) = some g → g.epoch = s.dev.epoch8 → g.p0 = false → g.p1 = false →
    ∃ s', exec (.dramRead t act a 0 0 false) s = .next s' ∧ s'.dev.hoi.last = dramBytes s.dram a 32 ++ dramBytes s.dram (a + 32) 32 ∧ s'.dev.hoi.lastPoison = (false, false) ∧ mgetD s'.dev.fmn.used act 0 = mgetD s.dev.fmn.used act 0 + 2 ∧ sameMemory s s') ∧
  -- dramReadUncorrectable
  (∀ (s : State) (t act a n : Nat) (g : DTag), s.dev.alive = true → s.dev.hoistServing = true → s.dev.hoistFailed = false → chanOf a = n → (s.dev.hoiCh n).recovery = none → s.dev.rbit R.HOI_RH_CFG 16 = false → a % 64 = 0 → a < s.dev.hoistBytes → 2 ≤ s.dev.actLeft act → s.dev.tagOf (a / 64) = some g → (s.dev.hoiCh n).logged ≠ s.dev.reg64 R.FMN_ROUND + 1 → s.dev.faultRoom 0x1303 = true →
    ∃ s', exec (.dramRead t act a 2 0 false) s = .next s' ∧ s'.dev.hoi.last = List.replicate 64 0#8 ∧ s'.dev.hoi.lastPoison = (true, true) ∧ s'.dev.reg64 (R.HOI_CNT_UNCORR n) = (s.dev.reg64 (R.HOI_CNT_UNCORR n) + 1) % 2 ^ 64 ∧ s'.dev.logged 0x1303 = true ∧ s'.dev.top.state = s.dev.top.state ∧ sameMemory s s') ∧
  -- dramReadFailed
  (∀ (s : State) (t act a : Nat), s.dev.alive = true → s.dev.hoistFailed = true →
    ∃ s', exec (.dramRead t act a 0 0 false) s = .next s' ∧ s'.dev.hoi.last = List.replicate 64 0#8 ∧ s'.dev.hoi.lastPoison = (true, true) ∧ s'.dev.regs = s.dev.regs ∧ sameMemory s s') ∧
  -- dramWrite
  (∀ (s : State) (t act a n : Nat) (data : List Byte), s.dev.alive = true → s.dev.hoistServing = true → s.dev.hoistFailed = false → chanOf a = n → (s.dev.hoiCh n).recovery = none → s.dev.rbit R.HOI_RH_CFG 16 = false → a % 64 = 0 → a + 32 < s.dev.hoistBytes → 2 ≤ s.dev.actLeft act → data.length = 64 →
    ∃ s', exec (.dramWrite t act a data false 0 0) s = .next s' ∧ dramBytes s'.dram a 64 = data ∧ s'.dev.tagOf (a / 64) = some { lo := a / 64, hi := a / 64 + 1, epoch := s.dev.epoch8 } ∧ mgetD s'.dev.fmn.used act 0 = mgetD s.dev.fmn.used act 0 + 2 ∧ s'.sram = s.sram ∧ s'.sramPoison = s.sramPoison ∧ s'.writeBacks = s.writeBacks ∧ (∀ x : Nat, (x < a ∨ a + 64 ≤ x) → dramByte s' x = dramByte s x)) ∧
  -- dramMergedWrite
  (∀ (s : State) (t act a n : Nat) (data : List Byte) (g : DTag), s.dev.alive = true → s.dev.hoistServing = true → s.dev.hoistFailed = false → chanOf a = n → (s.dev.hoiCh n).recovery = none → s.dev.rbit R.HOI_RH_CFG 16 = false → a % 32 = 0 → a < s.dev.hoistBytes → 4 ≤ s.dev.actLeft act → data.length = 32 → s.dev.tagOf (a / 64) = some g → g.epoch = s.dev.epoch8 → g.p0 = false → g.p1 = false →
    ∃ s', exec (.dramWrite t act a data false 0 0) s = .next s' ∧ dramBytes s'.dram a 32 = data ∧ mgetD s'.dev.fmn.used act 0 = mgetD s.dev.fmn.used act 0 + 4 ∧ s'.sram = s.sram ∧ s'.sramPoison = s.sramPoison ∧ s'.writeBacks = s.writeBacks ∧ (∀ x : Nat, (x < a ∨ a + 32 ≤ x) → dramByte s' x = dramByte s x)) ∧
  -- correctedWriteBack
  (∀ (s : State) (t n : Nat), s.dev.alive = true → s.dev.hoistServing = true → (s.dev.hoiCh n).recovery = none →
    ∃ s', exec (.correctedWriteBack t n) s = .next s' ∧ (s'.dev.hoiCh n) = { (s.dev.hoiCh n) with wb := (s.dev.hoiCh n).wb.drop 1 } ∧ s'.dev.regs = s.dev.regs ∧ sameMemory s s')

/-- Hoist: refresh, alerts and self-refresh. Refreshes, temperature polls, neighbour refreshes, idle rows, parity alerts with
their recovery, and self-refresh have their effects. (16_hoist_dram.md: Refresh, row hammer and alerts.) -/
def Obligations.HoistUpkeepComplete : Prop :=
  -- refreshDue
  (∀ (s : State) (t n r b : Nat), s.dev.alive = true → s.dev.hoistServing = true → (s.dev.hoiCh n).recovery = none → n < 2 → s.dev.rbit (R.HOI_CH_STATUS n) 1 = false → s.dev.rbit (R.HOI_CH_STATUS n) 2 = false → s.dev.rbit R.HST_STATUS 1 = false →
    ∃ s', exec (.refreshDue t n r b false) s = .next s' ∧ s'.dev.fld (R.HOI_CH_STATUS n) 6 4 = 0 ∧ (s'.dev.hoiCh n).openRows = (s.dev.hoiCh n).openRows.filter (fun p => p.1 / 32 % 2 != r) ∧ sameMemory s s') ∧
  -- refreshPostponed
  (∀ (s : State) (t n r b : Nat), s.dev.alive = true → s.dev.hoistServing = true → (s.dev.hoiCh n).recovery = none → n < 2 → s.dev.rbit (R.HOI_CH_STATUS n) 1 = false → s.dev.rbit R.HST_STATUS 1 = true → s.dev.fld (R.HOI_CH_STATUS n) 6 4 < 4 →
    ∃ s', exec (.refreshDue t n r b false) s = .next s' ∧ s'.dev.fld (R.HOI_CH_STATUS n) 6 4 = s.dev.fld (R.HOI_CH_STATUS n) 6 4 + 1 ∧ s'.dev.hoi = s.dev.hoi ∧ sameMemory s s') ∧
  -- temperaturePoll
  (∀ (s : State) (t n r : Nat) (x : Bool), s.dev.alive = true → s.dev.hoistServing = true → s.dev.ddr5 = true → n < 2 →
    ∃ s', exec (.temperaturePoll t n r x) s = .next s' ∧ mget (s'.dev.hoiCh n).hot r = some x ∧ (s'.dev.hoiCh n).openRows = (s.dev.hoiCh n).openRows ∧ s'.dev.regs = s.dev.regs ∧ sameMemory s s') ∧
  -- neighbourRefresh
  (∀ (s : State) (t n b row : Nat) (l : List (Nat × Nat)), s.dev.alive = true → s.dev.hoistServing = true → (s.dev.hoiCh n).recovery = none → n < 2 → s.dev.rbit R.HOI_RH_CFG 16 = false → (s.dev.hoiCh n).rhQueue = (b, row) :: l → (s.dev.hoiCh n).retry = [] → 2 ≤ row → row + 2 < 2 ^ (s.dev.geom n).row →
    ∃ s', exec (.neighbourRefresh t n) s = .next s' ∧ (s'.dev.hoiCh n).rhQueue = l ∧ (s'.dev.hoiCh n).stallSince = none ∧ (s'.dev.hoiCh n).openRows = mdel (s.dev.hoiCh n).openRows b ∧ (s'.dev.hoiCh n).retry.length = 4 ∧ sameMemory s s') ∧
  -- refreshWindowEnd
  (∀ (s : State) (t n : Nat), s.dev.alive = true →
    ∃ s', exec (.refreshWindowEnd t n) s = .next s' ∧ (s'.dev.hoiCh n).rh = (s.dev.hoiCh n).rh.map (fun p => (p.1, p.2.map (fun q => (q.1, 0)))) ∧ (s'.dev.hoiCh n).rhQueue = (s.dev.hoiCh n).rhQueue ∧ s'.dev.regs = s.dev.regs ∧ sameMemory s s') ∧
  -- rowCloseOnIdle
  (∀ (s : State) (t n b row x : Nat), s.dev.alive = true → mget (s.dev.hoiCh n).openRows b = some (row, x) → x + 16 * s.dev.fld (R.HOI_CH_PAGE n) 7 0 ≤ (s.dev.advanceTo t).now →
    ∃ s', exec (.rowCloseOnIdle t n b false) s = .next s' ∧ (s'.dev.hoiCh n).openRows = mdel (s.dev.hoiCh n).openRows b ∧ s'.dev.regs = s.dev.regs ∧ sameMemory s s') ∧
  -- parityAlert
  (∀ (s : State) (t n : Nat), s.dev.alive = true → s.dev.hoistServing = true → (s.dev.hoiCh n).recovery = none → n < 2 → s.dev.hoi.training = none →
    ∃ s', exec (.parityAlert t n false) s = .next s' ∧ (s'.dev.hoiCh n) = { (s.dev.hoiCh n) with recovery := some { start := (s.dev.advanceTo t).now } } ∧ s'.dev.rbit (R.HOI_CH_STATUS n) 3 = true ∧ s'.dev.reg64 (R.HOI_CNT_ALERT n) = (s.dev.reg64 (R.HOI_CNT_ALERT n) + 1) % 2 ^ 64 ∧ s'.dev.top = s.dev.top ∧ sameMemory s s') ∧
  -- parityFallBack
  (∀ (s : State) (t n : Nat) (r : Recovery), s.dev.alive = true → s.dev.hoistServing = true → (s.dev.hoiCh n).recovery = some r → n < 2 → s.dev.hoi.training = none → r.replaying = true → 3 ≤ r.attempt → (s.dev.hoiCh n).falls = [] → s.dev.faultRoom 0x1304 = true →
    ∃ s', exec (.parityAlert t n true) s = .next s' ∧ (s'.dev.hoiCh n).recovery = none ∧ (s'.dev.hoiCh n).retry = [] ∧ (s'.dev.hoiCh n).falls = [(s.dev.advanceTo t).now] ∧ s'.dev.rbit (R.HOI_CH_STATUS n) 3 = false ∧ s'.dev.reg64 (R.HOI_CNT_FALLBACK n) = (s.dev.reg64 (R.HOI_CNT_FALLBACK n) + 1) % 2 ^ 64 ∧ s'.dev.logged 0x1304 = true ∧ s'.dev.top.state = s.dev.top.state ∧ sameMemory s s') ∧
  -- alertNRise
  (∀ (s : State) (t n : Nat) (r : Recovery), s.dev.alive = true → (s.dev.hoiCh n).recovery = some r → r.replaying = false → n < 2 →
    ∃ s', exec (.alertNRise t n true) s = .next s' ∧ (s'.dev.hoiCh n) = { (s.dev.hoiCh n) with openRows := [], recovery := none } ∧ s'.dev.rbit (R.HOI_CH_STATUS n) 3 = false ∧ s'.dev.top = s.dev.top ∧ sameMemory s s') ∧
  -- parityRecoveryTimeout
  (∀ (s : State) (t n : Nat) (r : Recovery), s.dev.alive = true → (s.dev.hoiCh n).recovery = some r → r.start + 160000 < (s.dev.advanceTo t).now → s.dev.faultRoom 0x1305 = true →
    ∃ s', exec (.parityRecoveryTimeout t n) s = .next s' ∧ (s'.dev.hoiCh n).recovery = none ∧ s'.dev.isRemoved .hoist = true ∧ s'.dev.fld R.HOI_STATUS 2 0 = 2 ∧ s'.dev.logged 0x1305 = true ∧ sameMemory s s') ∧
  -- selfRefreshEntry
  (∀ (s : State) (t n : Nat), s.dev.alive = true → s.dev.hoistServing = true → n < 2 → s.dev.rbit R.HOI_SR_CFG 0 = true → s.dev.rtIdle = true → s.dev.rbit (R.HOI_CH_STATUS n) 1 = false → (s.dev.hoiCh n).lastReq + 1600 * s.dev.fld R.HOI_SR_CFG 31 16 ≤ (s.dev.advanceTo t).now →
    ∃ s', exec (.selfRefreshEntry t n false) s = .next s' ∧ s'.dev.rbit (R.HOI_CH_STATUS n) 1 = true ∧ s'.dev.rbit R.HOI_STATUS 5 = true ∧ s'.dev.reg64 (R.HOI_CNT_SR_ENTRY n) = (s.dev.reg64 (R.HOI_CNT_SR_ENTRY n) + 1) % 2 ^ 64 ∧ (s'.dev.hoiCh n) = { (s.dev.hoiCh n) with openRows := [] } ∧ sameMemory s s') ∧
  -- selfRefreshAborted
  (∀ (s : State) (t n : Nat), s.dev.alive = true → s.dev.hoistServing = true → n < 2 → s.dev.rbit R.HOI_SR_CFG 0 = true → s.dev.rtIdle = true → s.dev.rbit (R.HOI_CH_STATUS n) 1 = false → (s.dev.hoiCh n).lastReq + 1600 * s.dev.fld R.HOI_SR_CFG 31 16 ≤ (s.dev.advanceTo t).now →
    ∃ s', exec (.selfRefreshEntry t n true) s = .next s' ∧ s'.dev.rbit (R.HOI_CH_STATUS n) 1 = false ∧ s'.dev.reg64 (R.HOI_CNT_SR_ABORT n) = (s.dev.reg64 (R.HOI_CNT_SR_ABORT n) + 1) % 2 ^ 64 ∧ s'.dev.hoi = s.dev.hoi ∧ sameMemory s s') ∧
  -- selfRefreshExit
  (∀ (s : State) (t n : Nat), s.dev.alive = true → n < 2 →
    ∃ s', exec (.selfRefreshExit t n) s = .next s' ∧ s'.dev.rbit (R.HOI_CH_STATUS n) 1 = false ∧ s'.dev.rbit R.HOI_STATUS 5 = s.dev.rbit (R.HOI_CH_STATUS (1 - n)) 1 ∧ (s'.dev.hoiCh n) = { (s.dev.hoiCh n) with lastReq := (s.dev.advanceTo t).now } ∧ sameMemory s s') ∧
  -- hoistQueueParityError
  (∀ (s : State) (t : Nat), s.dev.alive = true → s.dev.faultRoom 0x1307 = true →
    ∃ s', exec (.hoistQueueParityError t) s = .next s' ∧ s'.dev.isRemoved .hoist = true ∧ s'.dev.fld R.HOI_STATUS 2 0 = 2 ∧ s'.dev.reg R.FMN_DRAM_CAP = 0#32 ∧ s'.dev.logged 0x1307 = true ∧ sameMemory s s')

/-- Ixhal lanes. Enable, disable, RETRAIN, REINSTATE and capability writes; lock and its loss; CAP, RATE and PRBS exchanges up to
the agreed generation; symbols received and discarded; slots sent by priority; elastic buffer, parity and timeouts. Log
entries 15, 38 and 39 are readings of the model. (17_links.md: Lanes, symbols and slots.) -/
def Obligations.LaneComplete : Prop :=
  -- laneEnable
  (∀ (s : State) (src t n : Nat) (v : Word), s.dev.alive = true → s.dev.top.state ≠ .headframe → n < 8 → s.dev.isRemoved (.lane n) = false → v.getLsbD 0 = true → (s.dev.lane n).st = .down → 6 ≤ s.dev.boot.stage → s.dev.serialOk = true →
    ∃ s', exec (.laneEnable src t n v) s = .next s' ∧ (s'.dev.lane n).st = .align ∧ (s'.dev.lane n).gen = 1 ∧ s'.dev.rbit (R.LNK_CFG n) 0 = true ∧ writeTaken src s s') ∧
  -- laneDisable
  (∀ (s : State) (src t n : Nat) (v : Word), s.dev.alive = true → s.dev.top.state ≠ .headframe → n < 8 → s.dev.isRemoved (.lane n) = false → v.getLsbD 0 = false → (s.dev.lane n).st = .up →
    ∃ s', exec (.laneEnable src t n v) s = .next s' ∧ (s'.dev.lane n).st = .down ∧ (s'.dev.lane n).gen = 0 ∧ (s'.dev.lane n).locked = false ∧ s'.dev.rbit (R.LNK_CFG n) 0 = false ∧ writeTaken src s s') ∧
  -- genCapWrite
  (∀ (s : State) (src t n : Nat) (v : Word), s.dev.alive = true → s.dev.top.state ≠ .headframe → n < 8 → s.dev.isRemoved (.lane n) = false → v.getLsbD 0 = true → (s.dev.lane n).st = .up → 1 ≤ bits v 3 1 → bits v 3 1 ≤ 5 → bits v 3 1 ≠ s.dev.fld (R.LNK_CFG n) 3 1 →
    ∃ s', exec (.genCapWrite src t n v) s = .next s' ∧ (s'.dev.lane n) = { (s.dev.lane n) with pendCap := true } ∧ s'.dev.fld (R.LNK_CFG n) 3 1 = bits v 3 1 ∧ writeTaken src s s') ∧
  -- lnkRetrain
  (∀ (s : State) (src t n : Nat), s.dev.takesCmd (R.LNK_CMD n) = true → n < 8 → (s.dev.lane n).st = .up →
    ∃ s', exec (.lnkRetrain src t n) s = .next s' ∧ (s'.dev.lane n).st = .align ∧ (s'.dev.lane n).gen = 1 ∧ (s'.dev.lane n).locked = false ∧ s'.dev.fld (R.LNK_CMD n) 9 8 = 1 ∧ writeTaken src s s') ∧
  -- lnkRetrainQueued
  (∀ (s : State) (src t n : Nat), s.dev.takesCmd (R.LNK_CMD n) = true → n < 8 → (s.dev.lane n).st = .step →
    ∃ s', exec (.lnkRetrain src t n) s = .next s' ∧ (s'.dev.lane n) = { (s.dev.lane n) with pendRetrain := true } ∧ s'.dev.fld (R.LNK_CMD n) 9 8 = 3 ∧ writeTaken src s s') ∧
  -- lnkReinstate
  (∀ (s : State) (src t n : Nat), s.dev.takesCmd (R.LNK_CMD n) = true → n < 8 → s.dev.isRemoved (.lane n) = true → s.dev.faultCleared 0x1404 = true →
    ∃ s', exec (.lnkReinstate src t n) s = .next s' ∧ s'.dev.isRemoved (.lane n) = false ∧ s'.dev.fld (R.LNK_CMD n) 9 8 = 1 ∧ writeTaken src s s') ∧
  -- lnkReinstateRejected
  (∀ (s : State) (src t n : Nat), s.dev.takesCmd (R.LNK_CMD n) = true → n < 8 → s.dev.isRemoved (.lane n) = false →
    ∃ s', exec (.lnkReinstate src t n) s = .next s' ∧ (s'.dev.lane n) = (s.dev.lane n) ∧ s'.dev.fld (R.LNK_CMD n) 9 8 = 2 ∧ s'.dev.fld (R.LNK_CMD n) 23 16 = 3 ∧ writeTaken src s s') ∧
  -- laneLock
  (∀ (s : State) (t n : Nat), s.dev.alive = true → n < 8 → s.dev.isRemoved (.lane n) = false → (s.dev.lane n).st = .align → (s.dev.lane n).locked = false →
    ∃ s', exec (.laneLock t n) s = .next s' ∧ (s'.dev.lane n) = { (s.dev.lane n) with locked := true, lostAt := none, discarding := false, st := .cap } ∧ s'.dev.regs = s.dev.regs ∧ sameMemory s s') ∧
  -- lockLoss
  (∀ (s : State) (t n : Nat), s.dev.alive = true → n < 8 → s.dev.isRemoved (.lane n) = false → (s.dev.lane n).st = .up → (s.dev.lane n).locked = true →
    ∃ s', exec (.lockLoss t n) s = .next s' ∧ (s'.dev.lane n) = { (s.dev.lane n) with locked := false, lostAt := some (s.dev.advanceTo t).now } ∧ s'.dev.regs = s.dev.regs ∧ sameMemory s s') ∧
  -- lockLossTimeout
  (∀ (s : State) (t n x : Nat), s.dev.alive = true → n < 8 → s.dev.isRemoved (.lane n) = false → (s.dev.lane n).st = .up → (s.dev.lane n).lostAt = some x → x + 1600000 < (s.dev.advanceTo t).now → s.dev.faultRoom 0x1401 = true →
    ∃ s', exec (.lockLossTimeout t n) s = .next s' ∧ (s'.dev.lane n).st = .align ∧ (s'.dev.lane n).gen = 1 ∧ (s'.dev.lane n).lostAt = none ∧ s'.dev.reg (R.LNK_DOWNS n) = (if s.dev.reg (R.LNK_DOWNS n) = 0xFFFFFFFF#32 then 0xFFFFFFFF#32 else s.dev.reg (R.LNK_DOWNS n) + 1) ∧ s'.dev.logged 0x1401 = true ∧ s'.dev.top.state = s.dev.top.state ∧ sameMemory s s') ∧
  -- capSymbol
  (∀ (s : State) (t n ver hi dev num part : Nat) (seen : Bool), s.dev.alive = true → n < 8 → s.dev.isRemoved (.lane n) = false → (s.dev.lane n).locked = true → (s.dev.lane n).discarding = false → (s.dev.lane n).st = .cap → 1 ≤ hi → hi ≤ 5 → (s.dev.lane n).capTx = false →
    ∃ s', exec (.capSymbol t n 0 ver hi dev num seen part) s = .next s' ∧ (s'.dev.lane n) = { (s.dev.lane n) with capRx := true, capSeen := (s.dev.lane n).capSeen || seen, partnerVer := ver % 4, partnerGen := hi } ∧ s'.dev.reg (R.LNK_PARTNER n) = BitVec.ofNat 32 (dev % 16 + 16 * (num % 256) + 65536 * (part % 65536)) ∧ sameMemory s s') ∧
  -- capAgreed
  (∀ (s : State) (t n ver hi dev num part : Nat), s.dev.alive = true → n < 8 → s.dev.isRemoved (.lane n) = false → (s.dev.lane n).locked = true → (s.dev.lane n).discarding = false → (s.dev.lane n).st = .cap → 1 ≤ hi → hi ≤ 5 → (s.dev.lane n).capTx = true → 1 < Nat.min (Nat.min hi (s.dev.fld (R.LNK_CFG n) 3 1)) (if ver % 4 = 1 then 3 else 5) →
    ∃ s', exec (.capSymbol t n 0 ver hi dev num true part) s = .next s' ∧ (s'.dev.lane n).st = .step ∧ (s'.dev.lane n).target = Nat.min (Nat.min hi (s.dev.fld (R.LNK_CFG n) 3 1)) (if ver % 4 = 1 then 3 else 5) ∧ (s'.dev.lane n).gen = (s.dev.lane n).gen ∧ (s'.dev.lane n).locked = true ∧ sameMemory s s') ∧
  -- rateProposal
  (∀ (s : State) (t n : Nat), s.dev.alive = true → n < 8 → s.dev.isRemoved (.lane n) = false → (s.dev.lane n).locked = true → (s.dev.lane n).discarding = false → (s.dev.lane n).st = .step → (s.dev.lane n).moved = false →
    ∃ s', exec (.rateSymbol t n 0 1 ((s.dev.lane n).gen + 1) false) s = .next s' ∧ (s'.dev.lane n) = { (s.dev.lane n) with propRx := true } ∧ s'.dev.regs = s.dev.regs ∧ sameMemory s s') ∧
  -- rateResult
  (∀ (s : State) (t n e : Nat), s.dev.alive = true → n < 8 → s.dev.isRemoved (.lane n) = false → (s.dev.lane n).locked = true → (s.dev.lane n).discarding = false → (s.dev.lane n).st = .step → (s.dev.lane n).moved = true → (s.dev.lane n).partnerRes = none → (s.dev.lane n).localRes = some (true, e) → (s.dev.lane n).resTx = true → (s.dev.lane n).pendRetrain = false → (s.dev.lane n).pendCap = false → (s.dev.lane n).target ≤ (s.dev.lane n).gen →
    ∃ s', exec (.rateSymbol t n 0 2 (s.dev.lane n).gen true) s = .next s' ∧ (s'.dev.lane n).st = .up ∧ (s'.dev.lane n).gen = (s.dev.lane n).gen - 1 + 1 ∧ (s'.dev.lane n).locked = true ∧ (s'.dev.lane n).target = (s.dev.lane n).target ∧ sameMemory s s') ∧
  -- prbsMarker
  (∀ (s : State) (t n : Nat), s.dev.alive = true → n < 8 → s.dev.isRemoved (.lane n) = false → (s.dev.lane n).locked = true → (s.dev.lane n).discarding = false → (s.dev.lane n).st = .step → (s.dev.lane n).moved = true → (s.dev.lane n).localRes = none →
    ∃ s', exec (.prbsMarker t n 0 (s.dev.lane n).gen) s = .next s' ∧ (s'.dev.lane n) = { (s.dev.lane n) with checking := true } ∧ s'.dev.regs = s.dev.regs ∧ sameMemory s s') ∧
  -- prbsCheckEnd
  (∀ (s : State) (t n e : Nat), s.dev.alive = true → n < 8 → s.dev.isRemoved (.lane n) = false → (s.dev.lane n).st = .step → (s.dev.lane n).checking = true → 2 ≤ (s.dev.lane n).gen → (s.dev.lane n).gen ≤ 5 →
    ∃ s', exec (.prbsCheckEnd t n e) s = .next s' ∧ (s'.dev.lane n) = { (s.dev.lane n) with checking := false, localRes := some (decide (e ≤ s.dev.fld (R.LNK_CFG n) 23 16), e), localEnd := (s.dev.advanceTo t).now } ∧ s'.dev.fld (R.LNK_PRBS n) (8 * ((s.dev.lane n).gen - 2) + 7) (8 * ((s.dev.lane n).gen - 2)) = Nat.min 255 e ∧ sameMemory s s') ∧
  -- rateResultTimeout
  (∀ (s : State) (t n : Nat) (x : Bool × Nat), s.dev.alive = true → n < 8 → s.dev.isRemoved (.lane n) = false → (s.dev.lane n).st = .step → (s.dev.lane n).localRes = some x → (s.dev.lane n).partnerRes = none → (s.dev.lane n).localEnd + 1600000 ≤ (s.dev.advanceTo t).now → (s.dev.lane n).moved = true → (s.dev.lane n).pendRetrain = false → (s.dev.lane n).pendCap = false →
    ∃ s', exec (.rateResultTimeout t n) s = .next s' ∧ (s'.dev.lane n).st = .up ∧ (s'.dev.lane n).gen = (s.dev.lane n).gen - 1 ∧ sameMemory s s') ∧
  -- dataSymbol
  (∀ (s : State) (t n : Nat), s.dev.alive = true → n < 8 → s.dev.isRemoved (.lane n) = false → (s.dev.lane n).locked = true → (s.dev.lane n).discarding = false → (s.dev.lane n).st ≠ .down →
    ∃ s', exec (.dataSymbol t n 0) s = .next s' ∧ s'.dev.reg64 (R.LNK_CNT_DISC n) = (s.dev.reg64 (R.LNK_CNT_DISC n) + 1) % 2 ^ 64 ∧ (s'.dev.lane n) = (s.dev.lane n) ∧ s'.dev.pnt = s.dev.pnt ∧ s'.dev.top = s.dev.top ∧ sameMemory s s') ∧
  -- timeSymbol
  (∀ (s : State) (t n : Nat), s.dev.alive = true → n < 8 → s.dev.isRemoved (.lane n) = false → (s.dev.lane n).locked = true → (s.dev.lane n).discarding = false → (s.dev.lane n).st ≠ .down →
    ∃ s', exec (.timeSymbol t n 0) s = .next s' ∧ s'.dev.reg64 (R.LNK_CNT_DISC n) = (s.dev.reg64 (R.LNK_CNT_DISC n) + 1) % 2 ^ 64 ∧ (s'.dev.lane n) = (s.dev.lane n) ∧ s'.dev.pnt = s.dev.pnt ∧ s'.dev.top = s.dev.top ∧ sameMemory s s') ∧
  -- unknownSymbol
  (∀ (s : State) (t n : Nat), s.dev.alive = true → n < 8 → s.dev.isRemoved (.lane n) = false → (s.dev.lane n).locked = true → (s.dev.lane n).discarding = false → (s.dev.lane n).st ≠ .down →
    ∃ s', exec (.unknownSymbol t n 0) s = .next s' ∧ s'.dev.reg64 (R.LNK_CNT_DISC n) = (s.dev.reg64 (R.LNK_CNT_DISC n) + 1) % 2 ^ 64 ∧ (s'.dev.lane n) = (s.dev.lane n) ∧ s'.dev.pnt = s.dev.pnt ∧ s'.dev.top = s.dev.top ∧ sameMemory s s') ∧
  -- symbolUncorrectable
  (∀ (s : State) (t n e : Nat), s.dev.alive = true → n < 8 → s.dev.isRemoved (.lane n) = false → (s.dev.lane n).locked = true → (s.dev.lane n).discarding = false → (s.dev.lane n).st ≠ .down → 2 ≤ e →
    ∃ s', exec (.dataSymbol t n e) s = .next s' ∧ s'.dev.reg64 (R.LNK_CNT_UNCORR n) = (s.dev.reg64 (R.LNK_CNT_UNCORR n) + 1) % 2 ^ 64 ∧ (s'.dev.lane n) = (s.dev.lane n) ∧ s'.dev.reg64 (R.LNK_CNT_DISC n) = s.dev.reg64 (R.LNK_CNT_DISC n) ∧ sameMemory s s') ∧
  -- safeSymbol
  (∀ (s : State) (t k n : Nat) (m : List Byte), s.dev.alive = true → n < 8 → s.dev.isRemoved (.lane n) = false → (s.dev.lane n).locked = true → (s.dev.lane n).discarding = false → (s.dev.lane n).st ≠ .down → n ≠ 0 →
    ∃ s', exec (.safeSymbol t k n 0 m) s = .next s' ∧ s'.dev.reg64 (R.LNK_CNT_DISC n) = (s.dev.reg64 (R.LNK_CNT_DISC n) + 1) % 2 ^ 64 ∧ (s'.dev.lane n) = (s.dev.lane n) ∧ s'.dev.cny = s.dev.cny ∧ sameMemory s s') ∧
  -- safeSymbolTaken
  (∀ (s : State) (t k : Nat) (m : List Byte), s.dev.alive = true → s.dev.isRemoved (.lane 0) = false → (s.dev.lane 0).locked = true → (s.dev.lane 0).discarding = false → (s.dev.lane 0).st ≠ .down → (s.dev.lane 0).partnerVer = 2 → s.dev.cny.lost = false → s.dev.netB = true → s.dev.cnyRoutes = true → s.dev.cny.copies = [] → m.length = 27 →
    ∃ s', exec (.safeSymbol t k 0 0 m) s = .next s' ∧ s'.dev.cny = { s.dev.cny with rc := Nat.max s.dev.cny.rc k, copies := [(1, Nat.max s.dev.cny.rc k, m)] } ∧ s'.dev.reg64 (R.LNK_CNT_DISC 0) = s.dev.reg64 (R.LNK_CNT_DISC 0) ∧ s'.dev.lane 0 = s.dev.lane 0 ∧ sameMemory s s') ∧
  -- stuffingError
  (∀ (s : State) (t n : Nat), s.dev.alive = true → n < 8 → s.dev.isRemoved (.lane n) = false → (s.dev.lane n).st ≠ .down → (s.dev.lane n).locked = true →
    ∃ s', exec (.stuffingError t n) s = .next s' ∧ s'.dev.reg64 (R.LNK_CNT_STUFF n) = (s.dev.reg64 (R.LNK_CNT_STUFF n) + 1) % 2 ^ 64 ∧ (s'.dev.lane n) = { (s.dev.lane n) with discarding := true } ∧ sameMemory s s') ∧
  -- elasticDrop
  (∀ (s : State) (t n f : Nat), s.dev.alive = true → n < 8 → s.dev.isRemoved (.lane n) = false → (s.dev.lane n).st ≠ .down → (s.dev.lane n).locked = true → 5 < f → f ≤ 8 →
    ∃ s', exec (.elasticBufferAdjust t n f true false) s = .next s' ∧ s'.dev.reg64 (R.LNK_CNT_FILL n) = (s.dev.reg64 (R.LNK_CNT_FILL n) + 1) % 2 ^ 64 ∧ (s'.dev.lane n) = { (s.dev.lane n) with discarding := false, elastic := f - 1 } ∧ sameMemory s s') ∧
  -- elasticInsert
  (∀ (s : State) (t n f : Nat) (b : Bool), s.dev.alive = true → n < 8 → s.dev.isRemoved (.lane n) = false → (s.dev.lane n).st ≠ .down → (s.dev.lane n).locked = true → f < 3 →
    ∃ s', exec (.elasticBufferAdjust t n f b false) s = .next s' ∧ s'.dev.reg64 (R.LNK_CNT_FILL n) = (s.dev.reg64 (R.LNK_CNT_FILL n) + 1) % 2 ^ 64 ∧ (s'.dev.lane n) = { (s.dev.lane n) with discarding := false, elastic := f + 1 } ∧ sameMemory s s') ∧
  -- elasticBroken
  (∀ (s : State) (t n f : Nat) (b : Bool), s.dev.alive = true → n < 8 → s.dev.isRemoved (.lane n) = false → (s.dev.lane n).st = .up → (s.dev.lane n).locked = true → s.dev.faultRoom 0x1403 = true →
    ∃ s', exec (.elasticBufferAdjust t n f b true) s = .next s' ∧ s'.dev.logged 0x1403 = true ∧ (s'.dev.lane n) = { (s.dev.lane n) with discarding := false, locked := false, lostAt := some (s.dev.advanceTo t).now } ∧ s'.dev.top.state = s.dev.top.state ∧ sameMemory s s') ∧
  -- slotSafe
  (∀ (s : State) (t n d q : Nat) (m : List Byte) (rest : List (Nat × List Byte)), s.dev.alive = true → n < 8 → s.dev.isRemoved (.lane n) = false → (s.dev.lane n).st = .up → (s.dev.lane n).safe = (q, m) :: rest → (s.dev.lane n).slot < 63 →
    ∃ s', exec (.frameSlotTransmit t n d) s = .next s' ∧ (s'.dev.lane n).safe = rest ∧ (s'.dev.lane n).last = symbol 0x30 (leBytes 4 q ++ m) ∧ (s'.dev.lane n).slot = (s.dev.lane n).slot + 1 ∧ s'.dev.reg64 (R.PNT_CNT_SENT 4) = (s.dev.reg64 (R.PNT_CNT_SENT 4) + 1) % 2 ^ 64 ∧ sameMemory s s') ∧
  -- slotResponse
  (∀ (s : State) (t n d : Nat) (b : Bool) (r : List Byte) (rest : List (Bool × List Byte)), s.dev.alive = true → n < 8 → s.dev.isRemoved (.lane n) = false → (s.dev.lane n).st = .up → (s.dev.lane n).safe = [] → (s.dev.lane n).timeDue = false → (s.dev.lane n).bounded = none → s.dev.nextPacket n false = none → (s.dev.lane n).responses = (b, r) :: rest → (s.dev.lane n).slot = 63 →
    ∃ s', exec (.frameSlotTransmit t n d) s = .next s' ∧ (s'.dev.lane n).responses = rest ∧ (s'.dev.lane n).last = symbol 0x21 r ∧ (s'.dev.lane n).slot = 0 ∧ (s'.dev.lane n).frames = (s.dev.lane n).frames + 1 ∧ sameMemory s s') ∧
  -- slotData
  (∀ (s : State) (t n d : Nat) (p : Packet), s.dev.alive = true → n < 8 → s.dev.isRemoved (.lane n) = false → (s.dev.lane n).st = .up → (s.dev.lane n).safe = [] → (s.dev.lane n).timeDue = false → (s.dev.lane n).bounded = none → s.dev.nextPacket n false = some p → 29 < p.bytes.length → (s.dev.lane n).slot < 63 →
    ∃ s', exec (.frameSlotTransmit t n d) s = .next s' ∧ (s'.dev.lane n).bounded = some (p, 29) ∧ (s'.dev.lane n).last = dataBytes p 0 ∧ (s'.dev.lane n).slot = (s.dev.lane n).slot + 1 ∧ mgetD s'.dev.pnt.lanes n [] = (mgetD s.dev.pnt.lanes n []).filter (fun q => q.order != p.order) ∧ sameMemory s s') ∧
  -- packetSent
  (∀ (s : State) (t n d o : Nat) (p : Packet), s.dev.alive = true → n < 8 → s.dev.isRemoved (.lane n) = false → (s.dev.lane n).st = .up → (s.dev.lane n).safe = [] → (s.dev.lane n).timeDue = false → (s.dev.lane n).bounded = some (p, o) → p.bytes.length ≤ o + 29 → p.xs = [] → p.stream < 16 → (s.dev.lane n).slot < 63 →
    ∃ s', exec (.frameSlotTransmit t n d) s = .next s' ∧ (s'.dev.lane n).bounded = none ∧ (s'.dev.lane n).last = dataBytes p o ∧ s'.dev.reg64 (R.PNT_CNT_SENT p.stream) = (s.dev.reg64 (R.PNT_CNT_SENT p.stream) + p.records) % 2 ^ 64 ∧ sameMemory s s') ∧
  -- slotCap
  (∀ (s : State) (t n d : Nat), s.dev.alive = true → n < 8 → s.dev.isRemoved (.lane n) = false → (s.dev.lane n).st = .cap → (s.dev.lane n).capSeen = false → (s.dev.lane n).slot < 63 →
    ∃ s', exec (.frameSlotTransmit t n d) s = .next s' ∧ (s'.dev.lane n).st = .cap ∧ (s'.dev.lane n).capTx = ((s.dev.lane n).capTx || (s.dev.lane n).capRx) ∧ (s'.dev.lane n).last = symbol 2 (leBytes 1 2 ++ leBytes 1 (s.dev.fld (R.LNK_CFG n) 3 1) ++ leBytes 1 s.dev.devId ++ leBytes 1 n ++ leBytes 1 (b2n (s.dev.lane n).capRx) ++ leBytes 2 0x4256) ∧ sameMemory s s') ∧
  -- timeSymbolDue
  (∀ (s : State) (t n : Nat), s.dev.alive = true → n < 8 → s.dev.isRemoved (.lane n) = false → (s.dev.lane n).st = .up → s.dev.rbit (R.LNK_CFG n) 4 = true → (s.dev.lane n).partnerVer = 2 → s.dev.fld (R.LNK_CFG n) 15 8 ≤ (s.dev.lane n).frames →
    ∃ s', exec (.timeSymbolDue t n) s = .next s' ∧ (s'.dev.lane n) = { (s.dev.lane n) with timeDue := true, frames := 0 } ∧ s'.dev.regs = s.dev.regs ∧ sameMemory s s') ∧
  -- laneParityError
  (∀ (s : State) (t n : Nat), s.dev.alive = true → n < 8 → s.dev.isRemoved (.lane n) = false → s.dev.faultRoom 0x1404 = true → (s.dev.lane n).st ≠ .up →
    ∃ s', exec (.laneParityError t n) s = .next s' ∧ (s'.dev.lane n).st = .down ∧ s'.dev.isRemoved (.lane n) = true ∧ s'.dev.logged 0x1404 = true ∧ s'.dev.top.state = s.dev.top.state ∧ sameMemory s s')

/-- CSI-2, Ethernet and MDIO. Enables, PLL and link changes, address resolution, safety datagrams and foreign frames, and the five
MDIO accesses have their effects. Log entry 40 is the model's choice. (17_links.md: CSI-2 and Ethernet.) -/
def Obligations.NetworkComplete : Prop :=
  -- csiEnable
  (∀ (s : State) (src t : Nat) (v : Word), s.dev.alive = true → s.dev.top.state ≠ .headframe → v.getLsbD 0 = true → s.dev.rbit R.CSI_CTRL 0 = false →
    ∃ s', exec (.csiEnable src t v) s = .next s' ∧ s'.dev.rbit R.CSI_CTRL 0 = true ∧ s'.dev.net.csiCfg = s'.dev.reg R.CSI_CTRL ∧ s'.dev.net.csiWait = false ∧ s'.dev.rbit R.CSI_STATUS 0 = true ∧ writeTaken src s s') ∧
  -- csiDisable
  (∀ (s : State) (src t : Nat) (v : Word), s.dev.alive = true → s.dev.top.state ≠ .headframe → v.getLsbD 0 = false →
    ∃ s', exec (.csiEnable src t v) s = .next s' ∧ s'.dev.rbit R.CSI_CTRL 0 = false ∧ s'.dev.fld R.CSI_STATUS 5 0 = 0 ∧ s'.dev.net = s.dev.net ∧ writeTaken src s s') ∧
  -- dphyPllUnlock
  (∀ (s : State) (t : Nat), s.dev.alive = true → s.dev.rbit R.CSI_CTRL 0 = true → s.dev.rbit R.CSI_STATUS 0 = true → s.dev.faultRoom 0x1501 = true →
    ∃ s', exec (.dphyPllUnlock t) s = .next s' ∧ s'.dev.fld R.CSI_STATUS 5 0 = 0 ∧ s'.dev.logged 0x1501 = true ∧ s'.dev.faultActive 0x1501 = true ∧ s'.dev.top.state = s.dev.top.state ∧ sameMemory s s') ∧
  -- dphyPllRelock
  (∀ (s : State) (t : Nat), s.dev.alive = true → s.dev.rbit R.CSI_CTRL 0 = true → s.dev.rbit R.CSI_STATUS 0 = false → s.dev.serialOk = true →
    ∃ s', exec (.dphyPllRelock t) s = .next s' ∧ s'.dev.rbit R.CSI_STATUS 0 = true ∧ s'.dev.net.csiWait = true ∧ s'.dev.faultActive 0x1501 = false ∧ sameMemory s s') ∧
  -- ethLinkDown
  (∀ (s : State) (t : Nat), s.dev.alive = true → s.dev.ethUp = true → s.dev.faultRoom 0x1601 = true →
    ∃ s', exec (.ethLinkDown t) s = .next s' ∧ s'.dev.rbit R.ETH_STATUS 0 = false ∧ s'.dev.rbit R.ETH_STATUS 3 = false ∧ s'.dev.logged 0x1601 = true ∧ s'.dev.faultActive 0x1601 = true ∧ s'.dev.top.state = s.dev.top.state ∧ sameMemory s s') ∧
  -- ethernetLinkUp
  (∀ (s : State) (t x : Nat), s.dev.alive = true → s.dev.rbit R.ETH_CTRL 0 = true → s.dev.serialOk = true → s.dev.rbit R.ETH_STATUS 0 = false →
    ∃ s', exec (.ethernetLinkUp t x) s = .next s' ∧ s'.dev.rbit R.ETH_STATUS 0 = true ∧ s'.dev.fld R.ETH_STATUS 2 1 = x % 4 ∧ s'.dev.faultActive 0x1601 = false ∧ sameMemory s s') ∧
  -- arpRequest
  (∀ (s : State) (t : Nat) (vid : Option Nat) (m : List Byte), s.dev.alive = true → s.dev.ethUp = true → s.dev.tagOk vid = true →
    ∃ s', exec (.arpRequest t vid (s.dev.reg R.ETH_IP4) m) s = .next s' ∧ s'.dev.net.ethLast.map (fun x => (x.cls, x.payload)) = some (5, s.dev.ownMac ++ leBytes 4 (s.dev.reg R.ETH_IP4).toNat ++ m) ∧ s'.dev.reg64 R.ETH_CNT_TX = (s.dev.reg64 R.ETH_CNT_TX + 1) % 2 ^ 64 ∧ sameMemory s s') ∧
  -- neighbourSolicitation
  (∀ (s : State) (t : Nat) (vid : Option Nat), s.dev.alive = true → s.dev.ethUp = true → s.dev.tagOk vid = true →
    ∃ s', exec (.neighbourSolicitation t vid s.dev.ownIp6) s = .next s' ∧ s'.dev.net.ethLast.map (fun x => (x.cls, x.payload)) = some (5, s.dev.ownIp6 ++ s.dev.ownMac) ∧ s'.dev.reg64 R.ETH_CNT_TX = (s.dev.reg64 R.ETH_CNT_TX + 1) % 2 ^ 64 ∧ sameMemory s s') ∧
  -- frameForeignTag
  (∀ (s : State) (t : Nat) (vid : Option Nat) (a : Word) (m : List Byte), s.dev.alive = true → s.dev.ethUp = true → s.dev.tagOk vid = false →
    ∃ s', exec (.arpRequest t vid a m) s = .next s' ∧ s'.dev.net = s.dev.net ∧ s'.dev.reg64 R.ETH_CNT_RX_DISC = (s.dev.reg64 R.ETH_CNT_RX_DISC + 1) % 2 ^ 64 ∧ sameMemory s s') ∧
  -- safetyDatagramDiscarded
  (∀ (s : State) (t k : Nat) (vid : Option Nat) (m : List Byte), s.dev.alive = true → s.dev.ethUp = true → s.dev.cnyRoutes = false →
    ∃ s', exec (.safetyDatagram t k vid m) s = .next s' ∧ s'.dev.cny = s.dev.cny ∧ s'.dev.reg64 R.ETH_CNT_RX_DISC = (s.dev.reg64 R.ETH_CNT_RX_DISC + 1) % 2 ^ 64 ∧ sameMemory s s') ∧
  -- safetyDatagram
  (∀ (s : State) (t k : Nat) (vid : Option Nat) (m : List Byte), s.dev.alive = true → s.dev.ethUp = true → s.dev.tagOk vid = true → s.dev.cnyRoutes = true → s.dev.netB = false → s.dev.cny.lost = false → s.dev.cny.copies = [] → m.length = 27 →
    ∃ s', exec (.safetyDatagram t k vid m) s = .next s' ∧ s'.dev.cny = { s.dev.cny with rc := Nat.max s.dev.cny.rc k, copies := [(1, Nat.max s.dev.cny.rc k, m)] } ∧ s'.dev.reg64 R.ETH_CNT_RX_DISC = s.dev.reg64 R.ETH_CNT_RX_DISC ∧ sameMemory s s') ∧
  -- otherFrame
  (∀ (s : State) (t : Nat), s.dev.alive = true → s.dev.ethUp = true →
    ∃ s', exec (.otherFrame t) s = .next s' ∧ s'.dev.net = s.dev.net ∧ s'.dev.reg64 R.ETH_CNT_RX_DISC = (s.dev.reg64 R.ETH_CNT_RX_DISC + 1) % 2 ^ 64 ∧ sameMemory s s') ∧
  -- c22Read
  (∀ (s : State) (src t phy r : Nat) (data : Nat), s.dev.takesCmd R.ETH_MDIO = true →
    ∃ s', exec (.c22Read src t phy r true data) s = .next s' ∧ s'.dev.reg R.ETH_MDIO = BitVec.ofNat 32 (1 + 256 + 1024 * (phy % 32) + 32768 * (r % 32)) ∧ s'.dev.reg R.ETH_MDIO_DATA = BitVec.ofNat 32 (data % 65536) ∧ writeTaken src s s') ∧
  -- c22Write
  (∀ (s : State) (src t phy r : Nat), s.dev.takesCmd R.ETH_MDIO = true →
    ∃ s', exec (.c22Write src t phy r true) s = .next s' ∧ s'.dev.reg R.ETH_MDIO = BitVec.ofNat 32 (2 + 256 + 1024 * (phy % 32) + 32768 * (r % 32)) ∧ s'.dev.reg R.ETH_MDIO_DATA = s.dev.reg R.ETH_MDIO_DATA ∧ writeTaken src s s') ∧
  -- c45Address
  (∀ (s : State) (src t phy r : Nat), s.dev.takesCmd R.ETH_MDIO = true →
    ∃ s', exec (.c45Address src t phy r true) s = .next s' ∧ s'.dev.reg R.ETH_MDIO = BitVec.ofNat 32 (3 + 256 + 1024 * (phy % 32) + 32768 * (r % 32)) ∧ s'.dev.reg R.ETH_MDIO_DATA = s.dev.reg R.ETH_MDIO_DATA ∧ writeTaken src s s') ∧
  -- c45Read
  (∀ (s : State) (src t phy r : Nat) (data : Nat), s.dev.takesCmd R.ETH_MDIO = true →
    ∃ s', exec (.c45Read src t phy r true data) s = .next s' ∧ s'.dev.reg R.ETH_MDIO = BitVec.ofNat 32 (4 + 256 + 1024 * (phy % 32) + 32768 * (r % 32)) ∧ s'.dev.reg R.ETH_MDIO_DATA = BitVec.ofNat 32 (data % 65536) ∧ writeTaken src s s') ∧
  -- c45Write
  (∀ (s : State) (src t phy r : Nat), s.dev.takesCmd R.ETH_MDIO = true →
    ∃ s', exec (.c45Write src t phy r true) s = .next s' ∧ s'.dev.reg R.ETH_MDIO = BitVec.ofNat 32 (5 + 256 + 1024 * (phy % 32) + 32768 * (r % 32)) ∧ s'.dev.reg R.ETH_MDIO_DATA = s.dev.reg R.ETH_MDIO_DATA ∧ writeTaken src s s') ∧
  -- mdioWaits
  (∀ (s : State) (src t phy r data : Nat), s.dev.takesCmd R.ETH_MDIO = true →
    ∃ s', exec (.c22Read src t phy r false data) s = .next s' ∧ s'.dev.fld R.ETH_MDIO 9 8 = 3 ∧ s'.dev.rbit R.ETH_STATUS 4 = true ∧ s'.dev.reg R.ETH_MDIO_DATA = s.dev.reg R.ETH_MDIO_DATA ∧ writeTaken src s s') ∧
  -- mdioTimeout
  (∀ (s : State) (t : Nat), s.dev.alive = true → s.dev.fld R.ETH_MDIO 9 8 = 3 → s.dev.faultRoom 0x1602 = true →
    ∃ s', exec (.mdioTimeout t) s = .next s' ∧ s'.dev.fld R.ETH_MDIO 9 8 = 2 ∧ s'.dev.rbit R.ETH_STATUS 4 = false ∧ s'.dev.logged 0x1602 = true ∧ s'.dev.top.state = s.dev.top.state ∧ sameMemory s s')

/-- Canary demands, VDD_CNY and the seal switches. The loss of VDD_CNY, lost heartbeats and a mismatch of the two halves enter
HELD with EMIT_EN low and both pairs off; a mismatch that has gone ends its demand; a value of SAFE_SW that three samples
agree on is accepted, a broken seal and a changed mode hold the outputs; a value not yet seen three times changes nothing.
(18_canary_safety.md: Demands, interlock and seal switches.) -/
def Obligations.CanaryDemandComplete : Prop :=
  -- vddCnyLoss
  (∀ (s : State) (t : Nat), s.dev.alive = true → s.dev.cny.lost = false → s.dev.faultRoom 0x1805 = true →
    ∃ s', exec (.vddCnyLoss t) s = .next s' ∧ s'.dev.cny.lost = true ∧ s'.dev.logged 0x1805 = true ∧ s'.dev.top.state = .held ∧ s'.dev.emt.emitEn = false ∧ s'.dev.cny.ossdOn.getD 0 false = false ∧ s'.dev.cny.ossdOn.getD 1 false = false ∧ sameMemory s s') ∧
  -- heartbeatLost
  (∀ (s : State) (t c : Nat) , s.dev.top.state ≠ .reset → s.dev.cny.lost = false → s.dev.cny.clockFault = false → s.dev.cny.heartbeat = false → s.dev.faultRoom 0x1803 = true →
    ∃ s', exec (.heartbeatLost t c) s = .next s' ∧ s'.dev.cny.rc = (Nat.max s.dev.cny.rc c) ∧ s'.dev.cny.heartbeat = true ∧ s'.dev.demanding = true ∧ s'.dev.logged 0x1803 = true ∧ s'.dev.top.state = .held ∧ s'.dev.emt.emitEn = false ∧ s'.dev.cny.ossdOn.getD 0 false = false ∧ s'.dev.cny.ossdOn.getD 1 false = false ∧ sameMemory s s') ∧
  -- heartbeatLostUnderClockFault
  (∀ (s : State) (t c : Nat) , s.dev.top.state ≠ .reset → s.dev.cny.lost = false → s.dev.cny.clockFault = true →
    ∃ s', exec (.heartbeatLost t c) s = .next s' ∧ s'.dev.cny.rc = (Nat.max s.dev.cny.rc c) ∧ s'.dev.top = s.dev.top ∧ s'.dev.flg = s.dev.flg ∧ sameMemory s s') ∧
  -- comparisonMismatch
  (∀ (s : State) (t c : Nat) , s.dev.top.state ≠ .reset → s.dev.cny.lost = false → s.dev.cny.mismatch = false → s.dev.faultRoom 0x1804 = true →
    ∃ s', exec (.selfComparisonMismatch t c true) s = .next s' ∧ s'.dev.cny.rc = (Nat.max s.dev.cny.rc c) ∧ s'.dev.cny.mismatch = true ∧ s'.dev.demanding = true ∧ s'.dev.logged 0x1804 = true ∧ s'.dev.top.state = .held ∧ s'.dev.emt.emitEn = false ∧ s'.dev.cny.ossdOn.getD 0 false = false ∧ s'.dev.cny.ossdOn.getD 1 false = false ∧ sameMemory s s') ∧
  -- comparisonMismatchGone
  (∀ (s : State) (t c : Nat) , s.dev.top.state ≠ .reset → s.dev.cny.lost = false → s.dev.cny.mismatch = true →
    ∃ s', exec (.selfComparisonMismatch t c false) s = .next s' ∧ s'.dev.cny.rc = (Nat.max s.dev.cny.rc c) ∧ s'.dev.cny.mismatch = false ∧ s'.dev.faultActive 0x1804 = false ∧ s'.dev.top.state = s.dev.top.state ∧ sameMemory s s') ∧
  -- sealSwitchSample
  (∀ (s : State) (t c : Nat) (v : Nat), s.dev.top.state ≠ .reset → s.dev.cny.lost = false → s.dev.cny.swSeen = [v, v] → v < 8 → s.dev.cny.sw < 8 → s.dev.cny.sw ≠ v → v / 2 % 4 = s.dev.cny.swReset / 2 % 4 →
    ∃ s', exec (.sealSwitchSample t c v) s = .next s' ∧ s'.dev.cny.rc = (Nat.max s.dev.cny.rc c) ∧ s'.dev.cny.sw = v ∧ s'.dev.flg = s.dev.flg ∧ s'.dev.top.state = s.dev.top.state ∧ sameMemory s s') ∧
  -- sealBroken
  (∀ (s : State) (t c : Nat) (v : Nat), s.dev.top.state ≠ .reset → s.dev.cny.lost = false → s.dev.cny.swSeen = [v, v] → 8 ≤ v → v < 16 → s.dev.cny.sw < 8 → v / 2 % 4 = s.dev.cny.swReset / 2 % 4 → s.dev.faultRoom 0x1801 = true →
    ∃ s', exec (.sealSwitchSample t c v) s = .next s' ∧ s'.dev.cny.rc = (Nat.max s.dev.cny.rc c) ∧ s'.dev.cny.sw = v ∧ s'.dev.safetyHold = true ∧ s'.dev.logged 0x1801 = true ∧ s'.dev.top.state = s.dev.top.state ∧ s'.dev.cny.ossdOn.getD 0 false = false ∧ s'.dev.cny.ossdOn.getD 1 false = false ∧ sameMemory s s') ∧
  -- modeSwitchChanged
  (∀ (s : State) (t c : Nat) (v : Nat), s.dev.top.state ≠ .reset → s.dev.cny.lost = false → s.dev.cny.swSeen = [v, v] → v < 8 → s.dev.cny.sw < 8 → v / 2 % 4 ≠ s.dev.cny.swReset / 2 % 4 → s.dev.cny.sw ≠ v → s.dev.cny.modeChanged = false → s.dev.faultRoom 0x1802 = true →
    ∃ s', exec (.sealSwitchSample t c v) s = .next s' ∧ s'.dev.cny.rc = (Nat.max s.dev.cny.rc c) ∧ s'.dev.cny.sw = v ∧ s'.dev.cny.modeChanged = true ∧ s'.dev.safetyHold = true ∧ s'.dev.safetyMode = s.dev.safetyMode ∧ s'.dev.logged 0x1802 = true ∧ s'.dev.top.state = s.dev.top.state ∧ s'.dev.cny.ossdOn.getD 0 false = false ∧ s'.dev.cny.ossdOn.getD 1 false = false ∧ sameMemory s s') ∧
  -- sealSwitchBounce
  (∀ (s : State) (t c : Nat) (v w : Nat), s.dev.top.state ≠ .reset → s.dev.cny.lost = false → s.dev.cny.swSeen = [w] →
    ∃ s', exec (.sealSwitchSample t c v) s = .next s' ∧ s'.dev.cny.rc = (Nat.max s.dev.cny.rc c) ∧ s'.dev.cny.sw = s.dev.cny.sw ∧ s'.dev.cny.swSeen = [v % 16, w] ∧ s'.dev.top = s.dev.top ∧ sameMemory s s')

/-- Safety parameters, COMMISSION and CLEAR. A parameter write changes the working copy and starts the hold; while a record is
programmed it is ignored; the recomputation 1 ms later shows the check value and logs 0x1806 when the conditions fail;
COMMISSION takes the record when its conditions hold, which its end programs or not; CLEAR ends a lockout whose fault has been
cleared. (18_canary_safety.md: Safety parameters and commissioning.) -/
def Obligations.CanaryParametersComplete : Prop :=
  -- cnyParamWrite
  (∀ (s : State) (src t c n : Nat) (v : Word), s.dev.alive = true → s.dev.top.state ≠ .headframe → s.dev.cny.comm = none → n < 8192 →
    ∃ s', exec (.cnyParamWrite src t c (0x278000 + 4 * n) v) s = .next s' ∧ s'.dev.reg (0x278000 + 4 * n) = v ∧ s'.dev.cny.paramHold = true ∧ s'.dev.cny.activate = false ∧ s'.dev.cny.active = s.dev.cny.active ∧ s'.dev.cny.lastWrite = some (Nat.max s.dev.cny.rc c) ∧ s'.dev.top.state = s.dev.top.state ∧ writeTaken src s s') ∧
  -- cnyParamWriteIgnored
  (∀ (s : State) (src t c n : Nat) (v : Word) (r : List Byte), s.dev.alive = true → s.dev.top.state ≠ .headframe → s.dev.cny.comm = some r → n < 8192 →
    ∃ s', exec (.cnyParamWrite src t c (0x278000 + 4 * n) v) s = .next s' ∧ s'.dev.reg (0x278000 + 4 * n) = s.dev.reg (0x278000 + 4 * n) ∧ s'.dev.rbit R.CNY_STATUS 9 = true ∧ s'.dev.cny.lastWrite = s.dev.cny.lastWrite ∧ writeTaken src s s') ∧
  -- checkRecompute
  (∀ (s : State) (t c : Nat) (w : Nat), s.dev.top.state ≠ .reset → s.dev.cny.lost = false → s.dev.cny.lastWrite = some w → w + 48000 ≤ (Nat.max s.dev.cny.rc c) → s.dev.cny.swReset / 2 % 4 = 0 →
    ∃ s', exec (.checkRecompute t c) s = .next s' ∧ s'.dev.cny.rc = (Nat.max s.dev.cny.rc c) ∧ s'.dev.reg R.CNY_CHECK_COMPUTED = checkValue (blockBytes s.dev.workWords) ∧ s'.dev.cny.lastWrite = none ∧ s'.dev.cny.active = s.dev.cny.active ∧ s'.dev.top = s.dev.top ∧ sameMemory s s') ∧
  -- checkRecomputeFails
  (∀ (s : State) (t c : Nat) (w : Nat), s.dev.top.state ≠ .reset → s.dev.cny.lost = false → s.dev.cny.lastWrite = some w → w + 48000 ≤ (Nat.max s.dev.cny.rc c) → s.dev.cny.swReset / 2 % 4 ≠ 0 → s.dev.boot.commission = [] → s.dev.faultRoom 0x1806 = true →
    ∃ s', exec (.checkRecompute t c) s = .next s' ∧ s'.dev.cny.rc = (Nat.max s.dev.cny.rc c) ∧ s'.dev.reg R.CNY_CHECK_COMPUTED = checkValue (blockBytes s.dev.workWords) ∧ s'.dev.cny.lastWrite = none ∧ s'.dev.cny.activate = false ∧ s'.dev.cny.paramHold = true ∧ s'.dev.logged 0x1806 = true ∧ s'.dev.top = s.dev.top ∧ sameMemory s s') ∧
  -- checkRecomputeEarly
  (∀ (s : State) (t c : Nat) (w : Nat), s.dev.top.state ≠ .reset → s.dev.cny.lost = false → s.dev.cny.lastWrite = some w → (Nat.max s.dev.cny.rc c) < w + 48000 →
    ∃ s', exec (.checkRecompute t c) s = .next s' ∧ s'.dev.cny.rc = (Nat.max s.dev.cny.rc c) ∧ s'.dev.regs = s.dev.regs ∧ s'.dev.cny.lastWrite = some w ∧ sameMemory s s') ∧
  -- commission
  (∀ (s : State) (src t : Nat), s.dev.takesCmd R.CNY_CMD = true → s.dev.inState [.armed, .ranging, .held] = true → s.dev.safetyMode ≠ 0 → s.dev.cny.sw % 2 = 1 → s.dev.cny.comm = none → blockValid (blockBytes s.dev.workWords) = true → s.dev.reg R.CNY_COMM_CONFIRM = s.dev.reg R.CNY_CHECK_COMPUTED →
    ∃ s', exec (.commission src t) s = .next s' ∧ s'.dev.cny.comm = some (s.dev.advanceTo t).commRecord ∧ s'.dev.boot = s.dev.boot ∧ s'.dev.fld R.CNY_CMD 9 8 = 3 ∧ writeTaken src s s') ∧
  -- commissionRejected
  (∀ (s : State) (src t : Nat), s.dev.takesCmd R.CNY_CMD = true → s.dev.inState [.armed, .ranging, .held] = true → s.dev.safetyMode ≠ 0 → s.dev.cny.sw % 2 = 0 →
    ∃ s', exec (.commission src t) s = .next s' ∧ s'.dev.cny = s.dev.cny ∧ s'.dev.fld R.CNY_CMD 9 8 = 2 ∧ s'.dev.fld R.CNY_CMD 23 16 = 2 ∧ writeTaken src s s') ∧
  -- commissionDone
  (∀ (s : State) (t c : Nat) (r : List Byte), s.dev.top.state ≠ .reset → s.dev.cny.lost = false → s.dev.cny.comm = some r → s.dev.cny.lastWrite.isSome = true →
    ∃ s', exec (.commissionDone t c true) s = .next s' ∧ s'.dev.cny.rc = (Nat.max s.dev.cny.rc c) ∧ s'.dev.boot.commission = r ∧ s'.dev.cny.comm = none ∧ s'.dev.cny.commHold = false ∧ s'.dev.reg R.CNY_CHECK_CONFIRMED = BitVec.ofNat 32 (leAt r 8 4) ∧ s'.dev.reg R.CNY_COMM_COUNT = BitVec.ofNat 32 (leAt r 24 4) ∧ s'.dev.top.state = s.dev.top.state ∧ s'.dev.fld R.CNY_CMD 9 8 = 1 ∧ sameMemory s s') ∧
  -- commissionFails
  (∀ (s : State) (t c : Nat) (r : List Byte), s.dev.top.state ≠ .reset → s.dev.cny.lost = false → s.dev.cny.comm = some r → s.dev.faultRoom 0x1812 = true →
    ∃ s', exec (.commissionDone t c false) s = .next s' ∧ s'.dev.cny.rc = (Nat.max s.dev.cny.rc c) ∧ s'.dev.boot.commission = [] ∧ s'.dev.cny.comm = none ∧ s'.dev.cny.commHold = true ∧ s'.dev.cny.activate = false ∧ s'.dev.logged 0x1812 = true ∧ s'.dev.top.state = s.dev.top.state ∧ s'.dev.fld R.CNY_CMD 9 8 = 2 ∧ s'.dev.fld R.CNY_CMD 23 16 = 7 ∧ sameMemory s s') ∧
  -- cnyClear
  (∀ (s : State) (src t x : Nat), s.dev.takesCmd R.CNY_CMD = true → s.dev.cny.locks = [x] → s.dev.faultCleared x = true →
    ∃ s', exec (.cnyClear src t) s = .next s' ∧ s'.dev.cny.locks = [] ∧ s'.dev.top.state = s.dev.top.state ∧ s'.dev.fld R.CNY_CMD 9 8 = 1 ∧ writeTaken src s s') ∧
  -- cnyClearRejected
  (∀ (s : State) (src t x : Nat), s.dev.takesCmd R.CNY_CMD = true → s.dev.cny.locks = [x] → s.dev.faultCleared x = false →
    ∃ s', exec (.cnyClear src t) s = .next s' ∧ s'.dev.cny = s.dev.cny ∧ s'.dev.fld R.CNY_CMD 9 8 = 2 ∧ s'.dev.fld R.CNY_CMD 23 16 = 6 ∧ writeTaken src s s')

/-- Safety inputs and the OSSDs. A functional sample stores both channels of every input and puts an emergency stop with a low
channel in demand; test pulses start and a missing one is noted; readbacks that match end the wait, and those that do not
enter HELD with 0x1810; so does a failed off-test. Log entry 18 is the model's reading. (18_canary_safety.md: Safety inputs
and OSSDs.) -/
def Obligations.SafetyInputsComplete : Prop :=
  -- functionalSample
  (∀ (s : State) (t c : Nat) (l rb n : Nat), s.dev.top.state ≠ .reset → s.dev.cny.lost = false → s.dev.cny.tp = [] → n < 8 →
    ∃ s', exec (.functionalSample t c l rb) s = .next s' ∧ s'.dev.cny.rc = (Nat.max s.dev.cny.rc c) ∧ s'.dev.cny.sample = s.dev.cny.sample + 1 ∧ s'.dev.cny.rb = rb % 16 ∧ (s'.dev.cnyFn n).a = l.testBit (2 * n) ∧ (s'.dev.cnyFn n).b = l.testBit (2 * n + 1) ∧ sameMemory s s') ∧
  -- functionalSampleDemand
  (∀ (s : State) (t c : Nat) (l rb n : Nat), s.dev.top.state ≠ .reset → s.dev.cny.lost = false → s.dev.cny.tp = [] → n < 8 → s.dev.inputMode = true → s.dev.cny.active.isSome = true → s.dev.inputField n 0 1 = 1 → (l.testBit (2 * n) = false ∨ l.testBit (2 * n + 1) = false) →
    ∃ s', exec (.functionalSample t c l rb) s = .next s' ∧ s'.dev.cny.rc = (Nat.max s.dev.cny.rc c) ∧ (s'.dev.cnyFn n).demand = true ∧ sameMemory s s') ∧
  -- testPulse
  (∀ (s : State) (t c : Nat) (n : Nat), s.dev.top.state ≠ .reset → s.dev.cny.lost = false → n < 4 →
    ∃ s', exec (.testPulse t c n) s = .next s' ∧ s'.dev.cny.rc = (Nat.max s.dev.cny.rc c) ∧ mget s'.dev.cny.tp n = some (Nat.max s.dev.cny.rc c) ∧ s'.dev.cny.fns = s.dev.cny.fns ∧ s'.dev.top = s.dev.top ∧ sameMemory s s') ∧
  -- testPulseMissing
  (∀ (s : State) (t c : Nat) (j l x n : Nat), s.dev.top.state ≠ .reset → s.dev.cny.lost = false → s.dev.inputMode = true → s.dev.cny.active.isSome = true → j < 4 → mget s.dev.cny.tp j = some x → x ≤ (Nat.max s.dev.cny.rc c) → (Nat.max s.dev.cny.rc c) < x + 9600 → n < 16 → s.dev.tpOf n = some j → s.dev.inputField (s.dev.fnOwner n) 0 1 ≠ 0 → l.testBit n = true →
    ∃ s', exec (.testPulseCheck t c j l) s = .next s' ∧ s'.dev.cny.rc = (Nat.max s.dev.cny.rc c) ∧ mgetD (s'.dev.cnyFn (s.dev.fnOwner n)).miss n 0 = (Nat.max s.dev.cny.rc c) / 480000 + 1 ∧ sameMemory s s') ∧
  -- testPulseSeen
  (∀ (s : State) (t c : Nat) (j l x : Nat), s.dev.top.state ≠ .reset → s.dev.cny.lost = false → s.dev.inputMode = true → s.dev.cny.active.isSome = true → j < 4 → mget s.dev.cny.tp j = some x → x ≤ (Nat.max s.dev.cny.rc c) → (Nat.max s.dev.cny.rc c) < x + 9600 → l = 0 → s.dev.cny.fns = [] →
    ∃ s', exec (.testPulseCheck t c j l) s = .next s' ∧ s'.dev.cny.rc = (Nat.max s.dev.cny.rc c) ∧ s'.dev.cny.fns = s.dev.cny.fns ∧ s'.dev.flg = s.dev.flg ∧ s'.dev.top = s.dev.top ∧ sameMemory s s') ∧
  -- ossdReadbackCheck
  (∀ (s : State) (t c : Nat) (x rb : Nat), s.dev.top.state ≠ .reset → s.dev.cny.lost = false → s.dev.cny.switched = [some x, none] → x + 96000 ≤ (Nat.max s.dev.cny.rc c) → s.dev.cny.ossdOn = [false, true] → rb % 4 = 0 →
    ∃ s', exec (.ossdReadbackCheck t c rb) s = .next s' ∧ s'.dev.cny.rc = (Nat.max s.dev.cny.rc c) ∧ s'.dev.cny.switched = [none, none] ∧ s'.dev.cny.rb = rb % 16 ∧ s'.dev.top = s.dev.top ∧ s'.dev.flg = s.dev.flg ∧ sameMemory s s') ∧
  -- ossdReadbackFails
  (∀ (s : State) (t c : Nat) (x rb : Nat), s.dev.top.state ≠ .reset → s.dev.cny.lost = false → s.dev.cny.switched = [some x, none] → x + 96000 ≤ (Nat.max s.dev.cny.rc c) → s.dev.cny.ossdOn = [false, true] → rb % 4 ≠ 0 → s.dev.faultRoom 0x1810 = true →
    ∃ s', exec (.ossdReadbackCheck t c rb) s = .next s' ∧ s'.dev.cny.rc = (Nat.max s.dev.cny.rc c) ∧ s'.dev.cny.rb = rb % 16 ∧ s'.dev.logged 0x1810 = true ∧ s'.dev.top.state = .held ∧ sameMemory s s') ∧
  -- ossdOffTest
  (∀ (s : State) (t c : Nat) (p : Nat), s.dev.top.state ≠ .reset → s.dev.cny.lost = false →
    ∃ s', exec (.ossdOffTest t c p false) s = .next s' ∧ s'.dev.cny.rc = (Nat.max s.dev.cny.rc c) ∧ s'.dev.top = s.dev.top ∧ s'.dev.flg = s.dev.flg ∧ sameMemory s s') ∧
  -- ossdOffTestFails
  (∀ (s : State) (t c : Nat) (p : Nat), s.dev.top.state ≠ .reset → s.dev.cny.lost = false → p < 2 → s.dev.cny.ossdOn.getD p false = true → s.dev.faultRoom 0x1810 = true →
    ∃ s', exec (.ossdOffTest t c p true) s = .next s' ∧ s'.dev.cny.rc = (Nat.max s.dev.cny.rc c) ∧ s'.dev.logged 0x1810 = true ∧ s'.dev.top.state = .held ∧ sameMemory s s')

/-- Motion limits, field evaluation and core liveness. Encoder edges count and take the home; an axis computation gives the
doubled speed of two encoders and its violation; an echo record is evaluated for its frame; frames close 1 ms after their next
boundary; a late frame is logged; liveness requests go to every running core and an unanswered one removes it.
(18_canary_safety.md: Motion limits, field evaluation and liveness.) -/
def Obligations.MotionAndFieldsComplete : Prop :=
  -- canaryEncoderEdge
  (∀ (s : State) (t c : Nat) (n : Nat) (a b z : Bool), s.dev.top.state ≠ .reset → s.dev.cny.lost = false → n < 4 →
    ∃ s', exec (.canaryEncoderEdge t c n a b z) s = .next s' ∧ s'.dev.cny.rc = (Nat.max s.dev.cny.rc c) ∧ (mgetD s'.dev.cny.encs n {}).count = (mgetD s.dev.cny.encs n {}).count + (quadStep (mgetD s.dev.cny.encs n {}).a (mgetD s.dev.cny.encs n {}).b a b).getD 0 ∧ (mgetD s'.dev.cny.encs n {}).a = a ∧ (mgetD s'.dev.cny.encs n {}).b = b ∧ (mgetD s'.dev.cny.encs n {}).z = z ∧ (mgetD s'.dev.cny.encs n {}).home = (if z = true ∧ (mgetD s.dev.cny.encs n {}).z = false then some (mgetD s'.dev.cny.encs n {}).count else (mgetD s.dev.cny.encs n {}).home) ∧ s'.dev.top = s.dev.top ∧ sameMemory s s') ∧
  -- axisComputation
  (∀ (s : State) (t c : Nat) (j : Nat), s.dev.top.state ≠ .reset → s.dev.cny.lost = false → j < 2 → s.dev.cny.active.isSome = true →
    ∃ s', exec (.axisComputation t c j) s = .next s' ∧ s'.dev.cny.rc = (Nat.max s.dev.cny.rc c) ∧ (mgetD s'.dev.cny.axes j {}).speed2 = (((mgetD s.dev.cny.encs (2 * j) {}).count - (mgetD s.dev.cny.encs (2 * j) {}).hist.getD 9 0) * s.dev.axisField j 0 4 + ((mgetD s.dev.cny.encs (2 * j + 1) {}).count - (mgetD s.dev.cny.encs (2 * j + 1) {}).hist.getD 9 0) * s.dev.axisField j 4 4) ∧ (mgetD s'.dev.cny.axes j {}).viol = (s.dev.nativeMode && (s.dev.axisField j 24 1).testBit 0 && s.dev.axisViolated j (((mgetD s.dev.cny.encs (2 * j) {}).count - (mgetD s.dev.cny.encs (2 * j) {}).hist.getD 9 0) * s.dev.axisField j 0 4 + ((mgetD s.dev.cny.encs (2 * j + 1) {}).count - (mgetD s.dev.cny.encs (2 * j + 1) {}).hist.getD 9 0) * s.dev.axisField j 4 4) (mgetD s.dev.cny.encs (2 * j) {})) ∧ (mgetD s'.dev.cny.encs (2 * j) {}).hist = ((mgetD s.dev.cny.encs (2 * j) {}).count :: (mgetD s.dev.cny.encs (2 * j) {}).hist).take 10 ∧ s'.dev.top.state = s.dev.top.state ∧ sameMemory s s') ∧
  -- echoEvaluation
  (∀ (s : State) (t c : Nat) (r : CnyRec) (l : List CnyRec) (f : FieldFrame), s.dev.top.state ≠ .reset → s.dev.cny.lost = false → s.dev.cny.queue = r :: l → s.dev.cny.frames = [f] → f.num = r.frame →
    ∃ s', exec (.echoEvaluation t c) s = .next s' ∧ s'.dev.cny.rc = (Nat.max s.dev.cny.rc c) ∧ s'.dev.cny.queue = l ∧ s'.dev.cny.frames.map (fun g => (g.num, g.cells)) = [(f.num, leAt r.body 0 8 / 2 ^ 16 % 2 ^ 24 :: f.cells)] ∧ s'.dev.top.state = s.dev.top.state ∧ sameMemory s s') ∧
  -- fieldEvaluationClose
  (∀ (s : State) (t c : Nat) (f : FieldFrame) (x : Nat), s.dev.top.state ≠ .reset → s.dev.cny.lost = false → s.dev.cny.frames = [f] → f.next = some x → x + 1600000 ≤ (s.dev.advanceTo t).now →
    ∃ s', exec (.fieldEvaluationClose t c) s = .next s' ∧ s'.dev.cny.rc = (Nat.max s.dev.cny.rc c) ∧ s'.dev.cny.frames = [] ∧ s'.dev.cny.closed = f.num ∧ s'.dev.top.state = s.dev.top.state ∧ sameMemory s s') ∧
  -- framePeriodOverFrameMax
  (∀ (s : State) (t c : Nat) (f : FieldFrame), s.dev.top.state ≠ .reset → s.dev.cny.lost = false → s.dev.cny.frames = [f] → f.next = none → f.late = false → f.start + 1600 * s.dev.prm 0x0C 4 < (s.dev.advanceTo t).now → s.dev.faultRoom 0x1808 = true →
    ∃ s', exec (.framePeriodOverFrameMax t c) s = .next s' ∧ s'.dev.cny.rc = (Nat.max s.dev.cny.rc c) ∧ s'.dev.cny.frames.map (fun g => (g.num, g.next, g.late)) = [(f.num, none, true)] ∧ s'.dev.logged 0x1808 = true ∧ s'.dev.top.state = s.dev.top.state ∧ sameMemory s s') ∧
  -- livenessRequest
  (∀ (s : State) (t c : Nat) (n : Nat), s.dev.top.state ≠ .reset → s.dev.cny.lost = false → s.dev.nativeMode = true → n < 16 → (s.dev.core n).running = true →
    ∃ s', exec (.livenessRequest t c) s = .next s' ∧ s'.dev.cny.rc = (Nat.max s.dev.cny.rc c) ∧ (s'.dev.core n).cnyAck = none ∧ (s'.dev.core n).evPend.testBit 0 = true ∧ (s'.dev.core n).cnyReq.toNat / 65536 = 1 ∧ mget s'.dev.cny.live n = some ((s'.dev.core n).cnyReq.toNat % 65536, (Nat.max s.dev.cny.rc c)) ∧ s'.dev.top = s.dev.top ∧ sameMemory s s') ∧
  -- livenessAnswered
  (∀ (s : State) (t c : Nat) (n q x : Nat) (a : Word), s.dev.top.state ≠ .reset → s.dev.cny.lost = false → mget s.dev.cny.live n = some (q, x) → x + 960 ≤ (Nat.max s.dev.cny.rc c) → (s.dev.core n).cnyAck = some a → a.toNat % 65536 = 65535 - q →
    ∃ s', exec (.livenessDeadline t c n) s = .next s' ∧ s'.dev.cny.rc = (Nat.max s.dev.cny.rc c) ∧ mget s'.dev.cny.live n = none ∧ s'.dev.asy = s.dev.asy ∧ s'.dev.top = s.dev.top ∧ sameMemory s s') ∧
  -- livenessFails
  (∀ (s : State) (t c : Nat) (n q x : Nat), s.dev.top.state ≠ .reset → s.dev.cny.lost = false → mget s.dev.cny.live n = some (q, x) → x + 960 ≤ (Nat.max s.dev.cny.rc c) → n < 16 → (s.dev.core n).cnyAck = none → (s.dev.core n).removed = false → s.dev.faultRoom 0x1807 = true →
    ∃ s', exec (.livenessDeadline t c n) s = .next s' ∧ s'.dev.cny.rc = (Nat.max s.dev.cny.rc c) ∧ mget s'.dev.cny.live n = none ∧ s'.dev.isRemoved (.core n) = true ∧ (s'.dev.core n).removed = true ∧ (s'.dev.core n).batches = [] ∧ s'.dev.logged 0x1807 = true ∧ s'.dev.top.state = s.dev.top.state ∧ sameMemory s s')

/-- Safety messages. STATE is sent when due, with its sequence number; a first copy waits for its partner; a valid pair of copies
selects a set or mutes; a MUTE that is not allowed is counted; lone copies are discarded after 4 ms; 20 ms without a message
ends the selection and the muting. Log entry 19 is the model's reading. (18_canary_safety.md: Safety messages.) -/
def Obligations.SafetyMessagesComplete : Prop :=
  -- stateSend
  (∀ (s : State) (t c : Nat) , s.dev.top.state ≠ .reset → s.dev.cny.lost = false → s.dev.cnyRoutes = true → s.dev.cny.stateAt = none →
    ∃ s', exec (.stateSend t c) s = .next s' ∧ s'.dev.cny.rc = (Nat.max s.dev.cny.rc c) ∧ s'.dev.cny.stateAt = some (Nat.max s.dev.cny.rc c) ∧ s'.dev.cny.stateSent = s.dev.stateBytes ∧ s'.dev.cny.txSeq = (s.dev.cny.txSeq + 1) % 65536 ∧ s'.dev.cny.sent.take 4 = leBytes 1 1 ++ leBytes 1 (s.dev.devId + 16) ++ leBytes 2 s.dev.cny.txSeq ∧ s'.dev.top = s.dev.top ∧ sameMemory s s') ∧
  -- stateNotDue
  (∀ (s : State) (t c : Nat) (x : Nat), s.dev.top.state ≠ .reset → s.dev.cny.lost = false → s.dev.cnyRoutes = true → s.dev.cny.stateAt = some x → (Nat.max s.dev.cny.rc c) < x + 48000 * s.dev.prm 0x10 1 → s.dev.stateBytes = s.dev.cny.stateSent →
    ∃ s', exec (.stateSend t c) s = .next s' ∧ s'.dev.cny.rc = (Nat.max s.dev.cny.rc c) ∧ s'.dev.cny.sent = s.dev.cny.sent ∧ s'.dev.cny.stateAt = some x ∧ sameMemory s s') ∧
  -- selectFirstCopy
  (∀ (s : State) (t c : Nat) (net : Nat) (m : List Byte), s.dev.top.state ≠ .reset → s.dev.cny.lost = false → s.dev.cnyRoutes = true → net < 2 → m.length = 27 → leAt m 0 1 = 0x81 → s.dev.cny.copies = [] →
    ∃ s', exec (.select t c net m) s = .next s' ∧ s'.dev.cny.rc = (Nat.max s.dev.cny.rc c) ∧ s'.dev.cny.copies = [(net, (Nat.max s.dev.cny.rc c), m)] ∧ s'.dev.cny.msgSet = s.dev.cny.msgSet ∧ sameMemory s s') ∧
  -- select
  (∀ (s : State) (t c : Nat) (net x : Nat) (m : List Byte), s.dev.top.state ≠ .reset → s.dev.cny.lost = false → s.dev.cnyRoutes = true → net < 2 → m.length = 27 → s.dev.cny.copies = [(1 - net, x, m)] → (Nat.max s.dev.cny.rc c) ≤ x + 192000 → s.dev.messageValid m = true → leAt m 0 1 = 0x81 →
    ∃ s', exec (.select t c net m) s = .next s' ∧ s'.dev.cny.rc = (Nat.max s.dev.cny.rc c) ∧ s'.dev.cny.msgSet = some (leAt m 4 1) ∧ s'.dev.cny.copies = [] ∧ s'.dev.cny.lastSeq = some (leAt m 2 2) ∧ s'.dev.cny.lastMsg = (Nat.max s.dev.cny.rc c) ∧ s'.dev.cny.timedOut = false ∧ s'.dev.reg64 R.CNY_CNT_RX = (s.dev.reg64 R.CNY_CNT_RX + 1) % 2 ^ 64 ∧ sameMemory s s') ∧
  -- mute
  (∀ (s : State) (t c : Nat) (net x : Nat) (m : List Byte), s.dev.top.state ≠ .reset → s.dev.cny.lost = false → s.dev.cnyRoutes = true → net < 2 → m.length = 27 → s.dev.cny.copies = [(1 - net, x, m)] → (Nat.max s.dev.cny.rc c) ≤ x + 192000 → s.dev.messageValid m = true → leAt m 0 1 = 0x82 → s.dev.muteOk m = true → leAt m 9 2 ≠ 0 →
    ∃ s', exec (.mute t c net m) s = .next s' ∧ s'.dev.cny.rc = (Nat.max s.dev.cny.rc c) ∧ s'.dev.cny.mute = some (leAt m 4 1, leAt m 5 4, (Nat.max s.dev.cny.rc c) + 4800000 * leAt m 9 2) ∧ s'.dev.cny.copies = [] ∧ s'.dev.cny.lastSeq = some (leAt m 2 2) ∧ s'.dev.reg64 R.CNY_CNT_RX = (s.dev.reg64 R.CNY_CNT_RX + 1) % 2 ^ 64 ∧ sameMemory s s') ∧
  -- muteEnds
  (∀ (s : State) (t c : Nat) (net x : Nat) (m : List Byte), s.dev.top.state ≠ .reset → s.dev.cny.lost = false → s.dev.cnyRoutes = true → net < 2 → m.length = 27 → s.dev.cny.copies = [(1 - net, x, m)] → (Nat.max s.dev.cny.rc c) ≤ x + 192000 → s.dev.messageValid m = true → leAt m 0 1 = 0x82 → s.dev.muteOk m = true → leAt m 9 2 = 0 →
    ∃ s', exec (.mute t c net m) s = .next s' ∧ s'.dev.cny.rc = (Nat.max s.dev.cny.rc c) ∧ s'.dev.cny.mute = none ∧ s'.dev.cny.copies = [] ∧ s'.dev.reg64 R.CNY_CNT_RX = (s.dev.reg64 R.CNY_CNT_RX + 1) % 2 ^ 64 ∧ sameMemory s s') ∧
  -- muteNotAllowed
  (∀ (s : State) (t c : Nat) (net x : Nat) (m : List Byte), s.dev.top.state ≠ .reset → s.dev.cny.lost = false → s.dev.cnyRoutes = true → net < 2 → m.length = 27 → s.dev.cny.copies = [(1 - net, x, m)] → (Nat.max s.dev.cny.rc c) ≤ x + 192000 → s.dev.messageValid m = true → leAt m 0 1 = 0x82 → s.dev.muteOk m = false →
    ∃ s', exec (.mute t c net m) s = .next s' ∧ s'.dev.cny.rc = (Nat.max s.dev.cny.rc c) ∧ s'.dev.cny.mute = s.dev.cny.mute ∧ s'.dev.cny.copies = [] ∧ s'.dev.reg64 R.CNY_CNT_MISMATCH = (s.dev.reg64 R.CNY_CNT_MISMATCH + 1) % 2 ^ 64 ∧ sameMemory s s') ∧
  -- loneCopyDiscard
  (∀ (s : State) (t c : Nat) (net x : Nat) (m : List Byte), s.dev.top.state ≠ .reset → s.dev.cny.lost = false → s.dev.cny.copies = [(net, x, m)] → x + 192000 ≤ (Nat.max s.dev.cny.rc c) → s.dev.rbit R.CNY_STATUS 10 = false → s.dev.faultRoom 0x1811 = true →
    ∃ s', exec (.loneCopyDiscard t c) s = .next s' ∧ s'.dev.cny.rc = (Nat.max s.dev.cny.rc c) ∧ s'.dev.cny.copies = [] ∧ s'.dev.reg64 R.CNY_CNT_MISMATCH = (s.dev.reg64 R.CNY_CNT_MISMATCH + 1) % 2 ^ 64 ∧ s'.dev.rbit R.CNY_STATUS 10 = true ∧ s'.dev.logged 0x1811 = true ∧ s'.dev.top.state = s.dev.top.state ∧ sameMemory s s') ∧
  -- messageTimeout
  (∀ (s : State) (t c : Nat) , s.dev.top.state ≠ .reset → s.dev.cny.lost = false → s.dev.cnyRoutes = true → s.dev.cny.timedOut = false → s.dev.prm 0x12 1 ≠ 0 → s.dev.cny.lastMsg + 960000 ≤ (Nat.max s.dev.cny.rc c) → s.dev.faultRoom 0x1811 = true →
    ∃ s', exec (.messageTimeout t c) s = .next s' ∧ s'.dev.cny.rc = (Nat.max s.dev.cny.rc c) ∧ s'.dev.reg64 R.CNY_CNT_TIMEOUT = (s.dev.reg64 R.CNY_CNT_TIMEOUT + 1) % 2 ^ 64 ∧ s'.dev.rbit R.CNY_STATUS 10 = true ∧ s'.dev.cny.msgSet = none ∧ s'.dev.cny.timedOut = true ∧ s'.dev.cny.mute = none ∧ s'.dev.logged 0x1811 = true ∧ s'.dev.top.state = s.dev.top.state ∧ sameMemory s s') ∧
  -- muteExpiry
  (∀ (s : State) (t c : Nat) (f g e : Nat), s.dev.top.state ≠ .reset → s.dev.cny.lost = false → s.dev.cny.mute = some (f, g, e) → e ≤ (Nat.max s.dev.cny.rc c) →
    ∃ s', exec (.muteExpiry t c) s = .next s' ∧ s'.dev.cny.rc = (Nat.max s.dev.cny.rc c) ∧ s'.dev.cny.mute = none ∧ s'.dev.top = s.dev.top ∧ s'.dev.flg = s.dev.flg ∧ sameMemory s s') ∧
  -- muteLasts
  (∀ (s : State) (t c : Nat) (f g e : Nat), s.dev.top.state ≠ .reset → s.dev.cny.lost = false → s.dev.cny.mute = some (f, g, e) → (Nat.max s.dev.cny.rc c) < e →
    ∃ s', exec (.muteExpiry t c) s = .next s' ∧ s'.dev.cny.rc = (Nat.max s.dev.cny.rc c) ∧ s'.dev.cny.mute = some (f, g, e) ∧ sameMemory s s')

/-- Calibration. FULL runs in ARMED and PORT in RANGING, and each is rejected elsewhere; the end of a full calibration passes,
writes its trim codes, or fails its ports; the turn of a port comes by its period; a blind interval ends 153,600 ticks after
its start, passed or failed. Log entry 10 makes the searches operands. (19_calibration.md: Full and per-port calibration.) -/
def Obligations.CalibrationComplete : Prop :=
  -- calFull
  (∀ (s : State) (src t : Nat), s.dev.takesCmd R.CAL_CMD = true → s.dev.top.state = .armed → s.dev.cal.full = none →
    ∃ s', exec (.calFull src t) s = .next s' ∧ s'.dev.cal = { s.dev.cal with full := some true } ∧ s'.dev.rbit R.CAL_STATUS 0 = true ∧ s'.dev.fld R.CAL_CMD 9 8 = 3 ∧ writeTaken src s s') ∧
  -- calFullRejected
  (∀ (s : State) (src t : Nat), s.dev.takesCmd R.CAL_CMD = true → s.dev.top.state ≠ .armed →
    ∃ s', exec (.calFull src t) s = .next s' ∧ s'.dev.cal = s.dev.cal ∧ s'.dev.fld R.CAL_CMD 9 8 = 2 ∧ s'.dev.fld R.CAL_CMD 23 16 = 1 ∧ writeTaken src s s') ∧
  -- calFullRunning
  (∀ (s : State) (src t : Nat) (b : Bool), s.dev.takesCmd R.CAL_CMD = true → s.dev.top.state = .armed → s.dev.cal.full = some b →
    ∃ s', exec (.calFull src t) s = .next s' ∧ s'.dev.cal = s.dev.cal ∧ s'.dev.fld R.CAL_CMD 9 8 = 2 ∧ s'.dev.fld R.CAL_CMD 23 16 = 2 ∧ writeTaken src s s') ∧
  -- calPort
  (∀ (s : State) (src t n : Nat), s.dev.takesCmd R.CAL_CMD = true → s.dev.top.state = .ranging → n < 32 →
    ∃ s', exec (.calPort src t n) s = .next s' ∧ s'.dev.rbit R.CAL_PENDING n = true ∧ s'.dev.cal = s.dev.cal ∧ s'.dev.fld R.CAL_CMD 9 8 = 1 ∧ writeTaken src s s') ∧
  -- calPortRejected
  (∀ (s : State) (src t n : Nat), s.dev.takesCmd R.CAL_CMD = true → s.dev.top.state ≠ .ranging →
    ∃ s', exec (.calPort src t n) s = .next s' ∧ s'.dev.reg R.CAL_PENDING = s.dev.reg R.CAL_PENDING ∧ s'.dev.cal = s.dev.cal ∧ s'.dev.fld R.CAL_CMD 9 8 = 2 ∧ s'.dev.fld R.CAL_CMD 23 16 = 1 ∧ writeTaken src s s') ∧
  -- fullCalibrationComplete
  (∀ (s : State) (t : Nat) (b : Bool), s.dev.alive = true → s.dev.top.state = .armed → s.dev.cal.full = some b → s.dev.reg R.CAL_SKEW_EN = 0#32 →
    ∃ s', exec (.fullCalibrationComplete t [] 0 0 0 [] []) s = .next s' ∧ s'.dev.cal.full = none ∧ s'.dev.cal.passed = true ∧ s'.dev.rbit R.CAL_STATUS 7 = true ∧ s'.dev.rbit R.CAL_STATUS 0 = false ∧ s'.dev.reg R.CAL_RESULT = 0#32 ∧ s'.dev.reg R.CAL_RESULT_EMIT = 0#32 ∧ s'.dev.reg R.CAL_RESULT_EU = 0#32 ∧ s'.dev.top.stage10 = (if b = true then s.dev.top.stage10 else true) ∧ s'.dev.top.state = s.dev.top.state ∧ sameMemory s s') ∧
  -- calibrationCode
  (∀ (s : State) (t n : Nat) (b : Bool) (w : Word), s.dev.alive = true → s.dev.top.state = .armed → s.dev.cal.full = some b → s.dev.reg R.CAL_SKEW_EN = 0#32 → n < 256 → trimAtEnd (R.RFE_TRIM_CMP n) w = false →
    ∃ s', exec (.fullCalibrationComplete t [(R.RFE_TRIM_CMP n, w)] 0 0 0 [] []) s = .next s' ∧ s'.dev.reg (R.RFE_TRIM_CMP n) = w &&& 0xFFFF#32 ∧ s'.dev.cal.passed = true ∧ s'.dev.top.state = s.dev.top.state ∧ sameMemory s s') ∧
  -- calibrationFails
  (∀ (s : State) (t n : Nat) (b : Bool), s.dev.alive = true → s.dev.top.state = .armed → s.dev.cal.full = some b → s.dev.reg R.CAL_SKEW_EN = 0#32 → s.dev.rbit R.CAL_CTRL 1 = false → n < 32 → s.dev.rbit (R.RFE_CTRL (8 * n)) 0 = true → s.dev.faultRoom 0x1901 = true →
    ∃ s', exec (.fullCalibrationComplete t [] (2 ^ n) 0 0 [] []) s = .next s' ∧ s'.dev.cal.full = none ∧ s'.dev.cal.passed = false ∧ s'.dev.rbit R.CAL_STATUS 7 = false ∧ s'.dev.reg R.CAL_RESULT = BitVec.ofNat 32 (2 ^ n) ∧ s'.dev.logged 0x1901 = true ∧ s'.dev.top.state = s.dev.top.state ∧ sameMemory s s') ∧
  -- portTurn
  (∀ (s : State) (t : Nat), s.dev.alive = true → s.dev.rbit R.CAL_CTRL 0 = true → s.dev.cal.turnTick + 1600000000 * s.dev.fld R.CAL_CTRL 23 8 ≤ (s.dev.advanceTo t).now → s.dev.cal.nextTurn < 32 →
    ∃ s', exec (.portTurn t) s = .next s' ∧ s'.dev.cal = { s.dev.cal with turnTick := (s.dev.advanceTo t).now, nextTurn := (s.dev.cal.nextTurn + 1) % 32 } ∧ s'.dev.rbit R.CAL_PENDING s.dev.cal.nextTurn = true ∧ s'.dev.top = s.dev.top ∧ sameMemory s s') ∧
  -- portTurnNotDue
  (∀ (s : State) (t : Nat), s.dev.alive = true → s.dev.rbit R.CAL_CTRL 0 = true → (s.dev.advanceTo t).now < s.dev.cal.turnTick + 1600000000 * s.dev.fld R.CAL_CTRL 23 8 →
    ∃ s', exec (.portTurn t) s = .next s' ∧ s'.dev.cal = s.dev.cal ∧ s'.dev.regs = s.dev.regs ∧ sameMemory s s') ∧
  -- blindIntervalEnd
  (∀ (s : State) (t n : Nat), s.dev.alive = true → s.dev.cal.turn = some n → n < 32 → s.dev.cal.turnAt + 153600 ≤ (s.dev.advanceTo t).now →
    ∃ s', exec (.blindIntervalEnd t true []) s = .next s' ∧ s'.dev.cal = { s.dev.cal with turn := none, last := n, hostWrote := false } ∧ s'.dev.rbit R.CAL_PENDING n = false ∧ s'.dev.rbit R.CAL_RESULT n = false ∧ s'.dev.rbit R.CAL_STATUS 8 = (s.dev.rbit R.CAL_STATUS 8 || s.dev.cal.hostWrote) ∧ s'.dev.fld R.CAL_STATUS 6 1 = 0 ∧ s'.dev.flg = s.dev.flg ∧ sameMemory s s') ∧
  -- blindIntervalFails
  (∀ (s : State) (t n : Nat), s.dev.alive = true → s.dev.cal.turn = some n → n < 32 → s.dev.cal.turnAt + 153600 ≤ (s.dev.advanceTo t).now → s.dev.faultRoom 0x1902 = true →
    ∃ s', exec (.blindIntervalEnd t false []) s = .next s' ∧ s'.dev.cal = { s.dev.cal with turn := none, last := n, hostWrote := false } ∧ s'.dev.rbit R.CAL_PENDING n = false ∧ s'.dev.rbit R.CAL_RESULT n = true ∧ s'.dev.logged 0x1902 = true ∧ s'.dev.top.state = s.dev.top.state ∧ sameMemory s s')

/-- The fault log and the journal. CLEAR, CLEAR_CODE and CLEAR_ALL mark their entries and no others; CLEAR_JOURNAL keeps its own
entry and adds the internal one; a copy writes 32 bytes to the ring in DRAM and moves its offset, or is lost when the ring is
full; a parity error strikes its entry and is logged. (20_faults_and_recovery.md: Fault log and journal.) -/
def Obligations.FaultLogComplete : Prop :=
  -- clear
  (∀ (s : State) (src t n : Nat) (e : LogEntry), s.dev.takesCmd R.FLG_CMD = true → n < 256 → mget s.dev.flg.log n = some e →
    ∃ s', exec (.clear src t n) s = .next s' ∧ mget s'.dev.flg.log n = some { e with cleared := true } ∧ s'.dev.fld R.FLG_CMD 9 8 = 1 ∧ writeTaken src s s') ∧
  -- clearOthers
  (∀ (s : State) (src t n m : Nat), s.dev.takesCmd R.FLG_CMD = true → n < 256 → m ≠ n →
    ∃ s', exec (.clear src t n) s = .next s' ∧ mget s'.dev.flg.log m = mget s.dev.flg.log m ∧ writeTaken src s s') ∧
  -- clearRejected
  (∀ (s : State) (src t n : Nat), s.dev.takesCmd R.FLG_CMD = true → n < 256 → mget s.dev.flg.log n = none →
    ∃ s', exec (.clear src t n) s = .next s' ∧ s'.dev.flg.log = s.dev.flg.log ∧ s'.dev.fld R.FLG_CMD 9 8 = 2 ∧ s'.dev.fld R.FLG_CMD 23 16 = 2 ∧ writeTaken src s s') ∧
  -- clearCode
  (∀ (s : State) (src t : Nat), s.dev.takesCmd R.FLG_CMD = true →
    ∃ s', exec (.clearCode src t) s = .next s' ∧ s'.dev.faultCleared (s.dev.fld R.FLG_CODE 15 0) = true ∧ s'.dev.flg.log = s.dev.flg.log.map (fun p => if p.2.code = s.dev.fld R.FLG_CODE 15 0 then (p.1, { p.2 with cleared := true }) else p) ∧ s'.dev.fld R.FLG_CMD 9 8 = 1 ∧ writeTaken src s s') ∧
  -- clearAll
  (∀ (s : State) (src t : Nat), s.dev.takesCmd R.FLG_CMD = true →
    ∃ s', exec (.clearAll src t) s = .next s' ∧ s'.dev.flg.log = s.dev.flg.log.map (fun p => (p.1, { p.2 with cleared := true })) ∧ s'.dev.top = { s.dev.top with unloggedCauses := [] } ∧ s'.dev.fld R.FLG_CMD 9 8 = 1 ∧ writeTaken src s s') ∧
  -- clearJournal
  (∀ (s : State) (src t : Nat), s.dev.takesCmd R.FLG_CMD = true → s.dev.flg.jwr < 1024 →
    ∃ s', exec (.clearJournal src t) s = .next s' ∧ s'.dev.flg.jwr = 2 ∧ s'.dev.flg.wrapped = false ∧ s'.dev.flg.jseq = s.dev.flg.jseq + 2 ∧ s'.dev.flg.ring.length = 2 ∧ (mget s'.dev.flg.ring 0).map (fun e => (e.seq, e.addr, e.source)) = some (s.dev.flg.jseq + 1, R.FLG_CMD, src) ∧ (mget s'.dev.flg.ring 1).map (fun e => (e.seq, e.addr, e.source)) = some (s.dev.flg.jseq + 2, R.FLG_CMD, 0x0F) ∧ s'.dev.flg.log = s.dev.flg.log ∧ (s'.dev.req src).lastStatus = 0 ∧ s'.dev.fld R.FLG_CMD 9 8 = 1 ∧ sameMemory s s') ∧
  -- journalCopy
  (∀ (s : State) (t : Nat) (e : JEntry) (l : List JEntry), s.dev.alive = true → s.dev.flg.copyQueue = e :: l → s.dev.rbit R.FLG_JCOPY_CTRL 0 = true → s.dev.hoistServing = true → s.dev.copyUsed + 32 < s.dev.copyLen → 4 ≤ s.dev.actLeft 17 → (s.dev.reg R.FLG_JCOPY_WR).toNat % 32 = 0 → ((s.dev.reg R.FLG_JCOPY_BASE).toNat * 4096 + (s.dev.reg R.FLG_JCOPY_WR).toNat) < s.dev.hoistBytes →
    ∃ s', exec (.journalCopy t) s = .next s' ∧ s'.dev.flg.copyQueue = l ∧ dramBytes s'.dram ((s.dev.reg R.FLG_JCOPY_BASE).toNat * 4096 + (s.dev.reg R.FLG_JCOPY_WR).toNat) 32 = e.bytes ∧ (s'.dev.reg R.FLG_JCOPY_WR).toNat = ((s.dev.reg R.FLG_JCOPY_WR).toNat + 32) % s.dev.copyLen % 2 ^ 32 ∧ mgetD s'.dev.fmn.used 17 0 = mgetD s.dev.fmn.used 17 0 + 4 ∧ s'.sram = s.sram ∧ s'.sramPoison = s.sramPoison ∧ s'.writeBacks = s.writeBacks ∧ (∀ x : Nat, (x < ((s.dev.reg R.FLG_JCOPY_BASE).toNat * 4096 + (s.dev.reg R.FLG_JCOPY_WR).toNat) / 64 * 64 ∨ ((s.dev.reg R.FLG_JCOPY_BASE).toNat * 4096 + (s.dev.reg R.FLG_JCOPY_WR).toNat) / 64 * 64 + 64 ≤ x) → dramByte s' x = dramByte s x)) ∧
  -- journalCopyLost
  (∀ (s : State) (t : Nat) (e : JEntry) (l : List JEntry), s.dev.alive = true → s.dev.flg.copyQueue = e :: l → s.dev.rbit R.FLG_JCOPY_CTRL 0 = true → s.dev.hoistServing = true → s.dev.copyLen ≤ s.dev.copyUsed + 32 → s.dev.rbit R.FLG_STATUS 10 = false → s.dev.faultRoom 0x1A01 = true →
    ∃ s', exec (.journalCopy t) s = .next s' ∧ s'.dev.flg.copyQueue = l ∧ s'.dev.reg64 R.FLG_CNT_JCOPY_LOST = (s.dev.reg64 R.FLG_CNT_JCOPY_LOST + 1) % 2 ^ 64 ∧ s'.dev.rbit R.FLG_STATUS 10 = true ∧ s'.dev.logged 0x1A01 = true ∧ s'.dev.top.state = s.dev.top.state ∧ sameMemory s s') ∧
  -- logParityError
  (∀ (s : State) (t n : Nat), s.dev.alive = true → s.dev.faultRoom 0x1A02 = true →
    ∃ s', exec (.logParityError t false n) s = .next s' ∧ (mget s'.dev.flg.log n = none ∨ (mget s'.dev.flg.log n).map (fun e => e.code) = some 0x1A02) ∧ s'.dev.logged 0x1A02 = true ∧ s'.dev.top.state = s.dev.top.state ∧ s'.dev.flg.ring = s.dev.flg.ring ∧ sameMemory s s') ∧
  -- journalParityError
  (∀ (s : State) (t n : Nat), s.dev.alive = true → s.dev.faultRoom 0x1A02 = true →
    ∃ s', exec (.logParityError t true n) s = .next s' ∧ mget s'.dev.flg.ring n = (mget s.dev.flg.ring n).map (fun e => { e with seq := 0 }) ∧ s'.dev.logged 0x1A02 = true ∧ s'.dev.top.state = s.dev.top.state ∧ sameMemory s s')

/-- Management writes. A write of a plain register sets its field and is journaled with the value it showed, its requester and its
number; in HEADFRAME it is refused; on a read-only register it changes nothing; a misaligned one is answered 0x01 and not
journaled; a busy command register answers 0x03; SRAM writes change their four bytes only; shadowed registers wait in RANGING.
Log entry 25 says what a pending register shows. (21_management_access.md: Access types and requesters;
20_faults_and_recovery.md: Journal.) -/
def Obligations.WriteCommandsComplete : Prop :=
  -- registerWrite
  (∀ (s : State) (src t : Nat) (v : Word) (o : Outside), s.dev.alive = true → s.dev.top.state ≠ .headframe →
    ∃ s', exec (.registerWrite src t R.FLG_CODE v o) s = .next s' ∧ s'.dev.fld R.FLG_CODE 15 0 = bits v 15 0 ∧ s'.dev.flg.log = s.dev.flg.log ∧ s'.dev.top.state = s.dev.top.state ∧ writeTaken src s s') ∧
  -- registerWriteJournal
  (∀ (s : State) (src t : Nat) (v : Word) (o : Outside), s.dev.alive = true → s.dev.top.state ≠ .headframe →
    ∃ s', exec (.registerWrite src t R.FLG_CODE v o) s = .next s' ∧ (mget s'.dev.flg.ring s.dev.flg.jwr).map (fun e => (e.addr, e.old, e.new, e.source, e.flags, e.seq)) = some (R.FLG_CODE, s.dev.shown R.FLG_CODE, v, src, 0, s.dev.flg.jseq + 1) ∧ s'.dev.flg.jwr = (s.dev.flg.jwr + 1) % 1024 ∧ writeTaken src s s') ∧
  -- registerWriteHeadframe
  (∀ (s : State) (src t : Nat) (v : Word) (o : Outside), s.dev.alive = true → s.dev.top.state = .headframe →
    ∃ s', exec (.registerWrite src t R.FLG_CODE v o) s = .next s' ∧ s'.dev.reg R.FLG_CODE = s.dev.reg R.FLG_CODE ∧ (s'.dev.req src).lastStatus = 2 ∧ s'.dev.flg.jseq = s.dev.flg.jseq + 1 ∧ (mget s'.dev.flg.ring s.dev.flg.jwr).map (fun e => (e.new, e.flags)) = some (v, 1) ∧ sameMemory s s') ∧
  -- registerWriteReadOnly
  (∀ (s : State) (src t : Nat) (v : Word) (o : Outside), s.dev.alive = true → s.dev.top.state ≠ .headframe →
    ∃ s', exec (.registerWrite src t R.TOP_DEVICE_STATE v o) s = .next s' ∧ s'.dev.reg R.TOP_DEVICE_STATE = s.dev.reg R.TOP_DEVICE_STATE ∧ s'.dev.top = s.dev.top ∧ writeTaken src s s') ∧
  -- registerWriteMisaligned
  (∀ (s : State) (src t a : Nat) (v : Word) (o : Outside), s.dev.alive = true → a % 4 ≠ 0 →
    ∃ s', exec (.registerWrite src t a v o) s = .next s' ∧ (s'.dev.req src).lastStatus = 1 ∧ s'.dev.flg = s.dev.flg ∧ s'.dev.top = s.dev.top ∧ sameMemory s s') ∧
  -- registerWriteSram
  (∀ (s : State) (src t n : Nat) (v : Word) (o : Outside), s.dev.alive = true → s.dev.top.state ≠ .headframe → n < 1310720 →
    ∃ s', exec (.registerWrite src t (0x1800000 + 4 * n) v o) s = .next s' ∧ memLe s'.sram (0x1800000 + 4 * n) 4 = v.toNat ∧ (∀ x : Nat, (x < 0x1800000 + 4 * n ∨ 0x1800000 + 4 * n + 4 ≤ x) → memByte s'.sram x = memByte s.sram x) ∧ s'.dram = s.dram ∧ s'.sramPoison = s.sramPoison ∧ (s'.dev.req src).lastStatus = 0 ∧ s'.dev.flg.jseq = s.dev.flg.jseq + 1) ∧
  -- registerWriteBusy
  (∀ (s : State) (src t : Nat) (v : Word) (o : Outside), s.dev.alive = true → s.dev.top.state ≠ .headframe → s.dev.fld R.CAL_CMD 9 8 = 3 →
    ∃ s', exec (.registerWrite src t R.CAL_CMD v o) s = .next s' ∧ s'.dev.reg R.CAL_CMD = s.dev.reg R.CAL_CMD ∧ s'.dev.cal = s.dev.cal ∧ (s'.dev.req src).lastStatus = 3 ∧ s'.dev.flg.jseq = s.dev.flg.jseq + 1 ∧ sameMemory s s') ∧
  -- shadowedWriteRanging
  (∀ (s : State) (src t n : Nat) (v : Word), s.dev.alive = true → s.dev.top.state = .ranging → n < 256 → s.dev.shown (R.RFE_TRIM_CMP n) = s.dev.reg (R.RFE_TRIM_CMP n) → s.dev.reg (R.RFE_TRIM_CMP n) = 0#32 →
    ∃ s', exec (.shadowedRegisterWrite src t (R.RFE_TRIM_CMP n) v) s = .next s' ∧ mget s'.dev.shadow (R.RFE_TRIM_CMP n) = some (v &&& 0xFFFF#32) ∧ s'.dev.reg (R.RFE_TRIM_CMP n) = 0#32 ∧ writeTaken src s s') ∧
  -- shadowedWriteAtOnce
  (∀ (s : State) (src t n : Nat) (v : Word), s.dev.alive = true → s.dev.top.state ≠ .headframe → s.dev.top.state ≠ .ranging → n < 256 → s.dev.shown (R.RFE_TRIM_CMP n) = 0#32 →
    ∃ s', exec (.shadowedRegisterWrite src t (R.RFE_TRIM_CMP n) v) s = .next s' ∧ s'.dev.reg (R.RFE_TRIM_CMP n) = v &&& 0xFFFF#32 ∧ s'.dev.shadow = s.dev.shadow ∧ writeTaken src s s') ∧
  -- mgtDramWinWrite
  (∀ (s : State) (src t : Nat) (v : Word), s.dev.alive = true → s.dev.top.state ≠ .headframe →
    ∃ s', exec (.mgtDramWinWrite src t v) s = .next s' ∧ (s'.dev.req src).dramWin = bits v 6 0 ∧ s'.dev.regs.filter (fun p => p.1 < 0x2A0000) = s.dev.regs.filter (fun p => p.1 < 0x2A0000) ∧ writeTaken src s s')

/-- Management reads and the frames of the interfaces. The low word of a pair snapshots both halves, the high word returns the
snapshot, or the live half with torn set; SPI and I2C frames write, read and report their status; MGT symbols and datagrams
are performed and answered, a fifth waiting request with busy. (21_management_access.md: Two-half rule and interfaces;
17_links.md: MGT requests.) -/
def Obligations.ReadCommandsComplete : Prop :=
  -- lowWordRead
  (∀ (s : State) (src t n : Nat), s.dev.alive = true → n < 8 → s.dev.flg.copyPend = [] → s.dev.pnt.cfgPend = [] → s.dev.shadow = [] →
    ∃ s', exec (.lowWordRead src t (R.LNK_CNT_MGT n)) s = .next s' ∧ (s'.dev.req src).lastData = [s.dev.reg (R.LNK_CNT_MGT n)] ∧ (s'.dev.req src).snap = some ((R.LNK_CNT_MGT n), s.dev.reg (R.LNK_CNT_MGT n), s.dev.reg ((R.LNK_CNT_MGT n) + 4), false) ∧ (s'.dev.req src).lastStatus = 0 ∧ s'.dev.flg = s.dev.flg ∧ sameMemory s s') ∧
  -- highWordRead
  (∀ (s : State) (src t n : Nat) (lo hi : Word), s.dev.alive = true → n < 8 → (s.dev.req src).snap = some ((R.LNK_CNT_MGT n), lo, hi, false) →
    ∃ s', exec (.highWordRead src t ((R.LNK_CNT_MGT n) + 4)) s = .next s' ∧ (s'.dev.req src).lastData = [hi] ∧ (s'.dev.req src).snap = some ((R.LNK_CNT_MGT n), lo, hi, true) ∧ (s'.dev.req src).status = (s.dev.req src).status ∧ (s'.dev.req src).lastStatus = 0 ∧ s'.dev.flg = s.dev.flg ∧ sameMemory s s') ∧
  -- highWordReadTorn
  (∀ (s : State) (src t n : Nat), s.dev.alive = true → n < 8 → s.dev.flg.copyPend = [] → s.dev.pnt.cfgPend = [] → s.dev.shadow = [] → (s.dev.req src).snap = none →
    ∃ s', exec (.highWordRead src t ((R.LNK_CNT_MGT n) + 4)) s = .next s' ∧ (s'.dev.req src).lastData = [s.dev.reg ((R.LNK_CNT_MGT n) + 4)] ∧ (s'.dev.req src).status = (s.dev.req src).status ||| 1#32 ∧ (s'.dev.req src).lastStatus = 0 ∧ s'.dev.flg = s.dev.flg ∧ sameMemory s s') ∧
  -- serialWriteFrame
  (∀ (s : State) (src t : Nat) (v : Word), s.dev.alive = true → s.dev.top.state ≠ .headframe → src < 2 →
    ∃ s', exec (.serialWriteFrame src t 1 R.FLG_CODE 16 [v] []) s = .next s' ∧ s'.dev.fld R.FLG_CODE 15 0 = bits v 15 0 ∧ (s'.dev.req src).frameStatus = 0 ∧ (s'.dev.req src).lastWritten = 1 ∧ writeTaken src s s') ∧
  -- serialWriteFrameUnknown
  (∀ (s : State) (src t x : Nat) (v : Word), s.dev.alive = true → src < 2 → x ≠ 1 → x ≠ 2 → x ≠ 5 →
    ∃ s', exec (.serialWriteFrame src t x R.FLG_CODE 16 [v] []) s = .next s' ∧ (s'.dev.req src).frameStatus = 4 ∧ (s'.dev.req src).lastWritten = 0 ∧ s'.dev.flg = s.dev.flg ∧ sameMemory s s') ∧
  -- serialReadFrame
  (∀ (s : State) (src t : Nat), s.dev.alive = true → src < 2 → s.dev.flg.copyPend = [] → s.dev.pnt.cfgPend = [] → s.dev.shadow = [] →
    ∃ s', exec (.serialReadFrame src t R.FLG_CODE 1 []) s = .next s' ∧ (s'.dev.req src).lastData = [s.dev.reg R.FLG_CODE] ∧ (s'.dev.req src).lastStatus = 0 ∧ s'.dev.flg = s.dev.flg ∧ sameMemory s s') ∧
  -- serialStatusFrame
  (∀ (s : State) (src t : Nat), s.dev.alive = true → src < 2 →
    ∃ s', exec (.serialStatusFrame src t) s = .next s' ∧ (s'.dev.req src).lastData = [BitVec.ofNat 32 ((s.dev.req src).frameStatus % 256 + 256 * ((s.dev.req src).lastWritten % 65536) + 2 ^ 24 * ((s.dev.req src).status.toNat % 256))] ∧ s'.dev.regs = s.dev.regs ∧ s'.dev.flg = s.dev.flg ∧ sameMemory s s') ∧
  -- i2cWordTimeout
  (∀ (s : State) (t : Nat), s.dev.alive = true →
    ∃ s', exec (.i2cWordTimeout t) s = .next s' ∧ (s'.dev.req 1).frameStatus = 7 ∧ (s'.dev.req 1).lastStatus = 7 ∧ (s'.dev.req 1).lastData = [] ∧ (s'.dev.req 1).status = (s.dev.req 1).status ||| 8#32 ∧ s'.dev.flg = s.dev.flg ∧ sameMemory s s') ∧
  -- mgtRead
  (∀ (s : State) (t n : Nat) (q : List Byte), s.dev.alive = true → n < 8 → s.dev.isRemoved (.lane n) = false → (s.dev.lane n).st = .up → (s.dev.lane n).locked = true → (s.dev.lane n).discarding = false → heldAnswers (s.dev.lane n).responses < 4 → s.dev.flg.copyPend = [] → s.dev.pnt.cfgPend = [] → s.dev.shadow = [] → leAt q 2 1 = 1 → leAt q 3 1 = 1 → leAt q 4 4 = R.FLG_CODE →
    ∃ s', exec (.mgtRead t n 0 q []) s = .next s' ∧ (s'.dev.lane n).responses = (s.dev.lane n).responses ++ [(false, (mgtResponse q 0 [s.dev.reg R.FLG_CODE]).drop 1)] ∧ s'.dev.reg64 (R.LNK_CNT_MGT n) = (s.dev.reg64 (R.LNK_CNT_MGT n) + 1) % 2 ^ 64 ∧ s'.dev.flg = s.dev.flg ∧ sameMemory s s') ∧
  -- mgtReadBusy
  (∀ (s : State) (t n : Nat) (q : List Byte), s.dev.alive = true → n < 8 → s.dev.isRemoved (.lane n) = false → (s.dev.lane n).st = .up → (s.dev.lane n).locked = true → (s.dev.lane n).discarding = false → 4 ≤ heldAnswers (s.dev.lane n).responses → leAt q 2 1 = 1 → leAt q 3 1 = 1 → leAt q 4 4 = R.FLG_CODE →
    ∃ s', exec (.mgtRead t n 0 q []) s = .next s' ∧ (s'.dev.lane n).responses = (true, (mgtResponse q 3 []).drop 1) :: (s.dev.lane n).responses ∧ s'.dev.reg64 (R.LNK_CNT_MGT n) = (s.dev.reg64 (R.LNK_CNT_MGT n) + 1) % 2 ^ 64 ∧ (s'.dev.req (2 + n)).lastStatus = 3 ∧ s'.dev.flg = s.dev.flg ∧ sameMemory s s') ∧
  -- mgtWrite
  (∀ (s : State) (t n : Nat) (q : List Byte), s.dev.alive = true → s.dev.top.state ≠ .headframe → n < 8 → s.dev.isRemoved (.lane n) = false → (s.dev.lane n).st = .up → (s.dev.lane n).locked = true → (s.dev.lane n).discarding = false → heldAnswers (s.dev.lane n).responses < 4 → leAt q 2 1 = 2 → leAt q 3 1 = 1 → leAt q 4 4 = R.FLG_CODE →
    ∃ s', exec (.mgtWrite t n 0 q []) s = .next s' ∧ s'.dev.fld R.FLG_CODE 15 0 = leAt q 8 4 % 65536 ∧ (s'.dev.lane n).responses = (s.dev.lane n).responses ++ [(false, (mgtResponse q 0 []).drop 1)] ∧ s'.dev.reg64 (R.LNK_CNT_MGT n) = (s.dev.reg64 (R.LNK_CNT_MGT n) + 1) % 2 ^ 64 ∧ (s'.dev.req (2 + n)).lastStatus = 0 ∧ s'.dev.flg.jseq = s.dev.flg.jseq + 1 ∧ sameMemory s s') ∧
  -- mgtDatagram
  (∀ (s : State) (t port p : Nat) (q : List Byte), s.dev.alive = true → s.dev.ethUp = true → s.dev.rbit R.ETH_CTRL 5 = true → q.length = 32 → q.headD 0 = 0x20 → port = s.dev.fld R.ETH_UDP 31 16 → s.dev.flg.copyPend = [] → s.dev.pnt.cfgPend = [] → s.dev.shadow = [] → leAt q 2 1 = 1 → leAt q 3 1 = 1 → leAt q 4 4 = R.FLG_CODE →
    ∃ s', exec (.mgtDatagram t none port p q []) s = .next s' ∧ s'.dev.reg64 R.ETH_CNT_MGT = (s.dev.reg64 R.ETH_CNT_MGT + 1) % 2 ^ 64 ∧ s'.dev.reg64 R.ETH_CNT_TX = (s.dev.reg64 R.ETH_CNT_TX + 1) % 2 ^ 64 ∧ s'.dev.net.ethLast.map (fun x => (x.srcPort, x.dstPort, x.payload)) = some (port, p, mgtResponse q 0 [s.dev.reg R.FLG_CODE]) ∧ s'.dev.flg = s.dev.flg ∧ sameMemory s s') ∧
  -- mgtDatagramDiscarded
  (∀ (s : State) (t port p : Nat) (q : List Byte), s.dev.alive = true → s.dev.ethUp = true → s.dev.rbit R.ETH_CTRL 5 = false →
    ∃ s', exec (.mgtDatagram t none port p q []) s = .next s' ∧ s'.dev.reg64 R.ETH_CNT_RX_DISC = (s.dev.reg64 R.ETH_CNT_RX_DISC + 1) % 2 ^ 64 ∧ s'.dev.net = s.dev.net ∧ s'.dev.flg = s.dev.flg ∧ sameMemory s s')

/-- The DRAM window, timeouts and parity errors. The window reads and writes exactly the addressed word behind the requester's
page; without an allocation it answers 0x07, with Hoist failed 0x05; timeouts answer 0x07; parity errors are logged and reset
what they hit. Log entry 71 is the model's choice. (21_management_access.md: Windows and parity; 16_hoist_dram.md: Accesses.) -/
def Obligations.WindowAccessComplete : Prop :=
  -- dramWindowWrite
  (∀ (s : State) (src t n : Nat) (v : Word) (g : DTag), s.dev.alive = true → s.dev.top.state ≠ .headframe → s.dev.hoistServing = true → s.dev.hoistFailed = false → n < 2 ^ 28 → 4 ≤ s.dev.actLeft 18 → s.dev.dramAddr src (0x40000000 + 4 * n) < s.dev.hoistBytes → (s.dev.hoiCh (chanOf (s.dev.dramAddr src (0x40000000 + 4 * n)))).recovery = none → s.dev.rbit R.HOI_RH_CFG 16 = false → s.dev.tagOf (s.dev.dramAddr src (0x40000000 + 4 * n) / 64) = some g → g.epoch = s.dev.epoch8 → g.p0 = false → g.p1 = false →
    ∃ s', exec (.dramWindowAccess src t (0x40000000 + 4 * n) true v {}) s = .next s' ∧ dramBytes s'.dram (s.dev.dramAddr src (0x40000000 + 4 * n)) 4 = leBytes 4 v.toNat ∧ (∀ x : Nat, (x < s.dev.dramAddr src (0x40000000 + 4 * n) ∨ s.dev.dramAddr src (0x40000000 + 4 * n) + 4 ≤ x) → dramByte s' x = dramByte s x) ∧ s'.sram = s.sram ∧ (s'.dev.req src).lastStatus = 0 ∧ s'.dev.flg.jseq = s.dev.flg.jseq + 1) ∧
  -- dramWindowRead
  (∀ (s : State) (src t n : Nat) (g : DTag), s.dev.alive = true → s.dev.hoistServing = true → s.dev.hoistFailed = false → n < 2 ^ 28 → 2 ≤ s.dev.actLeft 18 → s.dev.reg (R.FMN_ALLOC 18) ≠ 0#32 → s.dev.dramAddr src (0x40000000 + 4 * n) < s.dev.hoistBytes → (s.dev.hoiCh (chanOf (s.dev.dramAddr src (0x40000000 + 4 * n)))).recovery = none → s.dev.rbit R.HOI_RH_CFG 16 = false → s.dev.tagOf (s.dev.dramAddr src (0x40000000 + 4 * n) / 64) = some g → g.epoch = s.dev.epoch8 → g.p0 = false → g.p1 = false →
    ∃ s', exec (.dramWindowAccess src t (0x40000000 + 4 * n) false 0 {}) s = .next s' ∧ (s'.dev.req src).lastData = [BitVec.ofNat 32 (dramLe s.dram (s.dev.dramAddr src (0x40000000 + 4 * n)) 4)] ∧ (s'.dev.req src).lastStatus = 0 ∧ s'.dev.flg = s.dev.flg ∧ sameMemory s s') ∧
  -- dramWindowFailed
  (∀ (s : State) (src t n : Nat), s.dev.alive = true → s.dev.hoistFailed = true → n < 2 ^ 28 → s.dev.reg (R.FMN_ALLOC 18) ≠ 0#32 →
    ∃ s', exec (.dramWindowAccess src t (0x40000000 + 4 * n) false 0 {}) s = .next s' ∧ (s'.dev.req src).lastData = [0#32] ∧ (s'.dev.req src).lastStatus = 5 ∧ (s'.dev.req src).status = (s.dev.req src).status ||| 4#32 ∧ s'.dev.flg = s.dev.flg ∧ sameMemory s s') ∧
  -- dramWindowNoAllocation
  (∀ (s : State) (src t n : Nat), s.dev.alive = true → s.dev.reg (R.FMN_ALLOC 18) = 0#32 → n < 2 ^ 28 →
    ∃ s', exec (.dramWindowAccess src t (0x40000000 + 4 * n) false 0 {}) s = .next s' ∧ (s'.dev.req src).lastData = [0#32] ∧ (s'.dev.req src).lastStatus = 7 ∧ (s'.dev.req src).status = (s.dev.req src).status ||| 8#32 ∧ s'.dev.flg = s.dev.flg ∧ sameMemory s s') ∧
  -- windowReadTimeout
  (∀ (s : State) (src t n : Nat) (v : Word), s.dev.alive = true → n < 2 ^ 28 →
    ∃ s', exec (.windowAccessTimeout src t (0x40000000 + 4 * n) false v) s = .next s' ∧ (s'.dev.req src).lastData = [0#32] ∧ (s'.dev.req src).lastStatus = 7 ∧ (s'.dev.req src).status = (s.dev.req src).status ||| 8#32 ∧ s'.dev.flg = s.dev.flg ∧ sameMemory s s') ∧
  -- windowWriteTimeout
  (∀ (s : State) (src t n : Nat) (v : Word), s.dev.alive = true → s.dev.top.state ≠ .headframe → n < 2 ^ 28 →
    ∃ s', exec (.windowAccessTimeout src t (0x40000000 + 4 * n) true v) s = .next s' ∧ (s'.dev.req src).lastStatus = 7 ∧ (s'.dev.req src).status = (s.dev.req src).status ||| 8#32 ∧ s'.dev.flg.jseq = s.dev.flg.jseq + 1 ∧ (mget s'.dev.flg.ring s.dev.flg.jwr).map (fun e => (e.addr, e.new, e.flags)) = some (0x40000000 + 4 * n, v, 3) ∧ sameMemory s s') ∧
  -- requestParityError
  (∀ (s : State) (src t : Nat), s.dev.alive = true → s.dev.faultRoom 0x1B01 = true →
    ∃ s', exec (.mgtParityError src t false) s = .next s' ∧ (s'.dev.req src).lastStatus = 4 ∧ s'.dev.logged 0x1B01 = true ∧ s'.dev.top.state = s.dev.top.state ∧ sameMemory s s') ∧
  -- windowParityError
  (∀ (s : State) (src t : Nat), s.dev.alive = true → s.dev.faultRoom 0x1B02 = true →
    ∃ s', exec (.mgtParityError src t true) s = .next s' ∧ (s'.dev.req src).dramWin = 0 ∧ s'.dev.logged 0x1B02 = true ∧ s'.dev.top.state = s.dev.top.state ∧ sameMemory s s')

/-- Unmapped loads and stores of a core. LDU, LDV and PLD of an unmapped address load 0 and STU and STV change no memory; each
sets STATUS.BUS and logs 0x0C04; while BUS is set nothing more is logged. (R200.) -/
def Obligations.UnmappedAccessRules : Prop :=
  -- lduUnmapped
  (∀ (s : State) (t k w a : Nat), s.stands k w .ldu = true → (s.dev.core k).cur.busAddr w false = a → 0x4000 ≤ a → (a < 0x40000 ∨ 0x80000 ≤ a) → (a < 0xFF000 ∨ 0xFF040 ≤ a) → (s.dev.core k).sticky.testBit 5 = false → s.dev.faultRoom 0x0C04 = true →
    ∃ s', exec (.ldu t k 0 0 0) s = .next s' ∧ (s'.dev.core k).delayed.map (fun x => (x.dest, x.value)) = [(.gen (fieldOf w 25 22), 0#32)] ∧ (s'.dev.core k).sticky.testBit 5 = true ∧ s'.dev.logged 0x0C04 = true ∧ (s'.dev.core k).pc = ((s.dev.core k).pc + 1) % 2 ^ 14 ∧ sameMemory s s') ∧
  -- lduUnmappedAgain
  (∀ (s : State) (t k w a : Nat), s.stands k w .ldu = true → (s.dev.core k).cur.busAddr w false = a → 0x4000 ≤ a → (a < 0x40000 ∨ 0x80000 ≤ a) → (a < 0xFF000 ∨ 0xFF040 ≤ a) → (s.dev.core k).sticky.testBit 5 = true →
    ∃ s', exec (.ldu t k 0 0 0) s = .next s' ∧ (s'.dev.core k).delayed.map (fun x => (x.dest, x.value)) = [(.gen (fieldOf w 25 22), 0#32)] ∧ (s'.dev.core k).sticky.testBit 5 = true ∧ s'.dev.flg = s.dev.flg ∧ sameMemory s s') ∧
  -- ldvUnmapped
  (∀ (s : State) (t k w a : Nat), s.stands k w .ldv = true → (s.dev.core k).cur.busAddr w true = a → 0x4000 ≤ a → (s.dev.core k).sticky.testBit 5 = false → s.dev.faultRoom 0x0C04 = true →
    ∃ s', exec (.ldv t k 0 0 0) s = .next s' ∧ (s'.dev.core k).delayed.map (fun x => (x.dest, x.value)) = [(.gen (fieldOf w 25 22), 0#32)] ∧ (s'.dev.core k).sticky.testBit 5 = true ∧ s'.dev.logged 0x0C04 = true ∧ (s'.dev.core k).pc = ((s.dev.core k).pc + 1) % 2 ^ 14 ∧ sameMemory s s') ∧
  -- ldvUnmappedAgain
  (∀ (s : State) (t k w a : Nat), s.stands k w .ldv = true → (s.dev.core k).cur.busAddr w true = a → 0x4000 ≤ a → (s.dev.core k).sticky.testBit 5 = true →
    ∃ s', exec (.ldv t k 0 0 0) s = .next s' ∧ (s'.dev.core k).delayed.map (fun x => (x.dest, x.value)) = [(.gen (fieldOf w 25 22), 0#32)] ∧ (s'.dev.core k).sticky.testBit 5 = true ∧ s'.dev.flg = s.dev.flg ∧ sameMemory s s') ∧
  -- stuUnmapped
  (∀ (s : State) (t k w a : Nat), s.stands k w .stu = true → (s.dev.core k).cur.busAddr w false = a → 0x4000 ≤ a → (a < 0x40000 ∨ 0x80000 ≤ a) → (a < 0xFF000 ∨ 0xFF040 ≤ a) → (s.dev.core k).sticky.testBit 5 = false → s.dev.faultRoom 0x0C04 = true →
    ∃ s', exec (.stu t k 0 0 0) s = .next s' ∧ (s'.dev.core k).delayed = [] ∧ (s'.dev.core k).sticky.testBit 5 = true ∧ s'.dev.logged 0x0C04 = true ∧ (s'.dev.core k).pc = ((s.dev.core k).pc + 1) % 2 ^ 14 ∧ sameMemory s s') ∧
  -- stuUnmappedAgain
  (∀ (s : State) (t k w a : Nat), s.stands k w .stu = true → (s.dev.core k).cur.busAddr w false = a → 0x4000 ≤ a → (a < 0x40000 ∨ 0x80000 ≤ a) → (a < 0xFF000 ∨ 0xFF040 ≤ a) → (s.dev.core k).sticky.testBit 5 = true →
    ∃ s', exec (.stu t k 0 0 0) s = .next s' ∧ (s'.dev.core k).delayed = [] ∧ (s'.dev.core k).sticky.testBit 5 = true ∧ s'.dev.flg = s.dev.flg ∧ sameMemory s s') ∧
  -- stvUnmapped
  (∀ (s : State) (t k w a : Nat), s.stands k w .stv = true → (s.dev.core k).cur.busAddr w true = a → 0x4000 ≤ a → (s.dev.core k).sticky.testBit 5 = false → s.dev.faultRoom 0x0C04 = true →
    ∃ s', exec (.stv t k 0 0 0) s = .next s' ∧ (s'.dev.core k).delayed = [] ∧ (s'.dev.core k).sticky.testBit 5 = true ∧ s'.dev.logged 0x0C04 = true ∧ (s'.dev.core k).pc = ((s.dev.core k).pc + 1) % 2 ^ 14 ∧ sameMemory s s') ∧
  -- stvUnmappedAgain
  (∀ (s : State) (t k w a : Nat), s.stands k w .stv = true → (s.dev.core k).cur.busAddr w true = a → 0x4000 ≤ a → (s.dev.core k).sticky.testBit 5 = true →
    ∃ s', exec (.stv t k 0 0 0) s = .next s' ∧ (s'.dev.core k).delayed = [] ∧ (s'.dev.core k).sticky.testBit 5 = true ∧ s'.dev.flg = s.dev.flg ∧ sameMemory s s') ∧
  -- pldUnmapped
  (∀ (s : State) (t k w a b : Nat), s.stands k w .pld = true → fieldOf w 18 18 = 1 → fieldOf w 10 10 = 1 → (s.dev.core k).cur.addrOf (fieldOf w 17 16) = a → 0x4000 ≤ a → (a < 0x40000 ∨ 0x80000 ≤ a) → (a < 0xFF000 ∨ 0xFF040 ≤ a) → (s.dev.core k).cur.addrOf (4 + fieldOf w 9 8) = b → 0x4000 ≤ b → (s.dev.core k).sticky.testBit 5 = false → s.dev.faultRoom 0x0C04 = true →
    ∃ s', exec (.pld t k 0 0 0) s = .next s' ∧ (s'.dev.core k).delayed.map (fun x => (x.dest, x.value)) = [(.gen (fieldOf w 13 11), 0#32), (.gen (8 + fieldOf w 5 3), 0#32)] ∧ (s'.dev.core k).sticky.testBit 5 = true ∧ s'.dev.logged 0x0C04 = true ∧ sameMemory s s') ∧
  -- pldUnmappedAgain
  (∀ (s : State) (t k w a b : Nat), s.stands k w .pld = true → fieldOf w 18 18 = 1 → fieldOf w 10 10 = 1 → (s.dev.core k).cur.addrOf (fieldOf w 17 16) = a → 0x4000 ≤ a → (a < 0x40000 ∨ 0x80000 ≤ a) → (a < 0xFF000 ∨ 0xFF040 ≤ a) → (s.dev.core k).cur.addrOf (4 + fieldOf w 9 8) = b → 0x4000 ≤ b → (s.dev.core k).sticky.testBit 5 = true →
    ∃ s', exec (.pld t k 0 0 0) s = .next s' ∧ (s'.dev.core k).delayed.map (fun x => (x.dest, x.value)) = [(.gen (fieldOf w 13 11), 0#32), (.gen (8 + fieldOf w 5 3), 0#32)] ∧ (s'.dev.core k).sticky.testBit 5 = true ∧ s'.dev.flg = s.dev.flg ∧ sameMemory s s')

/-- A tally parity error is class H and enters HELD. A parity error of the tally board logs 0x0501, in an entry of class H when
none was open, and the device enters HELD from every state in which it lives. (R75.) -/
def Obligations.TallyParityErrorRule : Prop :=
  -- tallyParityClassH
  (∀ (s : State) (t : Nat), s.dev.alive = true → s.dev.logged 0x0501 = false → s.dev.faultRoom 0x0501 = true →
    ∃ s', exec (.tallyParityError t) s = .next s' ∧ (openEntry s'.dev.flg.log 0x0501).map (fun p => p.2.cls) = some .h ∧ s'.dev.top.state = .held ∧ sameMemory s s') ∧
  -- tallyParityAgain
  (∀ (s : State) (t : Nat), s.dev.alive = true → s.dev.logged 0x0501 = true →
    ∃ s', exec (.tallyParityError t) s = .next s' ∧ s'.dev.logged 0x0501 = true ∧ s'.dev.top.state = .held ∧ sameMemory s s')

/-- RFE_CTRLc.mode is accepted only outside RANGING. Outside RANGING (and HEADFRAME, where every write is refused) a changed mode
takes effect at once and the channel settles from the present tick; in RANGING it is ignored, cfg_rej is set, and the mode
reads back as before. (R136.) -/
def Obligations.FrontEndModeRule : Prop :=
  -- modeAccepted
  (∀ (s : State) (src t ch : Nat) (v : Word), s.dev.alive = true → s.dev.top.state ≠ .headframe → s.dev.top.state ≠ .ranging → ch < 256 → (s.dev.ch ch).pend = [] → mget s.dev.shadow (R.RFE_CTRL ch) = none → bits v 1 1 ≠ s.dev.fld (R.RFE_CTRL ch) 1 1 →
    ∃ s', exec (.rfeModeWrite src t ch v) s = .next s' ∧ s'.dev.fld (R.RFE_CTRL ch) 1 1 = bits v 1 1 ∧ (s'.dev.ch ch).settleFrom = some (s.dev.advanceTo t).now ∧ s'.dev.rbit (R.RFE_STATUS ch) 3 = true ∧ writeTaken src s s') ∧
  -- modeIgnored
  (∀ (s : State) (src t ch : Nat) (v : Word), s.dev.alive = true → s.dev.top.state = .ranging → ch < 256 → (s.dev.ch ch).pend = [] → mget s.dev.shadow (R.RFE_CTRL ch) = none → bits v 1 1 ≠ s.dev.fld (R.RFE_CTRL ch) 1 1 →
    ∃ s', exec (.rfeModeWrite src t ch v) s = .next s' ∧ s'.dev.fld (R.RFE_CTRL ch) 1 1 = s.dev.fld (R.RFE_CTRL ch) 1 1 ∧ bits (s'.dev.shown (R.RFE_CTRL ch)) 1 1 = s.dev.fld (R.RFE_CTRL ch) 1 1 ∧ s'.dev.rbit (R.RFE_STATUS ch) 18 = true ∧ writeTaken src s s')
end

