-- ==== Sys2Proof/Laws/Store.lean ====
section
/-! SUPPORT. Laws of the finite maps, of the sparse stores and their canonical form, and of a word's fields. -/
namespace Sys2Proof.Machine

/-! Sparse stores. -/

/-- A struck key reads as an unlisted one, and every other key as before. -/
theorem spGet_spDel {α : Type} (d : Nat → α) (m : List (Nat × α)) (k j : Nat) :
    spGet d (spDel m k) j = if j = k then d j else spGet d m j := by
  induction m with
  | nil => simp [spDel, spGet]
  | cons p r ih =>
    obtain ⟨k', v'⟩ := p
    simp only [spDel] at ih
    by_cases h : k' = k
    · subst h
      simp only [spDel, List.filter, bne_self_eq_false, ih, spGet]
      by_cases hj : j = k' <;> simp [hj]
    · have hb : (k' != k) = true := by simpa using h
      simp only [spDel, List.filter, hb, spGet, ih]
      by_cases hj : j = k'
      · subst hj; simp [h]
      · simp [hj]

/-- An entry put where its key is not listed is found, and no other read changes. -/
theorem spGet_spIns {α : Type} (d : Nat → α) (v : α) (k j : Nat) :
    ∀ (m : List (Nat × α)), (∀ p ∈ m, p.1 ≠ k) → spGet d (spIns m k v) j = if j = k then v else spGet d m j
  | [], _ => by simp [spIns, spGet]
  | (k', v') :: r, h => by
    have hk : k' ≠ k := h (k', v') (by simp)
    have ih := spGet_spIns d v k j r (fun p hp => h p (by simp [hp]))
    simp only [spIns]
    split
    · simp [spGet]
    · simp only [spGet, ih]
      by_cases hj : j = k'
      · subst hj; simp [hk]
      · simp [hj]

/-- A read after a write: the value written at its key, what it gave before at any other. -/
theorem spGet_spSet {α : Type} [DecidableEq α] (d : Nat → α) (m : List (Nat × α)) (k j : Nat) (v : α) :
    spGet d (spSet d m k v) j = if j = k then v else spGet d m j := by
  unfold spSet
  split
  · next h => rw [spGet_spDel]; split <;> simp_all
  · rw [spGet_spIns d v k j _ (by simp [spDel]), spGet_spDel]
    by_cases hj : j = k <;> simp [hj]

/-- A read of the key written gives what was written. -/
theorem spGet_spSet_self {α : Type} [DecidableEq α] (d : Nat → α) (m : List (Nat × α)) (k : Nat) (v : α) :
    spGet d (spSet d m k v) k = v := by simp [spGet_spSet]

/-- A read of another key than the one written gives what it gave. -/
theorem spGet_spSet_ne {α : Type} [DecidableEq α] (d : Nat → α) (m : List (Nat × α)) (k j : Nat) (v : α) (h : j ≠ k) :
    spGet d (spSet d m k v) j = spGet d m j := by simp [spGet_spSet, h]

/-- A lower bound may be lowered. -/
theorem spWfFrom_mono {α : Type} [DecidableEq α] (d : Nat → α) (m : List (Nat × α)) (a : Nat) (b : Option Nat)
    (h : spWfFrom d (some a) m = true) (hb : b.all (· ≤ a) = true) : spWfFrom d b m = true := by
  cases m with
  | nil => rfl
  | cons p r =>
    obtain ⟨k, v⟩ := p
    simp only [spWfFrom, Option.all_some, Bool.and_eq_true, decide_eq_true_eq] at h ⊢
    refine ⟨⟨?_, h.1.2⟩, h.2⟩
    cases b with
    | none => rfl
    | some b => simp at hb ⊢; omega

/-- The canonical form is kept when entries are struck. -/
theorem spWfFrom_filter {α : Type} [DecidableEq α] (d : Nat → α) (p : Nat × α → Bool) :
    ∀ (m : List (Nat × α)) (b : Option Nat), spWfFrom d b m = true → spWfFrom d b (m.filter p) = true
  | [], _, _ => rfl
  | (k, v) :: r, b, h => by
    simp only [spWfFrom, Bool.and_eq_true, decide_eq_true_eq] at h
    have ih := spWfFrom_filter d p r (some k) h.2
    by_cases hp : p (k, v)
    · simp [List.filter, hp, spWfFrom, h.1.1, h.1.2, ih]
    · simp only [List.filter, hp]
      refine spWfFrom_mono d _ k b ih ?_
      cases b with
      | none => rfl
      | some b => have := h.1.1; simp at this ⊢; omega

/-- The canonical form is kept when an entry is put where its key is not listed. -/
theorem spWfFrom_spIns {α : Type} [DecidableEq α] (d : Nat → α) (v : α) (k : Nat) (hv : v ≠ d k) :
    ∀ (m : List (Nat × α)) (b : Option Nat), (∀ p ∈ m, p.1 ≠ k) → spWfFrom d b m = true → b.all (· < k) = true →
      spWfFrom d b (spIns m k v) = true
  | [], b, _, _, hb => by simp [spIns, spWfFrom, hb, hv]
  | (k', v') :: r, b, hm, h, hb => by
    have hk : k' ≠ k := hm (k', v') (by simp)
    simp only [spWfFrom, Bool.and_eq_true, decide_eq_true_eq] at h
    simp only [spIns]
    split
    · next hlt => simp [spWfFrom, hb, hv, hlt, h.1.2, h.2]
    · next hge =>
      have ih := spWfFrom_spIns d v k hv r (some k') (fun p hp => hm p (by simp [hp])) h.2 (by simp; omega)
      simp [spWfFrom, h.1.1, h.1.2, ih]

/-- The canonical form is kept by a write. -/
theorem spWf_spSet {α : Type} [DecidableEq α] (d : Nat → α) (m : List (Nat × α)) (k : Nat) (v : α) (h : spWf d m = true) :
    spWf d (spSet d m k v) = true := by
  unfold spSet
  have hd : spWfFrom d none (spDel m k) = true := spWfFrom_filter d _ m none h
  split
  · exact hd
  · next hv => exact spWfFrom_spIns d v k hv _ none (by simp [spDel]) hd rfl

/-- The canonical form is kept when a range is cleared. -/
theorem spWf_spClear {α : Type} [DecidableEq α] (d : Nat → α) (m : List (Nat × α)) (lo hi : Nat) (h : spWf d m = true) :
    spWf d (spClear m lo hi) = true := spWfFrom_filter d _ m none h

/-- The canonical form is kept when entries are struck. -/
theorem spWf_filter {α : Type} [DecidableEq α] (d : Nat → α) (p : Nat × α → Bool) (m : List (Nat × α)) (h : spWf d m = true) :
    spWf d (m.filter p) = true := spWfFrom_filter d p m none h

/-! Memory bytes. -/

/-- On-chip memory stays canonical when bytes are written. -/
theorem spWf_memSetBytes (l : List Byte) : ∀ (m : List Host.Cell) (a : Nat), spWf memDflt m = true → spWf memDflt (memSetBytes m a l) = true := by
  induction l with
  | nil => intro m a h; exact h
  | cons b r ih => intro m a h; exact ih _ _ (spWf_spSet memDflt m a b h)

/-- DRAM stays canonical when bytes are written. -/
theorem spWf_dramSetBytes (l : List Byte) : ∀ (m : List Host.Cell) (a : Nat), spWf dramDflt m = true → spWf dramDflt (dramSetBytes m a l) = true := by
  induction l with
  | nil => intro m a h; exact h
  | cons b r ih => intro m a h; exact ih _ _ (spWf_spSet dramDflt m a b h)

/-- A byte outside those written is unchanged. -/
theorem memByte_memSetBytes_out (l : List Byte) : ∀ (m : List Host.Cell) (a x : Nat), (x < a ∨ a + l.length ≤ x) →
    memByte (memSetBytes m a l) x = memByte m x := by
  induction l with
  | nil => intro m a x _; rfl
  | cons b r ih =>
    intro m a x h
    simp only [List.length_cons] at h
    rw [memSetBytes, ih _ _ _ (by omega)]
    exact spGet_spSet_ne memDflt m a x b (by omega)

/-- A DRAM byte outside those written is unchanged. -/
theorem spGet_dramSetBytes_out (l : List Byte) : ∀ (m : List Host.Cell) (a x : Nat), (x < a ∨ a + l.length ≤ x) →
    spGet dramDflt (dramSetBytes m a l) x = spGet dramDflt m x := by
  induction l with
  | nil => intro m a x _; rfl
  | cons b r ih =>
    intro m a x h
    simp only [List.length_cons] at h
    rw [dramSetBytes, ih _ _ _ (by omega)]
    exact spGet_spSet_ne dramDflt m a x b (by omega)

/-- A byte written reads back. -/
theorem memByte_memSetBytes_in (l : List Byte) : ∀ (m : List Host.Cell) (a i : Nat), (h : i < l.length) →
    memByte (memSetBytes m a l) (a + i) = l[i] := by
  induction l with
  | nil => intro m a i h; exact absurd h (Nat.not_lt_zero i)
  | cons b r ih =>
    intro m a i h
    cases i with
    | zero =>
      rw [memSetBytes, memByte_memSetBytes_out r _ _ _ (by omega)]
      exact spGet_spSet_self memDflt m a b
    | succ i =>
      have := ih (memSet m a b) (a + 1) i (by simpa using h)
      rw [memSetBytes, show a + (i + 1) = a + 1 + i by omega, this]
      simp

/-! Finite maps. -/

/-- What was listed last is found. -/
theorem mget_mput_self {α : Type} (m : Map α) (k : Nat) (v : α) : mget (mput m k v) k = some v := by
  induction m with
  | nil => simp [mput, mget]
  | cons p r ih =>
    obtain ⟨k', v'⟩ := p
    simp only [mput]
    split
    · simp [mget]
    · split
      · simp [mget]
      · next h1 h2 =>
        have : (k' == k) = false := by simp; omega
        simp only [mget, List.find?, this] at ih ⊢
        exact ih

/-- Listing under another key changes nothing. -/
theorem mget_mput_ne {α : Type} (m : Map α) (k j : Nat) (v : α) (h : j ≠ k) : mget (mput m k v) j = mget m j := by
  have hk : (k == j) = false := by simp; omega
  induction m with
  | nil => simp [mput, mget, hk]
  | cons p r ih =>
    obtain ⟨k', v'⟩ := p
    simp only [mput]
    split
    · simp [mget, List.find?, hk]
    · split
      · next h1 h2 => subst h2; simp [mget, List.find?, hk]
      · simp only [mget, List.find?] at ih ⊢
        split <;> simp_all

@[simp] theorem mgetD_mput_self {α : Type} (m : Map α) (k : Nat) (v d : α) : mgetD (mput m k v) k d = v := by
  simp [mgetD, mget_mput_self]

theorem mgetD_mput_ne {α : Type} (m : Map α) (k j : Nat) (v d : α) (h : j ≠ k) : mgetD (mput m k v) j d = mgetD m j d := by
  simp [mgetD, mget_mput_ne m k j v h]

/-! Fields of a word. -/

/-- A field replaced reads back what its width holds. -/
theorem bits_setBits_self (w : Word) (msb lsb v : Nat) (h : msb < 32) (hl : lsb ≤ msb) :
    bits (setBits w msb lsb v) msb lsb = v % 2 ^ (msb + 1 - lsb) := by
  have hpow : 2 ^ lsb * 2 ^ (msb + 1 - lsb) = 2 ^ (msb + 1) := by rw [← Nat.pow_add]; congr 1; omega
  have h32 : 2 ^ (msb + 1) ∣ 2 ^ 32 := Nat.pow_dvd_pow 2 (by omega)
  have key : ∀ (x n : Nat), x % 2 ^ (msb + 1) / 2 ^ lsb = x / 2 ^ lsb % 2 ^ (msb + 1 - lsb) := by
    intro x _; rw [← hpow, Nat.mod_mul_right_div_self]
  simp only [bits, setBits, BitVec.toNat_ofNat]
  generalize hn : 2 ^ (msb + 1 - lsb) = n at *
  generalize hp : 2 ^ lsb = p at *
  have pp : 0 < p := by rw [← hp]; exact Nat.two_pow_pos lsb
  have pn : 0 < n := by rw [← hn]; exact Nat.two_pow_pos _
  have e1 : ∀ x, x % 2 ^ 32 / p % n = x / p % n := by
    intro x; rw [← key (x % 2 ^ 32) 0, ← key x 0, Nat.mod_mod_of_dvd x h32]
  rw [e1]
  have hle : w.toNat / p % n * p ≤ w.toNat :=
    Nat.le_trans (Nat.mul_le_mul_right p (Nat.mod_le _ n)) (Nat.div_mul_le_self _ p)
  rw [Nat.add_mul_div_right _ _ pp, Nat.mul_comm (w.toNat / p % n) p, Nat.sub_mul_div_of_le _ _ _ (by rw [Nat.mul_comm]; exact hle)]
  have hd : (w.toNat / p - w.toNat / p % n) % n = 0 := by
    have := Nat.div_add_mod (w.toNat / p) n
    have e : w.toNat / p - w.toNat / p % n = n * (w.toNat / p / n) := by omega
    rw [e]; exact Nat.mul_mod_right n _
  rw [Nat.add_mod, hd, Nat.zero_add, Nat.mod_mod, Nat.mod_mod]

end Sys2Proof.Machine
end

