-- ==== Sys2Proof/Laws/State.lean ====
section
/-! SUPPORT. What each update of the state leaves alone: one lemma per field, true by unfolding, so that no proof unfolds a
record update. -/
namespace Sys2Proof.Machine

/-! `Dev.setReg` changes regs only. -/
@[simp] theorem Dev.setReg_now (d : Dev) (a : Nat) (v : Word) : (d.setReg a v).now = d.now := (rfl)
@[simp] theorem Dev.setReg_shadow (d : Dev) (a : Nat) (v : Word) : (d.setReg a v).shadow = d.shadow := (rfl)
@[simp] theorem Dev.setReg_freeCtr (d : Dev) (a : Nat) (v : Word) : (d.setReg a v).freeCtr = d.freeCtr := (rfl)
@[simp] theorem Dev.setReg_corrected (d : Dev) (a : Nat) (v : Word) : (d.setReg a v).corrected = d.corrected := (rfl)
@[simp] theorem Dev.setReg_top (d : Dev) (a : Nat) (v : Word) : (d.setReg a v).top = d.top := (rfl)
@[simp] theorem Dev.setReg_clk (d : Dev) (a : Nat) (v : Word) : (d.setReg a v).clk = d.clk := (rfl)
@[simp] theorem Dev.setReg_boot (d : Dev) (a : Nat) (v : Word) : (d.setReg a v).boot = d.boot := (rfl)
@[simp] theorem Dev.setReg_seq (d : Dev) (a : Nat) (v : Word) : (d.setReg a v).seq = d.seq := (rfl)
@[simp] theorem Dev.setReg_emt (d : Dev) (a : Nat) (v : Word) : (d.setReg a v).emt = d.emt := (rfl)
@[simp] theorem Dev.setReg_str (d : Dev) (a : Nat) (v : Word) : (d.setReg a v).str = d.str := (rfl)
@[simp] theorem Dev.setReg_rfe (d : Dev) (a : Nat) (v : Word) : (d.setReg a v).rfe = d.rfe := (rfl)
@[simp] theorem Dev.setReg_rfePorts (d : Dev) (a : Nat) (v : Word) : (d.setReg a v).rfePorts = d.rfePorts := (rfl)
@[simp] theorem Dev.setReg_gat (d : Dev) (a : Nat) (v : Word) : (d.setReg a v).gat = d.gat := (rfl)
@[simp] theorem Dev.setReg_hst (d : Dev) (a : Nat) (v : Word) : (d.setReg a v).hst = d.hst := (rfl)
@[simp] theorem Dev.setReg_cny (d : Dev) (a : Nat) (v : Word) : (d.setReg a v).cny = d.cny := (rfl)
@[simp] theorem Dev.setReg_cal (d : Dev) (a : Nat) (v : Word) : (d.setReg a v).cal = d.cal := (rfl)
@[simp] theorem Dev.setReg_fmn (d : Dev) (a : Nat) (v : Word) : (d.setReg a v).fmn = d.fmn := (rfl)
@[simp] theorem Dev.setReg_asy (d : Dev) (a : Nat) (v : Word) : (d.setReg a v).asy = d.asy := (rfl)
@[simp] theorem Dev.setReg_pnt (d : Dev) (a : Nat) (v : Word) : (d.setReg a v).pnt = d.pnt := (rfl)
@[simp] theorem Dev.setReg_lanes (d : Dev) (a : Nat) (v : Word) : (d.setReg a v).lanes = d.lanes := (rfl)
@[simp] theorem Dev.setReg_taps (d : Dev) (a : Nat) (v : Word) : (d.setReg a v).taps = d.taps := (rfl)
@[simp] theorem Dev.setReg_net (d : Dev) (a : Nat) (v : Word) : (d.setReg a v).net = d.net := (rfl)
@[simp] theorem Dev.setReg_sns (d : Dev) (a : Nat) (v : Word) : (d.setReg a v).sns = d.sns := (rfl)
@[simp] theorem Dev.setReg_cans (d : Dev) (a : Nat) (v : Word) : (d.setReg a v).cans = d.cans := (rfl)
@[simp] theorem Dev.setReg_flts (d : Dev) (a : Nat) (v : Word) : (d.setReg a v).flts = d.flts := (rfl)
@[simp] theorem Dev.setReg_hkas (d : Dev) (a : Nat) (v : Word) : (d.setReg a v).hkas = d.hkas := (rfl)
@[simp] theorem Dev.setReg_hoi (d : Dev) (a : Nat) (v : Word) : (d.setReg a v).hoi = d.hoi := (rfl)
@[simp] theorem Dev.setReg_flg (d : Dev) (a : Nat) (v : Word) : (d.setReg a v).flg = d.flg := (rfl)
@[simp] theorem Dev.setReg_mgt (d : Dev) (a : Nat) (v : Word) : (d.setReg a v).mgt = d.mgt := (rfl)
@[simp] theorem Dev.setReg_jtag (d : Dev) (a : Nat) (v : Word) : (d.setReg a v).jtag = d.jtag := (rfl)

/-! `Dev.setFld` changes regs only. -/
@[simp] theorem Dev.setFld_now (d : Dev) (a m l v : Nat) : (d.setFld a m l v).now = d.now := (rfl)
@[simp] theorem Dev.setFld_shadow (d : Dev) (a m l v : Nat) : (d.setFld a m l v).shadow = d.shadow := (rfl)
@[simp] theorem Dev.setFld_freeCtr (d : Dev) (a m l v : Nat) : (d.setFld a m l v).freeCtr = d.freeCtr := (rfl)
@[simp] theorem Dev.setFld_corrected (d : Dev) (a m l v : Nat) : (d.setFld a m l v).corrected = d.corrected := (rfl)
@[simp] theorem Dev.setFld_top (d : Dev) (a m l v : Nat) : (d.setFld a m l v).top = d.top := (rfl)
@[simp] theorem Dev.setFld_clk (d : Dev) (a m l v : Nat) : (d.setFld a m l v).clk = d.clk := (rfl)
@[simp] theorem Dev.setFld_boot (d : Dev) (a m l v : Nat) : (d.setFld a m l v).boot = d.boot := (rfl)
@[simp] theorem Dev.setFld_seq (d : Dev) (a m l v : Nat) : (d.setFld a m l v).seq = d.seq := (rfl)
@[simp] theorem Dev.setFld_emt (d : Dev) (a m l v : Nat) : (d.setFld a m l v).emt = d.emt := (rfl)
@[simp] theorem Dev.setFld_str (d : Dev) (a m l v : Nat) : (d.setFld a m l v).str = d.str := (rfl)
@[simp] theorem Dev.setFld_rfe (d : Dev) (a m l v : Nat) : (d.setFld a m l v).rfe = d.rfe := (rfl)
@[simp] theorem Dev.setFld_rfePorts (d : Dev) (a m l v : Nat) : (d.setFld a m l v).rfePorts = d.rfePorts := (rfl)
@[simp] theorem Dev.setFld_gat (d : Dev) (a m l v : Nat) : (d.setFld a m l v).gat = d.gat := (rfl)
@[simp] theorem Dev.setFld_hst (d : Dev) (a m l v : Nat) : (d.setFld a m l v).hst = d.hst := (rfl)
@[simp] theorem Dev.setFld_cny (d : Dev) (a m l v : Nat) : (d.setFld a m l v).cny = d.cny := (rfl)
@[simp] theorem Dev.setFld_cal (d : Dev) (a m l v : Nat) : (d.setFld a m l v).cal = d.cal := (rfl)
@[simp] theorem Dev.setFld_fmn (d : Dev) (a m l v : Nat) : (d.setFld a m l v).fmn = d.fmn := (rfl)
@[simp] theorem Dev.setFld_asy (d : Dev) (a m l v : Nat) : (d.setFld a m l v).asy = d.asy := (rfl)
@[simp] theorem Dev.setFld_pnt (d : Dev) (a m l v : Nat) : (d.setFld a m l v).pnt = d.pnt := (rfl)
@[simp] theorem Dev.setFld_lanes (d : Dev) (a m l v : Nat) : (d.setFld a m l v).lanes = d.lanes := (rfl)
@[simp] theorem Dev.setFld_taps (d : Dev) (a m l v : Nat) : (d.setFld a m l v).taps = d.taps := (rfl)
@[simp] theorem Dev.setFld_net (d : Dev) (a m l v : Nat) : (d.setFld a m l v).net = d.net := (rfl)
@[simp] theorem Dev.setFld_sns (d : Dev) (a m l v : Nat) : (d.setFld a m l v).sns = d.sns := (rfl)
@[simp] theorem Dev.setFld_cans (d : Dev) (a m l v : Nat) : (d.setFld a m l v).cans = d.cans := (rfl)
@[simp] theorem Dev.setFld_flts (d : Dev) (a m l v : Nat) : (d.setFld a m l v).flts = d.flts := (rfl)
@[simp] theorem Dev.setFld_hkas (d : Dev) (a m l v : Nat) : (d.setFld a m l v).hkas = d.hkas := (rfl)
@[simp] theorem Dev.setFld_hoi (d : Dev) (a m l v : Nat) : (d.setFld a m l v).hoi = d.hoi := (rfl)
@[simp] theorem Dev.setFld_flg (d : Dev) (a m l v : Nat) : (d.setFld a m l v).flg = d.flg := (rfl)
@[simp] theorem Dev.setFld_mgt (d : Dev) (a m l v : Nat) : (d.setFld a m l v).mgt = d.mgt := (rfl)
@[simp] theorem Dev.setFld_jtag (d : Dev) (a m l v : Nat) : (d.setFld a m l v).jtag = d.jtag := (rfl)

/-! `Dev.setBit` changes regs only. -/
@[simp] theorem Dev.setBit_now (d : Dev) (a i : Nat) (b : Bool) : (d.setBit a i b).now = d.now := (rfl)
@[simp] theorem Dev.setBit_shadow (d : Dev) (a i : Nat) (b : Bool) : (d.setBit a i b).shadow = d.shadow := (rfl)
@[simp] theorem Dev.setBit_freeCtr (d : Dev) (a i : Nat) (b : Bool) : (d.setBit a i b).freeCtr = d.freeCtr := (rfl)
@[simp] theorem Dev.setBit_corrected (d : Dev) (a i : Nat) (b : Bool) : (d.setBit a i b).corrected = d.corrected := (rfl)
@[simp] theorem Dev.setBit_top (d : Dev) (a i : Nat) (b : Bool) : (d.setBit a i b).top = d.top := (rfl)
@[simp] theorem Dev.setBit_clk (d : Dev) (a i : Nat) (b : Bool) : (d.setBit a i b).clk = d.clk := (rfl)
@[simp] theorem Dev.setBit_boot (d : Dev) (a i : Nat) (b : Bool) : (d.setBit a i b).boot = d.boot := (rfl)
@[simp] theorem Dev.setBit_seq (d : Dev) (a i : Nat) (b : Bool) : (d.setBit a i b).seq = d.seq := (rfl)
@[simp] theorem Dev.setBit_emt (d : Dev) (a i : Nat) (b : Bool) : (d.setBit a i b).emt = d.emt := (rfl)
@[simp] theorem Dev.setBit_str (d : Dev) (a i : Nat) (b : Bool) : (d.setBit a i b).str = d.str := (rfl)
@[simp] theorem Dev.setBit_rfe (d : Dev) (a i : Nat) (b : Bool) : (d.setBit a i b).rfe = d.rfe := (rfl)
@[simp] theorem Dev.setBit_rfePorts (d : Dev) (a i : Nat) (b : Bool) : (d.setBit a i b).rfePorts = d.rfePorts := (rfl)
@[simp] theorem Dev.setBit_gat (d : Dev) (a i : Nat) (b : Bool) : (d.setBit a i b).gat = d.gat := (rfl)
@[simp] theorem Dev.setBit_hst (d : Dev) (a i : Nat) (b : Bool) : (d.setBit a i b).hst = d.hst := (rfl)
@[simp] theorem Dev.setBit_cny (d : Dev) (a i : Nat) (b : Bool) : (d.setBit a i b).cny = d.cny := (rfl)
@[simp] theorem Dev.setBit_cal (d : Dev) (a i : Nat) (b : Bool) : (d.setBit a i b).cal = d.cal := (rfl)
@[simp] theorem Dev.setBit_fmn (d : Dev) (a i : Nat) (b : Bool) : (d.setBit a i b).fmn = d.fmn := (rfl)
@[simp] theorem Dev.setBit_asy (d : Dev) (a i : Nat) (b : Bool) : (d.setBit a i b).asy = d.asy := (rfl)
@[simp] theorem Dev.setBit_pnt (d : Dev) (a i : Nat) (b : Bool) : (d.setBit a i b).pnt = d.pnt := (rfl)
@[simp] theorem Dev.setBit_lanes (d : Dev) (a i : Nat) (b : Bool) : (d.setBit a i b).lanes = d.lanes := (rfl)
@[simp] theorem Dev.setBit_taps (d : Dev) (a i : Nat) (b : Bool) : (d.setBit a i b).taps = d.taps := (rfl)
@[simp] theorem Dev.setBit_net (d : Dev) (a i : Nat) (b : Bool) : (d.setBit a i b).net = d.net := (rfl)
@[simp] theorem Dev.setBit_sns (d : Dev) (a i : Nat) (b : Bool) : (d.setBit a i b).sns = d.sns := (rfl)
@[simp] theorem Dev.setBit_cans (d : Dev) (a i : Nat) (b : Bool) : (d.setBit a i b).cans = d.cans := (rfl)
@[simp] theorem Dev.setBit_flts (d : Dev) (a i : Nat) (b : Bool) : (d.setBit a i b).flts = d.flts := (rfl)
@[simp] theorem Dev.setBit_hkas (d : Dev) (a i : Nat) (b : Bool) : (d.setBit a i b).hkas = d.hkas := (rfl)
@[simp] theorem Dev.setBit_hoi (d : Dev) (a i : Nat) (b : Bool) : (d.setBit a i b).hoi = d.hoi := (rfl)
@[simp] theorem Dev.setBit_flg (d : Dev) (a i : Nat) (b : Bool) : (d.setBit a i b).flg = d.flg := (rfl)
@[simp] theorem Dev.setBit_mgt (d : Dev) (a i : Nat) (b : Bool) : (d.setBit a i b).mgt = d.mgt := (rfl)
@[simp] theorem Dev.setBit_jtag (d : Dev) (a i : Nat) (b : Bool) : (d.setBit a i b).jtag = d.jtag := (rfl)

/-! `Dev.storeReg` changes regs only. -/
@[simp] theorem Dev.storeReg_now (d : Dev) (a : Nat) (v : Word) : (d.storeReg a v).now = d.now := (rfl)
@[simp] theorem Dev.storeReg_shadow (d : Dev) (a : Nat) (v : Word) : (d.storeReg a v).shadow = d.shadow := (rfl)
@[simp] theorem Dev.storeReg_freeCtr (d : Dev) (a : Nat) (v : Word) : (d.storeReg a v).freeCtr = d.freeCtr := (rfl)
@[simp] theorem Dev.storeReg_corrected (d : Dev) (a : Nat) (v : Word) : (d.storeReg a v).corrected = d.corrected := (rfl)
@[simp] theorem Dev.storeReg_top (d : Dev) (a : Nat) (v : Word) : (d.storeReg a v).top = d.top := (rfl)
@[simp] theorem Dev.storeReg_clk (d : Dev) (a : Nat) (v : Word) : (d.storeReg a v).clk = d.clk := (rfl)
@[simp] theorem Dev.storeReg_boot (d : Dev) (a : Nat) (v : Word) : (d.storeReg a v).boot = d.boot := (rfl)
@[simp] theorem Dev.storeReg_seq (d : Dev) (a : Nat) (v : Word) : (d.storeReg a v).seq = d.seq := (rfl)
@[simp] theorem Dev.storeReg_emt (d : Dev) (a : Nat) (v : Word) : (d.storeReg a v).emt = d.emt := (rfl)
@[simp] theorem Dev.storeReg_str (d : Dev) (a : Nat) (v : Word) : (d.storeReg a v).str = d.str := (rfl)
@[simp] theorem Dev.storeReg_rfe (d : Dev) (a : Nat) (v : Word) : (d.storeReg a v).rfe = d.rfe := (rfl)
@[simp] theorem Dev.storeReg_rfePorts (d : Dev) (a : Nat) (v : Word) : (d.storeReg a v).rfePorts = d.rfePorts := (rfl)
@[simp] theorem Dev.storeReg_gat (d : Dev) (a : Nat) (v : Word) : (d.storeReg a v).gat = d.gat := (rfl)
@[simp] theorem Dev.storeReg_hst (d : Dev) (a : Nat) (v : Word) : (d.storeReg a v).hst = d.hst := (rfl)
@[simp] theorem Dev.storeReg_cny (d : Dev) (a : Nat) (v : Word) : (d.storeReg a v).cny = d.cny := (rfl)
@[simp] theorem Dev.storeReg_cal (d : Dev) (a : Nat) (v : Word) : (d.storeReg a v).cal = d.cal := (rfl)
@[simp] theorem Dev.storeReg_fmn (d : Dev) (a : Nat) (v : Word) : (d.storeReg a v).fmn = d.fmn := (rfl)
@[simp] theorem Dev.storeReg_asy (d : Dev) (a : Nat) (v : Word) : (d.storeReg a v).asy = d.asy := (rfl)
@[simp] theorem Dev.storeReg_pnt (d : Dev) (a : Nat) (v : Word) : (d.storeReg a v).pnt = d.pnt := (rfl)
@[simp] theorem Dev.storeReg_lanes (d : Dev) (a : Nat) (v : Word) : (d.storeReg a v).lanes = d.lanes := (rfl)
@[simp] theorem Dev.storeReg_taps (d : Dev) (a : Nat) (v : Word) : (d.storeReg a v).taps = d.taps := (rfl)
@[simp] theorem Dev.storeReg_net (d : Dev) (a : Nat) (v : Word) : (d.storeReg a v).net = d.net := (rfl)
@[simp] theorem Dev.storeReg_sns (d : Dev) (a : Nat) (v : Word) : (d.storeReg a v).sns = d.sns := (rfl)
@[simp] theorem Dev.storeReg_cans (d : Dev) (a : Nat) (v : Word) : (d.storeReg a v).cans = d.cans := (rfl)
@[simp] theorem Dev.storeReg_flts (d : Dev) (a : Nat) (v : Word) : (d.storeReg a v).flts = d.flts := (rfl)
@[simp] theorem Dev.storeReg_hkas (d : Dev) (a : Nat) (v : Word) : (d.storeReg a v).hkas = d.hkas := (rfl)
@[simp] theorem Dev.storeReg_hoi (d : Dev) (a : Nat) (v : Word) : (d.storeReg a v).hoi = d.hoi := (rfl)
@[simp] theorem Dev.storeReg_flg (d : Dev) (a : Nat) (v : Word) : (d.storeReg a v).flg = d.flg := (rfl)
@[simp] theorem Dev.storeReg_mgt (d : Dev) (a : Nat) (v : Word) : (d.storeReg a v).mgt = d.mgt := (rfl)
@[simp] theorem Dev.storeReg_jtag (d : Dev) (a : Nat) (v : Word) : (d.storeReg a v).jtag = d.jtag := (rfl)

/-! `Dev.setReg64` changes regs only. -/
@[simp] theorem Dev.setReg64_now (d : Dev) (a v : Nat) : (d.setReg64 a v).now = d.now := (rfl)
@[simp] theorem Dev.setReg64_shadow (d : Dev) (a v : Nat) : (d.setReg64 a v).shadow = d.shadow := (rfl)
@[simp] theorem Dev.setReg64_freeCtr (d : Dev) (a v : Nat) : (d.setReg64 a v).freeCtr = d.freeCtr := (rfl)
@[simp] theorem Dev.setReg64_corrected (d : Dev) (a v : Nat) : (d.setReg64 a v).corrected = d.corrected := (rfl)
@[simp] theorem Dev.setReg64_top (d : Dev) (a v : Nat) : (d.setReg64 a v).top = d.top := (rfl)
@[simp] theorem Dev.setReg64_clk (d : Dev) (a v : Nat) : (d.setReg64 a v).clk = d.clk := (rfl)
@[simp] theorem Dev.setReg64_boot (d : Dev) (a v : Nat) : (d.setReg64 a v).boot = d.boot := (rfl)
@[simp] theorem Dev.setReg64_seq (d : Dev) (a v : Nat) : (d.setReg64 a v).seq = d.seq := (rfl)
@[simp] theorem Dev.setReg64_emt (d : Dev) (a v : Nat) : (d.setReg64 a v).emt = d.emt := (rfl)
@[simp] theorem Dev.setReg64_str (d : Dev) (a v : Nat) : (d.setReg64 a v).str = d.str := (rfl)
@[simp] theorem Dev.setReg64_rfe (d : Dev) (a v : Nat) : (d.setReg64 a v).rfe = d.rfe := (rfl)
@[simp] theorem Dev.setReg64_rfePorts (d : Dev) (a v : Nat) : (d.setReg64 a v).rfePorts = d.rfePorts := (rfl)
@[simp] theorem Dev.setReg64_gat (d : Dev) (a v : Nat) : (d.setReg64 a v).gat = d.gat := (rfl)
@[simp] theorem Dev.setReg64_hst (d : Dev) (a v : Nat) : (d.setReg64 a v).hst = d.hst := (rfl)
@[simp] theorem Dev.setReg64_cny (d : Dev) (a v : Nat) : (d.setReg64 a v).cny = d.cny := (rfl)
@[simp] theorem Dev.setReg64_cal (d : Dev) (a v : Nat) : (d.setReg64 a v).cal = d.cal := (rfl)
@[simp] theorem Dev.setReg64_fmn (d : Dev) (a v : Nat) : (d.setReg64 a v).fmn = d.fmn := (rfl)
@[simp] theorem Dev.setReg64_asy (d : Dev) (a v : Nat) : (d.setReg64 a v).asy = d.asy := (rfl)
@[simp] theorem Dev.setReg64_pnt (d : Dev) (a v : Nat) : (d.setReg64 a v).pnt = d.pnt := (rfl)
@[simp] theorem Dev.setReg64_lanes (d : Dev) (a v : Nat) : (d.setReg64 a v).lanes = d.lanes := (rfl)
@[simp] theorem Dev.setReg64_taps (d : Dev) (a v : Nat) : (d.setReg64 a v).taps = d.taps := (rfl)
@[simp] theorem Dev.setReg64_net (d : Dev) (a v : Nat) : (d.setReg64 a v).net = d.net := (rfl)
@[simp] theorem Dev.setReg64_sns (d : Dev) (a v : Nat) : (d.setReg64 a v).sns = d.sns := (rfl)
@[simp] theorem Dev.setReg64_cans (d : Dev) (a v : Nat) : (d.setReg64 a v).cans = d.cans := (rfl)
@[simp] theorem Dev.setReg64_flts (d : Dev) (a v : Nat) : (d.setReg64 a v).flts = d.flts := (rfl)
@[simp] theorem Dev.setReg64_hkas (d : Dev) (a v : Nat) : (d.setReg64 a v).hkas = d.hkas := (rfl)
@[simp] theorem Dev.setReg64_hoi (d : Dev) (a v : Nat) : (d.setReg64 a v).hoi = d.hoi := (rfl)
@[simp] theorem Dev.setReg64_flg (d : Dev) (a v : Nat) : (d.setReg64 a v).flg = d.flg := (rfl)
@[simp] theorem Dev.setReg64_mgt (d : Dev) (a v : Nat) : (d.setReg64 a v).mgt = d.mgt := (rfl)
@[simp] theorem Dev.setReg64_jtag (d : Dev) (a v : Nat) : (d.setReg64 a v).jtag = d.jtag := (rfl)

/-! `Dev.inc64` changes regs only. -/
@[simp] theorem Dev.inc64_now (d : Dev) (a n : Nat) : (d.inc64 a n).now = d.now := (rfl)
@[simp] theorem Dev.inc64_shadow (d : Dev) (a n : Nat) : (d.inc64 a n).shadow = d.shadow := (rfl)
@[simp] theorem Dev.inc64_freeCtr (d : Dev) (a n : Nat) : (d.inc64 a n).freeCtr = d.freeCtr := (rfl)
@[simp] theorem Dev.inc64_corrected (d : Dev) (a n : Nat) : (d.inc64 a n).corrected = d.corrected := (rfl)
@[simp] theorem Dev.inc64_top (d : Dev) (a n : Nat) : (d.inc64 a n).top = d.top := (rfl)
@[simp] theorem Dev.inc64_clk (d : Dev) (a n : Nat) : (d.inc64 a n).clk = d.clk := (rfl)
@[simp] theorem Dev.inc64_boot (d : Dev) (a n : Nat) : (d.inc64 a n).boot = d.boot := (rfl)
@[simp] theorem Dev.inc64_seq (d : Dev) (a n : Nat) : (d.inc64 a n).seq = d.seq := (rfl)
@[simp] theorem Dev.inc64_emt (d : Dev) (a n : Nat) : (d.inc64 a n).emt = d.emt := (rfl)
@[simp] theorem Dev.inc64_str (d : Dev) (a n : Nat) : (d.inc64 a n).str = d.str := (rfl)
@[simp] theorem Dev.inc64_rfe (d : Dev) (a n : Nat) : (d.inc64 a n).rfe = d.rfe := (rfl)
@[simp] theorem Dev.inc64_rfePorts (d : Dev) (a n : Nat) : (d.inc64 a n).rfePorts = d.rfePorts := (rfl)
@[simp] theorem Dev.inc64_gat (d : Dev) (a n : Nat) : (d.inc64 a n).gat = d.gat := (rfl)
@[simp] theorem Dev.inc64_hst (d : Dev) (a n : Nat) : (d.inc64 a n).hst = d.hst := (rfl)
@[simp] theorem Dev.inc64_cny (d : Dev) (a n : Nat) : (d.inc64 a n).cny = d.cny := (rfl)
@[simp] theorem Dev.inc64_cal (d : Dev) (a n : Nat) : (d.inc64 a n).cal = d.cal := (rfl)
@[simp] theorem Dev.inc64_fmn (d : Dev) (a n : Nat) : (d.inc64 a n).fmn = d.fmn := (rfl)
@[simp] theorem Dev.inc64_asy (d : Dev) (a n : Nat) : (d.inc64 a n).asy = d.asy := (rfl)
@[simp] theorem Dev.inc64_pnt (d : Dev) (a n : Nat) : (d.inc64 a n).pnt = d.pnt := (rfl)
@[simp] theorem Dev.inc64_lanes (d : Dev) (a n : Nat) : (d.inc64 a n).lanes = d.lanes := (rfl)
@[simp] theorem Dev.inc64_taps (d : Dev) (a n : Nat) : (d.inc64 a n).taps = d.taps := (rfl)
@[simp] theorem Dev.inc64_net (d : Dev) (a n : Nat) : (d.inc64 a n).net = d.net := (rfl)
@[simp] theorem Dev.inc64_sns (d : Dev) (a n : Nat) : (d.inc64 a n).sns = d.sns := (rfl)
@[simp] theorem Dev.inc64_cans (d : Dev) (a n : Nat) : (d.inc64 a n).cans = d.cans := (rfl)
@[simp] theorem Dev.inc64_flts (d : Dev) (a n : Nat) : (d.inc64 a n).flts = d.flts := (rfl)
@[simp] theorem Dev.inc64_hkas (d : Dev) (a n : Nat) : (d.inc64 a n).hkas = d.hkas := (rfl)
@[simp] theorem Dev.inc64_hoi (d : Dev) (a n : Nat) : (d.inc64 a n).hoi = d.hoi := (rfl)
@[simp] theorem Dev.inc64_flg (d : Dev) (a n : Nat) : (d.inc64 a n).flg = d.flg := (rfl)
@[simp] theorem Dev.inc64_mgt (d : Dev) (a n : Nat) : (d.inc64 a n).mgt = d.mgt := (rfl)
@[simp] theorem Dev.inc64_jtag (d : Dev) (a n : Nat) : (d.inc64 a n).jtag = d.jtag := (rfl)

/-! `Dev.incSat` changes regs only. -/
@[simp] theorem Dev.incSat_now (d : Dev) (a m l n : Nat) : (d.incSat a m l n).now = d.now := (rfl)
@[simp] theorem Dev.incSat_shadow (d : Dev) (a m l n : Nat) : (d.incSat a m l n).shadow = d.shadow := (rfl)
@[simp] theorem Dev.incSat_freeCtr (d : Dev) (a m l n : Nat) : (d.incSat a m l n).freeCtr = d.freeCtr := (rfl)
@[simp] theorem Dev.incSat_corrected (d : Dev) (a m l n : Nat) : (d.incSat a m l n).corrected = d.corrected := (rfl)
@[simp] theorem Dev.incSat_top (d : Dev) (a m l n : Nat) : (d.incSat a m l n).top = d.top := (rfl)
@[simp] theorem Dev.incSat_clk (d : Dev) (a m l n : Nat) : (d.incSat a m l n).clk = d.clk := (rfl)
@[simp] theorem Dev.incSat_boot (d : Dev) (a m l n : Nat) : (d.incSat a m l n).boot = d.boot := (rfl)
@[simp] theorem Dev.incSat_seq (d : Dev) (a m l n : Nat) : (d.incSat a m l n).seq = d.seq := (rfl)
@[simp] theorem Dev.incSat_emt (d : Dev) (a m l n : Nat) : (d.incSat a m l n).emt = d.emt := (rfl)
@[simp] theorem Dev.incSat_str (d : Dev) (a m l n : Nat) : (d.incSat a m l n).str = d.str := (rfl)
@[simp] theorem Dev.incSat_rfe (d : Dev) (a m l n : Nat) : (d.incSat a m l n).rfe = d.rfe := (rfl)
@[simp] theorem Dev.incSat_rfePorts (d : Dev) (a m l n : Nat) : (d.incSat a m l n).rfePorts = d.rfePorts := (rfl)
@[simp] theorem Dev.incSat_gat (d : Dev) (a m l n : Nat) : (d.incSat a m l n).gat = d.gat := (rfl)
@[simp] theorem Dev.incSat_hst (d : Dev) (a m l n : Nat) : (d.incSat a m l n).hst = d.hst := (rfl)
@[simp] theorem Dev.incSat_cny (d : Dev) (a m l n : Nat) : (d.incSat a m l n).cny = d.cny := (rfl)
@[simp] theorem Dev.incSat_cal (d : Dev) (a m l n : Nat) : (d.incSat a m l n).cal = d.cal := (rfl)
@[simp] theorem Dev.incSat_fmn (d : Dev) (a m l n : Nat) : (d.incSat a m l n).fmn = d.fmn := (rfl)
@[simp] theorem Dev.incSat_asy (d : Dev) (a m l n : Nat) : (d.incSat a m l n).asy = d.asy := (rfl)
@[simp] theorem Dev.incSat_pnt (d : Dev) (a m l n : Nat) : (d.incSat a m l n).pnt = d.pnt := (rfl)
@[simp] theorem Dev.incSat_lanes (d : Dev) (a m l n : Nat) : (d.incSat a m l n).lanes = d.lanes := (rfl)
@[simp] theorem Dev.incSat_taps (d : Dev) (a m l n : Nat) : (d.incSat a m l n).taps = d.taps := (rfl)
@[simp] theorem Dev.incSat_net (d : Dev) (a m l n : Nat) : (d.incSat a m l n).net = d.net := (rfl)
@[simp] theorem Dev.incSat_sns (d : Dev) (a m l n : Nat) : (d.incSat a m l n).sns = d.sns := (rfl)
@[simp] theorem Dev.incSat_cans (d : Dev) (a m l n : Nat) : (d.incSat a m l n).cans = d.cans := (rfl)
@[simp] theorem Dev.incSat_flts (d : Dev) (a m l n : Nat) : (d.incSat a m l n).flts = d.flts := (rfl)
@[simp] theorem Dev.incSat_hkas (d : Dev) (a m l n : Nat) : (d.incSat a m l n).hkas = d.hkas := (rfl)
@[simp] theorem Dev.incSat_hoi (d : Dev) (a m l n : Nat) : (d.incSat a m l n).hoi = d.hoi := (rfl)
@[simp] theorem Dev.incSat_flg (d : Dev) (a m l n : Nat) : (d.incSat a m l n).flg = d.flg := (rfl)
@[simp] theorem Dev.incSat_mgt (d : Dev) (a m l n : Nat) : (d.incSat a m l n).mgt = d.mgt := (rfl)
@[simp] theorem Dev.incSat_jtag (d : Dev) (a m l n : Nat) : (d.incSat a m l n).jtag = d.jtag := (rfl)

/-! `Dev.drew` changes freeCtr only. -/
@[simp] theorem Dev.drew_now (d : Dev) : (d.drew).now = d.now := (rfl)
@[simp] theorem Dev.drew_regs (d : Dev) : (d.drew).regs = d.regs := (rfl)
@[simp] theorem Dev.drew_shadow (d : Dev) : (d.drew).shadow = d.shadow := (rfl)
@[simp] theorem Dev.drew_corrected (d : Dev) : (d.drew).corrected = d.corrected := (rfl)
@[simp] theorem Dev.drew_top (d : Dev) : (d.drew).top = d.top := (rfl)
@[simp] theorem Dev.drew_clk (d : Dev) : (d.drew).clk = d.clk := (rfl)
@[simp] theorem Dev.drew_boot (d : Dev) : (d.drew).boot = d.boot := (rfl)
@[simp] theorem Dev.drew_seq (d : Dev) : (d.drew).seq = d.seq := (rfl)
@[simp] theorem Dev.drew_emt (d : Dev) : (d.drew).emt = d.emt := (rfl)
@[simp] theorem Dev.drew_str (d : Dev) : (d.drew).str = d.str := (rfl)
@[simp] theorem Dev.drew_rfe (d : Dev) : (d.drew).rfe = d.rfe := (rfl)
@[simp] theorem Dev.drew_rfePorts (d : Dev) : (d.drew).rfePorts = d.rfePorts := (rfl)
@[simp] theorem Dev.drew_gat (d : Dev) : (d.drew).gat = d.gat := (rfl)
@[simp] theorem Dev.drew_hst (d : Dev) : (d.drew).hst = d.hst := (rfl)
@[simp] theorem Dev.drew_cny (d : Dev) : (d.drew).cny = d.cny := (rfl)
@[simp] theorem Dev.drew_cal (d : Dev) : (d.drew).cal = d.cal := (rfl)
@[simp] theorem Dev.drew_fmn (d : Dev) : (d.drew).fmn = d.fmn := (rfl)
@[simp] theorem Dev.drew_asy (d : Dev) : (d.drew).asy = d.asy := (rfl)
@[simp] theorem Dev.drew_pnt (d : Dev) : (d.drew).pnt = d.pnt := (rfl)
@[simp] theorem Dev.drew_lanes (d : Dev) : (d.drew).lanes = d.lanes := (rfl)
@[simp] theorem Dev.drew_taps (d : Dev) : (d.drew).taps = d.taps := (rfl)
@[simp] theorem Dev.drew_net (d : Dev) : (d.drew).net = d.net := (rfl)
@[simp] theorem Dev.drew_sns (d : Dev) : (d.drew).sns = d.sns := (rfl)
@[simp] theorem Dev.drew_cans (d : Dev) : (d.drew).cans = d.cans := (rfl)
@[simp] theorem Dev.drew_flts (d : Dev) : (d.drew).flts = d.flts := (rfl)
@[simp] theorem Dev.drew_hkas (d : Dev) : (d.drew).hkas = d.hkas := (rfl)
@[simp] theorem Dev.drew_hoi (d : Dev) : (d.drew).hoi = d.hoi := (rfl)
@[simp] theorem Dev.drew_flg (d : Dev) : (d.drew).flg = d.flg := (rfl)
@[simp] theorem Dev.drew_mgt (d : Dev) : (d.drew).mgt = d.mgt := (rfl)
@[simp] theorem Dev.drew_jtag (d : Dev) : (d.drew).jtag = d.jtag := (rfl)

/-! `Dev.onReq` changes mgt only. -/
@[simp] theorem Dev.onReq_now (d : Dev) (src : Nat) (f : Requester → Requester) : (d.onReq src f).now = d.now := (rfl)
@[simp] theorem Dev.onReq_regs (d : Dev) (src : Nat) (f : Requester → Requester) : (d.onReq src f).regs = d.regs := (rfl)
@[simp] theorem Dev.onReq_shadow (d : Dev) (src : Nat) (f : Requester → Requester) : (d.onReq src f).shadow = d.shadow := (rfl)
@[simp] theorem Dev.onReq_freeCtr (d : Dev) (src : Nat) (f : Requester → Requester) : (d.onReq src f).freeCtr = d.freeCtr := (rfl)
@[simp] theorem Dev.onReq_corrected (d : Dev) (src : Nat) (f : Requester → Requester) : (d.onReq src f).corrected = d.corrected := (rfl)
@[simp] theorem Dev.onReq_top (d : Dev) (src : Nat) (f : Requester → Requester) : (d.onReq src f).top = d.top := (rfl)
@[simp] theorem Dev.onReq_clk (d : Dev) (src : Nat) (f : Requester → Requester) : (d.onReq src f).clk = d.clk := (rfl)
@[simp] theorem Dev.onReq_boot (d : Dev) (src : Nat) (f : Requester → Requester) : (d.onReq src f).boot = d.boot := (rfl)
@[simp] theorem Dev.onReq_seq (d : Dev) (src : Nat) (f : Requester → Requester) : (d.onReq src f).seq = d.seq := (rfl)
@[simp] theorem Dev.onReq_emt (d : Dev) (src : Nat) (f : Requester → Requester) : (d.onReq src f).emt = d.emt := (rfl)
@[simp] theorem Dev.onReq_str (d : Dev) (src : Nat) (f : Requester → Requester) : (d.onReq src f).str = d.str := (rfl)
@[simp] theorem Dev.onReq_rfe (d : Dev) (src : Nat) (f : Requester → Requester) : (d.onReq src f).rfe = d.rfe := (rfl)
@[simp] theorem Dev.onReq_rfePorts (d : Dev) (src : Nat) (f : Requester → Requester) : (d.onReq src f).rfePorts = d.rfePorts := (rfl)
@[simp] theorem Dev.onReq_gat (d : Dev) (src : Nat) (f : Requester → Requester) : (d.onReq src f).gat = d.gat := (rfl)
@[simp] theorem Dev.onReq_hst (d : Dev) (src : Nat) (f : Requester → Requester) : (d.onReq src f).hst = d.hst := (rfl)
@[simp] theorem Dev.onReq_cny (d : Dev) (src : Nat) (f : Requester → Requester) : (d.onReq src f).cny = d.cny := (rfl)
@[simp] theorem Dev.onReq_cal (d : Dev) (src : Nat) (f : Requester → Requester) : (d.onReq src f).cal = d.cal := (rfl)
@[simp] theorem Dev.onReq_fmn (d : Dev) (src : Nat) (f : Requester → Requester) : (d.onReq src f).fmn = d.fmn := (rfl)
@[simp] theorem Dev.onReq_asy (d : Dev) (src : Nat) (f : Requester → Requester) : (d.onReq src f).asy = d.asy := (rfl)
@[simp] theorem Dev.onReq_pnt (d : Dev) (src : Nat) (f : Requester → Requester) : (d.onReq src f).pnt = d.pnt := (rfl)
@[simp] theorem Dev.onReq_lanes (d : Dev) (src : Nat) (f : Requester → Requester) : (d.onReq src f).lanes = d.lanes := (rfl)
@[simp] theorem Dev.onReq_taps (d : Dev) (src : Nat) (f : Requester → Requester) : (d.onReq src f).taps = d.taps := (rfl)
@[simp] theorem Dev.onReq_net (d : Dev) (src : Nat) (f : Requester → Requester) : (d.onReq src f).net = d.net := (rfl)
@[simp] theorem Dev.onReq_sns (d : Dev) (src : Nat) (f : Requester → Requester) : (d.onReq src f).sns = d.sns := (rfl)
@[simp] theorem Dev.onReq_cans (d : Dev) (src : Nat) (f : Requester → Requester) : (d.onReq src f).cans = d.cans := (rfl)
@[simp] theorem Dev.onReq_flts (d : Dev) (src : Nat) (f : Requester → Requester) : (d.onReq src f).flts = d.flts := (rfl)
@[simp] theorem Dev.onReq_hkas (d : Dev) (src : Nat) (f : Requester → Requester) : (d.onReq src f).hkas = d.hkas := (rfl)
@[simp] theorem Dev.onReq_hoi (d : Dev) (src : Nat) (f : Requester → Requester) : (d.onReq src f).hoi = d.hoi := (rfl)
@[simp] theorem Dev.onReq_flg (d : Dev) (src : Nat) (f : Requester → Requester) : (d.onReq src f).flg = d.flg := (rfl)
@[simp] theorem Dev.onReq_jtag (d : Dev) (src : Nat) (f : Requester → Requester) : (d.onReq src f).jtag = d.jtag := (rfl)

/-! `Dev.sticky` changes mgt only. -/
@[simp] theorem Dev.sticky_now (d : Dev) (src b : Nat) : (d.sticky src b).now = d.now := (rfl)
@[simp] theorem Dev.sticky_regs (d : Dev) (src b : Nat) : (d.sticky src b).regs = d.regs := (rfl)
@[simp] theorem Dev.sticky_shadow (d : Dev) (src b : Nat) : (d.sticky src b).shadow = d.shadow := (rfl)
@[simp] theorem Dev.sticky_freeCtr (d : Dev) (src b : Nat) : (d.sticky src b).freeCtr = d.freeCtr := (rfl)
@[simp] theorem Dev.sticky_corrected (d : Dev) (src b : Nat) : (d.sticky src b).corrected = d.corrected := (rfl)
@[simp] theorem Dev.sticky_top (d : Dev) (src b : Nat) : (d.sticky src b).top = d.top := (rfl)
@[simp] theorem Dev.sticky_clk (d : Dev) (src b : Nat) : (d.sticky src b).clk = d.clk := (rfl)
@[simp] theorem Dev.sticky_boot (d : Dev) (src b : Nat) : (d.sticky src b).boot = d.boot := (rfl)
@[simp] theorem Dev.sticky_seq (d : Dev) (src b : Nat) : (d.sticky src b).seq = d.seq := (rfl)
@[simp] theorem Dev.sticky_emt (d : Dev) (src b : Nat) : (d.sticky src b).emt = d.emt := (rfl)
@[simp] theorem Dev.sticky_str (d : Dev) (src b : Nat) : (d.sticky src b).str = d.str := (rfl)
@[simp] theorem Dev.sticky_rfe (d : Dev) (src b : Nat) : (d.sticky src b).rfe = d.rfe := (rfl)
@[simp] theorem Dev.sticky_rfePorts (d : Dev) (src b : Nat) : (d.sticky src b).rfePorts = d.rfePorts := (rfl)
@[simp] theorem Dev.sticky_gat (d : Dev) (src b : Nat) : (d.sticky src b).gat = d.gat := (rfl)
@[simp] theorem Dev.sticky_hst (d : Dev) (src b : Nat) : (d.sticky src b).hst = d.hst := (rfl)
@[simp] theorem Dev.sticky_cny (d : Dev) (src b : Nat) : (d.sticky src b).cny = d.cny := (rfl)
@[simp] theorem Dev.sticky_cal (d : Dev) (src b : Nat) : (d.sticky src b).cal = d.cal := (rfl)
@[simp] theorem Dev.sticky_fmn (d : Dev) (src b : Nat) : (d.sticky src b).fmn = d.fmn := (rfl)
@[simp] theorem Dev.sticky_asy (d : Dev) (src b : Nat) : (d.sticky src b).asy = d.asy := (rfl)
@[simp] theorem Dev.sticky_pnt (d : Dev) (src b : Nat) : (d.sticky src b).pnt = d.pnt := (rfl)
@[simp] theorem Dev.sticky_lanes (d : Dev) (src b : Nat) : (d.sticky src b).lanes = d.lanes := (rfl)
@[simp] theorem Dev.sticky_taps (d : Dev) (src b : Nat) : (d.sticky src b).taps = d.taps := (rfl)
@[simp] theorem Dev.sticky_net (d : Dev) (src b : Nat) : (d.sticky src b).net = d.net := (rfl)
@[simp] theorem Dev.sticky_sns (d : Dev) (src b : Nat) : (d.sticky src b).sns = d.sns := (rfl)
@[simp] theorem Dev.sticky_cans (d : Dev) (src b : Nat) : (d.sticky src b).cans = d.cans := (rfl)
@[simp] theorem Dev.sticky_flts (d : Dev) (src b : Nat) : (d.sticky src b).flts = d.flts := (rfl)
@[simp] theorem Dev.sticky_hkas (d : Dev) (src b : Nat) : (d.sticky src b).hkas = d.hkas := (rfl)
@[simp] theorem Dev.sticky_hoi (d : Dev) (src b : Nat) : (d.sticky src b).hoi = d.hoi := (rfl)
@[simp] theorem Dev.sticky_flg (d : Dev) (src b : Nat) : (d.sticky src b).flg = d.flg := (rfl)
@[simp] theorem Dev.sticky_jtag (d : Dev) (src b : Nat) : (d.sticky src b).jtag = d.jtag := (rfl)

/-! `Dev.onCny` changes cny only. -/
@[simp] theorem Dev.onCny_now (d : Dev) (f : CnyState → CnyState) : (d.onCny f).now = d.now := (rfl)
@[simp] theorem Dev.onCny_regs (d : Dev) (f : CnyState → CnyState) : (d.onCny f).regs = d.regs := (rfl)
@[simp] theorem Dev.onCny_shadow (d : Dev) (f : CnyState → CnyState) : (d.onCny f).shadow = d.shadow := (rfl)
@[simp] theorem Dev.onCny_freeCtr (d : Dev) (f : CnyState → CnyState) : (d.onCny f).freeCtr = d.freeCtr := (rfl)
@[simp] theorem Dev.onCny_corrected (d : Dev) (f : CnyState → CnyState) : (d.onCny f).corrected = d.corrected := (rfl)
@[simp] theorem Dev.onCny_top (d : Dev) (f : CnyState → CnyState) : (d.onCny f).top = d.top := (rfl)
@[simp] theorem Dev.onCny_clk (d : Dev) (f : CnyState → CnyState) : (d.onCny f).clk = d.clk := (rfl)
@[simp] theorem Dev.onCny_boot (d : Dev) (f : CnyState → CnyState) : (d.onCny f).boot = d.boot := (rfl)
@[simp] theorem Dev.onCny_seq (d : Dev) (f : CnyState → CnyState) : (d.onCny f).seq = d.seq := (rfl)
@[simp] theorem Dev.onCny_emt (d : Dev) (f : CnyState → CnyState) : (d.onCny f).emt = d.emt := (rfl)
@[simp] theorem Dev.onCny_str (d : Dev) (f : CnyState → CnyState) : (d.onCny f).str = d.str := (rfl)
@[simp] theorem Dev.onCny_rfe (d : Dev) (f : CnyState → CnyState) : (d.onCny f).rfe = d.rfe := (rfl)
@[simp] theorem Dev.onCny_rfePorts (d : Dev) (f : CnyState → CnyState) : (d.onCny f).rfePorts = d.rfePorts := (rfl)
@[simp] theorem Dev.onCny_gat (d : Dev) (f : CnyState → CnyState) : (d.onCny f).gat = d.gat := (rfl)
@[simp] theorem Dev.onCny_hst (d : Dev) (f : CnyState → CnyState) : (d.onCny f).hst = d.hst := (rfl)
@[simp] theorem Dev.onCny_cal (d : Dev) (f : CnyState → CnyState) : (d.onCny f).cal = d.cal := (rfl)
@[simp] theorem Dev.onCny_fmn (d : Dev) (f : CnyState → CnyState) : (d.onCny f).fmn = d.fmn := (rfl)
@[simp] theorem Dev.onCny_asy (d : Dev) (f : CnyState → CnyState) : (d.onCny f).asy = d.asy := (rfl)
@[simp] theorem Dev.onCny_pnt (d : Dev) (f : CnyState → CnyState) : (d.onCny f).pnt = d.pnt := (rfl)
@[simp] theorem Dev.onCny_lanes (d : Dev) (f : CnyState → CnyState) : (d.onCny f).lanes = d.lanes := (rfl)
@[simp] theorem Dev.onCny_taps (d : Dev) (f : CnyState → CnyState) : (d.onCny f).taps = d.taps := (rfl)
@[simp] theorem Dev.onCny_net (d : Dev) (f : CnyState → CnyState) : (d.onCny f).net = d.net := (rfl)
@[simp] theorem Dev.onCny_sns (d : Dev) (f : CnyState → CnyState) : (d.onCny f).sns = d.sns := (rfl)
@[simp] theorem Dev.onCny_cans (d : Dev) (f : CnyState → CnyState) : (d.onCny f).cans = d.cans := (rfl)
@[simp] theorem Dev.onCny_flts (d : Dev) (f : CnyState → CnyState) : (d.onCny f).flts = d.flts := (rfl)
@[simp] theorem Dev.onCny_hkas (d : Dev) (f : CnyState → CnyState) : (d.onCny f).hkas = d.hkas := (rfl)
@[simp] theorem Dev.onCny_hoi (d : Dev) (f : CnyState → CnyState) : (d.onCny f).hoi = d.hoi := (rfl)
@[simp] theorem Dev.onCny_flg (d : Dev) (f : CnyState → CnyState) : (d.onCny f).flg = d.flg := (rfl)
@[simp] theorem Dev.onCny_mgt (d : Dev) (f : CnyState → CnyState) : (d.onCny f).mgt = d.mgt := (rfl)
@[simp] theorem Dev.onCny_jtag (d : Dev) (f : CnyState → CnyState) : (d.onCny f).jtag = d.jtag := (rfl)

/-! `Dev.journal` changes flg only. -/
@[simp] theorem Dev.journal_now (d : Dev) (src a : Nat) (o w : Word) (i x : Bool) : (d.journal src a o w i x).now = d.now := (rfl)
@[simp] theorem Dev.journal_regs (d : Dev) (src a : Nat) (o w : Word) (i x : Bool) : (d.journal src a o w i x).regs = d.regs := (rfl)
@[simp] theorem Dev.journal_shadow (d : Dev) (src a : Nat) (o w : Word) (i x : Bool) : (d.journal src a o w i x).shadow = d.shadow := (rfl)
@[simp] theorem Dev.journal_freeCtr (d : Dev) (src a : Nat) (o w : Word) (i x : Bool) : (d.journal src a o w i x).freeCtr = d.freeCtr := (rfl)
@[simp] theorem Dev.journal_corrected (d : Dev) (src a : Nat) (o w : Word) (i x : Bool) : (d.journal src a o w i x).corrected = d.corrected := (rfl)
@[simp] theorem Dev.journal_top (d : Dev) (src a : Nat) (o w : Word) (i x : Bool) : (d.journal src a o w i x).top = d.top := (rfl)
@[simp] theorem Dev.journal_clk (d : Dev) (src a : Nat) (o w : Word) (i x : Bool) : (d.journal src a o w i x).clk = d.clk := (rfl)
@[simp] theorem Dev.journal_boot (d : Dev) (src a : Nat) (o w : Word) (i x : Bool) : (d.journal src a o w i x).boot = d.boot := (rfl)
@[simp] theorem Dev.journal_seq (d : Dev) (src a : Nat) (o w : Word) (i x : Bool) : (d.journal src a o w i x).seq = d.seq := (rfl)
@[simp] theorem Dev.journal_emt (d : Dev) (src a : Nat) (o w : Word) (i x : Bool) : (d.journal src a o w i x).emt = d.emt := (rfl)
@[simp] theorem Dev.journal_str (d : Dev) (src a : Nat) (o w : Word) (i x : Bool) : (d.journal src a o w i x).str = d.str := (rfl)
@[simp] theorem Dev.journal_rfe (d : Dev) (src a : Nat) (o w : Word) (i x : Bool) : (d.journal src a o w i x).rfe = d.rfe := (rfl)
@[simp] theorem Dev.journal_rfePorts (d : Dev) (src a : Nat) (o w : Word) (i x : Bool) : (d.journal src a o w i x).rfePorts = d.rfePorts := (rfl)
@[simp] theorem Dev.journal_gat (d : Dev) (src a : Nat) (o w : Word) (i x : Bool) : (d.journal src a o w i x).gat = d.gat := (rfl)
@[simp] theorem Dev.journal_hst (d : Dev) (src a : Nat) (o w : Word) (i x : Bool) : (d.journal src a o w i x).hst = d.hst := (rfl)
@[simp] theorem Dev.journal_cny (d : Dev) (src a : Nat) (o w : Word) (i x : Bool) : (d.journal src a o w i x).cny = d.cny := (rfl)
@[simp] theorem Dev.journal_cal (d : Dev) (src a : Nat) (o w : Word) (i x : Bool) : (d.journal src a o w i x).cal = d.cal := (rfl)
@[simp] theorem Dev.journal_fmn (d : Dev) (src a : Nat) (o w : Word) (i x : Bool) : (d.journal src a o w i x).fmn = d.fmn := (rfl)
@[simp] theorem Dev.journal_asy (d : Dev) (src a : Nat) (o w : Word) (i x : Bool) : (d.journal src a o w i x).asy = d.asy := (rfl)
@[simp] theorem Dev.journal_pnt (d : Dev) (src a : Nat) (o w : Word) (i x : Bool) : (d.journal src a o w i x).pnt = d.pnt := (rfl)
@[simp] theorem Dev.journal_lanes (d : Dev) (src a : Nat) (o w : Word) (i x : Bool) : (d.journal src a o w i x).lanes = d.lanes := (rfl)
@[simp] theorem Dev.journal_taps (d : Dev) (src a : Nat) (o w : Word) (i x : Bool) : (d.journal src a o w i x).taps = d.taps := (rfl)
@[simp] theorem Dev.journal_net (d : Dev) (src a : Nat) (o w : Word) (i x : Bool) : (d.journal src a o w i x).net = d.net := (rfl)
@[simp] theorem Dev.journal_sns (d : Dev) (src a : Nat) (o w : Word) (i x : Bool) : (d.journal src a o w i x).sns = d.sns := (rfl)
@[simp] theorem Dev.journal_cans (d : Dev) (src a : Nat) (o w : Word) (i x : Bool) : (d.journal src a o w i x).cans = d.cans := (rfl)
@[simp] theorem Dev.journal_flts (d : Dev) (src a : Nat) (o w : Word) (i x : Bool) : (d.journal src a o w i x).flts = d.flts := (rfl)
@[simp] theorem Dev.journal_hkas (d : Dev) (src a : Nat) (o w : Word) (i x : Bool) : (d.journal src a o w i x).hkas = d.hkas := (rfl)
@[simp] theorem Dev.journal_hoi (d : Dev) (src a : Nat) (o w : Word) (i x : Bool) : (d.journal src a o w i x).hoi = d.hoi := (rfl)
@[simp] theorem Dev.journal_mgt (d : Dev) (src a : Nat) (o w : Word) (i x : Bool) : (d.journal src a o w i x).mgt = d.mgt := (rfl)
@[simp] theorem Dev.journal_jtag (d : Dev) (src a : Nat) (o w : Word) (i x : Bool) : (d.journal src a o w i x).jtag = d.jtag := (rfl)

/-! `Dev.causeGone` changes flg only. -/
@[simp] theorem Dev.causeGone_now (d : Dev) (c : Nat) : (d.causeGone c).now = d.now := (rfl)
@[simp] theorem Dev.causeGone_regs (d : Dev) (c : Nat) : (d.causeGone c).regs = d.regs := (rfl)
@[simp] theorem Dev.causeGone_shadow (d : Dev) (c : Nat) : (d.causeGone c).shadow = d.shadow := (rfl)
@[simp] theorem Dev.causeGone_freeCtr (d : Dev) (c : Nat) : (d.causeGone c).freeCtr = d.freeCtr := (rfl)
@[simp] theorem Dev.causeGone_corrected (d : Dev) (c : Nat) : (d.causeGone c).corrected = d.corrected := (rfl)
@[simp] theorem Dev.causeGone_top (d : Dev) (c : Nat) : (d.causeGone c).top = d.top := (rfl)
@[simp] theorem Dev.causeGone_clk (d : Dev) (c : Nat) : (d.causeGone c).clk = d.clk := (rfl)
@[simp] theorem Dev.causeGone_boot (d : Dev) (c : Nat) : (d.causeGone c).boot = d.boot := (rfl)
@[simp] theorem Dev.causeGone_seq (d : Dev) (c : Nat) : (d.causeGone c).seq = d.seq := (rfl)
@[simp] theorem Dev.causeGone_emt (d : Dev) (c : Nat) : (d.causeGone c).emt = d.emt := (rfl)
@[simp] theorem Dev.causeGone_str (d : Dev) (c : Nat) : (d.causeGone c).str = d.str := (rfl)
@[simp] theorem Dev.causeGone_rfe (d : Dev) (c : Nat) : (d.causeGone c).rfe = d.rfe := (rfl)
@[simp] theorem Dev.causeGone_rfePorts (d : Dev) (c : Nat) : (d.causeGone c).rfePorts = d.rfePorts := (rfl)
@[simp] theorem Dev.causeGone_gat (d : Dev) (c : Nat) : (d.causeGone c).gat = d.gat := (rfl)
@[simp] theorem Dev.causeGone_hst (d : Dev) (c : Nat) : (d.causeGone c).hst = d.hst := (rfl)
@[simp] theorem Dev.causeGone_cny (d : Dev) (c : Nat) : (d.causeGone c).cny = d.cny := (rfl)
@[simp] theorem Dev.causeGone_cal (d : Dev) (c : Nat) : (d.causeGone c).cal = d.cal := (rfl)
@[simp] theorem Dev.causeGone_fmn (d : Dev) (c : Nat) : (d.causeGone c).fmn = d.fmn := (rfl)
@[simp] theorem Dev.causeGone_asy (d : Dev) (c : Nat) : (d.causeGone c).asy = d.asy := (rfl)
@[simp] theorem Dev.causeGone_pnt (d : Dev) (c : Nat) : (d.causeGone c).pnt = d.pnt := (rfl)
@[simp] theorem Dev.causeGone_lanes (d : Dev) (c : Nat) : (d.causeGone c).lanes = d.lanes := (rfl)
@[simp] theorem Dev.causeGone_taps (d : Dev) (c : Nat) : (d.causeGone c).taps = d.taps := (rfl)
@[simp] theorem Dev.causeGone_net (d : Dev) (c : Nat) : (d.causeGone c).net = d.net := (rfl)
@[simp] theorem Dev.causeGone_sns (d : Dev) (c : Nat) : (d.causeGone c).sns = d.sns := (rfl)
@[simp] theorem Dev.causeGone_cans (d : Dev) (c : Nat) : (d.causeGone c).cans = d.cans := (rfl)
@[simp] theorem Dev.causeGone_flts (d : Dev) (c : Nat) : (d.causeGone c).flts = d.flts := (rfl)
@[simp] theorem Dev.causeGone_hkas (d : Dev) (c : Nat) : (d.causeGone c).hkas = d.hkas := (rfl)
@[simp] theorem Dev.causeGone_hoi (d : Dev) (c : Nat) : (d.causeGone c).hoi = d.hoi := (rfl)
@[simp] theorem Dev.causeGone_mgt (d : Dev) (c : Nat) : (d.causeGone c).mgt = d.mgt := (rfl)
@[simp] theorem Dev.causeGone_jtag (d : Dev) (c : Nat) : (d.causeGone c).jtag = d.jtag := (rfl)

/-! `Dev.advanceTo` changes the tick and the clocks only. -/
@[simp] theorem Dev.advanceTo_regs (d : Dev) (t : Nat) : (d.advanceTo t).regs = d.regs := by unfold Dev.advanceTo; split <;> rfl
@[simp] theorem Dev.advanceTo_shadow (d : Dev) (t : Nat) : (d.advanceTo t).shadow = d.shadow := by unfold Dev.advanceTo; split <;> rfl
@[simp] theorem Dev.advanceTo_freeCtr (d : Dev) (t : Nat) : (d.advanceTo t).freeCtr = d.freeCtr := by unfold Dev.advanceTo; split <;> rfl
@[simp] theorem Dev.advanceTo_corrected (d : Dev) (t : Nat) : (d.advanceTo t).corrected = d.corrected := by unfold Dev.advanceTo; split <;> rfl
@[simp] theorem Dev.advanceTo_top (d : Dev) (t : Nat) : (d.advanceTo t).top = d.top := by unfold Dev.advanceTo; split <;> rfl
@[simp] theorem Dev.advanceTo_boot (d : Dev) (t : Nat) : (d.advanceTo t).boot = d.boot := by unfold Dev.advanceTo; split <;> rfl
@[simp] theorem Dev.advanceTo_seq (d : Dev) (t : Nat) : (d.advanceTo t).seq = d.seq := by unfold Dev.advanceTo; split <;> rfl
@[simp] theorem Dev.advanceTo_emt (d : Dev) (t : Nat) : (d.advanceTo t).emt = d.emt := by unfold Dev.advanceTo; split <;> rfl
@[simp] theorem Dev.advanceTo_str (d : Dev) (t : Nat) : (d.advanceTo t).str = d.str := by unfold Dev.advanceTo; split <;> rfl
@[simp] theorem Dev.advanceTo_rfe (d : Dev) (t : Nat) : (d.advanceTo t).rfe = d.rfe := by unfold Dev.advanceTo; split <;> rfl
@[simp] theorem Dev.advanceTo_rfePorts (d : Dev) (t : Nat) : (d.advanceTo t).rfePorts = d.rfePorts := by unfold Dev.advanceTo; split <;> rfl
@[simp] theorem Dev.advanceTo_gat (d : Dev) (t : Nat) : (d.advanceTo t).gat = d.gat := by unfold Dev.advanceTo; split <;> rfl
@[simp] theorem Dev.advanceTo_hst (d : Dev) (t : Nat) : (d.advanceTo t).hst = d.hst := by unfold Dev.advanceTo; split <;> rfl
@[simp] theorem Dev.advanceTo_cny (d : Dev) (t : Nat) : (d.advanceTo t).cny = d.cny := by unfold Dev.advanceTo; split <;> rfl
@[simp] theorem Dev.advanceTo_cal (d : Dev) (t : Nat) : (d.advanceTo t).cal = d.cal := by unfold Dev.advanceTo; split <;> rfl
@[simp] theorem Dev.advanceTo_fmn (d : Dev) (t : Nat) : (d.advanceTo t).fmn = d.fmn := by unfold Dev.advanceTo; split <;> rfl
@[simp] theorem Dev.advanceTo_asy (d : Dev) (t : Nat) : (d.advanceTo t).asy = d.asy := by unfold Dev.advanceTo; split <;> rfl
@[simp] theorem Dev.advanceTo_pnt (d : Dev) (t : Nat) : (d.advanceTo t).pnt = d.pnt := by unfold Dev.advanceTo; split <;> rfl
@[simp] theorem Dev.advanceTo_lanes (d : Dev) (t : Nat) : (d.advanceTo t).lanes = d.lanes := by unfold Dev.advanceTo; split <;> rfl
@[simp] theorem Dev.advanceTo_taps (d : Dev) (t : Nat) : (d.advanceTo t).taps = d.taps := by unfold Dev.advanceTo; split <;> rfl
@[simp] theorem Dev.advanceTo_net (d : Dev) (t : Nat) : (d.advanceTo t).net = d.net := by unfold Dev.advanceTo; split <;> rfl
@[simp] theorem Dev.advanceTo_sns (d : Dev) (t : Nat) : (d.advanceTo t).sns = d.sns := by unfold Dev.advanceTo; split <;> rfl
@[simp] theorem Dev.advanceTo_cans (d : Dev) (t : Nat) : (d.advanceTo t).cans = d.cans := by unfold Dev.advanceTo; split <;> rfl
@[simp] theorem Dev.advanceTo_flts (d : Dev) (t : Nat) : (d.advanceTo t).flts = d.flts := by unfold Dev.advanceTo; split <;> rfl
@[simp] theorem Dev.advanceTo_hkas (d : Dev) (t : Nat) : (d.advanceTo t).hkas = d.hkas := by unfold Dev.advanceTo; split <;> rfl
@[simp] theorem Dev.advanceTo_hoi (d : Dev) (t : Nat) : (d.advanceTo t).hoi = d.hoi := by unfold Dev.advanceTo; split <;> rfl
@[simp] theorem Dev.advanceTo_flg (d : Dev) (t : Nat) : (d.advanceTo t).flg = d.flg := by unfold Dev.advanceTo; split <;> rfl
@[simp] theorem Dev.advanceTo_mgt (d : Dev) (t : Nat) : (d.advanceTo t).mgt = d.mgt := by unfold Dev.advanceTo; split <;> rfl
@[simp] theorem Dev.advanceTo_jtag (d : Dev) (t : Nat) : (d.advanceTo t).jtag = d.jtag := by unfold Dev.advanceTo; split <;> rfl

/-! `State.onDev` changes the device only. -/
@[simp] theorem State.onDev_sram (s : State) (f : Dev → Dev) : (s.onDev f).sram = s.sram := (rfl)
@[simp] theorem State.onDev_dram (s : State) (f : Dev → Dev) : (s.onDev f).dram = s.dram := (rfl)
@[simp] theorem State.onDev_sramPoison (s : State) (f : Dev → Dev) : (s.onDev f).sramPoison = s.sramPoison := (rfl)
@[simp] theorem State.onDev_writeBacks (s : State) (f : Dev → Dev) : (s.onDev f).writeBacks = s.writeBacks := (rfl)
@[simp] theorem State.onDev_pending (s : State) (f : Dev → Dev) : (s.onDev f).pending = s.pending := (rfl)
@[simp] theorem State.onDev_dev (s : State) (f : Dev → Dev) : (s.onDev f).dev = f s.dev := (rfl)

end Sys2Proof.Machine
end

