-- ==== Sys2Proof/Laws/Ops.lean ====
section
/-! SUPPORT. What the shared operations do: registers and their fields, faults, the journal, ticks and management writes. -/
namespace Sys2Proof.Machine

/-! Registers. -/

theorem Dev.reg_setReg (d : Dev) (a b : Nat) (v : Word) : (d.setReg a v).reg b = if b = a then v else d.reg b :=
  spGet_spSet resetOf d.regs a b v

@[simp] theorem Dev.reg_setReg_self (d : Dev) (a : Nat) (v : Word) : (d.setReg a v).reg a = v := by simp [Dev.reg_setReg]

theorem Dev.reg_setReg_ne (d : Dev) (a b : Nat) (v : Word) (h : b ≠ a) : (d.setReg a v).reg b = d.reg b := by simp [Dev.reg_setReg, h]

/-- A register's value rests on the register words alone. -/
theorem Dev.reg_of_regs {d d' : Dev} (h : d'.regs = d.regs) (a : Nat) : d'.reg a = d.reg a := by simp [Dev.reg, h]

theorem Dev.reg_setFld (d : Dev) (a b m l v : Nat) : (d.setFld a m l v).reg b = if b = a then setBits (d.reg a) m l v else d.reg b :=
  Dev.reg_setReg d a b _

theorem Dev.reg_setFld_ne (d : Dev) (a b m l v : Nat) (h : b ≠ a) : (d.setFld a m l v).reg b = d.reg b := by simp [Dev.reg_setFld, h]

theorem Dev.reg_setBit_ne (d : Dev) (a b i : Nat) (x : Bool) (h : b ≠ a) : (d.setBit a i x).reg b = d.reg b := Dev.reg_setFld_ne d a b i i _ h

theorem Dev.fld_setFld_self (d : Dev) (a m l v : Nat) (h : m < 32) (hl : l ≤ m) : (d.setFld a m l v).fld a m l = v % 2 ^ (m + 1 - l) := by
  simp only [Dev.fld, Dev.setFld, Dev.reg_setReg_self]; exact bits_setBits_self _ m l v h hl

@[simp] theorem Dev.rbit_setBit_self (d : Dev) (a i : Nat) (x : Bool) (h : i < 32) : (d.setBit a i x).rbit a i = x := by
  simp only [Dev.rbit, Dev.setBit, Dev.fld_setFld_self d a i i _ h (Nat.le_refl i)]
  cases x <;> simp [b2n]

theorem Dev.fld_setReg_ne (d : Dev) (a b m l : Nat) (v : Word) (h : b ≠ a) : (d.setReg a v).fld b m l = d.fld b m l := by
  simp [Dev.fld, Dev.reg_setReg_ne d a b v h]

theorem Dev.fld_setFld_ne (d : Dev) (a b m l m' l' v : Nat) (h : b ≠ a) : (d.setFld a m' l' v).fld b m l = d.fld b m l :=
  Dev.fld_setReg_ne d a b m l _ h

theorem Dev.rbit_setBit_ne (d : Dev) (a b i j : Nat) (x : Bool) (h : b ≠ a) : (d.setBit a i x).rbit b j = d.rbit b j := by
  simp only [Dev.rbit, Dev.setBit, Dev.fld_setFld_ne d a b j j i i _ h]

@[simp] theorem Dev.fld_setReg_self (d : Dev) (a m l : Nat) (v : Word) : (d.setReg a v).fld a m l = bits v m l := by simp [Dev.fld]

/-- A write of another field of the word. -/
theorem bits_setBits_other (w : Word) (m l m' l' v : Nat) (hm : m < 32) (hl : l ≤ m) (hl' : l' ≤ m')
    (h : m < l' ∨ m' < l) : bits (setBits w m' l' v) m l = bits w m l := by
  simp only [bits, setBits, BitVec.toNat_ofNat]
  generalize hW : w.toNat = W
  -- the word is split around the field written
  have hp : 0 < 2 ^ l' := Nat.two_pow_pos l'
  have hn : 0 < 2 ^ (m' + 1 - l') := Nat.two_pow_pos _
  generalize hA : W / 2 ^ l' / 2 ^ (m' + 1 - l') = A
  generalize hF : W / 2 ^ l' % 2 ^ (m' + 1 - l') = F
  generalize hL : W % 2 ^ l' = L
  generalize hV : v % 2 ^ (m' + 1 - l') = V
  have hFl : F < 2 ^ (m' + 1 - l') := by rw [← hF]; exact Nat.mod_lt _ hn
  have hVl : V < 2 ^ (m' + 1 - l') := by rw [← hV]; exact Nat.mod_lt _ hn
  have hLl : L < 2 ^ l' := by rw [← hL]; exact Nat.mod_lt _ hp
  have e1 : W = 2 ^ l' * (2 ^ (m' + 1 - l') * A + F) + L := by
    rw [← hA, ← hF, ← hL, Nat.div_add_mod, Nat.div_add_mod]
  have e2 : W - F * 2 ^ l' + V * 2 ^ l' = 2 ^ l' * (2 ^ (m' + 1 - l') * A + V) + L := by
    have : F * 2 ^ l' ≤ W := by
      calc F * 2 ^ l' = 2 ^ l' * F := Nat.mul_comm _ _
        _ ≤ 2 ^ l' * (2 ^ (m' + 1 - l') * A + F) := Nat.mul_le_mul_left _ (Nat.le_add_left _ _)
        _ ≤ W := by omega
    have h3 : W = 2 ^ l' * (2 ^ (m' + 1 - l') * A) + F * 2 ^ l' + L := by rw [e1, Nat.mul_add, Nat.mul_comm F]
    rw [Nat.mul_add, Nat.mul_comm (2 ^ l') V]; omega
  rw [e2]
  have hsplit : ∀ X : Nat, X % 2 ^ 32 / 2 ^ l % 2 ^ (m + 1 - l) = X / 2 ^ l % 2 ^ (m + 1 - l) := by
    intro X
    have hpow : 2 ^ 32 = 2 ^ l * 2 ^ (32 - l) := by rw [← Nat.pow_add]; congr 1; omega
    rw [hpow, Nat.mod_mul_right_div_self]
    exact Nat.mod_mod_of_dvd _ (Nat.pow_dvd_pow 2 (by omega))
  rw [hsplit, ← hW] 
  rw [hW, e1]
  cases h with
  | inl h =>
    have key : ∀ B, (2 ^ l' * B + L) / 2 ^ l % 2 ^ (m + 1 - l) = L / 2 ^ l % 2 ^ (m + 1 - l) := by
      intro B
      have : 2 ^ l' = 2 ^ l * (2 ^ (m + 1 - l) * 2 ^ (l' - (m + 1))) := by
        rw [← Nat.pow_add, ← Nat.pow_add]; congr 1; omega
      rw [this, Nat.mul_assoc, Nat.add_comm, Nat.add_mul_div_left _ _ (Nat.two_pow_pos l), Nat.mul_assoc, Nat.add_mul_mod_self_left]
    rw [key, key]
  | inr h =>
    have key : ∀ X, X < 2 ^ (m' + 1 - l') → (2 ^ l' * (2 ^ (m' + 1 - l') * A + X) + L) / 2 ^ l = A / 2 ^ (l - (m' + 1)) := by
      intro X hX
      have hlt : 2 ^ l' * X + L < 2 ^ (m' + 1) := by
        have : 2 ^ (m' + 1) = 2 ^ l' * 2 ^ (m' + 1 - l') := by rw [← Nat.pow_add]; congr 1; omega
        rw [this]
        calc 2 ^ l' * X + L < 2 ^ l' * X + 2 ^ l' := by omega
          _ = 2 ^ l' * (X + 1) := by rw [Nat.mul_add, Nat.mul_one]
          _ ≤ _ := Nat.mul_le_mul_left _ hX
      have e : 2 ^ l' * (2 ^ (m' + 1 - l') * A + X) + L = 2 ^ (m' + 1) * A + (2 ^ l' * X + L) := by
        rw [Nat.mul_add, ← Nat.mul_assoc, ← Nat.pow_add, show l' + (m' + 1 - l') = m' + 1 by omega, Nat.add_assoc]
      have hl2 : 2 ^ l = 2 ^ (m' + 1) * 2 ^ (l - (m' + 1)) := by rw [← Nat.pow_add]; congr 1; omega
      rw [e, hl2, ← Nat.div_div_eq_div_mul, Nat.mul_add_div (Nat.two_pow_pos _), Nat.div_eq_of_lt hlt, Nat.add_zero]
    rw [key V hVl, key F hFl]

theorem Dev.fld_setFld_other (d : Dev) (a m l m' l' v : Nat) (hm : m < 32) (hl : l ≤ m) (hl' : l' ≤ m')
    (h : m < l' ∨ m' < l) : (d.setFld a m' l' v).fld a m l = d.fld a m l := by
  simp only [Dev.fld, Dev.setFld, Dev.reg_setReg_self]; exact bits_setBits_other _ m l m' l' v hm hl hl' h

/-! Ticks. -/

@[simp] theorem Dev.advanceTo_reg (d : Dev) (t a : Nat) : (d.advanceTo t).reg a = d.reg a := by simp [Dev.reg]
@[simp] theorem Dev.advanceTo_fld (d : Dev) (t a m l : Nat) : (d.advanceTo t).fld a m l = d.fld a m l := by simp [Dev.fld]
@[simp] theorem Dev.advanceTo_rbit (d : Dev) (t a i : Nat) : (d.advanceTo t).rbit a i = d.rbit a i := by simp [Dev.rbit]
@[simp] theorem Dev.advanceTo_running (d : Dev) (t : Nat) : (d.advanceTo t).clk.running = d.clk.running := by
  unfold Dev.advanceTo; split <;> rfl
@[simp] theorem Dev.advanceTo_alive (d : Dev) (t : Nat) : (d.advanceTo t).alive = d.alive := by simp [Dev.alive]
/-- Of the clocks only the time base and its slew fraction move with a tick. -/
theorem Dev.advanceTo_clk (d : Dev) (t : Nat) :
    (d.advanceTo t).clk = { d.clk with timeBase := (d.advanceTo t).clk.timeBase, frac := (d.advanceTo t).clk.frac } := by
  unfold Dev.advanceTo; split <;> rfl
/-- While the clocks run, a tick to come is reached. -/
theorem Dev.advanceTo_now (d : Dev) (t : Nat) (h : d.clk.running = true) : (d.advanceTo t).now = Nat.max d.now t := by
  unfold Dev.advanceTo
  split
  · next hc => simp only [h, Bool.true_and, decide_eq_true_eq] at hc; show t = _; simp only [Nat.max_def]; split <;> omega
  · next hc =>
    simp only [h, Bool.true_and, decide_eq_true_eq] at hc
    simp only [Nat.max_def]; split <;> omega

theorem State.atTick_alive (s : State) (t : Nat) (f : Dev → Dev) (h : s.dev.alive = true) :
    s.atTick t f = .next { s with dev := f (s.dev.advanceTo t) } := by simp [State.atTick, State.mapDev, h]

theorem State.atTick_idle (s : State) (t : Nat) (f : Dev → Dev) (h : s.dev.alive = false) : s.atTick t f = .next s := by
  simp [State.atTick, State.mapDev, h]

theorem State.atTickMem_alive (s : State) (t : Nat) (f : State → State) (h : s.dev.alive = true) :
    s.atTickMem t f = .next { f { s with dev := s.dev.advanceTo t } with pending := s.pending } := by simp [State.atTickMem, h]

theorem State.atTickMem_idle (s : State) (t : Nat) (f : State → State) (h : s.dev.alive = false) : s.atTickMem t f = .next s := by
  simp [State.atTickMem, h]

theorem State.atCny_on (s : State) (t c : Nat) (f : Dev → Dev) (h : s.dev.top.state ≠ .reset) (hl : s.dev.cny.lost = false) :
    s.atCny t c f = .next { s with dev := f ((s.dev.advanceTo t).onCny (fun x => { x with rc := Nat.max x.rc c })) } := by
  simp [State.atCny, State.mapDev, h, hl, Dev.onCny]

/-! The fault log (R410). -/

theorem mem_mput {α : Type} (m : Map α) (k : Nat) (v : α) : (k, v) ∈ mput m k v := by
  induction m with
  | nil => simp [mput]
  | cons p r ih => obtain ⟨k', v'⟩ := p; simp only [mput]; split; · simp
                   · split <;> simp [ih]

/-- An entry listed that is open is found. -/
theorem openEntry_mput (m : Map LogEntry) (k code : Nat) (e : LogEntry) (hc : e.code = code) (ho : e.cleared = false) :
    (openEntry (mput m k e) code).isSome = true := by
  simp only [openEntry, List.find?_isSome]
  exact ⟨(k, e), mem_mput m k e, by simp [hc, ho]⟩

/-- A fault for which the log has room is logged. -/
theorem Dev.logFault_logged (d : Dev) (code : Nat) (cls : FClass) (a r : Bool) (h : d.faultRoom code = true) :
    (d.logFault code cls a r).logged code = true := by
  unfold Dev.logFault
  simp only []
  split
  · next i e he =>
    have hp := List.find?_some (p := fun (p : Nat × LogEntry) => p.2.code == code && !p.2.cleared) he
    simp only [Bool.and_eq_true, beq_iff_eq, Bool.not_eq_true'] at hp
    exact openEntry_mput _ _ _ _ hp.1 hp.2
  · next hn =>
    split
    · exact openEntry_mput _ _ _ _ rfl rfl
    · next hs => simp [Dev.faultRoom, Dev.logged, hn, hs] at h

/-- Logging a fault changes the log, its registers and the causes not logged, and nothing else. -/
theorem Dev.logFault_top_state (d : Dev) (code : Nat) (cls : FClass) (a r : Bool) : (d.logFault code cls a r).top.state = d.top.state := by
  unfold Dev.logFault; simp only []; split
  · rfl
  · split
    · rfl
    · split <;> rfl

theorem Dev.logFault_reg (d : Dev) (code : Nat) (cls : FClass) (act r : Bool) (a : Nat)
    (h : a ≠ R.FLG_CNT_LOST) (h2 : a ≠ R.FLG_CNT_LOST + 4) (h3 : a ≠ R.FLG_STATUS) : (d.logFault code cls act r).reg a = d.reg a := by
  unfold Dev.logFault; simp only []; split
  · rfl
  · split
    · rfl
    · rw [Dev.reg_setBit_ne _ _ _ _ _ h3]
      simp only [Dev.inc64, Dev.setReg64, Dev.reg_setReg_ne _ _ _ _ h, Dev.reg_setReg_ne _ _ _ _ h2]
      split <;> rfl

/-- Raising a class N or D fault logs it. -/
theorem Dev.raise_n (d : Dev) (code : Nat) (act : Bool) : d.raise code .n act = d.logFault code .n act := rfl

/-! Management writes (R43, R414, R423). -/

/-- A write that the device takes, in ARMED, RANGING or HELD. -/
theorem Dev.regWrite_taken (d : Dev) (src a : Nat) (w : Word) (eff : Dev → Dev) (h : d.alive = true) (hs : d.top.state ≠ .headframe) :
    d.regWrite src a w eff =
      (eff ((d.incSat (R.MGT_CNT_WR src) 31 0 1).journal src a ((d.incSat (R.MGT_CNT_WR src) 31 0 1).shown a) w false false)).respond src 0 := by
  have : ((d.incSat (R.MGT_CNT_WR src) 31 0 1).top.state == DevState.headframe) = false := by simpa using hs
  simp only [Dev.regWrite, h, this]; rfl

/-- A write in HEADFRAME is refused. -/
theorem Dev.regWrite_headframe (d : Dev) (src a : Nat) (w : Word) (eff : Dev → Dev) (h : d.alive = true) (hs : d.top.state = .headframe) :
    d.regWrite src a w eff =
      ((d.incSat (R.MGT_CNT_WR src) 31 0 1).journal src a ((d.incSat (R.MGT_CNT_WR src) 31 0 1).shown a) w true false).respond src 2 := by
  have : ((d.incSat (R.MGT_CNT_WR src) 31 0 1).top.state == DevState.headframe) = true := by simpa using hs
  simp only [Dev.regWrite, h, this]; rfl

/-- A command register that is not busy takes the command. -/
theorem Dev.cmdWrite_taken (d : Dev) (src a : Nat) (w : Word) (eff : Dev → Dev) (hb : d.cmdBusy a = false) :
    d.cmdWrite src a w eff = d.regWrite src a w eff := by simp [Dev.cmdWrite, hb]

/-- Every entry the journal takes counts (R414). -/
@[simp] theorem Dev.journal_jseq (d : Dev) (src a : Nat) (o w : Word) (i x : Bool) : (d.journal src a o w i x).flg.jseq = d.flg.jseq + 1 := (rfl)
@[simp] theorem Dev.journal_log (d : Dev) (src a : Nat) (o w : Word) (i x : Bool) : (d.journal src a o w i x).flg.log = d.flg.log := (rfl)

/-- Responding changes the requester's own copy and its error counter only. -/
theorem Dev.respond_reg (d : Dev) (src st a : Nat) (h : a ≠ R.MGT_CNT_ERR src) : (d.respond src st).reg a = d.reg a := by
  simp only [Dev.respond]
  split <;> split <;> first | rfl | (simp only [Dev.incSat, Dev.reg_setFld_ne _ _ _ _ _ _ h]; rfl) | skip
  all_goals (repeat' split) <;> first | rfl | (simp only [Dev.incSat, Dev.reg_setFld_ne _ _ _ _ _ _ h]; rfl)

end Sys2Proof.Machine
end

