-- ==== Sys2Proof/Laws/PerInstr.lean ====
section
/-! SUPPORT. What holds of every command as syntax: one lemma per constructor. -/
namespace Sys2Proof.Laws.Requester

/-- A well-formed command that names a requester names one of the thirteen (Table 20-3). -/
def Statement (i : Instr) : Prop := i.wf = true → ∀ r, i.requester = some r → r < 13

theorem and_left {a b : Bool} (h : (a && b) = true) : a = true := (Bool.and_eq_true a b ▸ h).1
theorem and_right {a b : Bool} (h : (a && b) = true) : b = true := (Bool.and_eq_true a b ▸ h).2

theorem powerOn (cny : Bool) : Statement (.powerOn cny) := fun _ _ h => nomatch h
theorem resetNAssert (c ns : Nat) : Statement (.resetNAssert c ns) := fun _ _ h => nomatch h
theorem resetRelease (straps safeSw c : Nat) : Statement (.resetRelease straps safeSw c) := fun _ _ h => nomatch h
theorem pllLock : Statement (.pllLock) := fun _ _ h => nomatch h
theorem identityKeyDerivation (t : Nat) : Statement (.identityKeyDerivation t) := fun _ _ h => nomatch h
theorem flashDiscovery (t : Nat) (jedec : List Byte) (sfdpOk : Bool) (modes : List (Nat × Nat)) (sizeLog2 : Nat) : Statement (.flashDiscovery t jedec sfdpOk modes sizeLog2) := fun _ _ h => nomatch h
theorem flashReadBurst (t : Nat) (data : List Byte) (failed : Bool) : Statement (.flashReadBurst t data failed) := fun _ _ h => nomatch h
theorem imageVerify (t : Nat) : Statement (.imageVerify t) := fun _ _ h => nomatch h
theorem softReset (t : Nat) : Statement (.softReset t) := fun _ _ h => nomatch h
theorem sectionActivation (t : Nat) (cals : List (Int × Int × Nat × Nat)) : Statement (.sectionActivation t cals) := fun _ _ h => nomatch h
theorem commissioningHandover (t : Nat) (record : List Byte) : Statement (.commissioningHandover t record) := fun _ _ h => nomatch h
theorem start (src t : Nat) : Statement (.start src t) := fun w _ h => Option.some.inj h ▸ (of_decide_eq_true w)
theorem stop (src t : Nat) : Statement (.stop src t) := fun w _ h => Option.some.inj h ▸ (of_decide_eq_true w)
theorem stopComplete (t : Nat) : Statement (.stopComplete t) := fun _ _ h => nomatch h
theorem leaveHeld (src t : Nat) : Statement (.leaveHeld src t) := fun w _ h => Option.some.inj h ▸ (of_decide_eq_true w)
theorem hold (src t : Nat) : Statement (.hold src t) := fun w _ h => Option.some.inj h ▸ (of_decide_eq_true w)
theorem w288WriteBack (t word : Nat) : Statement (.w288WriteBack t word) := fun _ _ h => nomatch h
theorem canaryClockGate (t c ref per : Nat) : Statement (.canaryClockGate t c ref per) := fun _ _ h => nomatch h
theorem pllUnlock (t : Nat) : Statement (.pllUnlock t) := fun _ _ h => nomatch h
theorem pllRelock : Statement (.pllRelock) := fun _ _ h => nomatch h
theorem slewCarry (t : Nat) : Statement (.slewCarry t) := fun _ _ h => nomatch h
theorem stepCommit (src t : Nat) (value : Word) : Statement (.stepCommit src t value) := fun w _ h => Option.some.inj h ▸ (of_decide_eq_true w)
theorem pairLowWrite (src t addr : Nat) (value : Word) : Statement (.pairLowWrite src t addr value) := fun w _ h => Option.some.inj h ▸ (of_decide_eq_true (and_left w))
theorem pairHighWrite (src t addr : Nat) (value : Word) : Statement (.pairHighWrite src t addr value) := fun w _ h => Option.some.inj h ▸ (of_decide_eq_true (and_left w))
theorem lowWordRead (src t addr : Nat) : Statement (.lowWordRead src t addr) := fun w _ h => Option.some.inj h ▸ (of_decide_eq_true (and_left w))
theorem highWordRead (src t addr : Nat) : Statement (.highWordRead src t addr) := fun w _ h => Option.some.inj h ▸ (of_decide_eq_true (and_left w))
theorem syncEpochSend (t : Nat) : Statement (.syncEpochSend t) := fun _ _ h => nomatch h
theorem syncInEdge (t phase : Nat) : Statement (.syncInEdge t phase) := fun _ _ h => nomatch h
theorem syncMessage (t message : Nat) : Statement (.syncMessage t message) := fun _ _ h => nomatch h
theorem syncMessageTimeout (t : Nat) : Statement (.syncMessageTimeout t) := fun _ _ h => nomatch h
theorem timeSourceHoldover (t : Nat) : Statement (.timeSourceHoldover t) := fun _ _ h => nomatch h
theorem ppsInEdge (t phase : Nat) : Statement (.ppsInEdge t phase) := fun _ _ h => nomatch h
theorem ppsOutRise (t : Nat) : Statement (.ppsOutRise t) := fun _ _ h => nomatch h
theorem ppsOutFall (t : Nat) : Statement (.ppsOutFall t) := fun _ _ h => nomatch h
theorem frameAtArm (src t : Nat) (value : Word) : Statement (.frameAtArm src t value) := fun w _ h => Option.some.inj h ▸ (of_decide_eq_true w)
theorem scheduledFrameStart (t : Nat) : Statement (.scheduledFrameStart t) := fun _ _ h => nomatch h
theorem gptpMessage (t ns : Nat) : Statement (.gptpMessage t ns) := fun _ _ h => nomatch h
theorem gptpSyncSend (t : Nat) : Statement (.gptpSyncSend t) := fun _ _ h => nomatch h
theorem fuseKey (src t slot confirm : Nat) : Statement (.fuseKey src t slot confirm) := fun w _ h => Option.some.inj h ▸ (of_decide_eq_true (and_left (and_left w)))
theorem revoke (src t slot confirm : Nat) : Statement (.revoke src t slot confirm) := fun w _ h => Option.some.inj h ▸ (of_decide_eq_true (and_left (and_left w)))
theorem fuseProgrammingDone (t : Nat) (hash : List Word) : Statement (.fuseProgrammingDone t hash) := fun _ _ h => nomatch h
theorem attest (src t : Nat) : Statement (.attest src t) := fun w _ h => Option.some.inj h ▸ (of_decide_eq_true w)
theorem attestDone (t : Nat) : Statement (.attestDone t) := fun _ _ h => nomatch h
theorem frameFirstEntryRead (t errBytes : Nat) : Statement (.frameFirstEntryRead t errBytes) := fun _ _ h => nomatch h
theorem scanEntryRead (t errBytes : Nat) : Statement (.scanEntryRead t errBytes) := fun _ _ h => nomatch h
theorem frameBoundary (t : Nat) (edgePoisoned : Bool) : Statement (.frameBoundary t edgePoisoned) := fun _ _ h => nomatch h
theorem shotIssue (t predicted : Nat) : Statement (.shotIssue t predicted) := fun _ _ h => nomatch h
theorem handover (t : Nat) : Statement (.handover t) := fun _ _ h => nomatch h
theorem steeringSettled (t : Nat) : Statement (.steeringSettled t) := fun _ _ h => nomatch h
theorem settleTimeout (t port : Nat) : Statement (.settleTimeout t port) := fun _ _ h => nomatch h
theorem admissionTest (t : Nat) : Statement (.admissionTest t) := fun _ _ h => nomatch h
theorem fire (t : Nat) : Statement (.fire t) := fun _ _ h => nomatch h
theorem confidenceFlag (t cell frame : Nat) : Statement (.confidenceFlag t cell frame) := fun _ _ h => nomatch h
theorem squash (t cell frame : Nat) : Statement (.squash t cell frame) := fun _ _ h => nomatch h
theorem seqSquashCmd (src t : Nat) (value : Word) : Statement (.seqSquashCmd src t value) := fun w _ h => Option.some.inj h ▸ (of_decide_eq_true w)
theorem accountingCheck (t : Nat) : Statement (.accountingCheck t) := fun _ _ h => nomatch h
theorem tallyParityError (t : Nat) : Statement (.tallyParityError t) := fun _ _ h => nomatch h
theorem tallySnapshotRead (src t slot word : Nat) : Statement (.tallySnapshotRead src t slot word) := fun w _ h => Option.some.inj h ▸ (of_decide_eq_true (and_left (and_left w)))
theorem inhibitAssert (t : Nat) : Statement (.inhibitAssert t) := fun _ _ h => nomatch h
theorem enSettleExpiry (t : Nat) : Statement (.enSettleExpiry t) := fun _ _ h => nomatch h
theorem monConversion (t emitter result : Nat) : Statement (.monConversion t emitter result) := fun _ _ h => nomatch h
theorem monDebitCorrection (t : Nat) : Statement (.monDebitCorrection t) := fun _ _ h => nomatch h
theorem strayMonPulse (t emitter : Nat) : Statement (.strayMonPulse t emitter) := fun _ _ h => nomatch h
theorem budgetBucketBoundary (t : Nat) : Statement (.budgetBucketBoundary t) := fun _ _ h => nomatch h
theorem emtReinstate (src t emitter : Nat) : Statement (.emtReinstate src t emitter) := fun w _ h => Option.some.inj h ▸ (of_decide_eq_true (and_left w))
theorem budgetParityError (t : Nat) : Statement (.budgetParityError t) := fun _ _ h => nomatch h
theorem positionSample (t port : Nat) (a b : Int) (unitDone unitOk : Bool) : Statement (.positionSample t port a b unitDone unitOk) := fun _ _ h => nomatch h
theorem relockTimeout (t port : Nat) : Statement (.relockTimeout t port) := fun _ _ h => nomatch h
theorem strReinstate (src t port : Nat) : Statement (.strReinstate src t port) := fun w _ h => Option.some.inj h ▸ (of_decide_eq_true (and_left w))
theorem polygonIndex (t port : Nat) : Statement (.polygonIndex t port) := fun _ _ h => nomatch h
theorem indexTimeout (t port : Nat) : Statement (.indexTimeout t port) := fun _ _ h => nomatch h
theorem strModeWrite (src t port : Nat) (value : Word) : Statement (.strModeWrite src t port value) := fun w _ h => Option.some.inj h ▸ (of_decide_eq_true (and_left w))
theorem leadingEdge (t ch fine : Nat) : Statement (.leadingEdge t ch fine) := fun _ _ h => nomatch h
theorem eventComplete (t ch width : Nat) (hi : Bool) : Statement (.eventComplete t ch width hi) := fun _ _ h => nomatch h
theorem windowBoundaryApply (t ch : Nat) : Statement (.windowBoundaryApply t ch) := fun _ _ h => nomatch h
theorem settleEnd (t ch : Nat) : Statement (.settleEnd t ch) := fun _ _ h => nomatch h
theorem rfeModeWrite (src t ch : Nat) (value : Word) : Statement (.rfeModeWrite src t ch value) := fun w _ h => Option.some.inj h ▸ (of_decide_eq_true (and_left w))
theorem meterRoundClose (t : Nat) : Statement (.meterRoundClose t) := fun _ _ h => nomatch h
theorem quadrantSupplyTrip (t quadrant : Nat) : Statement (.quadrantSupplyTrip t quadrant) := fun _ _ h => nomatch h
theorem lineMonitorCheck (t ch tap : Nat) : Statement (.lineMonitorCheck t ch tap) := fun _ _ h => nomatch h
theorem comparatorStuck (t ch : Nat) : Statement (.comparatorStuck t ch) := fun _ _ h => nomatch h
theorem trimParityError (t ch : Nat) : Statement (.trimParityError t ch) := fun _ _ h => nomatch h
theorem reinstateCh (src t ch : Nat) (compLow : Bool) : Statement (.reinstateCh src t ch compLow) := fun w _ h => Option.some.inj h ▸ (of_decide_eq_true (and_left w))
theorem reinstateQuad (src t quadrant : Nat) : Statement (.reinstateQuad src t quadrant) := fun w _ h => Option.some.inj h ▸ (of_decide_eq_true (and_left w))
theorem windowOpen (t : Nat) : Statement (.windowOpen t) := fun _ _ h => nomatch h
theorem checkIn (t : Nat) : Statement (.checkIn t) := fun _ _ h => nomatch h
theorem eventArrival (t ch : Nat) : Statement (.eventArrival t ch) := fun _ _ h => nomatch h
theorem verdict (t : Nat) : Statement (.verdict t) := fun _ _ h => nomatch h
theorem eventCommit (t errBytes : Nat) : Statement (.eventCommit t errBytes) := fun _ _ h => nomatch h
theorem histogramUpdate (t half errBytes : Nat) : Statement (.histogramUpdate t half errBytes) := fun _ _ h => nomatch h
theorem histogramClosing (t : Nat) : Statement (.histogramClosing t) := fun _ _ h => nomatch h
theorem sieveLaneTake (t lane : Nat) (errWords : List Nat) (exportRoom : Bool) : Statement (.sieveLaneTake t lane errWords exportRoom) := fun _ _ h => nomatch h
theorem histogramReadoutEnd (t lane : Nat) : Statement (.histogramReadoutEnd t lane) := fun _ _ h => nomatch h
theorem candidateHandoff (t lane errBytes : Nat) : Statement (.candidateHandoff t lane errBytes) := fun _ _ h => nomatch h
theorem lodeWriteBack (t : Nat) (errSlots : List Nat) : Statement (.lodeWriteBack t errSlots) := fun _ _ h => nomatch h
theorem lodeClearPass (t : Nat) : Statement (.lodeClearPass t) := fun _ _ h => nomatch h
theorem hstWindowWrite (src t addr : Nat) (value : Word) : Statement (.hstWindowWrite src t addr value) := fun w _ h => Option.some.inj h ▸ (of_decide_eq_true (and_left w))
theorem hstSlotSnapshotRead (src t entry word : Nat) : Statement (.hstSlotSnapshotRead src t entry word) := fun w _ h => Option.some.inj h ▸ (of_decide_eq_true (and_left (and_left w)))
theorem slotTableParityError (t : Nat) : Statement (.slotTableParityError t) := fun _ _ h => nomatch h
theorem setCopy (t core : Nat) : Statement (.setCopy t core) := fun _ _ h => nomatch h
theorem batch (t core : Nat) : Statement (.batch t core) := fun _ _ h => nomatch h
theorem canary (t core : Nat) : Statement (.canary t core) := fun _ _ h => nomatch h
theorem round (t core : Nat) : Statement (.round t core) := fun _ _ h => nomatch h
theorem batchTimeLimit (t core : Nat) : Statement (.batchTimeLimit t core) := fun _ _ h => nomatch h
theorem divisionResult (t core : Nat) : Statement (.divisionResult t core) := fun _ _ h => nomatch h
theorem loopCountEnd (t core : Nat) : Statement (.loopCountEnd t core) := fun _ _ h => nomatch h
theorem backgroundSliceExhausted (t core : Nat) : Statement (.backgroundSliceExhausted t core) := fun _ _ h => nomatch h
theorem nop (t core : Nat) : Statement (.nop t core) := fun _ _ h => nomatch h
theorem mpy (t core errU errV stall : Nat) : Statement (.mpy t core errU errV stall) := fun _ _ h => nomatch h
theorem mac (t core errU errV stall : Nat) : Statement (.mac t core errU errV stall) := fun _ _ h => nomatch h
theorem msu (t core errU errV stall : Nat) : Statement (.msu t core errU errV stall) := fun _ _ h => nomatch h
theorem dmpy (t core errU errV stall : Nat) : Statement (.dmpy t core errU errV stall) := fun _ _ h => nomatch h
theorem dmac (t core errU errV stall : Nat) : Statement (.dmac t core errU errV stall) := fun _ _ h => nomatch h
theorem dmsu (t core errU errV stall : Nat) : Statement (.dmsu t core errU errV stall) := fun _ _ h => nomatch h
theorem pld (t core errU errV stall : Nat) : Statement (.pld t core errU errV stall) := fun _ _ h => nomatch h
theorem add (t core : Nat) : Statement (.add t core) := fun _ _ h => nomatch h
theorem sub (t core : Nat) : Statement (.sub t core) := fun _ _ h => nomatch h
theorem cmp (t core : Nat) : Statement (.cmp t core) := fun _ _ h => nomatch h
theorem and (t core : Nat) : Statement (.and t core) := fun _ _ h => nomatch h
theorem or (t core : Nat) : Statement (.or t core) := fun _ _ h => nomatch h
theorem xor (t core : Nat) : Statement (.xor t core) := fun _ _ h => nomatch h
theorem andn (t core : Nat) : Statement (.andn t core) := fun _ _ h => nomatch h
theorem shl (t core : Nat) : Statement (.shl t core) := fun _ _ h => nomatch h
theorem shr (t core : Nat) : Statement (.shr t core) := fun _ _ h => nomatch h
theorem sra (t core : Nat) : Statement (.sra t core) := fun _ _ h => nomatch h
theorem min (t core : Nat) : Statement (.min t core) := fun _ _ h => nomatch h
theorem max (t core : Nat) : Statement (.max t core) := fun _ _ h => nomatch h
theorem abs (t core : Nat) : Statement (.abs t core) := fun _ _ h => nomatch h
theorem neg (t core : Nat) : Statement (.neg t core) := fun _ _ h => nomatch h
theorem ext (t core : Nat) : Statement (.ext t core) := fun _ _ h => nomatch h
theorem ins (t core : Nat) : Statement (.ins t core) := fun _ _ h => nomatch h
theorem mul (t core : Nat) : Statement (.mul t core) := fun _ _ h => nomatch h
theorem norm (t core : Nat) : Statement (.norm t core) := fun _ _ h => nomatch h
theorem div (t core : Nat) : Statement (.div t core) := fun _ _ h => nomatch h
theorem divu (t core : Nat) : Statement (.divu t core) := fun _ _ h => nomatch h
theorem clra (t core : Nat) : Statement (.clra t core) := fun _ _ h => nomatch h
theorem adda (t core : Nat) : Statement (.adda t core) := fun _ _ h => nomatch h
theorem suba (t core : Nat) : Statement (.suba t core) := fun _ _ h => nomatch h
theorem mova (t core : Nat) : Statement (.mova t core) := fun _ _ h => nomatch h
theorem sha (t core : Nat) : Statement (.sha t core) := fun _ _ h => nomatch h
theorem addaa (t core : Nat) : Statement (.addaa t core) := fun _ _ h => nomatch h
theorem rnda (t core : Nat) : Statement (.rnda t core) := fun _ _ h => nomatch h
theorem ldi (t core : Nat) : Statement (.ldi t core) := fun _ _ h => nomatch h
theorem ldih (t core : Nat) : Statement (.ldih t core) := fun _ _ h => nomatch h
theorem addi (t core : Nat) : Statement (.addi t core) := fun _ _ h => nomatch h
theorem cmpi (t core : Nat) : Statement (.cmpi t core) := fun _ _ h => nomatch h
theorem ldu (t core errU errV stall : Nat) : Statement (.ldu t core errU errV stall) := fun _ _ h => nomatch h
theorem ldv (t core errU errV stall : Nat) : Statement (.ldv t core errU errV stall) := fun _ _ h => nomatch h
theorem stu (t core errU errV stall : Nat) : Statement (.stu t core errU errV stall) := fun _ _ h => nomatch h
theorem stv (t core errU errV stall : Nat) : Statement (.stv t core errU errV stall) := fun _ _ h => nomatch h
theorem setp (t core : Nat) : Statement (.setp t core) := fun _ _ h => nomatch h
theorem br (t core : Nat) : Statement (.br t core) := fun _ _ h => nomatch h
theorem call (t core : Nat) : Statement (.call t core) := fun _ _ h => nomatch h
theorem jr (t core : Nat) : Statement (.jr t core) := fun _ _ h => nomatch h
theorem doLoop (t core : Nat) : Statement (.doLoop t core) := fun _ _ h => nomatch h
theorem rete (t core : Nat) : Statement (.rete t core) := fun _ _ h => nomatch h
theorem movs (t core : Nat) : Statement (.movs t core) := fun _ _ h => nomatch h
theorem wait (t core : Nat) : Statement (.wait t core) := fun _ _ h => nomatch h
theorem illegalInstruction (t core : Nat) : Statement (.illegalInstruction t core) := fun _ _ h => nomatch h
theorem poisonedFetch (t core errBytes : Nat) : Statement (.poisonedFetch t core errBytes) := fun _ _ h => nomatch h
theorem asyHalt (src t core : Nat) (value : Word) : Statement (.asyHalt src t core value) := fun w _ h => Option.some.inj h ▸ (of_decide_eq_true (and_left w))
theorem asyDispatchWrite (src t core : Nat) (value : Word) : Statement (.asyDispatchWrite src t core value) := fun w _ h => Option.some.inj h ▸ (of_decide_eq_true (and_left w))
theorem asyStep (src t core errU errV stall : Nat) : Statement (.asyStep src t core errU errV stall) := fun w _ h => Option.some.inj h ▸ (of_decide_eq_true (and_left (and_left (and_left w))))
theorem breakpointHit (t core : Nat) : Statement (.breakpointHit t core) := fun _ _ h => nomatch h
theorem asyRegisterWindowAccess (src t core off : Nat) (write : Bool) (value : Word) (errBytes : Nat) : Statement (.asyRegisterWindowAccess src t core off write value errBytes) := fun w _ h => Option.some.inj h ▸ (of_decide_eq_true (and_left (and_left w)))
theorem pointAccept (t core : Nat) : Statement (.pointAccept t core) := fun _ _ h => nomatch h
theorem noBatchFallback (t : Nat) : Statement (.noBatchFallback t) := fun _ _ h => nomatch h
theorem packetClose (t stream : Nat) (errRecords : List Nat) (csiRoom ethRoom : Bool) : Statement (.packetClose t stream errRecords csiRoom ethRoom) := fun _ _ h => nomatch h
theorem bulkDropGapRecord (t stream : Nat) : Statement (.bulkDropGapRecord t stream) := fun _ _ h => nomatch h
theorem lodeExport (src t : Nat) : Statement (.lodeExport src t) := fun w _ h => Option.some.inj h ▸ (of_decide_eq_true w)
theorem journalDump (src t : Nat) : Statement (.journalDump src t) := fun w _ h => Option.some.inj h ▸ (of_decide_eq_true w)
theorem flush (src t stream : Nat) : Statement (.flush src t stream) := fun w _ h => Option.some.inj h ▸ (of_decide_eq_true (and_left w))
theorem roundBoundary (t : Nat) : Statement (.roundBoundary t) := fun _ _ h => nomatch h
theorem activityRequest (t activity units : Nat) (panic : Bool) : Statement (.activityRequest t activity units panic) := fun _ _ h => nomatch h
theorem check (src t : Nat) : Statement (.check src t) := fun w _ h => Option.some.inj h ▸ (of_decide_eq_true w)
theorem admissionCheckDone (t : Nat) : Statement (.admissionCheckDone t) := fun _ _ h => nomatch h
theorem fmnAllocWrite (src t activity : Nat) (value : Word) : Statement (.fmnAllocWrite src t activity value) := fun w _ h => Option.some.inj h ▸ (of_decide_eq_true (and_left w))
theorem foremanParityError (t : Nat) : Statement (.foremanParityError t) := fun _ _ h => nomatch h
theorem wavTapCfgWrite (src t tap : Nat) (value : Word) : Statement (.wavTapCfgWrite src t tap value) := fun w _ h => Option.some.inj h ▸ (of_decide_eq_true (and_left w))
theorem levelTrigger (t tap k : Nat) (samples : List Nat) : Statement (.levelTrigger t tap k samples) := fun _ _ h => nomatch h
theorem trigInEdge (t tick fine : Nat) : Statement (.trigInEdge t tick fine) := fun _ _ h => nomatch h
theorem triggerDecision (t tap : Nat) : Statement (.triggerDecision t tap) := fun _ _ h => nomatch h
theorem writeBufferFull (t tap full : Nat) (samples : List Nat) : Statement (.writeBufferFull t tap full samples) := fun _ _ h => nomatch h
theorem captureEnd (t tap : Nat) (samples : List Nat) : Statement (.captureEnd t tap samples) := fun _ _ h => nomatch h
theorem recordWritten (t tap preEnd : Nat) : Statement (.recordWritten t tap preEnd) := fun _ _ h => nomatch h
theorem rearmEnd (t tap : Nat) : Statement (.rearmEnd t tap) := fun _ _ h => nomatch h
theorem wavGapRecord (t tap : Nat) : Statement (.wavGapRecord t tap) := fun _ _ h => nomatch h
theorem wavFlush (src t tap : Nat) : Statement (.wavFlush src t tap) := fun w _ h => Option.some.inj h ▸ (of_decide_eq_true (and_left w))
theorem flushExecute (t tap : Nat) : Statement (.flushExecute t tap) := fun _ _ h => nomatch h
theorem ringDrainApply (t tap : Nat) : Statement (.ringDrainApply t tap) := fun _ _ h => nomatch h
theorem streamRecordRead (t tap : Nat) (errWords : List Nat) : Statement (.streamRecordRead t tap errWords) := fun _ _ h => nomatch h
theorem tapParityError (t tap : Nat) : Statement (.tapParityError t tap) := fun _ _ h => nomatch h
theorem hkaConversion (t u : Nat) (value : Int) (overload : Bool) : Statement (.hkaConversion t u value overload) := fun _ _ h => nomatch h
theorem hkaStart (src t u : Nat) : Statement (.hkaStart src t u) := fun w _ h => Option.some.inj h ▸ (of_decide_eq_true (and_left w))
theorem hkaTimerOverflow (t timer : Nat) : Statement (.hkaTimerOverflow t timer) := fun _ _ h => nomatch h
theorem startDelayEnd (t u : Nat) : Statement (.startDelayEnd t u) := fun _ _ h => nomatch h
theorem inject (src t u burst input : Nat) : Statement (.inject src t u burst input) := fun w _ h => Option.some.inj h ▸ (of_decide_eq_true (and_left (and_left (and_left w))))
theorem injectionDone (t u : Nat) (samples : List Int) : Statement (.injectionDone t u samples) := fun _ _ h => nomatch h
theorem hkaCal (src t u : Nat) : Statement (.hkaCal src t u) := fun w _ h => Option.some.inj h ▸ (of_decide_eq_true (and_left w))
theorem selfCalibrationDone (t u : Nat) (offset gainPpm : Int) (offCode gainCode : Nat) : Statement (.selfCalibrationDone t u offset gainPpm offCode gainCode) := fun _ _ h => nomatch h
theorem filterOutput (t ch : Nat) (inputs : List (Int × Int)) : Statement (.filterOutput t ch inputs) := fun _ _ h => nomatch h
theorem swap (src t ch : Nat) : Statement (.swap src t ch) := fun w _ h => Option.some.inj h ▸ (of_decide_eq_true (and_left w))
theorem fadeEnd (t ch : Nat) : Statement (.fadeEnd t ch) := fun _ _ h => nomatch h
theorem fltSync (src t ch : Nat) : Statement (.fltSync src t ch) := fun w _ h => Option.some.inj h ▸ (of_decide_eq_true (and_left w))
theorem synchronisingReset (t ch : Nat) : Statement (.synchronisingReset t ch) := fun _ _ h => nomatch h
theorem fltReinstate (src t ch : Nat) : Statement (.fltReinstate src t ch) := fun w _ h => Option.some.inj h ▸ (of_decide_eq_true (and_left w))
theorem fltBankWrite (src t addr : Nat) (value : Word) : Statement (.fltBankWrite src t addr value) := fun w _ h => Option.some.inj h ▸ (of_decide_eq_true (and_left w))
theorem filterParityError (t ch : Nat) : Statement (.filterParityError t ch) := fun _ _ h => nomatch h
theorem sensorSlotEnd (t conv : Nat) (value lead : Int) (tripped : Bool) : Statement (.sensorSlotEnd t conv value lead tripped) := fun _ _ h => nomatch h
theorem biasSlewStep (t : Nat) : Statement (.biasSlewStep t) := fun _ _ h => nomatch h
theorem openWireTrip (t ch : Nat) : Statement (.openWireTrip t ch) := fun _ _ h => nomatch h
theorem leadTestStart (t ch : Nat) : Statement (.leadTestStart t ch) := fun _ _ h => nomatch h
theorem leadTestEnd (t ch milliOhm first last : Nat) : Statement (.leadTestEnd t ch milliOhm first last) := fun _ _ h => nomatch h
theorem heaterPeriodStart (t k : Nat) : Statement (.heaterPeriodStart t k) := fun _ _ h => nomatch h
theorem heaterDutyEnd (t k : Nat) : Statement (.heaterDutyEnd t k) := fun _ _ h => nomatch h
theorem encoderEdge (t k : Nat) (a b : Bool) : Statement (.encoderEdge t k a b) := fun _ _ h => nomatch h
theorem encoderIndex (t k : Nat) : Statement (.encoderIndex t k) := fun _ _ h => nomatch h
theorem imuTrigger (t : Nat) (byInt : Bool) : Statement (.imuTrigger t byInt) := fun _ _ h => nomatch h
theorem imuXfer (src t : Nat) : Statement (.imuXfer src t) := fun w _ h => Option.some.inj h ▸ (of_decide_eq_true w)
theorem imuTransferDone (t : Nat) (data : List Byte) : Statement (.imuTransferDone t data) := fun _ _ h => nomatch h
theorem canFrameReceived (t n id dlc : Nat) (ide fd brs esi : Bool) (data : List Byte) (sof : Nat) (outs : List Outside) : Statement (.canFrameReceived t n id dlc ide fd brs esi data sof outs) := fun w _ h => Option.some.inj h ▸ Nat.add_lt_add_left (of_decide_eq_true (and_left (and_left w))) 11
theorem canFrameTransmitted (t n : Nat) : Statement (.canFrameTransmitted t n) := fun _ _ h => nomatch h
theorem canBusOff (t n : Nat) : Statement (.canBusOff t n) := fun _ _ h => nomatch h
theorem recover (src t n : Nat) : Statement (.recover src t n) := fun w _ h => Option.some.inj h ▸ (of_decide_eq_true (and_left w))
theorem canAutoRecovery (t n : Nat) : Statement (.canAutoRecovery t n) := fun _ _ h => nomatch h
theorem canCanaryWrite (src t addr : Nat) (value : Word) : Statement (.canCanaryWrite src t addr value) := fun w _ h => Option.some.inj h ▸ (of_decide_eq_true (and_left w))
theorem trainingStepDone (t : Nat) (ok : Bool) (results : List (Nat × Nat × Nat)) : Statement (.trainingStepDone t ok results) := fun _ _ h => nomatch h
theorem trainingComplete (t : Nat) (baseline : Bool) : Statement (.trainingComplete t baseline) := fun _ _ h => nomatch h
theorem hoiRetrain (src t : Nat) : Statement (.hoiRetrain src t) := fun w _ h => Option.some.inj h ▸ (of_decide_eq_true w)
theorem hoiRateWrite (src t : Nat) (value : Word) : Statement (.hoiRateWrite src t value) := fun w _ h => Option.some.inj h ▸ (of_decide_eq_true w)
theorem laneTest (src t ch rank : Nat) : Statement (.laneTest src t ch rank) := fun w _ h => Option.some.inj h ▸ (of_decide_eq_true (and_left (and_left w)))
theorem laneTestDone (t : Nat) (bad : List Nat) : Statement (.laneTestDone t bad) := fun _ _ h => nomatch h
theorem dramRead (t activity addr err0 err1 : Nat) (tagBad : Bool) : Statement (.dramRead t activity addr err0 err1 tagBad) := fun _ _ h => nomatch h
theorem dramWrite (t activity addr : Nat) (data : List Byte) (poison : Bool) (err0 err1 : Nat) : Statement (.dramWrite t activity addr data poison err0 err1) := fun _ _ h => nomatch h
theorem correctedWriteBack (t ch : Nat) : Statement (.correctedWriteBack t ch) := fun _ _ h => nomatch h
theorem refreshDue (t ch rank bankIdx : Nat) (wavPanic : Bool) : Statement (.refreshDue t ch rank bankIdx wavPanic) := fun _ _ h => nomatch h
theorem temperaturePoll (t ch rank : Nat) (asks : Bool) : Statement (.temperaturePoll t ch rank asks) := fun _ _ h => nomatch h
theorem neighbourRefresh (t ch : Nat) : Statement (.neighbourRefresh t ch) := fun _ _ h => nomatch h
theorem refreshWindowEnd (t ch : Nat) : Statement (.refreshWindowEnd t ch) := fun _ _ h => nomatch h
theorem parityAlert (t ch : Nat) (inReplay : Bool) : Statement (.parityAlert t ch inReplay) := fun _ _ h => nomatch h
theorem selfRefreshEntry (t ch : Nat) (aborted : Bool) : Statement (.selfRefreshEntry t ch aborted) := fun _ _ h => nomatch h
theorem selfRefreshExit (t ch : Nat) : Statement (.selfRefreshExit t ch) := fun _ _ h => nomatch h
theorem hoistQueueParityError (t : Nat) : Statement (.hoistQueueParityError t) := fun _ _ h => nomatch h
theorem laneEnable (src t lane : Nat) (value : Word) : Statement (.laneEnable src t lane value) := fun w _ h => Option.some.inj h ▸ (of_decide_eq_true (and_left w))
theorem laneLock (t lane : Nat) : Statement (.laneLock t lane) := fun _ _ h => nomatch h
theorem lockLoss (t lane : Nat) : Statement (.lockLoss t lane) := fun _ _ h => nomatch h
theorem lockLossTimeout (t lane : Nat) : Statement (.lockLossTimeout t lane) := fun _ _ h => nomatch h
theorem capSymbol (t lane err version highest dev number : Nat) (seen : Bool) (part : Nat) : Statement (.capSymbol t lane err version highest dev number seen part) := fun _ _ h => nomatch h
theorem rateSymbol (t lane err op gen : Nat) (pass : Bool) : Statement (.rateSymbol t lane err op gen pass) := fun _ _ h => nomatch h
theorem prbsMarker (t lane err gen : Nat) : Statement (.prbsMarker t lane err gen) := fun _ _ h => nomatch h
theorem prbsCheckEnd (t lane errors : Nat) : Statement (.prbsCheckEnd t lane errors) := fun _ _ h => nomatch h
theorem rateResultTimeout (t lane : Nat) : Statement (.rateResultTimeout t lane) := fun _ _ h => nomatch h
theorem dataSymbol (t lane err : Nat) : Statement (.dataSymbol t lane err) := fun _ _ h => nomatch h
theorem timeSymbol (t lane err : Nat) : Statement (.timeSymbol t lane err) := fun _ _ h => nomatch h
theorem safeSymbol (t c lane err : Nat) (msg : List Byte) : Statement (.safeSymbol t c lane err msg) := fun _ _ h => nomatch h
theorem unknownSymbol (t lane err : Nat) : Statement (.unknownSymbol t lane err) := fun _ _ h => nomatch h
theorem stuffingError (t lane : Nat) : Statement (.stuffingError t lane) := fun _ _ h => nomatch h
theorem elasticBufferAdjust (t lane fill : Nat) (trailing broken : Bool) : Statement (.elasticBufferAdjust t lane fill trailing broken) := fun _ _ h => nomatch h
theorem frameSlotTransmit (t lane dur : Nat) : Statement (.frameSlotTransmit t lane dur) := fun _ _ h => nomatch h
theorem timeSymbolDue (t lane : Nat) : Statement (.timeSymbolDue t lane) := fun _ _ h => nomatch h
theorem lnkRetrain (src t lane : Nat) : Statement (.lnkRetrain src t lane) := fun w _ h => Option.some.inj h ▸ (of_decide_eq_true (and_left w))
theorem lnkReinstate (src t lane : Nat) : Statement (.lnkReinstate src t lane) := fun w _ h => Option.some.inj h ▸ (of_decide_eq_true (and_left w))
theorem genCapWrite (src t lane : Nat) (value : Word) : Statement (.genCapWrite src t lane value) := fun w _ h => Option.some.inj h ▸ (of_decide_eq_true (and_left w))
theorem laneParityError (t lane : Nat) : Statement (.laneParityError t lane) := fun _ _ h => nomatch h
theorem csiEnable (src t : Nat) (value : Word) : Statement (.csiEnable src t value) := fun w _ h => Option.some.inj h ▸ (of_decide_eq_true w)
theorem dphyPllUnlock (t : Nat) : Statement (.dphyPllUnlock t) := fun _ _ h => nomatch h
theorem arpRequest (t : Nat) (vid : Option Nat) (target : Word) (sender : List Byte) : Statement (.arpRequest t vid target sender) := fun _ _ h => nomatch h
theorem neighbourSolicitation (t : Nat) (vid : Option Nat) (target : List Byte) : Statement (.neighbourSolicitation t vid target) := fun _ _ h => nomatch h
theorem mgtDatagram (t : Nat) (vid : Option Nat) (port srcPort : Nat) (req : List Byte) (outs : List Outside) : Statement (.mgtDatagram t vid port srcPort req outs) := fun _ _ h => Option.some.inj h ▸ by decide
theorem safetyDatagram (t c : Nat) (vid : Option Nat) (msg : List Byte) : Statement (.safetyDatagram t c vid msg) := fun _ _ h => nomatch h
theorem otherFrame (t : Nat) : Statement (.otherFrame t) := fun _ _ h => nomatch h
theorem ethLinkDown (t : Nat) : Statement (.ethLinkDown t) := fun _ _ h => nomatch h
theorem c22Read (src t phy reg : Nat) (turn : Bool) (data : Nat) : Statement (.c22Read src t phy reg turn data) := fun w _ h => Option.some.inj h ▸ (of_decide_eq_true (and_left (and_left w)))
theorem c22Write (src t phy reg : Nat) (turn : Bool) : Statement (.c22Write src t phy reg turn) := fun w _ h => Option.some.inj h ▸ (of_decide_eq_true (and_left (and_left w)))
theorem c45Address (src t phy reg : Nat) (turn : Bool) : Statement (.c45Address src t phy reg turn) := fun w _ h => Option.some.inj h ▸ (of_decide_eq_true (and_left (and_left w)))
theorem c45Read (src t phy reg : Nat) (turn : Bool) (data : Nat) : Statement (.c45Read src t phy reg turn data) := fun w _ h => Option.some.inj h ▸ (of_decide_eq_true (and_left (and_left w)))
theorem c45Write (src t phy reg : Nat) (turn : Bool) : Statement (.c45Write src t phy reg turn) := fun w _ h => Option.some.inj h ▸ (of_decide_eq_true (and_left (and_left w)))
theorem mdioTimeout (t : Nat) : Statement (.mdioTimeout t) := fun _ _ h => nomatch h
theorem vddCnyLoss (t : Nat) : Statement (.vddCnyLoss t) := fun _ _ h => nomatch h
theorem heartbeatLost (t c : Nat) : Statement (.heartbeatLost t c) := fun _ _ h => nomatch h
theorem selfComparisonMismatch (t c : Nat) (present : Bool) : Statement (.selfComparisonMismatch t c present) := fun _ _ h => nomatch h
theorem watchdogTimeout (t c : Nat) : Statement (.watchdogTimeout t c) := fun _ _ h => nomatch h
theorem sealSwitchSample (t c value : Nat) : Statement (.sealSwitchSample t c value) := fun _ _ h => nomatch h
theorem cnyParamWrite (src t c addr : Nat) (value : Word) : Statement (.cnyParamWrite src t c addr value) := fun w _ h => Option.some.inj h ▸ (of_decide_eq_true (and_left w))
theorem checkRecompute (t c : Nat) : Statement (.checkRecompute t c) := fun _ _ h => nomatch h
theorem commission (src t : Nat) : Statement (.commission src t) := fun w _ h => Option.some.inj h ▸ (of_decide_eq_true w)
theorem commissionDone (t c : Nat) (ok : Bool) : Statement (.commissionDone t c ok) := fun _ _ h => nomatch h
theorem cnyClear (src t : Nat) : Statement (.cnyClear src t) := fun w _ h => Option.some.inj h ▸ (of_decide_eq_true w)
theorem functionalSample (t c levels rb : Nat) : Statement (.functionalSample t c levels rb) := fun _ _ h => nomatch h
theorem testPulseCheck (t c j levels : Nat) : Statement (.testPulseCheck t c j levels) := fun _ _ h => nomatch h
theorem canaryEncoderEdge (t c k : Nat) (a b z : Bool) : Statement (.canaryEncoderEdge t c k a b z) := fun _ _ h => nomatch h
theorem axisComputation (t c j : Nat) : Statement (.axisComputation t c j) := fun _ _ h => nomatch h
theorem echoEvaluation (t c : Nat) : Statement (.echoEvaluation t c) := fun _ _ h => nomatch h
theorem fieldEvaluationClose (t c : Nat) : Statement (.fieldEvaluationClose t c) := fun _ _ h => nomatch h
theorem ossdReadbackCheck (t c rb : Nat) : Statement (.ossdReadbackCheck t c rb) := fun _ _ h => nomatch h
theorem ossdOffTest (t c pair : Nat) (high : Bool) : Statement (.ossdOffTest t c pair high) := fun _ _ h => nomatch h
theorem stateSend (t c : Nat) : Statement (.stateSend t c) := fun _ _ h => nomatch h
theorem select (t c net : Nat) (msg : List Byte) : Statement (.select t c net msg) := fun _ _ h => nomatch h
theorem mute (t c net : Nat) (msg : List Byte) : Statement (.mute t c net msg) := fun _ _ h => nomatch h
theorem loneCopyDiscard (t c : Nat) : Statement (.loneCopyDiscard t c) := fun _ _ h => nomatch h
theorem messageTimeout (t c : Nat) : Statement (.messageTimeout t c) := fun _ _ h => nomatch h
theorem muteExpiry (t c : Nat) : Statement (.muteExpiry t c) := fun _ _ h => nomatch h
theorem livenessRequest (t c : Nat) : Statement (.livenessRequest t c) := fun _ _ h => nomatch h
theorem livenessDeadline (t c core : Nat) : Statement (.livenessDeadline t c core) := fun _ _ h => nomatch h
theorem calFull (src t : Nat) : Statement (.calFull src t) := fun w _ h => Option.some.inj h ▸ (of_decide_eq_true w)
theorem fullCalibrationComplete (t : Nat) (codes : List (Nat × Word)) (badPorts badEmit badTaps : Nat) (times shots : List (Nat × Nat)) : Statement (.fullCalibrationComplete t codes badPorts badEmit badTaps times shots) := fun _ _ h => nomatch h
theorem calPort (src t port : Nat) : Statement (.calPort src t port) := fun w _ h => Option.some.inj h ▸ (of_decide_eq_true (and_left w))
theorem portTurn (t : Nat) : Statement (.portTurn t) := fun _ _ h => nomatch h
theorem blindIntervalEnd (t : Nat) (ok : Bool) (codes : List (Nat × Word)) : Statement (.blindIntervalEnd t ok codes) := fun _ _ h => nomatch h
theorem clear (src t index : Nat) : Statement (.clear src t index) := fun w _ h => Option.some.inj h ▸ (of_decide_eq_true (and_left w))
theorem clearCode (src t : Nat) : Statement (.clearCode src t) := fun w _ h => Option.some.inj h ▸ (of_decide_eq_true w)
theorem clearAll (src t : Nat) : Statement (.clearAll src t) := fun w _ h => Option.some.inj h ▸ (of_decide_eq_true w)
theorem clearJournal (src t : Nat) : Statement (.clearJournal src t) := fun w _ h => Option.some.inj h ▸ (of_decide_eq_true w)
theorem journalCopy (t : Nat) : Statement (.journalCopy t) := fun _ _ h => nomatch h
theorem logParityError (t : Nat) (journal : Bool) (index : Nat) : Statement (.logParityError t journal index) := fun _ _ h => nomatch h
theorem registerWrite (src t addr : Nat) (value : Word) (out : Outside) : Statement (.registerWrite src t addr value out) := fun w _ h => Option.some.inj h ▸ (of_decide_eq_true (and_left w))
theorem shadowedRegisterWrite (src t addr : Nat) (value : Word) : Statement (.shadowedRegisterWrite src t addr value) := fun w _ h => Option.some.inj h ▸ (of_decide_eq_true (and_left w))
theorem serialWriteFrame (src t command addr room : Nat) (words : List Word) (outs : List Outside) : Statement (.serialWriteFrame src t command addr room words outs) := fun w _ h => Option.some.inj h ▸ Nat.lt_of_lt_of_le (of_decide_eq_true (and_left w)) (by decide)
theorem serialReadFrame (src t addr count : Nat) (outs : List Outside) : Statement (.serialReadFrame src t addr count outs) := fun w _ h => Option.some.inj h ▸ Nat.lt_of_lt_of_le (of_decide_eq_true (and_left w)) (by decide)
theorem serialStatusFrame (src t : Nat) : Statement (.serialStatusFrame src t) := fun w _ h => Option.some.inj h ▸ Nat.lt_of_lt_of_le (of_decide_eq_true w) (by decide)
theorem i2cWordTimeout (t : Nat) : Statement (.i2cWordTimeout t) := fun _ _ h => Option.some.inj h ▸ by decide
theorem mgtRead (t lane err : Nat) (req : List Byte) (outs : List Outside) : Statement (.mgtRead t lane err req outs) := fun w _ h => Option.some.inj h ▸ Nat.lt_of_lt_of_le (Nat.add_lt_add_left (of_decide_eq_true (and_left w)) 2) (by decide)
theorem mgtWrite (t lane err : Nat) (req : List Byte) (outs : List Outside) : Statement (.mgtWrite t lane err req outs) := fun w _ h => Option.some.inj h ▸ Nat.lt_of_lt_of_le (Nat.add_lt_add_left (of_decide_eq_true (and_left w)) 2) (by decide)
theorem dramWindowAccess (src t addr : Nat) (write : Bool) (value : Word) (out : Outside) : Statement (.dramWindowAccess src t addr write value out) := fun w _ h => Option.some.inj h ▸ (of_decide_eq_true (and_left w))
theorem mgtDramWinWrite (src t : Nat) (value : Word) : Statement (.mgtDramWinWrite src t value) := fun w _ h => Option.some.inj h ▸ (of_decide_eq_true w)
theorem windowAccessTimeout (src t addr : Nat) (write : Bool) (value : Word) : Statement (.windowAccessTimeout src t addr write value) := fun w _ h => Option.some.inj h ▸ (of_decide_eq_true (and_left w))
theorem mgtParityError (src t : Nat) (window : Bool) : Statement (.mgtParityError src t window) := fun w _ h => Option.some.inj h ▸ (of_decide_eq_true w)
theorem supplyMonitorTrip (t : Nat) (x : Supply) : Statement (.supplyMonitorTrip t x) := fun _ _ h => nomatch h
theorem bypass : Statement (.bypass) := fun _ _ h => nomatch h
theorem idcode : Statement (.idcode) := fun _ _ h => nomatch h
theorem samplePreload : Statement (.samplePreload) := fun _ _ h => nomatch h
theorem extest : Statement (.extest) := fun _ _ h => nomatch h
theorem clamp : Statement (.clamp) := fun _ _ h => nomatch h
theorem highz : Statement (.highz) := fun _ _ h => nomatch h
theorem supplyBackInRange (t : Nat) (x : Supply) : Statement (.supplyBackInRange t x) := fun _ _ h => nomatch h
theorem ethernetLinkUp (t speed : Nat) : Statement (.ethernetLinkUp t speed) := fun _ _ h => nomatch h
theorem dphyPllRelock (t : Nat) : Statement (.dphyPllRelock t) := fun _ _ h => nomatch h
theorem inhibitNRelease (t : Nat) : Statement (.inhibitNRelease t) := fun _ _ h => nomatch h
theorem alertNRise (t ch : Nat) (clean : Bool) : Statement (.alertNRise t ch clean) := fun _ _ h => nomatch h
theorem parityRecoveryTimeout (t ch : Nat) : Statement (.parityRecoveryTimeout t ch) := fun _ _ h => nomatch h
theorem rowCloseOnIdle (t ch bank : Nat) (maxOpen : Bool) : Statement (.rowCloseOnIdle t ch bank maxOpen) := fun _ _ h => nomatch h
theorem framePeriodOverFrameMax (t c : Nat) : Statement (.framePeriodOverFrameMax t c) := fun _ _ h => nomatch h
theorem testPulse (t c k : Nat) : Statement (.testPulse t c k) := fun _ _ h => nomatch h

end Sys2Proof.Laws.Requester
end

