-- ==== Sys2Proof/Tests/Slice0.lean ====
section
/-! SUPPORT. Tests of single steps on small states, ill-formed commands, and the witnesses of the statements' hypotheses: for
every clause of every statement a concrete state and operands that meet its hypotheses together. -/
namespace Sys2Proof.Tests
open Sys2Proof.Machine
set_option maxRecDepth 8000
set_option Elab.async false
set_option linter.unusedVariables false

theorem test_reset_idle : step State.reset = .next State.reset := rfl

/-- A device out of RESET whose clocks run, in the given state. -/
def up (st : DevState) : Dev := { top := { state := st, por := false }, clk := { locked := true, running := true } }
/-- A state around a device. -/
def st (d : Dev) : State := { dev := d }
/-- Core 3 holds word `w` in D, at address 5, its foreground set being `r`. -/
def atCore (w : Nat) (r : RegSet) : State :=
  { dev := { up .ranging with asy := { cores := [(3, { started := true, pc := 5, fg := r })] } }, sram := memSetBytes [] (coreI 3 + 20) (leBytes 4 w) }

theorem test_witness_StepRunsFront : ∃ (c : Instr) (s : State) (rest : List Instr), State.pending s = c :: rest :=
  ⟨Instr.pllLock, ({ pending := [.pllLock] } : State), [], by decide +kernel⟩

theorem test_witness_StepIdlesWhenEmpty : ∃ s : State, s.pending = [] :=
  ⟨({} : State), by decide +kernel⟩

theorem test_witness_MemoryFormKept : ∃ s s' : State, Memory.wf s = true ∧ step s = .next s' :=
  ⟨({ sram := memSetBytes [] 8 [1], pending := [.pllLock] } : State), ({ sram := memSetBytes [] 8 [1] } : State), by decide +kernel, rfl⟩

theorem test_witness_EmitEnSafeKept : ∃ s s' : State, s.dev.emitSafe = true ∧ step s = .next s' :=
  ⟨({ dev := { up .ranging with emt := { emitEn := true } }, pending := [.idcode] } : State), ({ dev := { up .ranging with emt := { emitEn := true }, jtag := { instr := 1, data := 0x14256A3D#32 } } } : State), by decide +kernel, rfl⟩

theorem test_witness_OssdSafeKept : ∃ s s' : State, s.dev.ossdSafe = true ∧ step s = .next s' :=
  ⟨({ dev := { up .ranging with emt := { emitEn := true } }, pending := [.idcode] } : State), ({ dev := { up .ranging with emt := { emitEn := true }, jtag := { instr := 1, data := 0x14256A3D#32 } } } : State), by decide +kernel, rfl⟩

theorem test_witness_ResetIsQuiet : ∃ (c : Instr) (s : State), s.dev.top.state = .reset ∧ actsInReset c = false :=
  ⟨Instr.pllLock, ({} : State), by decide +kernel⟩

theorem test_witness_OnlyTheseLeaveHeld : ∃ (c : Instr) (s s' : State), s.dev.top.state = .held ∧ exec c s = .next s' :=
  ⟨Instr.pllLock, ({ dev := { top := { state := .held } } } : State), ({ dev := { top := { state := .held } } } : State), by decide +kernel, rfl⟩

theorem test_witness_HeadframeRefusesWrites : ∃ (s : State) (a : Nat), s.dev.alive = true ∧ s.dev.top.state = .headframe ∧ a % 4 = 0 :=
  ⟨st (up .headframe), 0x290008, by decide +kernel⟩

theorem test_witness_MemoryUntouched : ∃ (c : Instr) (s s' : State), touchesMemory c = false ∧ exec c s = .next s' :=
  ⟨Instr.pllLock, ({} : State), ({} : State), by decide +kernel, rfl⟩

theorem test_witness_ShotPathUntouched : ∃ (c : Instr) (s s' : State), sparesShotPath c = true ∧ exec c s = .next s' :=
  ⟨Instr.idcode, ({} : State), ({ dev := { jtag := { instr := 1, data := 0x14256A3D#32 } } } : State), by decide +kernel, rfl⟩

theorem test_witness_PowerAndResetComplete :
  -- powerOn
  (∃ (s : State) (cny : Bool),
    (s.dev.top.state = .reset) ∧ (s.dev.top.por = true)) ∧
  -- resetNAssert
  (∃ (s : State) (c : Nat) (ns : Nat),
    (1000 ≤ ns)) ∧
  -- resetRelease
  (∃ (s : State) (straps : Nat) (sw : Nat) (c : Nat),
    (s.dev.top.state = .reset) ∧ (s.dev.top.por = false) ∧ (s.dev.top.suppliesBad = [])) ∧
  -- supplyTripHeld
  (∃ (s : State) (t : Nat) (x : Supply),
    ((x = .io18 ∨ x = .an)) ∧ (s.dev.supplyBad x = false) ∧ (s.dev.top.state ≠ .reset)) ∧
  -- supplyTripSerial
  (∃ (s : State) (t : Nat) (x : Supply),
    ((x = .ser ∨ x = .aser)) ∧ (s.dev.supplyBad x = false) ∧ (s.dev.top.state ≠ .reset)) ∧
  -- supplyBackInRange
  (∃ (s : State) (t : Nat) (x : Supply),
    (s.dev.supplyBad x = true)) ∧
  -- watchdogTimeout
  (∃ (s : State) (t : Nat) (c : Nat) (w : Nat),
    (s.dev.cny.watch = some w) ∧ (w + 48000 ≤ c) ∧ (s.dev.top.state ≠ .reset) ∧ (s.dev.top.state ≠ .held) ∧ (s.dev.cny.lost = false)) ∧
  -- extest
  (∃ (s : State),
    (s.dev.top.state = .held) ∧ (s.dev.cny.sw % 2 = 1)) ∧
  -- clamp
  (∃ (s : State),
    (s.dev.top.state = .held) ∧ (s.dev.cny.sw % 2 = 1)) ∧
  -- highz
  (∃ (s : State),
    (s.dev.top.state = .held) ∧ (s.dev.cny.sw % 2 = 1)) :=
  ⟨⟨st { top := { state := .reset, por := true, suppliesBad := [.core] }, cny := { lost := true } }, true, by decide +kernel⟩,
   ⟨st { up .ranging with emt := { emitEn := true } }, 90, 1000, by decide +kernel⟩,
   ⟨st { top := { state := .reset, por := false } }, 0x1FF, 19, 5, by decide +kernel⟩,
   ⟨st (up .ranging), 50, .an, by decide +kernel⟩,
   ⟨st (up .ranging), 50, .aser, by decide +kernel⟩,
   ⟨st { up .held with top := { (up .held).top with suppliesBad := [.an] } }, 50, .an, by decide +kernel⟩,
   ⟨st { up .ranging with cny := { watch := some 7 } }, 50, 48007, 7, by decide +kernel⟩,
   ⟨st { up .held with cny := { sw := 1 } }, by decide +kernel⟩,
   ⟨st { up .held with cny := { sw := 1 } }, by decide +kernel⟩,
   ⟨st { up .held with cny := { sw := 1 } }, by decide +kernel⟩⟩

theorem test_witness_StartUpCompletes :
  -- pllLock
  (∃ (s : State),
    (s.dev.top.state = .headframe) ∧ (s.dev.clk.locked = false)) ∧
  -- identityKeyDerivation
  (∃ (s : State) (t : Nat),
    (s.dev.atStage 1 = true)) ∧
  -- flashDiscovery
  (∃ (s : State) (t : Nat) (jedec : List Byte) (ok : Bool) (modes : List (Nat × Nat)) (size : Nat),
    (s.dev.atStage 2 = true) ∧ (jedec.all (· == 0x00#8) = false) ∧ (jedec.all (· == 0xFF#8) = false)) ∧
  -- flashReadBurst
  (∃ (s : State) (t : Nat) (data : List Byte),
    (s.dev.atStage 3 = true) ∧ (s.dev.boot.softResetDue = false)) ∧
  -- flashReadBurstFails
  (∃ (s : State) (t : Nat) (data : List Byte),
    (s.dev.atStage 3 = true) ∧ (s.dev.boot.softResetDue = false) ∧ (s.dev.boot.retrying = false)) ∧
  -- imageVerify
  (∃ (s : State) (t : Nat),
    (s.dev.atStage 4 = true) ∧ (s.dev.boot.readDone = true) ∧ ((s.dev.advanceTo t).imageFault s.dev.boot.image = (0, none))) ∧
  -- imageReject
  (∃ (s : State) (t : Nat),
    (s.dev.atStage 4 = true) ∧ (s.dev.boot.readDone = true) ∧ (((s.dev.advanceTo t).imageFault s.dev.boot.image).1 ≠ 0)) ∧
  -- softReset
  (∃ (s : State) (t : Nat),
    (s.dev.alive = true) ∧ (s.dev.top.state = .headframe) ∧ (s.dev.boot.softResetDue = true)) ∧
  -- sectionActivation
  (∃ (s : State) (t : Nat) (cals : List (Int × Int × Nat × Nat)),
    (s.dev.atStage 5 = true)) ∧
  -- commissioningHandover
  (∃ (s : State) (t : Nat) (r : List Byte),
    (s.dev.atStage 6 = true)) :=
  ⟨⟨st { top := { state := .headframe } }, by decide +kernel⟩,
   ⟨st { up .headframe with boot := { stage := 1 } }, 50, by decide +kernel⟩,
   ⟨st { up .headframe with boot := { stage := 2 } }, 50, [0xEF, 0x40, 0x18], true, [], 24, by decide +kernel⟩,
   ⟨st { up .headframe with boot := { stage := 3 } }, 50, [1, 2, 3], by decide +kernel⟩,
   ⟨st { up .headframe with boot := { stage := 3 } }, 50, [1, 2, 3], by decide +kernel⟩,
   ⟨st { up .headframe with boot := { stage := 4, readDone := true, image := [68, 90, 72, 70, 1, 0, 64, 1, 144, 2, 0, 0, 120, 86, 52, 18, 86, 66, 0, 0, 3, 0, 0, 0, 0, 0, 0, 0, 0, 0, 0, 0, 236, 222, 207, 110, 221, 149, 6, 5, 202, 119, 252, 0, 224, 230, 76, 13, 79, 200, 77, 186, 163, 98, 191, 105, 206, 28, 158, 159, 160, 209, 193, 62, 109, 40, 113, 55, 170, 93, 77, 88, 63, 93, 159, 203, 83, 89, 169, 56, 59, 98, 220, 105, 90, 140, 129, 87, 92, 19, 165, 209, 18, 153, 212, 182, 0, 0, 0, 0, 0, 0, 0, 0, 0, 0, 0, 0, 0, 0, 0, 0, 0, 0, 0, 0, 0, 0, 0, 0, 0, 0, 0, 0, 0, 0, 0, 0, 0, 0, 0, 0, 0, 0, 0, 0, 0, 0, 0, 0, 0, 0, 0, 0, 0, 0, 0, 0, 0, 0, 0, 0, 0, 0, 0, 0, 0, 0, 0, 0, 0, 0, 0, 0, 0, 0, 0, 0, 0, 0, 0, 0, 0, 0, 0, 0, 0, 0, 0, 0, 0, 0, 0, 0, 0, 0, 0, 0, 0, 0, 0, 0, 0, 0, 0, 0, 0, 0, 0, 0, 0, 0, 0, 0, 0, 0, 0, 0, 0, 0, 0, 0, 0, 0, 0, 0, 0, 0, 0, 0, 0, 0, 0, 0, 0, 0, 0, 0, 0, 0, 0, 0, 0, 0, 0, 0, 0, 0, 0, 0, 0, 0, 0, 0, 0, 0, 0, 0, 0, 0, 0, 0, 0, 0, 0, 0, 0, 0, 0, 0, 0, 0, 0, 0, 0, 0, 0, 0, 0, 0, 0, 0, 0, 0, 0, 0, 0, 0, 0, 0, 0, 0, 0, 0, 0, 0, 0, 0, 0, 0, 0, 0, 0, 0, 0, 0, 0, 0, 0, 0, 0, 0, 0, 0, 0, 0, 0, 0, 0, 0, 0, 0, 0, 0, 0, 0, 0, 0, 0, 0, 2, 0, 0, 0, 112, 1, 0, 0, 16, 0, 0, 0, 0, 0, 0, 0, 3, 0, 0, 0, 128, 1, 0, 0, 64, 0, 0, 0, 0, 0, 0, 0, 7, 0, 0, 0, 192, 1, 0, 0, 208, 0, 0, 0, 0, 0, 0, 0, 0, 0, 0, 0, 0, 0, 0, 0, 0, 0, 0, 0, 0, 0, 0, 0, 68, 90, 65, 70, 1, 0, 0, 0, 0, 0, 0, 0, 1, 0, 0, 0, 0, 0, 0, 0, 0, 0, 0, 0, 0, 0, 0, 0, 0, 0, 0, 0, 0, 0, 0, 0, 0, 0, 0, 0, 0, 0, 0, 0, 0, 0, 0, 0, 0, 0, 0, 0, 0, 0, 0, 0, 0, 0, 0, 0, 0, 0, 0, 0, 68, 90, 66, 71, 1, 0, 24, 0, 0, 0, 0, 0, 0, 0, 0, 0, 0, 0, 0, 0, 0, 0, 0, 0, 1, 0, 0, 0, 0, 0, 0, 0, 2, 0, 0, 0, 0, 0, 0, 0, 3, 0, 0, 0, 0, 0, 0, 0, 4, 0, 0, 0, 0, 0, 0, 0, 5, 0, 0, 0, 0, 0, 0, 0, 6, 0, 0, 0, 0, 0, 0, 0, 7, 0, 0, 0, 0, 0, 0, 0, 8, 0, 0, 0, 0, 0, 0, 0, 9, 0, 0, 0, 0, 0, 0, 0, 10, 0, 0, 0, 0, 0, 0, 0, 11, 0, 0, 0, 0, 0, 0, 0, 12, 0, 0, 0, 0, 0, 0, 0, 13, 0, 0, 0, 0, 0, 0, 0, 14, 0, 0, 0, 0, 0, 0, 0, 15, 0, 0, 0, 0, 0, 0, 0, 16, 0, 0, 0, 0, 0, 0, 0, 17, 0, 0, 0, 0, 0, 0, 0, 18, 0, 0, 0, 0, 0, 0, 0, 19, 0, 0, 0, 0, 0, 0, 0, 20, 0, 0, 0, 0, 0, 0, 0, 21, 0, 0, 0, 0, 0, 0, 0, 22, 0, 0, 0, 0, 0, 0, 0, 23, 0, 0, 0, 0, 0, 0, 0] } }, 50, by decide +kernel⟩,
   ⟨st { up .headframe with boot := { stage := 4, readDone := true, image := [1] } }, 50, by decide +kernel⟩,
   ⟨st { up .headframe with boot := { stage := 4, softResetDue := true } }, 50, by decide +kernel⟩,
   ⟨st { up .headframe with boot := { stage := 5 } }, 50, [], by decide +kernel⟩,
   ⟨st { up .headframe with boot := { stage := 6 } }, 50, [], by decide +kernel⟩⟩

theorem test_witness_StateCommandsComplete :
  -- start
  (∃ (s : State) (src : Nat) (t : Nat),
    (s.dev.alive = true) ∧ (s.dev.top.state = .armed) ∧ (s.dev.cal.passed = true) ∧ ((((s.dev.advanceTo t).regWrite src R.TOP_CMD 1 Dev.replaceStop).runCheck s.sram).2 = true)) ∧
  -- stop
  (∃ (s : State) (src : Nat) (t : Nat),
    (s.dev.alive = true) ∧ (s.dev.top.state = .ranging)) ∧
  -- stopComplete
  (∃ (s : State) (t : Nat),
    (s.dev.alive = true) ∧ (s.dev.top.state = .ranging) ∧ (s.dev.seq.stopping = true) ∧ ((s.dev.advanceTo t).drained = true)) ∧
  -- leaveHeld
  (∃ (s : State) (src : Nat) (t : Nat),
    (s.dev.alive = true) ∧ (s.dev.top.state = .held) ∧ (s.dev.leaveReason = 0)) ∧
  -- hold
  (∃ (s : State) (src : Nat) (t : Nat),
    (s.dev.alive = true) ∧ ((s.dev.top.state = .armed ∨ s.dev.top.state = .ranging))) :=
  ⟨⟨st { up .armed with cal := { passed := true } }, 2, 50, by decide +kernel⟩,
   ⟨st (up .ranging), 2, 50, by decide +kernel⟩,
   ⟨st { up .ranging with seq := { stopping := true } }, 50, by decide +kernel⟩,
   ⟨st { up .held with top := { (up .held).top with causes := [0x0101] }, flg := { log := [(0, { code := 0x0101, cleared := true })] } }, 2, 50, by decide +kernel⟩,
   ⟨st (up .ranging), 2, 50, by decide +kernel⟩⟩

theorem test_witness_ClockFaultsComplete :
  -- clockGateFault
  (∃ (s : State) (t : Nat) (c : Nat) (ref : Nat) (per : Nat),
    (s.dev.top.state ≠ .reset) ∧ (s.dev.cny.lost = false) ∧ (s.dev.clk.locked = true) ∧ (s.dev.clk.running = true) ∧ (s.dev.cny.clockFault = false) ∧ (0 < ref) ∧ (0 < per) ∧ ((ref < 92 ∨ 108 < ref ∨ per < 92 ∨ 108 < per))) ∧
  -- clockGateGood
  (∃ (s : State) (t : Nat) (c : Nat) (ref : Nat) (per : Nat),
    (s.dev.top.state ≠ .reset) ∧ (s.dev.cny.lost = false) ∧ (s.dev.clk.locked = true) ∧ (s.dev.clk.running = true) ∧ (s.dev.cny.clockFault = true) ∧ (92 ≤ ref) ∧ (ref ≤ 108) ∧ (92 ≤ per) ∧ (per ≤ 108)) ∧
  -- pllUnlock
  (∃ (s : State) (t : Nat),
    (s.dev.alive = true) ∧ (s.dev.clk.locked = true)) ∧
  -- pllRelock
  (∃ (s : State),
    (s.dev.top.state ≠ .reset) ∧ (s.dev.clk.running = false) ∧ (s.dev.clk.locked = true)) ∧
  -- w288WriteBack
  (∃ (s : State) (t : Nat) (word : Nat),
    (s.dev.alive = true)) :=
  ⟨⟨st (up .ranging), 50, 9, 91, 100, by decide +kernel⟩,
   ⟨st { up .held with cny := { clockFault := true } }, 50, 9, 92, 108, by decide +kernel⟩,
   ⟨st (up .ranging), 50, by decide +kernel⟩,
   ⟨st { up .ranging with clk := { locked := true, running := false, retained := some 0x0202 } }, by decide +kernel⟩,
   ⟨{ st (up .ranging) with writeBacks := [4, 6] }, 50, 6, by decide +kernel⟩⟩

theorem test_witness_TimeBaseComplete :
  -- slewCarry
  (∃ (s : State) (t : Nat),
    (s.dev.alive = true) ∧ (s.dev.now < t)) ∧
  -- syncEpochSend
  (∃ (s : State) (t : Nat),
    (s.dev.alive = true) ∧ (s.dev.rbit R.CLK_SYNC_CTRL 0 = true) ∧ (s.dev.fld R.CLK_SYNC_CTRL 9 2 ≠ 0) ∧ (s.dev.clk.syncOutEdge = none)) ∧
  -- syncInEdge
  (∃ (s : State) (t : Nat) (phase : Nat),
    (s.dev.alive = true) ∧ (s.dev.rbit R.CLK_SYNC_CTRL 0 = false)) ∧
  -- syncMessage
  (∃ (s : State) (t : Nat) (message : Nat) (tick : Nat) (cap : Nat) (phase : Nat),
    (s.dev.alive = true) ∧ (s.dev.clk.syncEdge = some (tick, cap, phase)) ∧ ((s.dev.advanceTo t).now ≤ tick + 3200) ∧ (message < 2 ^ 96) ∧ (syncGood message = true) ∧ (s.dev.timeSource = 1)) ∧
  -- syncMessageBad
  (∃ (s : State) (t : Nat) (message : Nat) (tick : Nat) (cap : Nat) (phase : Nat),
    (s.dev.alive = true) ∧ (s.dev.clk.syncEdge = some (tick, cap, phase)) ∧ ((s.dev.advanceTo t).now ≤ tick + 3200) ∧ (message < 2 ^ 96) ∧ (syncGood message = false)) ∧
  -- syncMessageTimeout
  (∃ (s : State) (t : Nat) (tick : Nat) (cap : Nat) (phase : Nat),
    (s.dev.alive = true) ∧ (s.dev.clk.syncEdge = some (tick, cap, phase)) ∧ (tick + 3200 ≤ (s.dev.advanceTo t).now)) ∧
  -- timeSourceHoldover
  (∃ (s : State) (t : Nat),
    (s.dev.alive = true) ∧ (s.dev.timeSource = 2) ∧ (s.dev.rbit R.CLK_STATUS 2 = false) ∧ (s.dev.clk.lastEpoch + 4800000000 ≤ (s.dev.advanceTo t).now)) ∧
  -- ppsInEdge
  (∃ (s : State) (t : Nat) (phase : Nat),
    (s.dev.alive = true)) ∧
  -- ppsOutRise
  (∃ (s : State) (t : Nat),
    (s.dev.alive = true) ∧ (s.dev.fld R.CLK_PPS_OUT 7 0 ≠ 0) ∧ ((((s.dev.advanceTo t).time : Int) - s.dev.fld R.CLK_PPS_OUT 31 8) % 1600000000 = 0)) ∧
  -- ppsOutFall
  (∃ (s : State) (t : Nat),
    (s.dev.alive = true) ∧ (s.dev.clk.ppsOut = true) ∧ (s.dev.clk.ppsAt + 1600000 * s.dev.fld R.CLK_PPS_OUT 7 0 ≤ (s.dev.advanceTo t).now)) ∧
  -- gptpMessage
  (∃ (s : State) (t : Nat) (ns : Nat),
    (s.dev.alive = true) ∧ (s.dev.rbit R.ETH_PTP_CFG 0 = true) ∧ (s.dev.ethUp = true) ∧ (s.dev.timeSource = 3) ∧ (s.dev.rbit R.CLK_TIME_CTRL 2 = false)) ∧
  -- gptpSyncSend
  (∃ (s : State) (t : Nat),
    (s.dev.alive = true) ∧ (s.dev.rbit R.ETH_PTP_CFG 0 = true) ∧ (s.dev.ethUp = true) ∧ (s.dev.timeSource = 3) ∧ (s.dev.rbit R.CLK_TIME_CTRL 2 = true) ∧ (s.dev.clk.ptpAt = none)) ∧
  -- scheduledFrameStart
  (∃ (s : State) (t : Nat) (f : FrameRec),
    (s.dev.alive = true) ∧ (s.dev.seq.frame = some f) ∧ (f.sched = true) ∧ (f.startTick ≤ (s.dev.advanceTo t).now)) :=
  ⟨⟨st (up .armed), 100, by decide +kernel⟩,
   ⟨st ((up .armed).setReg R.CLK_SYNC_CTRL 5#32), 100, by decide +kernel⟩,
   ⟨st (up .armed), 100, 33, by decide +kernel⟩,
   ⟨st { (up .armed).setReg R.CLK_TIME_CTRL 1#32 with clk := { locked := true, running := true, syncEdge := some (0, 0, 5) } }, 3200, syncMessage 7 2, 0, 0, 5, by decide +kernel⟩,
   ⟨st { (up .armed).setReg R.CLK_TIME_CTRL 1#32 with clk := { locked := true, running := true, syncEdge := some (0, 0, 5) } }, 3200, 5, 0, 0, 5, by decide +kernel⟩,
   ⟨st { (up .armed).setReg R.CLK_TIME_CTRL 1#32 with clk := { locked := true, running := true, syncEdge := some (0, 0, 5) } }, 3200, 0, 0, 5, by decide +kernel⟩,
   ⟨st ((up .armed).setReg R.CLK_TIME_CTRL 2#32), 4800000000, by decide +kernel⟩,
   ⟨st ((up .armed).setReg R.CLK_TIME_CTRL 2#32), 1000, 3, by decide +kernel⟩,
   ⟨st ((up .armed).setReg R.CLK_PPS_OUT 1#32), 1600000000, by decide +kernel⟩,
   ⟨st { (up .armed).setReg R.CLK_PPS_OUT 1#32 with clk := { locked := true, running := true, ppsOut := true } }, 1600000, by decide +kernel⟩,
   ⟨st (((((up .armed).setReg R.ETH_PTP_CFG 1#32).setReg R.CLK_TIME_CTRL 3#32).setReg R.ETH_CTRL 1#32).setBit R.ETH_STATUS 0 true), 1000, 700, by decide +kernel⟩,
   ⟨st (((((up .armed).setReg R.ETH_PTP_CFG 1#32).setReg R.CLK_TIME_CTRL 7#32).setReg R.ETH_CTRL 1#32).setBit R.ETH_STATUS 0 true), 1000, by decide +kernel⟩,
   ⟨st { (up .ranging).setReg R.CLK_FRAME_AT_CTRL 1#32 with seq := { frame := some { sched := true, startTick := 50 } } }, 60, { sched := true, startTick := 50 }, by decide +kernel⟩⟩

theorem test_witness_TimePairsComplete :
  -- pairLowWrite
  (∃ (s : State) (src : Nat) (t : Nat) (addr : Nat) (b : Nat) (v : Word),
    (s.dev.alive = true) ∧ (s.dev.top.state ≠ .headframe) ∧ (pairBase addr = some b)) ∧
  -- pairHighWrite
  (∃ (s : State) (src : Nat) (t : Nat) (addr : Nat) (b : Nat) (v : Word) (lo : Word),
    (s.dev.alive = true) ∧ (s.dev.top.state ≠ .headframe) ∧ (pairBase addr = some b) ∧ ((s.dev.req src).pair = some (b, lo))) ∧
  -- stepCommit
  (∃ (s : State) (src : Nat) (t : Nat) (v : Word) (lo : Word),
    (s.dev.alive = true) ∧ (s.dev.top.state ≠ .headframe) ∧ (s.dev.top.state ≠ .ranging) ∧ ((s.dev.req src).pair = some (R.CLK_STEP, lo))) ∧
  -- frameAtArm
  (∃ (s : State) (src : Nat) (t : Nat) (v : Word),
    (s.dev.alive = true) ∧ (s.dev.top.state ≠ .headframe) ∧ (bit v 0 = true) ∧ ((s.dev.advanceTo t).time + 256 ≤ s.dev.reg64 R.CLK_FRAME_AT)) :=
  ⟨⟨st (up .armed), 0, 10, R.CLK_STEP, R.CLK_STEP, 7#32, by decide +kernel⟩,
   ⟨st ((up .armed).onReq 0 (fun r => { r with pair := some (R.CLK_PPS_NEXT, 9#32) })), 0, 10, R.CLK_PPS_NEXT + 4, R.CLK_PPS_NEXT, 7#32, 9#32, by decide +kernel⟩,
   ⟨st ((up .armed).onReq 0 (fun r => { r with pair := some (R.CLK_STEP, 9#32) })), 0, 10, 0xFFFFFFFF#32, 9#32, by decide +kernel⟩,
   ⟨st ((up .armed).setReg R.CLK_FRAME_AT 266#32), 0, 10, 0x11#32, by decide +kernel⟩⟩

theorem test_witness_LampRoomComplete :
  -- fuseKey
  (∃ (s : State) (src : Nat) (t : Nat) (slot : Nat) (confirm : Nat),
    (s.dev.alive = true) ∧ ((s.dev.top.state = .armed ∨ s.dev.top.state = .held)) ∧ (confirm % 65536 = 0xF05E) ∧ (s.dev.cmdBusy R.LMP_FUSE_CMD = false) ∧ (s.dev.boot.fusing = none) ∧ (s.dev.boot.revoked.testBit (slot % 4) = false) ∧ (s.dev.boot.fused.testBit (slot % 4) = false)) ∧
  -- revoke
  (∃ (s : State) (src : Nat) (t : Nat) (slot : Nat) (confirm : Nat),
    (s.dev.alive = true) ∧ ((s.dev.top.state = .armed ∨ s.dev.top.state = .held)) ∧ (confirm % 65536 = 0xF05E) ∧ (s.dev.cmdBusy R.LMP_FUSE_CMD = false) ∧ (s.dev.boot.fusing = none) ∧ (s.dev.boot.revoked.testBit (slot % 4) = false) ∧ (s.dev.boot.fused.testBit (slot % 4) = true)) ∧
  -- fuseProgrammed
  (∃ (s : State) (t : Nat) (slot : Nat) (hash : List Word),
    (s.dev.alive = true) ∧ (slot < 4) ∧ (s.dev.boot.fusing = some (slot, false)) ∧ ((∀ i < 8, hash.getD i 0 = s.dev.reg (R.LMP_FUSE_DATA i)))) ∧
  -- revocationProgrammed
  (∃ (s : State) (t : Nat) (slot : Nat) (hash : List Word),
    (s.dev.alive = true) ∧ (slot < 4) ∧ (s.dev.boot.fusing = some (slot, true))) ∧
  -- attest
  (∃ (s : State) (src : Nat) (t : Nat),
    (s.dev.alive = true) ∧ (s.dev.top.state ≠ .headframe) ∧ (s.dev.cmdBusy R.LMP_ATTEST_CMD = false) ∧ (s.dev.boot.attest = none)) ∧
  -- attestDone
  (∃ (s : State) (t : Nat) (nonce : List Word),
    (s.dev.alive = true) ∧ (s.dev.boot.attest = some nonce)) :=
  ⟨⟨st (up .armed), 0, 10, 1, 0xF05E, by decide +kernel⟩,
   ⟨st { up .armed with boot := { fused := 2 } }, 0, 10, 1, 0xF05E, by decide +kernel⟩,
   ⟨st { (up .armed).setReg (R.LMP_FUSE_DATA 3) 9#32 with boot := { fusing := some (2, false) } }, 10, 2, [0, 0, 0, 9, 0, 0, 0, 0], by decide +kernel⟩,
   ⟨st { up .armed with boot := { fusing := some (2, true), fused := 4 } }, 10, 2, [], by decide +kernel⟩,
   ⟨st ((up .armed).setReg (R.LMP_ATTEST_NONCE 2) 77#32), 0, 10, by decide +kernel⟩,
   ⟨st { up .armed with boot := { attest := some [1, 2, 3, 4, 5, 6, 7, 8] } }, 10, [1, 2, 3, 4, 5, 6, 7, 8], by decide +kernel⟩⟩

theorem test_witness_ScanReadingComplete :
  -- frameFirstEntryRead
  (∃ (s : State) (t : Nat) (err : Nat),
    (s.dev.alive = true) ∧ ((s.dev.advanceTo t).canStartFrame = true)) ∧
  -- scanEntryRead
  (∃ (s : State) (t : Nat) (err : Nat) (f : FrameRec),
    (s.dev.alive = true) ∧ (s.dev.top.state = .ranging) ∧ (s.dev.seq.frame = some f) ∧ (f.ended = false) ∧ (f.run = none)) ∧
  -- entryTaken
  (∃ (s : State) (t : Nat) (f : FrameRec),
    (s.dev.alive = true) ∧ (s.dev.top.state = .ranging) ∧ (s.dev.seq.frame = some f) ∧ (f.ended = false) ∧ (f.run = none) ∧ (f.next < 262143) ∧ (s.sramPoison.contains ((scanBase + 16 * f.next) / 32 * 32) = false) ∧ ((entryOf (memLe s.sram (scanBase + 16 * f.next) 16)).count ≠ 0) ∧ ((entryOf (memLe s.sram (scanBase + 16 * f.next) 16)).invalid = false) ∧ ((runEmitters (entryOf (memLe s.sram (scanBase + 16 * f.next) 16)) f.enables).isEmpty = false)) ∧
  -- entryPoisoned
  (∃ (s : State) (t : Nat) (err : Nat) (f : FrameRec),
    (s.dev.alive = true) ∧ (s.dev.top.state = .ranging) ∧ (s.dev.seq.frame = some f) ∧ (f.ended = false) ∧ (f.run = none) ∧ (f.next < 262143) ∧ (s.sramPoison.contains ((scanBase + 16 * f.next) / 32 * 32) = true) ∧ (s.dev.faultRoom 0x0503 = true)) ∧
  -- frameBoundary
  (∃ (s : State) (t : Nat) (p : Bool) (f : FrameRec),
    (s.dev.alive = true) ∧ (s.dev.seq.frame = some f) ∧ ((s.dev.advanceTo t).boundaryDue f = true)) :=
  ⟨⟨{ st { up .ranging with seq := { enterRanging := 3, nextFrame := 7 } } with sram := memSetBytes [] 0x01800000 [1, 0, 0, 2, 0, 1, 1, 0, 0, 0, 0, 0, 0, 0x40, 0x10, 0] }, 10, 0, by decide +kernel⟩,
   ⟨{ st { up .ranging with seq := { frame := some { next := 1 } } } with sramPoison := [0x01800000] }, 10, 1, { next := 1 }, by decide +kernel⟩,
   ⟨{ st { up .ranging with seq := { frame := some { next := 1, enables := 3 } } } with sram := memSetBytes [] 0x01800010 [1, 0, 0, 2, 0, 1, 1, 0, 0, 0, 0, 0, 0, 0x41, 0x10, 0] }, 10, { next := 1, enables := 3 }, by decide +kernel⟩,
   ⟨{ st { up .ranging with seq := { frame := some { next := 1 } } } with sramPoison := [0x01800000] }, 10, 1, { next := 1 }, by decide +kernel⟩,
   ⟨st { up .ranging with seq := { frame := some { num := 4, ended := true } }, shadow := [(R.SEQ_CTRL, 1#32)], clk := { locked := true, running := true, stepPend := some (5, true) } }, 10, false, { num := 4, ended := true }, by decide +kernel⟩⟩

theorem test_witness_ShotIssueComplete :
  -- shotIssue
  (∃ (s : State) (t : Nat) (predicted : Nat) (n : Nat) (e : Nat) (uid : Nat) (i : Nat) (f : FrameRec) (c : CellRec),
    (s.dev.alive = true) ∧ (s.dev.top.state = .ranging) ∧ ((s.dev.advanceTo t).now % 4 = 0) ∧ (s.dev.seq.lastIssueEdge ≠ some (s.dev.advanceTo t).now) ∧ (s.dev.seq.frame = some f) ∧ (f.run = none) ∧ (s.dev.nextShot = some (n, e, uid)) ∧ (n ≤ (s.dev.advanceTo t).now + s.dev.fld R.SEQ_CTRL 31 16) ∧ (s.dev.freeSlotAt (s.dev.advanceTo t).now = some i) ∧ (mget s.dev.seq.cells uid = some c)) ∧
  -- handover
  (∃ (s : State) (t : Nat),
    (s.dev.alive = true)) ∧
  -- settleCellCommanded
  (∃ (s : State) (t : Nat) (i : Nat) (f : FrameRec) (e : Entry),
    (s.dev.alive = true) ∧ (s.dev.seq.frame = some f) ∧ (f.run = some (e, i)) ∧ (e.steer = 1) ∧ (s.dev.seq.settleFor = none) ∧ (s.dev.seq.settledAt = none) ∧ (s.dev.seq.cells = []) ∧ (s.dev.seq.tally = [])) ∧
  -- steeringSettled
  (∃ (s : State) (t : Nat) (cell : Nat),
    (s.dev.alive = true) ∧ (s.dev.seq.settleFor = some cell) ∧ (s.dev.allSettled = true)) ∧
  -- settleTimeout
  (∃ (s : State) (t : Nat) (port : Nat),
    (s.dev.alive = true) ∧ (port < 4) ∧ ((s.dev.port port).settling = true) ∧ ((s.dev.port port).settleAt + 1600 * s.dev.fld (R.STR_SETTLE port) 23 8 ≤ (s.dev.advanceTo t).now) ∧ (s.dev.faultRoom 0x0705 = true)) ∧
  -- checkIn
  (∃ (s : State) (t : Nat),
    (s.dev.alive = true)) ∧
  -- checkInCounts
  (∃ (s : State) (t : Nat) (i : Nat) (sl : Slot),
    (s.dev.alive = true) ∧ (s.dev.seq.tally = [(i, sl)]) ∧ (sl.st = .fired) ∧ (sl.dec + 6 + sl.winStart + sl.winLen ≤ (s.dev.advanceTo t).now)) :=
  ⟨⟨st { (up .ranging).setReg R.SEQ_CTRL 0x01000000#32 with seq := { frame := some { num := 4, ended := true }, cells := [(0, { emitters := [3], dwell := 2, start := 100, frame := 4, cell := 9 })] } }, 8, 0, 100, 3, 0, 0, { num := 4, ended := true }, { emitters := [3], dwell := 2, start := 100, frame := 4, cell := 9 }, by decide +kernel⟩,
   ⟨st { up .ranging with seq := { tally := [(0, { dec := 20 }), (3, { dec := 25 })] } }, 16, by decide +kernel⟩,
   ⟨st { up .ranging with seq := { frame := some { run := some ({ steer := 1, firstCell := 5, count := 1 }, 0) } } }, 16, 0, { run := some ({ steer := 1, firstCell := 5, count := 1 }, 0) }, { steer := 1, firstCell := 5, count := 1 }, by decide +kernel⟩,
   ⟨st { up .ranging with seq := { settleFor := some 5 } }, 16, 5, by decide +kernel⟩,
   ⟨st { (up .ranging).setReg (R.STR_SETTLE 3) 0x100#32 with seq := { settleFor := some 5 }, str := [(3, { settling := true })] }, 1600, 3, by decide +kernel⟩,
   ⟨st { up .ranging with seq := { tally := [(0, { dec := 20, st := .fired, winStart := 10, winLen := 5 }), (3, { dec := 25 })] } }, 41, by decide +kernel⟩,
   ⟨st { up .ranging with seq := { tally := [(7, { dec := 20, st := .fired, winStart := 10, winLen := 5 })] } }, 41, 7, { dec := 20, st := .fired, winStart := 10, winLen := 5 }, by decide +kernel⟩⟩

theorem test_witness_SquashComplete :
  -- confidenceFlag
  (∃ (s : State) (t : Nat) (cell : Nat) (frame : Nat) (c : CellRec),
    (s.dev.alive = true) ∧ (s.dev.rbit R.SEQ_CTRL 0 = true) ∧ (s.dev.cellsAt cell frame = [c]) ∧ (mget s.dev.seq.cells c.uid = some c) ∧ (s.dev.cellOpen c = true)) ∧
  -- squash
  (∃ (s : State) (t : Nat) (cell : Nat) (frame : Nat) (c : CellRec),
    (s.dev.alive = true) ∧ (s.dev.rbit R.SEQ_CTRL 0 = true) ∧ (s.dev.cellsAt cell frame = [c]) ∧ (mget s.dev.seq.cells c.uid = some c) ∧ (c.flagHeld = true) ∧ (c.minFired = true)) ∧
  -- seqSquashCmd
  (∃ (s : State) (src : Nat) (t : Nat) (v : Word) (c : CellRec),
    (s.dev.alive = true) ∧ (s.dev.top.state = .ranging) ∧ (s.dev.cmdBusy R.SEQ_SQUASH_CMD = false) ∧ (bits v 7 0 = 1) ∧ ((s.dev.seq.cells.map (·.2)).filter (fun c => c.cell == s.dev.fld R.SEQ_SQUASH_CELL 23 0 && s.dev.cellOpen c) = [c]) ∧ (mget s.dev.seq.cells c.uid = some c)) ∧
  -- accountingCheck
  (∃ (s : State) (t : Nat),
    (s.dev.alive = true) ∧ (s.dev.accountingHolds = false)) ∧
  -- tallyParityError
  (∃ (s : State) (t : Nat),
    (s.dev.alive = true)) ∧
  -- tallySnapshotRead
  (∃ (s : State) (src : Nat) (t : Nat) (slot : Nat) (word : Nat),
    (s.dev.alive = true) ∧ (s.dev.reg (R.FMN_ALLOC 21) ≠ 0)) :=
  ⟨⟨st { (up .ranging).setReg R.SEQ_CTRL 1#32 with seq := { cells := [(2, { uid := 2, emitters := [3], dwell := 2, start := 100, frame := 4, cell := 9 })] } }, 8, 9, 4, { uid := 2, emitters := [3], dwell := 2, start := 100, frame := 4, cell := 9 }, by decide +kernel⟩,
   ⟨st { (up .ranging).setReg R.SEQ_CTRL 1#32 with seq := { tally := [(0, { uid := 2, dec := 900, emitter := 3 }), (1, { uid := 2, dec := 10, emitter := 3 })], cells := [(2, { uid := 2, emitters := [3], dwell := 2, start := 100, frame := 4, cell := 9, flagHeld := true, fired := [(3, 1)], entry := { dwellMin := 1 } })] } }, 8, 9, 4, { uid := 2, emitters := [3], dwell := 2, start := 100, frame := 4, cell := 9, flagHeld := true, fired := [(3, 1)], entry := { dwellMin := 1 } }, by decide +kernel⟩,
   ⟨st { (up .ranging).setReg R.SEQ_SQUASH_CELL 9#32 with seq := { cells := [(2, { uid := 2, emitters := [3], dwell := 2, start := 100, frame := 4, cell := 9 })] } }, 0, 8, 1#32, { uid := 2, emitters := [3], dwell := 2, start := 100, frame := 4, cell := 9 }, by decide +kernel⟩,
   ⟨st ((up .armed).setReg R.SEQ_CNT_ISSUED 1#32), 8, by decide +kernel⟩,
   ⟨st (up .ranging), 8, by decide +kernel⟩,
   ⟨st { (up .ranging).setReg (R.FMN_ALLOC 21) 1#32 with seq := { tally := [(5, { uid := 2, shotId := 77, dec := 900, emitter := 3 })] } }, 0, 8, 5, 0, by decide +kernel⟩⟩

theorem test_witness_EmissionGateComplete :
  -- admitted
  (∃ (s : State) (t : Nat) (i : Nat) (sl : Slot),
    (s.dev.alive = true) ∧ (s.dev.seq.tally.filter (fun p => p.2.st == .handed && !p.2.admitted && decide (p.2.dec ≤ (s.dev.advanceTo t).now)) = [(i, sl)]) ∧ (s.dev.inhibited sl.emitter sl.dec = false) ∧ (s.dev.budgetPasses sl.emitter sl.dec = true) ∧ (s.dev.emitSteerNone sl.emitter = true)) ∧
  -- withheldInhibited
  (∃ (s : State) (t : Nat) (i : Nat) (sl : Slot),
    (s.dev.alive = true) ∧ (s.dev.seq.tally.filter (fun p => p.2.st == .handed && !p.2.admitted && decide (p.2.dec ≤ (s.dev.advanceTo t).now)) = [(i, sl)]) ∧ (s.dev.inhibited sl.emitter sl.dec = true)) ∧
  -- withheldBudget
  (∃ (s : State) (t : Nat) (i : Nat) (sl : Slot),
    (s.dev.alive = true) ∧ (s.dev.seq.tally.filter (fun p => p.2.st == .handed && !p.2.admitted && decide (p.2.dec ≤ (s.dev.advanceTo t).now)) = [(i, sl)]) ∧ (sl.emitter < 32) ∧ (s.dev.inhibited sl.emitter sl.dec = false) ∧ (s.dev.budgetPasses sl.emitter sl.dec = false)) ∧
  -- fire
  (∃ (s : State) (t : Nat) (i : Nat) (sl : Slot),
    (s.dev.alive = true) ∧ (sl.emitter < 32) ∧ (s.dev.seq.tally.filter (fun p => p.2.admitted && p.2.st == .handed && decide (p.2.dec + 6 ≤ (s.dev.advanceTo t).now)) = [(i, sl)])) ∧
  -- inhibitAssert
  (∃ (s : State) (t : Nat),
    (s.dev.alive = true)) ∧
  -- inhibitNRelease
  (∃ (s : State) (t : Nat),
    (s.dev.alive = true)) ∧
  -- enSettleExpiry
  (∃ (s : State) (t : Nat),
    (s.dev.alive = true) ∧ (s.dev.emt.emitEn = true) ∧ (s.dev.emt.enSince + 1600 * s.dev.fld R.EMT_CTRL 15 8 ≤ (s.dev.advanceTo t).now)) :=
  ⟨⟨st { (((up .ranging).setReg (R.EMT_EMIT_CFG 3) 0x8005#32).setReg (R.EMT_GRP_SHORT_LIM 0) 100#32).setReg (R.EMT_GRP_MED_LIM 0) 100#32 |>.setReg (R.EMT_GRP_LONG_LIM 0) 100#32 |>.setReg R.EMT_STATUS 0#32 with seq := { tally := [(2, { st := .handed, emitter := 3, dec := 50 })] } }, 50, 2, { st := .handed, emitter := 3, dec := 50 }, by decide +kernel⟩,
   ⟨st { (up .ranging).setReg R.EMT_STATUS 1#32 with seq := { tally := [(2, { st := .handed, emitter := 3, dec := 50 })] } }, 50, 2, { st := .handed, emitter := 3, dec := 50 }, by decide +kernel⟩,
   ⟨st { ((up .ranging).setReg R.EMT_STATUS 0#32).setReg (R.EMT_EMIT_CFG 3) 0x8005#32 |>.setReg (R.EMT_GRP_SHORT_LIM 0) 3#32 with seq := { tally := [(2, { st := .handed, emitter := 3, dec := 50 })] } }, 50, 2, { st := .handed, emitter := 3, dec := 50 }, by decide +kernel⟩,
   ⟨st { (((up .ranging).setReg (R.EMT_EMIT_CFG 3) 0x8005#32).setReg (R.EMT_GRP_SHORT_LIM 0) 100#32) with seq := { tally := [(2, { st := .handed, admitted := true, emitter := 3, dec := 50, winStart := 20, winLen := 9, shotId := 5 })] } }, 56, 2, { st := .handed, admitted := true, emitter := 3, dec := 50, winStart := 20, winLen := 9, shotId := 5 }, by decide +kernel⟩,
   ⟨st (up .ranging), 56, by decide +kernel⟩,
   ⟨st ((up .ranging).setBit R.EMT_STATUS 0 true), 56, by decide +kernel⟩,
   ⟨st { (up .ranging).setReg R.EMT_CTRL 0x100#32 with emt := { emitEn := true } }, 1600, by decide +kernel⟩⟩

theorem test_witness_EmissionMonitorComplete :
  -- monConversion
  (∃ (s : State) (t : Nat) (e : Nat) (result : Nat) (r : MonRec),
    (s.dev.alive = true) ∧ (e < 32) ∧ (s.dev.emt.mon.find? (fun r => r.emitter == e && r.result.isNone && decide (r.done ≤ (s.dev.advanceTo t).now)) = some r) ∧ (result ≤ 1023) ∧ ((s.dev.rbit R.EMT_CTRL 0 && r.checked) = false)) ∧
  -- monConversionStrong
  (∃ (s : State) (t : Nat) (e : Nat) (result : Nat) (r : MonRec),
    (s.dev.alive = true) ∧ (e < 32) ∧ (s.dev.emt.mon.find? (fun r => r.emitter == e && r.result.isNone && decide (r.done ≤ (s.dev.advanceTo t).now)) = some r) ∧ ((s.dev.rbit R.EMT_CTRL 0 && r.checked) = true) ∧ (1023 ≤ result)) ∧
  -- monDebitCorrection
  (∃ (s : State) (t : Nat),
    (s.dev.alive = true)) ∧
  -- strayMonPulse
  (∃ (s : State) (t : Nat) (e : Nat),
    (s.dev.alive = true) ∧ (s.dev.rbit R.EMT_CTRL 0 = true) ∧ (s.dev.inMonGate e (s.dev.advanceTo t).now = false)) ∧
  -- budgetBucketBoundary
  (∃ (s : State) (t : Nat),
    (s.dev.alive = true)) ∧
  -- emtReinstate
  (∃ (s : State) (src : Nat) (t : Nat) (e : Nat),
    (s.dev.alive = true) ∧ ((s.dev.top.state = .armed ∨ s.dev.top.state = .ranging)) ∧ (e < 32) ∧ (s.dev.cmdBusy R.EMT_CMD = false) ∧ (s.dev.rbit R.EMT_REMOVED e = true) ∧ (s.dev.faultCleared 0x0602 = true)) ∧
  -- budgetParityError
  (∃ (s : State) (t : Nat),
    (s.dev.alive = true)) :=
  ⟨⟨st { (up .ranging).setReg R.EMT_CTRL 0#32 with emt := { mon := [{ emitter := 31, done := 40 }] } }, 40, 31, 1023, { emitter := 31, done := 40 }, by decide +kernel⟩,
   ⟨st { (up .ranging).setReg R.EMT_CTRL 1#32 with emt := { mon := [{ emitter := 31, done := 40 }] } }, 40, 31, 1023, { emitter := 31, done := 40 }, by decide +kernel⟩,
   ⟨st { (up .ranging).setReg R.EMT_CTRL 0#32 with emt := { mon := [{ emitter := 31, done := 40, apply := 60, result := some 6 }] } }, 60, by decide +kernel⟩,
   ⟨st { (up .ranging).setReg R.EMT_CTRL 1#32 with emt := { stray := [(2, 4)] } }, 60, 2, by decide +kernel⟩,
   ⟨st { up .ranging with emt := { wins := [(0, { buckets := [(0, 5), (70, 9)] })] } }, 75, by decide +kernel⟩,
   ⟨st ((up .ranging).setBit R.EMT_REMOVED 31 true), 3, 75, 31, by decide +kernel⟩,
   ⟨st (up .armed), 8, by decide +kernel⟩⟩

theorem test_witness_SteeringComplete :
  -- positionSample
  (∃ (s : State) (t : Nat) (port : Nat) (a : Int) (b : Int) (unitDone : Bool) (unitOk : Bool),
    (s.dev.alive = true) ∧ (port < 4)) ∧
  -- relockTimeout
  (∃ (s : State) (t : Nat) (port : Nat) (x : Nat),
    (s.dev.alive = true) ∧ (port < 4) ∧ ((s.dev.port port).lostAt = some x) ∧ (s.dev.strRuns port = true) ∧ (s.dev.rbit (R.STR_STATUS port) 0 = false) ∧ (x + 1600000 * s.dev.fld (R.STR_CTRL port) 15 8 ≤ (s.dev.advanceTo t).now) ∧ (s.dev.faultRoom 0x0702 = true)) ∧
  -- strReinstate
  (∃ (s : State) (src : Nat) (t : Nat) (port : Nat),
    (s.dev.alive = true) ∧ (port < 4) ∧ ((s.dev.top.state = .armed ∨ s.dev.top.state = .ranging)) ∧ (s.dev.cmdBusy (R.STR_CMD port) = false) ∧ (s.dev.isRemoved (.steering port) = true) ∧ (s.dev.faultCleared (s.dev.port port).cause = true)) ∧
  -- polygonIndex
  (∃ (s : State) (t : Nat) (port : Nat),
    (s.dev.alive = true) ∧ (port < 4)) ∧
  -- indexTimeout
  (∃ (s : State) (t : Nat) (port : Nat),
    (s.dev.alive = true) ∧ (port < 4) ∧ (s.dev.strMode port = 2) ∧ ((s.dev.port port).period ≠ 0) ∧ (2 * (s.dev.port port).lastIdx + 3 * (s.dev.port port).period ≤ 2 * (s.dev.advanceTo t).now)) ∧
  -- strModeWrite
  (∃ (s : State) (src : Nat) (t : Nat) (port : Nat) (v : Word),
    (s.dev.alive = true) ∧ (port < 4) ∧ ((s.dev.top.state = .armed ∨ s.dev.top.state = .held))) ∧
  -- strModeRefused
  (∃ (s : State) (src : Nat) (t : Nat) (port : Nat) (v : Word),
    (s.dev.alive = true) ∧ (port < 4) ∧ (s.dev.top.state = .ranging) ∧ (bits (clampWrite (R.STR_CTRL port) v &&& 0xFFFFFF7F#32) 2 1 ≠ s.dev.strMode port)) :=
  ⟨⟨st ((up .armed).setReg (R.STR_CTRL 3) 0x03#32), 60, 3, 100, -50, true, false, by decide +kernel⟩,
   ⟨st { (up .armed).setReg (R.STR_CTRL 2) 0x101#32 with str := [(2, { lostAt := some 0 })] }, 1600000, 2, 0, by decide +kernel⟩,
   ⟨st { up .armed with str := [(2, { cause := 0x0702 })], top := { state := .armed, removed := [.steering 2] } }, 1, 1600000, 2, by decide +kernel⟩,
   ⟨st { ((up .armed).setReg (R.STR_CTRL 2) 5#32).setReg (R.STR_FREQ 2) 0x1000#32 with str := [(2, { idxSeen := 1, lastIdx := 5 })] }, 1600000, 2, by decide +kernel⟩,
   ⟨st { ((up .armed).setReg (R.STR_CTRL 2) 5#32).setReg (R.STR_STATUS 2) 1#32 with str := [(2, { idxSeen := 2, period := 100, lastIdx := 5 })] }, 155, 2, by decide +kernel⟩,
   ⟨st (up .held), 1, 5, 0, 0x5#32, by decide +kernel⟩,
   ⟨st (up .ranging), 1, 5, 0, 0x5#32, by decide +kernel⟩⟩

theorem test_witness_FrontEndComplete :
  -- leadingEdge
  (∃ (s : State) (t : Nat) (ch : Nat) (fine : Nat),
    (s.dev.alive = true) ∧ (ch < 256) ∧ (s.dev.rbit (R.RFE_CTRL ch) 0 = true) ∧ (s.dev.chRemoved ch = false) ∧ ((∀ x, (s.dev.ch ch).lastEdge = some x → x + 12 ≤ (s.dev.advanceTo t).now))) ∧
  -- leadingEdgeLost
  (∃ (s : State) (t : Nat) (ch : Nat) (fine : Nat) (x : Nat),
    (s.dev.alive = true) ∧ (ch < 256) ∧ (s.dev.rbit (R.RFE_CTRL ch) 0 = true) ∧ (s.dev.chRemoved ch = false) ∧ ((s.dev.ch ch).lastEdge = some x) ∧ ((s.dev.advanceTo t).now < x + 12)) ∧
  -- eventComplete
  (∃ (s : State) (t : Nat) (ch : Nat) (width : Nat) (hi : Bool) (e : TdcEvent),
    (s.dev.alive = true) ∧ (ch < 256) ∧ ((s.dev.ch ch).events.find? (fun e => !e.complete) = some e) ∧ (Nat.min (e.tick + Nat.max 12 (satN 31 width)) (e.tick + 31) ≤ (s.dev.advanceTo t).now)) ∧
  -- windowBoundaryApply
  (∃ (s : State) (t : Nat) (ch : Nat),
    (s.dev.alive = true) ∧ (ch < 256)) ∧
  -- pendingWriteApplied
  (∃ (s : State) (t : Nat) (ch : Nat) (v : Word),
    (s.dev.alive = true) ∧ (ch < 256) ∧ ((s.dev.ch ch).pend = [(R.RFE_CTRL ch, v)])) ∧
  -- settleEnd
  (∃ (s : State) (t : Nat) (ch : Nat) (x : Nat),
    (s.dev.alive = true) ∧ (ch < 256) ∧ ((s.dev.ch ch).settleFrom = some x) ∧ (x + 12 ≤ (s.dev.advanceTo t).now)) ∧
  -- rfeModeWrite
  (∃ (s : State) (src : Nat) (t : Nat) (ch : Nat) (v : Word),
    (s.dev.alive = true) ∧ (ch < 256) ∧ ((s.dev.top.state = .armed ∨ s.dev.top.state = .held)) ∧ ((s.dev.ch ch).pend = [])) ∧
  -- rfeModeRefused
  (∃ (s : State) (src : Nat) (t : Nat) (ch : Nat) (v : Word),
    (s.dev.alive = true) ∧ (ch < 256) ∧ (s.dev.top.state = .ranging) ∧ (s.dev.scheduled ch = true) ∧ (bits (v &&& 0x1F1F#32) 1 1 ≠ s.dev.fld (R.RFE_CTRL ch) 1 1)) ∧
  -- meterRoundClose
  (∃ (s : State) (t : Nat),
    (s.dev.alive = true) ∧ ((s.dev.gat.round + 1) * 16384 + 36 ≤ (s.dev.advanceTo t).now)) ∧
  -- quadrantSupplyTrip
  (∃ (s : State) (t : Nat) (q : Nat),
    (s.dev.alive = true) ∧ (q < 4) ∧ (s.dev.faultRoom 0x0801 = true)) ∧
  -- lineMonitorGood
  (∃ (s : State) (t : Nat) (ch : Nat) (tap : Nat),
    (s.dev.alive = true) ∧ (ch < 256) ∧ (29 ≤ tap) ∧ (tap ≤ 33)) ∧
  -- lineMonitorBad
  (∃ (s : State) (t : Nat) (ch : Nat) (tap : Nat),
    (s.dev.alive = true) ∧ (ch < 256) ∧ ((tap < 29 ∨ 33 < tap))) ∧
  -- comparatorStuck
  (∃ (s : State) (t : Nat) (ch : Nat),
    (s.dev.alive = true) ∧ (ch < 256) ∧ (s.dev.isRemoved (.channel ch) = false) ∧ (s.dev.faultRoom 0x0804 = true)) ∧
  -- trimParityError
  (∃ (s : State) (t : Nat) (ch : Nat),
    (s.dev.alive = true) ∧ (ch < 256) ∧ (s.dev.isRemoved (.channel ch) = false) ∧ (s.dev.faultRoom 0x0805 = true)) ∧
  -- reinstateCh
  (∃ (s : State) (src : Nat) (t : Nat) (ch : Nat) (low : Bool),
    (s.dev.alive = true) ∧ (ch < 256) ∧ ((s.dev.top.state = .armed ∨ s.dev.top.state = .ranging)) ∧ (s.dev.cmdBusy R.RFE_CMD = false) ∧ (s.dev.isRemoved (.quadrant (ch / 64)) = false) ∧ (s.dev.isRemoved (.channel ch) = true) ∧ (s.dev.faultCleared (s.dev.ch ch).cause = true) ∧ (((s.dev.ch ch).cause = 0x0804 → low = true))) ∧
  -- reinstateQuad
  (∃ (s : State) (src : Nat) (t : Nat) (q : Nat),
    (s.dev.alive = true) ∧ (q < 4) ∧ ((s.dev.top.state = .armed ∨ s.dev.top.state = .ranging)) ∧ (s.dev.cmdBusy R.RFE_CMD = false) ∧ (s.dev.isRemoved (.quadrant q) = true) ∧ (s.dev.faultCleared 0x0801 = true) ∧ (s.dev.supplyBad (.fe q) = false)) ∧
  -- windowOpen
  (∃ (s : State) (t : Nat) (w : Win),
    (s.dev.alive = true) ∧ (s.dev.gat.wins = [w]) ∧ (w.opened = false) ∧ (w.openT ≤ (s.dev.advanceTo t).now)) :=
  ⟨⟨st ((up .ranging).setReg (R.RFE_CTRL 255) 1#32), 50, 255, 31, by decide +kernel⟩,
   ⟨st { (up .ranging).setReg (R.RFE_CTRL 255) 1#32 with rfe := [(255, { lastEdge := some 39, events := [{ tick := 39 }] })] }, 50, 255, 31, 39, by decide +kernel⟩,
   ⟨st { (up .ranging).setReg (R.RFE_CTRL 255) 1#32 with rfe := [(255, { lastEdge := some 39, events := [{ tick := 39 }] })] }, 70, 255, 40, true, { tick := 39 }, by decide +kernel⟩,
   ⟨st { (up .ranging).setReg (R.RFE_CTRL 255) 1#32 with rfe := [(255, { pend := [(R.RFE_CTRL 255, 5#32)], upReq := true })] }, 70, 255, by decide +kernel⟩,
   ⟨st { (up .ranging).setReg (R.RFE_CTRL 255) 1#32 with rfe := [(255, { pend := [(R.RFE_CTRL 255, 5#32)], upReq := true })] }, 70, 255, 5#32, by decide +kernel⟩,
   ⟨st { (up .ranging).setReg (R.RFE_STATUS 255) 8#32 with rfe := [(255, { settleFrom := some 50 })] }, 62, 255, 50, by decide +kernel⟩,
   ⟨st (up .armed), 1, 62, 255, 0xFFFFFFFF#32, by decide +kernel⟩,
   ⟨st { (up .ranging).setReg (R.GAT_IFC_CFG) 0#32 |>.setReg (R.SEQ_EMIT_RMAP 0) 0x80000000#32 with gat := { wins := [{ emitter := 0 }] } }, 1, 62, 255, 0xFFFFFFFF#32, by decide +kernel⟩,
   ⟨st { up .ranging with gat := { meter := [(3, 5)], hadWin := [0, 1] } }, 16420, by decide +kernel⟩,
   ⟨st (up .ranging), 16420, 3, by decide +kernel⟩,
   ⟨st { up .ranging with rfe := [(5, { driftRounds := 3 })] }, 20, 5, 33, by decide +kernel⟩,
   ⟨st { up .ranging with rfe := [(5, { driftRounds := 63 })] }, 20, 5, 34, by decide +kernel⟩,
   ⟨st (up .ranging), 20, 5, by decide +kernel⟩,
   ⟨st (up .ranging), 20, 5, by decide +kernel⟩,
   ⟨st { up .ranging with rfe := [(255, { cause := 0x0804 })], top := { state := .ranging, removed := [.channel 255] } }, 12, 20, 255, true, by decide +kernel⟩,
   ⟨st { up .ranging with top := { state := .ranging, removed := [.quadrant 3] } }, 12, 20, 3, by decide +kernel⟩,
   ⟨st { up .ranging with gat := { wins := [{ openT := 60, len := 10, chs := [(5, {})], shotId := 8 }] } }, 60, { openT := 60, len := 10, chs := [(5, {})], shotId := 8 }, by decide +kernel⟩⟩

theorem test_witness_GatingComplete :
  -- eventOutsideWindows
  (∃ (s : State) (t : Nat) (ch : Nat) (e : TdcEvent) (r : List TdcEvent),
    (s.dev.alive = true) ∧ (ch < 256) ∧ (s.dev.gat.waiting = []) ∧ ((s.dev.ch ch).events = e :: r) ∧ (e.complete = true) ∧ (s.dev.chRemoved ch = false) ∧ (s.dev.takingWin ch e.tick = none)) ∧
  -- eventArrival
  (∃ (s : State) (t : Nat) (ch : Nat) (e : TdcEvent) (r : List TdcEvent) (w : Win),
    (s.dev.alive = true) ∧ (ch < 256) ∧ (s.dev.gat.waiting = []) ∧ ((s.dev.ch ch).events = e :: r) ∧ (e.complete = true) ∧ (s.dev.chRemoved ch = false) ∧ (s.dev.takingWin ch e.tick = some w) ∧ (e.settle = false) ∧ (bits (s.dev.portCfgAt ch) 20 16 ≤ e.width)) ∧
  -- verdictClean
  (∃ (s : State) (t : Nat) (b : Block),
    (s.dev.alive = true) ∧ (s.dev.gat.waiting = []) ∧ (s.dev.gat.blocks = [b]) ∧ (s.dev.gat.prov = []) ∧ (s.dev.gat.wins = []) ∧ (s.dev.hst.updates = []) ∧ (b.judged = false) ∧ (b.checked = false) ∧ (b.unchecked = false) ∧ (b.trunc = []) ∧ (b.closedAt.isSome = true) ∧ (b.x + 48 ≤ (s.dev.advanceTo t).now) ∧ ((s.dev.advanceTo t).now ≤ b.x + 1280)) ∧
  -- verdictTainted
  (∃ (s : State) (t : Nat) (b : Block) (e : ProvEntry) (sh : Shadow),
    (s.dev.alive = true) ∧ (s.dev.gat.waiting = []) ∧ (s.dev.gat.blocks = [b]) ∧ (s.dev.gat.prov = [e]) ∧ (s.dev.gat.wins = []) ∧ (s.dev.hst.updates = []) ∧ (s.dev.gat.shadows.map (·.2) = [sh]) ∧ (sh.emitter = b.emitter) ∧ (sh.blockSeq = b.seq) ∧ (kOf b.k b.shots ≤ sh.max) ∧ (sh.parity = false) ∧ (e.emitter = b.emitter) ∧ (e.blockSeq = b.seq) ∧ (b.judged = false) ∧ (b.checked = true) ∧ (b.trunc = []) ∧ (b.closedAt.isSome = true) ∧ (b.x + 48 ≤ (s.dev.advanceTo t).now)) ∧
  -- eventCommit
  (∃ (s : State) (t : Nat) (err : Nat) (k : Nat) (e : ProvEntry) (h : Hist),
    (s.dev.alive = true) ∧ (err < 2) ∧ (s.dev.gat.prov.find? (fun e => e.committing && (match mget s.dev.gat.lastCommit e.ch with | some x => decide (x + 4 ≤ (s.dev.advanceTo t).now) | none => true)) = some e) ∧ (s.dev.targetHist e.ch e.uid e.reattr e.measured = some k) ∧ (mget s.dev.hst.hists k = some h)) ∧
  -- eventCommitPoisoned
  (∃ (s : State) (t : Nat) (err : Nat) (e : ProvEntry),
    (s.dev.alive = true) ∧ (2 ≤ err) ∧ (s.dev.gat.prov.find? (fun e => e.committing && (match mget s.dev.gat.lastCommit e.ch with | some x => decide (x + 4 ≤ (s.dev.advanceTo t).now) | none => true)) = some e)) :=
  ⟨⟨st { up .ranging with rfe := [(7, { events := [{ tick := 20, complete := true }] })] }, 50, 7, { tick := 20, complete := true }, [], by decide +kernel⟩,
   ⟨st { up .ranging with rfe := [(7, { events := [{ tick := 20, complete := true, width := 3 }] })], gat := { wins := [{ openT := 15, len := 10, shotId := 3, chs := [(7, {})] }] } }, 50, 7, { tick := 20, complete := true, width := 3 }, [], { openT := 15, len := 10, shotId := 3, chs := [(7, {})] }, by decide +kernel⟩,
   ⟨st { up .ranging with gat := { blocks := [{ closedAt := some 50, x := 50 }] } }, 98, { closedAt := some 50, x := 50 }, by decide +kernel⟩,
   ⟨st { up .ranging with gat := { blocks := [{ closedAt := some 50, x := 50, checked := true, k := 4, shots := 8, emitter := 2, seq := 9 }], prov := [{ emitter := 2, blockSeq := 9 }], shadows := [(0, { emitter := 2, blockSeq := 9, max := 4, masks := [(5, 15)] })] } }, 98, { closedAt := some 50, x := 50, checked := true, k := 4, shots := 8, emitter := 2, seq := 9 }, { emitter := 2, blockSeq := 9 }, { emitter := 2, blockSeq := 9, max := 4, masks := [(5, 15)] }, by decide +kernel⟩,
   ⟨st { up .ranging with gat := { prov := [{ committing := true, ch := 5, uid := 3, record := 0x5007 }] }, hst := { hists := [(11, { uid := 3 })] } }, 98, 1, 11, { committing := true, ch := 5, uid := 3, record := 0x5007 }, { uid := 3 }, by decide +kernel⟩,
   ⟨st { up .ranging with gat := { prov := [{ committing := true, ch := 5, uid := 3, record := 0x5007 }] }, hst := { hists := [(11, { uid := 3 })] } }, 98, 2, { committing := true, ch := 5, uid := 3, record := 0x5007 }, by decide +kernel⟩⟩

theorem test_witness_HistogramComplete :
  -- histogramUpdate
  (∃ (s : State) (t : Nat) (half : Nat) (u : Update),
    (s.dev.alive = true) ∧ (s.dev.hst.updates.find? (fun u => 2 * (u.ch / 4) + u.slot == half) = some u) ∧ (s.sramPoison.contains (binAddr (2 * u.ch + u.slot) (u.bin / 8 * 8)) = false)) ∧
  -- histogramClosing
  (∃ (s : State) (t : Nat) (c : CellRec),
    (s.dev.alive = true) ∧ ((s.dev.seq.cells.map (·.2)).filter (fun c => !c.closed && decide (0 < c.firedTotal) && s.dev.cellClosable c.uid) = [c]) ∧ (mget s.dev.seq.cells c.uid = some c)) ∧
  -- sieveLaneTake
  (∃ (s : State) (t : Nat) (lane : Nat) (k : Nat) (bad : List Nat) (room : Bool) (rest : List Nat) (h : Hist),
    (s.dev.alive = true) ∧ (lane < 16) ∧ (mget s.dev.hst.lanes lane = none) ∧ (s.dev.hst.closing = k :: rest) ∧ (mget s.dev.hst.hists k = some h) ∧ (s.dev.hst.updates.any (fun u => 2 * u.ch + u.slot == k) = false)) ∧
  -- histogramReadoutEnd
  (∃ (s : State) (t : Nat) (lane : Nat) (k : Nat) (ws : List Word) (h : Hist) (h' : Hist),
    (s.dev.alive = true) ∧ (mget s.dev.hst.lanes lane = some (ws, h, k)) ∧ (mget s.dev.hst.hists k = some h') ∧ (h'.lane = some lane) ∧ (h'.st = .readout)) ∧
  -- emptySetHandedOff
  (∃ (s : State) (t : Nat) (lane : Nat) (n : Nat) (x : CandSet) (r : List CandSet),
    (s.dev.alive = true) ∧ (s.dev.top.state ≠ .held) ∧ (16 ≤ lane) ∧ (s.dev.hst.noSlotSets = x :: r) ∧ (s.dev.freePlace = some n)) ∧
  -- candidateHandoff
  (∃ (s : State) (t : Nat) (lane : Nat) (k : Nat) (n : Nat) (ws : List Word) (h : Hist),
    (s.dev.alive = true) ∧ (s.dev.top.state ≠ .held) ∧ (lane < 16) ∧ (mget s.dev.hst.lanes lane = some (ws, h, k)) ∧ (mget s.dev.hst.hists k = none) ∧ (s.dev.freePlace = some n)) ∧
  -- handoffInHeld
  (∃ (s : State) (t : Nat) (lane : Nat) (k : Nat) (ws : List Word) (h : Hist),
    (s.dev.alive = true) ∧ (s.dev.top.state = .held) ∧ (lane < 16) ∧ (mget s.dev.hst.lanes lane = some (ws, h, k)) ∧ (mget s.dev.hst.hists k = none)) ∧
  -- hstWindowWrite
  (∃ (s : State) (src : Nat) (t : Nat) (addr : Nat) (v : Word),
    (s.dev.alive = true) ∧ (s.dev.top.state ≠ .headframe)) ∧
  -- hstSlotSnapshotRead
  (∃ (s : State) (src : Nat) (t : Nat) (entry : Nat) (word : Nat),
    (s.dev.alive = true) ∧ (s.dev.reg (R.FMN_ALLOC 21) ≠ 0)) ∧
  -- slotTableParityError
  (∃ (s : State) (t : Nat),
    (s.dev.alive = true)) :=
  ⟨⟨{ st { up .ranging with hst := { updates := [{ ch := 5, slot := 1, bin := 4095, fine := 9 }], hists := [(11, { uid := 3 })] } } with sram := memSetBytes [] (binAddr 11 4095) [5, 0, 0, 0] }, 98, 3, { ch := 5, slot := 1, bin := 4095, fine := 9 }, by decide +kernel⟩,
   ⟨st { up .ranging with seq := { cells := [(3, { uid := 3, firedTotal := 1, cancelled := true, noSlot := [9] })] }, hst := { hists := [(11, { uid := 3 })] } }, 98, { uid := 3, firedTotal := 1, cancelled := true, noSlot := [9] }, by decide +kernel⟩,
   ⟨{ st { up .ranging with hst := { closing := [11], hists := [(11, { uid := 3, winLen := 9 })] } } with sram := memSetBytes [] (binAddr 11 8) [5, 0, 0, 0] }, 98, 15, 11, [], true, [], { uid := 3, winLen := 9 }, by decide +kernel⟩,
   ⟨st { up .ranging with hst := { lanes := [(15, ([1, 2], { uid := 3 }, 11))], hists := [(11, { uid := 3, lane := some 15, st := .readout })] } }, 98, 15, 11, [1, 2], { uid := 3 }, { uid := 3, lane := some 15, st := .readout }, by decide +kernel⟩,
   ⟨st { up .ranging with hst := { noSlotSets := [{ uid := 3, cell := 7, channel := 200 }] } }, 98, 16, 0, { uid := 3, cell := 7, channel := 200 }, [], by decide +kernel⟩,
   ⟨st { up .ranging with hst := { lanes := [(15, ([1, 2, 300, 4], { uid := 3, cell := 5, winLen := 4 }, 11))] } }, 98, 15, 11, 0, [1, 2, 300, 4], { uid := 3, cell := 5, winLen := 4 }, by decide +kernel⟩,
   ⟨st { up .held with hst := { lanes := [(15, ([1, 2, 300, 4], { uid := 3, cell := 5, winLen := 4 }, 11))] } }, 98, 15, 11, [1, 2, 300, 4], { uid := 3, cell := 5, winLen := 4 }, by decide +kernel⟩,
   ⟨st (up .armed), 0, 5, 0x01000000, 9#32, by decide +kernel⟩,
   ⟨st { (up .ranging).setReg (R.FMN_ALLOC 21) 1#32 with hst := { hists := [(511, { uid := 3, cell := 5 })] } }, 2, 5, 511, 0, by decide +kernel⟩,
   ⟨st (up .armed), 8, by decide +kernel⟩⟩

theorem test_witness_LodeComplete :
  -- lodeWriteBack
  (∃ (s : State) (t : Nat) (j : Nat) (set : CandSet) (c : Cand) (rest : List (CandSet × Cand)),
    (s.dev.alive = true) ∧ (s.dev.hst.lodeQueue = (set, c) :: rest) ∧ (s.dev.hoistFailed = false) ∧ (s.dev.hoistServing = true) ∧ (s.dev.lodeUnread s.dev.hst.lodeBank (fun j => s.dev.lodeMap.slot set.cell set.channel j) s.dev.lodeMap.cands false = []) ∧ (lodePick ((List.range s.dev.lodeMap.cands).map (fun j => dramLe s.dram (s.dev.lodeAnchorAddr s.dev.hst.lodeBank (s.dev.lodeMap.slot set.cell set.channel j)) 8)) s.dev.hst.lodeEpoch s.dev.lodeMap.tol c.bin = some (j, true))) ∧
  -- lodeDroppedOnFailedHoist
  (∃ (s : State) (t : Nat) (set : CandSet) (c : Cand) (rest : List (CandSet × Cand)) (e : List Nat),
    (s.dev.alive = true) ∧ (s.dev.hst.lodeQueue = (set, c) :: rest) ∧ (s.dev.hoistFailed = true)) ∧
  -- lodeClearPass
  (∃ (s : State) (t : Nat),
    (s.dev.alive = true) ∧ ((s.dev.top.state = .armed ∨ s.dev.hst.clearing = true)) ∧ (s.dev.hoistServing = true)) :=
  ⟨⟨st { ((up .ranging).setReg R.HOI_STATUS 1#32).setReg R.HOI_CTRL 0#32 |>.setReg R.FMN_DRAM_CAP 0x00100000#32 with hoi := { tags := [{ lo := 0, hi := 0x1000000 }] }, hst := { lodeQueue := [({ cell := 0, channel := 0 }, { bin := 9 })], lodeEpoch := 1, lodeStarted := true, lodeSampled := [0, 1, 0x100, 0x01000101] } }, 8, 0, { cell := 0, channel := 0 }, { bin := 9 }, [], by decide +kernel⟩,
   ⟨st { up .ranging with top := { state := .ranging, removed := [.hoist] }, hst := { lodeQueue := [({}, { bin := 9 })] } }, 8, {}, { bin := 9 }, [], [1], by decide +kernel⟩,
   ⟨{ st { (up .armed).setReg R.HOI_STATUS 1#32 with hst := { clearing := true } } with dram := dramSetBytes [] 0x8000003 [7] }, 8, by decide +kernel⟩⟩

theorem test_witness_AssayIntegerComplete :
  -- nop
  (∃ (s : State) (t : Nat) (k : Nat) (w : Nat),
    (s.stands k w .nop = true)) ∧
  -- add
  (∃ (s : State) (t : Nat) (k : Nat) (w : Nat) (a : Word) (b : Word),
    (s.stands k w .add = true) ∧ (s.gOf k (fieldOf w 18 15) = a) ∧ (s.gOf k (fieldOf w 14 11) = b)) ∧
  -- sub
  (∃ (s : State) (t : Nat) (k : Nat) (w : Nat) (a : Word) (b : Word),
    (s.stands k w .sub = true) ∧ (s.gOf k (fieldOf w 18 15) = a) ∧ (s.gOf k (fieldOf w 14 11) = b)) ∧
  -- cmp
  (∃ (s : State) (t : Nat) (k : Nat) (w : Nat) (a : Word) (b : Word),
    (s.stands k w .cmp = true) ∧ (s.gOf k (fieldOf w 18 15) = a) ∧ (s.gOf k (fieldOf w 14 11) = b)) ∧
  -- and
  (∃ (s : State) (t : Nat) (k : Nat) (w : Nat) (a : Word) (b : Word),
    (s.stands k w .and = true) ∧ (s.gOf k (fieldOf w 18 15) = a) ∧ (s.gOf k (fieldOf w 14 11) = b)) ∧
  -- or
  (∃ (s : State) (t : Nat) (k : Nat) (w : Nat) (a : Word) (b : Word),
    (s.stands k w .or = true) ∧ (s.gOf k (fieldOf w 18 15) = a) ∧ (s.gOf k (fieldOf w 14 11) = b)) ∧
  -- xor
  (∃ (s : State) (t : Nat) (k : Nat) (w : Nat) (a : Word) (b : Word),
    (s.stands k w .xor = true) ∧ (s.gOf k (fieldOf w 18 15) = a) ∧ (s.gOf k (fieldOf w 14 11) = b)) ∧
  -- andn
  (∃ (s : State) (t : Nat) (k : Nat) (w : Nat) (a : Word) (b : Word),
    (s.stands k w .andn = true) ∧ (s.gOf k (fieldOf w 18 15) = a) ∧ (s.gOf k (fieldOf w 14 11) = b)) ∧
  -- shl
  (∃ (s : State) (t : Nat) (k : Nat) (w : Nat) (a : Word) (b : Word),
    (s.stands k w .shl = true) ∧ (s.gOf k (fieldOf w 18 15) = a) ∧ (s.gOf k (fieldOf w 14 11) = b)) ∧
  -- shr
  (∃ (s : State) (t : Nat) (k : Nat) (w : Nat) (a : Word) (b : Word),
    (s.stands k w .shr = true) ∧ (s.gOf k (fieldOf w 18 15) = a) ∧ (s.gOf k (fieldOf w 14 11) = b)) ∧
  -- sra
  (∃ (s : State) (t : Nat) (k : Nat) (w : Nat) (a : Word) (b : Word),
    (s.stands k w .sra = true) ∧ (s.gOf k (fieldOf w 18 15) = a) ∧ (s.gOf k (fieldOf w 14 11) = b)) ∧
  -- min
  (∃ (s : State) (t : Nat) (k : Nat) (w : Nat) (a : Word) (b : Word),
    (s.stands k w .min = true) ∧ (s.gOf k (fieldOf w 18 15) = a) ∧ (s.gOf k (fieldOf w 14 11) = b)) ∧
  -- max
  (∃ (s : State) (t : Nat) (k : Nat) (w : Nat) (a : Word) (b : Word),
    (s.stands k w .max = true) ∧ (s.gOf k (fieldOf w 18 15) = a) ∧ (s.gOf k (fieldOf w 14 11) = b)) ∧
  -- absNegative
  (∃ (s : State) (t : Nat) (k : Nat) (w : Nat) (a : Word),
    (s.stands k w .abs = true) ∧ (s.gOf k (fieldOf w 18 15) = a) ∧ (a.msb = true)) ∧
  -- abs
  (∃ (s : State) (t : Nat) (k : Nat) (w : Nat) (a : Word),
    (s.stands k w .abs = true) ∧ (s.gOf k (fieldOf w 18 15) = a) ∧ (a.msb = false)) ∧
  -- neg
  (∃ (s : State) (t : Nat) (k : Nat) (w : Nat) (a : Word),
    (s.stands k w .neg = true) ∧ (s.gOf k (fieldOf w 18 15) = a)) ∧
  -- ext
  (∃ (s : State) (t : Nat) (k : Nat) (w : Nat) (a : Word),
    (s.stands k w .ext = true) ∧ (s.gOf k (fieldOf w 18 15) = a)) ∧
  -- ins
  (∃ (s : State) (t : Nat) (k : Nat) (w : Nat) (a : Word),
    (s.stands k w .ins = true) ∧ (s.gOf k (fieldOf w 18 15) = a)) ∧
  -- mul
  (∃ (s : State) (t : Nat) (k : Nat) (w : Nat) (a : Word) (b : Word),
    (s.stands k w .mul = true) ∧ (s.gOf k (fieldOf w 18 15) = a) ∧ (s.gOf k (fieldOf w 14 11) = b)) ∧
  -- norm
  (∃ (s : State) (t : Nat) (k : Nat) (w : Nat) (n : Nat) (a : Word),
    (s.stands k w .norm = true) ∧ (s.gOf k (fieldOf w 18 15) = a) ∧ (n < 32) ∧ ((a <<< n).sshiftRight n = a) ∧ ((n = 31 ∨ (a <<< n).getLsbD 31 ≠ (a <<< n).getLsbD 30))) ∧
  -- div
  (∃ (s : State) (t : Nat) (k : Nat) (w : Nat) (a : Word) (b : Word),
    (s.stands k w .div = true) ∧ (s.gOf k (fieldOf w 18 15) = a) ∧ (s.gOf k (fieldOf w 14 11) = b) ∧ (b ≠ 0#32)) ∧
  -- divByZero
  (∃ (s : State) (t : Nat) (k : Nat) (w : Nat) (a : Word) (b : Word),
    (s.stands k w .div = true) ∧ (s.gOf k (fieldOf w 18 15) = a) ∧ (s.gOf k (fieldOf w 14 11) = b) ∧ (b = 0#32)) ∧
  -- divu
  (∃ (s : State) (t : Nat) (k : Nat) (w : Nat) (a : Word) (b : Word),
    (s.stands k w .divu = true) ∧ (s.gOf k (fieldOf w 18 15) = a) ∧ (s.gOf k (fieldOf w 14 11) = b) ∧ (b ≠ 0#32)) ∧
  -- divuByZero
  (∃ (s : State) (t : Nat) (k : Nat) (w : Nat) (a : Word) (b : Word),
    (s.stands k w .divu = true) ∧ (s.gOf k (fieldOf w 18 15) = a) ∧ (s.gOf k (fieldOf w 14 11) = b) ∧ (b = 0#32)) ∧
  -- ldi
  (∃ (s : State) (t : Nat) (k : Nat) (w : Nat) (a : Word),
    (s.stands k w .ldi = true) ∧ (s.gOf k (fieldOf w 25 22) = a)) ∧
  -- ldih
  (∃ (s : State) (t : Nat) (k : Nat) (w : Nat) (a : Word),
    (s.stands k w .ldih = true) ∧ (s.gOf k (fieldOf w 25 22) = a)) ∧
  -- addi
  (∃ (s : State) (t : Nat) (k : Nat) (w : Nat) (a : Word),
    (s.stands k w .addi = true) ∧ (s.gOf k (fieldOf w 25 22) = a)) ∧
  -- cmpi
  (∃ (s : State) (t : Nat) (k : Nat) (w : Nat) (a : Word),
    (s.stands k w .cmpi = true) ∧ (s.gOf k (fieldOf w 25 22) = a)) ∧
  -- setp
  (∃ (s : State) (t : Nat) (k : Nat) (w : Nat),
    (s.stands k w .setp = true)) :=
  ⟨⟨atCore 0 { g := [1, 0xFFFFFFFF, 3, 0x80000000, 5, 0x7FFFFFFF, 7, 8, 9, 10, 11, 12, 13, 14, 15, 16], flags := 15, a0 := 77, a1 := 0xFFFFFFFFF0#40, p := [16, 17, 18, 19, 20, 21, 22, 23], step := [1, 2, 3, 4, 5, 6, 7, 8] }, 9, 3, 0, by decide +kernel⟩,
   ⟨atCore 26378240 { g := [1, 0xFFFFFFFF, 3, 0x80000000, 5, 0x7FFFFFFF, 7, 8, 9, 10, 11, 12, 13, 14, 15, 16], flags := 15, a0 := 77, a1 := 0xFFFFFFFFF0#40, p := [16, 17, 18, 19, 20, 21, 22, 23], step := [1, 2, 3, 4, 5, 6, 7, 8] }, 9, 3, 26378240, 0x7FFFFFFF#32, 0x1#32, by decide +kernel⟩,
   ⟨atCore 34701312 { g := [1, 0xFFFFFFFF, 3, 0x80000000, 5, 0x7FFFFFFF, 7, 8, 9, 10, 11, 12, 13, 14, 15, 16], flags := 15, a0 := 77, a1 := 0xFFFFFFFFF0#40, p := [16, 17, 18, 19, 20, 21, 22, 23], step := [1, 2, 3, 4, 5, 6, 7, 8] }, 9, 3, 34701312, 0x80000000#32, 0x1#32, by decide +kernel⟩,
   ⟨atCore 59867136 { g := [1, 0xFFFFFFFF, 3, 0x80000000, 5, 0x7FFFFFFF, 7, 8, 9, 10, 11, 12, 13, 14, 15, 16], flags := 15, a0 := 77, a1 := 0xFFFFFFFFF0#40, p := [16, 17, 18, 19, 20, 21, 22, 23], step := [1, 2, 3, 4, 5, 6, 7, 8] }, 9, 3, 59867136, 0x80000000#32, 0x1#32, by decide +kernel⟩,
   ⟨atCore 68329472 { g := [1, 0xFFFFFFFF, 3, 0x80000000, 5, 0x7FFFFFFF, 7, 8, 9, 10, 11, 12, 13, 14, 15, 16], flags := 15, a0 := 77, a1 := 0xFFFFFFFFF0#40, p := [16, 17, 18, 19, 20, 21, 22, 23], step := [1, 2, 3, 4, 5, 6, 7, 8] }, 9, 3, 68329472, 0x7FFFFFFF#32, 0x5#32, by decide +kernel⟩,
   ⟨atCore 91920384 { g := [1, 0xFFFFFFFF, 3, 0x80000000, 5, 0x7FFFFFFF, 7, 8, 9, 10, 11, 12, 13, 14, 15, 16], flags := 15, a0 := 77, a1 := 0xFFFFFFFFF0#40, p := [16, 17, 18, 19, 20, 21, 22, 23], step := [1, 2, 3, 4, 5, 6, 7, 8] }, 9, 3, 91920384, 0x7FFFFFFF#32, 0x80000000#32, by decide +kernel⟩,
   ⟨atCore 101885952 { g := [1, 0xFFFFFFFF, 3, 0x80000000, 5, 0x7FFFFFFF, 7, 8, 9, 10, 11, 12, 13, 14, 15, 16], flags := 15, a0 := 77, a1 := 0xFFFFFFFFF0#40, p := [16, 17, 18, 19, 20, 21, 22, 23], step := [1, 2, 3, 4, 5, 6, 7, 8] }, 9, 3, 101885952, 0x7FFFFFFF#32, 0x7FFFFFFF#32, by decide +kernel⟩,
   ⟨atCore 118661120 { g := [1, 0xFFFFFFFF, 3, 0x80000000, 5, 0x7FFFFFFF, 7, 8, 9, 10, 11, 12, 13, 14, 15, 16], flags := 15, a0 := 77, a1 := 0xFFFFFFFFF0#40, p := [16, 17, 18, 19, 20, 21, 22, 23], step := [1, 2, 3, 4, 5, 6, 7, 8] }, 9, 3, 118661120, 0x7FFFFFFF#32, 0x5#32, by decide +kernel⟩,
   ⟨atCore 135438367 { g := [1, 0xFFFFFFFF, 3, 0x80000000, 5, 0x7FFFFFFF, 7, 8, 9, 10, 11, 12, 13, 14, 15, 16], flags := 15, a0 := 77, a1 := 0xFFFFFFFFF0#40, p := [16, 17, 18, 19, 20, 21, 22, 23], step := [1, 2, 3, 4, 5, 6, 7, 8] }, 9, 3, 135438367, 0x7FFFFFFF#32, 0x5#32, by decide +kernel⟩,
   ⟨atCore 152172576 { g := [1, 0xFFFFFFFF, 3, 0x80000000, 5, 0x7FFFFFFF, 7, 8, 9, 10, 11, 12, 13, 14, 15, 16], flags := 15, a0 := 77, a1 := 0xFFFFFFFFF0#40, p := [16, 17, 18, 19, 20, 21, 22, 23], step := [1, 2, 3, 4, 5, 6, 7, 8] }, 9, 3, 152172576, 0x80000000#32, 0x10#32, by decide +kernel⟩,
   ⟨atCore 168949791 { g := [1, 0xFFFFFFFF, 3, 0x80000000, 5, 0x7FFFFFFF, 7, 8, 9, 10, 11, 12, 13, 14, 15, 16], flags := 15, a0 := 77, a1 := 0xFFFFFFFFF0#40, p := [16, 17, 18, 19, 20, 21, 22, 23], step := [1, 2, 3, 4, 5, 6, 7, 8] }, 9, 3, 168949791, 0x80000000#32, 0x10#32, by decide +kernel⟩,
   ⟨atCore 185706496 { g := [1, 0xFFFFFFFF, 3, 0x80000000, 5, 0x7FFFFFFF, 7, 8, 9, 10, 11, 12, 13, 14, 15, 16], flags := 15, a0 := 77, a1 := 0xFFFFFFFFF0#40, p := [16, 17, 18, 19, 20, 21, 22, 23], step := [1, 2, 3, 4, 5, 6, 7, 8] }, 9, 3, 185706496, 0x80000000#32, 0x7FFFFFFF#32, by decide +kernel⟩,
   ⟨atCore 202483712 { g := [1, 0xFFFFFFFF, 3, 0x80000000, 5, 0x7FFFFFFF, 7, 8, 9, 10, 11, 12, 13, 14, 15, 16], flags := 15, a0 := 77, a1 := 0xFFFFFFFFF0#40, p := [16, 17, 18, 19, 20, 21, 22, 23], step := [1, 2, 3, 4, 5, 6, 7, 8] }, 9, 3, 202483712, 0x80000000#32, 0x7FFFFFFF#32, by decide +kernel⟩,
   ⟨atCore 227639296 { g := [1, 0xFFFFFFFF, 3, 0x80000000, 5, 0x7FFFFFFF, 7, 8, 9, 10, 11, 12, 13, 14, 15, 16], flags := 15, a0 := 77, a1 := 0xFFFFFFFFF0#40, p := [16, 17, 18, 19, 20, 21, 22, 23], step := [1, 2, 3, 4, 5, 6, 7, 8] }, 9, 3, 227639296, 0x80000000#32, by decide +kernel⟩,
   ⟨atCore 219283456 { g := [1, 0xFFFFFFFF, 3, 0x80000000, 5, 0x7FFFFFFF, 7, 8, 9, 10, 11, 12, 13, 14, 15, 16], flags := 15, a0 := 77, a1 := 0xFFFFFFFFF0#40, p := [16, 17, 18, 19, 20, 21, 22, 23], step := [1, 2, 3, 4, 5, 6, 7, 8] }, 9, 3, 219283456, 0x5#32, by decide +kernel⟩,
   ⟨atCore 236027904 { g := [1, 0xFFFFFFFF, 3, 0x80000000, 5, 0x7FFFFFFF, 7, 8, 9, 10, 11, 12, 13, 14, 15, 16], flags := 15, a0 := 77, a1 := 0xFFFFFFFFF0#40, p := [16, 17, 18, 19, 20, 21, 22, 23], step := [1, 2, 3, 4, 5, 6, 7, 8] }, 9, 3, 236027904, 0x80000000#32, by decide +kernel⟩,
   ⟨atCore 252871908 { g := [1, 0xFFFFFFFF, 3, 0x80000000, 5, 0x7FFFFFFF, 7, 8, 9, 10, 11, 12, 13, 14, 15, 16], flags := 15, a0 := 77, a1 := 0xFFFFFFFFF0#40, p := [16, 17, 18, 19, 20, 21, 22, 23], step := [1, 2, 3, 4, 5, 6, 7, 8] }, 9, 3, 252871908, 0x7FFFFFFF#32, by decide +kernel⟩,
   ⟨atCore 270139644 { g := [1, 0xFFFFFFFF, 3, 0x80000000, 5, 0x7FFFFFFF, 7, 8, 9, 10, 11, 12, 13, 14, 15, 16], flags := 15, a0 := 77, a1 := 0xFFFFFFFFF0#40, p := [16, 17, 18, 19, 20, 21, 22, 23], step := [1, 2, 3, 4, 5, 6, 7, 8] }, 9, 3, 270139644, 0x5#32, by decide +kernel⟩,
   ⟨atCore 294819840 { g := [1, 0xFFFFFFFF, 3, 0x80000000, 5, 0x7FFFFFFF, 7, 8, 9, 10, 11, 12, 13, 14, 15, 16], flags := 15, a0 := 77, a1 := 0xFFFFFFFFF0#40, p := [16, 17, 18, 19, 20, 21, 22, 23], step := [1, 2, 3, 4, 5, 6, 7, 8] }, 9, 3, 294819840, 0x7FFFFFFF#32, 0x80000000#32, by decide +kernel⟩,
   ⟨atCore 303169536 { g := [1, 0xFFFFFFFF, 3, 0x80000000, 5, 0x7FFFFFFF, 7, 8, 9, 10, 11, 12, 13, 14, 15, 16], flags := 15, a0 := 77, a1 := 0xFFFFFFFFF0#40, p := [16, 17, 18, 19, 20, 21, 22, 23], step := [1, 2, 3, 4, 5, 6, 7, 8] }, 9, 3, 303169536, 28, 0x5#32, by decide +kernel⟩,
   ⟨atCore 328304640 { g := [1, 0xFFFFFFFF, 3, 0x80000000, 5, 0x7FFFFFFF, 7, 8, 9, 10, 11, 12, 13, 14, 15, 16], flags := 15, a0 := 77, a1 := 0xFFFFFFFFF0#40, p := [16, 17, 18, 19, 20, 21, 22, 23], step := [1, 2, 3, 4, 5, 6, 7, 8] }, 9, 3, 328304640, 0x80000000#32, 0xFFFFFFFF#32, by decide +kernel⟩,
   ⟨atCore 319916032 { flags := 15, a0 := 77, a1 := 0xFFFFFFFFF0#40, p := [16, 17, 18, 19, 20, 21, 22, 23], step := [1, 2, 3, 4, 5, 6, 7, 8], g := [1, 0, 3, 0x80000000] }, 9, 3, 319916032, 0x80000000#32, 0#32, by decide +kernel⟩,
   ⟨atCore 336699392 { g := [1, 0xFFFFFFFF, 3, 0x80000000, 5, 0x7FFFFFFF, 7, 8, 9, 10, 11, 12, 13, 14, 15, 16], flags := 15, a0 := 77, a1 := 0xFFFFFFFFF0#40, p := [16, 17, 18, 19, 20, 21, 22, 23], step := [1, 2, 3, 4, 5, 6, 7, 8] }, 9, 3, 336699392, 0x80000000#32, 0x5#32, by decide +kernel⟩,
   ⟨atCore 336693248 { flags := 15, a0 := 77, a1 := 0xFFFFFFFFF0#40, p := [16, 17, 18, 19, 20, 21, 22, 23], step := [1, 2, 3, 4, 5, 6, 7, 8], g := [1, 0, 3, 0x80000000] }, 9, 3, 336693248, 0x80000000#32, 0#32, by decide +kernel⟩,
   ⟨atCore 1090551809 { g := [1, 0xFFFFFFFF, 3, 0x80000000, 5, 0x7FFFFFFF, 7, 8, 9, 10, 11, 12, 13, 14, 15, 16], flags := 15, a0 := 77, a1 := 0xFFFFFFFFF0#40, p := [16, 17, 18, 19, 20, 21, 22, 23], step := [1, 2, 3, 4, 5, 6, 7, 8] }, 9, 3, 1090551809, 0x5#32, by decide +kernel⟩,
   ⟨atCore 1161854977 { g := [1, 0xFFFFFFFF, 3, 0x80000000, 5, 0x7FFFFFFF, 7, 8, 9, 10, 11, 12, 13, 14, 15, 16], flags := 15, a0 := 77, a1 := 0xFFFFFFFFF0#40, p := [16, 17, 18, 19, 20, 21, 22, 23], step := [1, 2, 3, 4, 5, 6, 7, 8] }, 9, 3, 1161854977, 0x7FFFFFFF#32, by decide +kernel⟩,
   ⟨atCore 1222672385 { g := [1, 0xFFFFFFFF, 3, 0x80000000, 5, 0x7FFFFFFF, 7, 8, 9, 10, 11, 12, 13, 14, 15, 16], flags := 15, a0 := 77, a1 := 0xFFFFFFFFF0#40, p := [16, 17, 18, 19, 20, 21, 22, 23], step := [1, 2, 3, 4, 5, 6, 7, 8] }, 9, 3, 1222672385, 0x80000000#32, by decide +kernel⟩,
   ⟨atCore 1289781247 { g := [1, 0xFFFFFFFF, 3, 0x80000000, 5, 0x7FFFFFFF, 7, 8, 9, 10, 11, 12, 13, 14, 15, 16], flags := 15, a0 := 77, a1 := 0xFFFFFFFFF0#40, p := [16, 17, 18, 19, 20, 21, 22, 23], step := [1, 2, 3, 4, 5, 6, 7, 8] }, 9, 3, 1289781247, 0x80000000#32, by decide +kernel⟩,
   ⟨atCore 1636827135 { g := [1, 0xFFFFFFFF, 3, 0x80000000, 5, 0x7FFFFFFF, 7, 8, 9, 10, 11, 12, 13, 14, 15, 16], flags := 15, a0 := 77, a1 := 0xFFFFFFFFF0#40, p := [16, 17, 18, 19, 20, 21, 22, 23], step := [1, 2, 3, 4, 5, 6, 7, 8] }, 9, 3, 1636827135, by decide +kernel⟩⟩

theorem test_witness_AssayAccumulatorComplete :
  -- adda
  (∃ (s : State) (t : Nat) (k : Nat) (w : Nat) (a : Word) (x : Int),
    (s.stands k w .adda = true) ∧ (s.gOf k (fieldOf w 18 15) = a) ∧ (((s.dev.core k).cur.accOf (fieldOf w 10 10 == 1)).toInt = x)) ∧
  -- suba
  (∃ (s : State) (t : Nat) (k : Nat) (w : Nat) (a : Word) (x : Int),
    (s.stands k w .suba = true) ∧ (s.gOf k (fieldOf w 18 15) = a) ∧ (((s.dev.core k).cur.accOf (fieldOf w 10 10 == 1)).toInt = x)) ∧
  -- sha
  (∃ (s : State) (t : Nat) (k : Nat) (w : Nat) (a : Word) (x : Int),
    (s.stands k w .sha = true) ∧ (s.gOf k (fieldOf w 18 15) = a) ∧ (((s.dev.core k).cur.accOf (fieldOf w 10 10 == 1)).toInt = x)) ∧
  -- rnda
  (∃ (s : State) (t : Nat) (k : Nat) (w : Nat) (a : Word) (x : Int),
    (s.stands k w .rnda = true) ∧ (s.gOf k (fieldOf w 18 15) = a) ∧ (((s.dev.core k).cur.accOf (fieldOf w 10 10 == 1)).toInt = x)) ∧
  -- clra
  (∃ (s : State) (t : Nat) (k : Nat) (w : Nat),
    (s.stands k w .clra = true)) ∧
  -- addaa
  (∃ (s : State) (t : Nat) (k : Nat) (w : Nat) (x : Int),
    (s.stands k w .addaa = true) ∧ ((s.dev.core k).cur.a0.toInt + (s.dev.core k).cur.a1.toInt = x)) ∧
  -- mova
  (∃ (s : State) (t : Nat) (k : Nat) (w : Nat) (x : Int),
    (s.stands k w .mova = true) ∧ (shiftInt ((s.dev.core k).cur.accOf (fieldOf w 10 10 == 1)).toInt (signed 6 (fieldOf w 5 0)) = x)) ∧
  -- mpy
  (∃ (s : State) (t : Nat) (k : Nat) (w : Nat) (p : Int) (x : Int),
    (s.stands k w .mpy = true) ∧ (fieldOf w 18 18 = 0) ∧ (fieldOf w 10 10 = 0) ∧ (halfOf w (s.gOf k (fieldOf w 24 22)) (fieldOf w 2 2 == 1) * halfOf w (s.gOf k (8 + fieldOf w 21 19)) (fieldOf w 1 1 == 1) = p) ∧ (((s.dev.core k).cur.accOf (fieldOf w 25 25 == 1)).toInt = x)) ∧
  -- mac
  (∃ (s : State) (t : Nat) (k : Nat) (w : Nat) (p : Int) (x : Int),
    (s.stands k w .mac = true) ∧ (fieldOf w 18 18 = 0) ∧ (fieldOf w 10 10 = 0) ∧ (halfOf w (s.gOf k (fieldOf w 24 22)) (fieldOf w 2 2 == 1) * halfOf w (s.gOf k (8 + fieldOf w 21 19)) (fieldOf w 1 1 == 1) = p) ∧ (((s.dev.core k).cur.accOf (fieldOf w 25 25 == 1)).toInt = x)) ∧
  -- msu
  (∃ (s : State) (t : Nat) (k : Nat) (w : Nat) (p : Int) (x : Int),
    (s.stands k w .msu = true) ∧ (fieldOf w 18 18 = 0) ∧ (fieldOf w 10 10 = 0) ∧ (halfOf w (s.gOf k (fieldOf w 24 22)) (fieldOf w 2 2 == 1) * halfOf w (s.gOf k (8 + fieldOf w 21 19)) (fieldOf w 1 1 == 1) = p) ∧ (((s.dev.core k).cur.accOf (fieldOf w 25 25 == 1)).toInt = x)) ∧
  -- dmpy
  (∃ (s : State) (t : Nat) (k : Nat) (w : Nat) (p : Int) (q : Int),
    (s.stands k w .dmpy = true) ∧ (fieldOf w 18 18 = 0) ∧ (fieldOf w 10 10 = 0) ∧ (halfOf w (s.gOf k (fieldOf w 24 22)) true * halfOf w (s.gOf k (8 + fieldOf w 21 19)) true = p) ∧ (halfOf w (s.gOf k (fieldOf w 24 22)) false * halfOf w (s.gOf k (8 + fieldOf w 21 19)) false = q)) ∧
  -- dmac
  (∃ (s : State) (t : Nat) (k : Nat) (w : Nat) (p : Int) (q : Int),
    (s.stands k w .dmac = true) ∧ (fieldOf w 18 18 = 0) ∧ (fieldOf w 10 10 = 0) ∧ (halfOf w (s.gOf k (fieldOf w 24 22)) true * halfOf w (s.gOf k (8 + fieldOf w 21 19)) true = p) ∧ (halfOf w (s.gOf k (fieldOf w 24 22)) false * halfOf w (s.gOf k (8 + fieldOf w 21 19)) false = q)) ∧
  -- dmsu
  (∃ (s : State) (t : Nat) (k : Nat) (w : Nat) (p : Int) (q : Int),
    (s.stands k w .dmsu = true) ∧ (fieldOf w 18 18 = 0) ∧ (fieldOf w 10 10 = 0) ∧ (halfOf w (s.gOf k (fieldOf w 24 22)) true * halfOf w (s.gOf k (8 + fieldOf w 21 19)) true = p) ∧ (halfOf w (s.gOf k (fieldOf w 24 22)) false * halfOf w (s.gOf k (8 + fieldOf w 21 19)) false = q)) :=
  ⟨⟨atCore 427917343 { g := [1, 0xFFFFFFFF, 3, 0x80000000, 5, 0x7FFFFFFF, 7, 8, 9, 10, 11, 12, 13, 14, 15, 16], flags := 15, a0 := 77, a1 := 0xFFFFFFFFF0#40, p := [16, 17, 18, 19, 20, 21, 22, 23], step := [1, 2, 3, 4, 5, 6, 7, 8] }, 9, 3, 427917343, 0x80000000#32, 77, by decide +kernel⟩,
   ⟨atCore 436306949 { g := [1, 0xFFFFFFFF, 3, 0x80000000, 5, 0x7FFFFFFF, 7, 8, 9, 10, 11, 12, 13, 14, 15, 16], flags := 15, a0 := 77, a1 := 0xFFFFFFFFF0#40, p := [16, 17, 18, 19, 20, 21, 22, 23], step := [1, 2, 3, 4, 5, 6, 7, 8] }, 9, 3, 436306949, 0x80000000#32, -16, by decide +kernel⟩,
   ⟨atCore 478250015 { g := [1, 0xFFFFFFFF, 3, 0x80000000, 5, 0x7FFFFFFF, 7, 8, 9, 10, 11, 12, 13, 14, 15, 16], flags := 15, a0 := 77, a1 := 0xFFFFFFFFF0#40, p := [16, 17, 18, 19, 20, 21, 22, 23], step := [1, 2, 3, 4, 5, 6, 7, 8] }, 9, 3, 478250015, 0x80000000#32, -16, by decide +kernel⟩,
   ⟨atCore 503415812 { g := [1, 0xFFFFFFFF, 3, 0x80000000, 5, 0x7FFFFFFF, 7, 8, 9, 10, 11, 12, 13, 14, 15, 16], flags := 15, a0 := 77, a1 := 0xFFFFFFFFF0#40, p := [16, 17, 18, 19, 20, 21, 22, 23], step := [1, 2, 3, 4, 5, 6, 7, 8] }, 9, 3, 503415812, 0x80000000#32, -16, by decide +kernel⟩,
   ⟨atCore 402654208 { g := [1, 0xFFFFFFFF, 3, 0x80000000, 5, 0x7FFFFFFF, 7, 8, 9, 10, 11, 12, 13, 14, 15, 16], flags := 15, a0 := 77, a1 := 0xFFFFFFFFF0#40, p := [16, 17, 18, 19, 20, 21, 22, 23], step := [1, 2, 3, 4, 5, 6, 7, 8] }, 9, 3, 402654208, by decide +kernel⟩,
   ⟨atCore 486539264 { g := [1, 0xFFFFFFFF, 3, 0x80000000, 5, 0x7FFFFFFF, 7, 8, 9, 10, 11, 12, 13, 14, 15, 16], flags := 15, a0 := 77, a1 := 0xFFFFFFFFF0#40, p := [16, 17, 18, 19, 20, 21, 22, 23], step := [1, 2, 3, 4, 5, 6, 7, 8] }, 9, 3, 486539264, 61, by decide +kernel⟩,
   ⟨atCore 462422045 { g := [1, 0xFFFFFFFF, 3, 0x80000000, 5, 0x7FFFFFFF, 7, 8, 9, 10, 11, 12, 13, 14, 15, 16], flags := 15, a0 := 77, a1 := 0xFFFFFFFFF0#40, p := [16, 17, 18, 19, 20, 21, 22, 23], step := [1, 2, 3, 4, 5, 6, 7, 8] }, 9, 3, 462422045, 77 * 2 ^ 29, by decide +kernel⟩,
   ⟨atCore 3294101504 { g := [1, 0xFFFFFFFF, 3, 0x80000000, 5, 0x7FFFFFFF, 7, 8, 9, 10, 11, 12, 13, 14, 15, 16], flags := 15, a0 := 77, a1 := 0xFFFFFFFFF0#40, p := [16, 17, 18, 19, 20, 21, 22, 23], step := [1, 2, 3, 4, 5, 6, 7, 8] }, 9, 3, 3294101504, -12, 77, by decide +kernel⟩,
   ⟨atCore 3402629124 { g := [1, 0xFFFFFFFF, 3, 0x80000000, 5, 0x7FFFFFFF, 7, 8, 9, 10, 11, 12, 13, 14, 15, 16], flags := 15, a0 := 77, a1 := 0xFFFFFFFFF0#40, p := [16, 17, 18, 19, 20, 21, 22, 23], step := [1, 2, 3, 4, 5, 6, 7, 8] }, 9, 3, 3402629124, -360448, -16, by decide +kernel⟩,
   ⟨atCore 3514302465 { g := [1, 0xFFFFFFFF, 3, 0x80000000, 5, 0x7FFFFFFF, 7, 8, 9, 10, 11, 12, 13, 14, 15, 16], flags := 15, a0 := 77, a1 := 0xFFFFFFFFF0#40, p := [16, 17, 18, 19, 20, 21, 22, 23], step := [1, 2, 3, 4, 5, 6, 7, 8] }, 9, 3, 3514302465, 1048560, 77, by decide +kernel⟩,
   ⟨atCore 3637510144 { g := [1, 0xFFFFFFFF, 3, 0x80000000, 5, 0x7FFFFFFF, 7, 8, 9, 10, 11, 12, 13, 14, 15, 16], flags := 15, a0 := 77, a1 := 0xFFFFFFFFF0#40, p := [16, 17, 18, 19, 20, 21, 22, 23], step := [1, 2, 3, 4, 5, 6, 7, 8] }, 9, 3, 3637510144, 0, 0, by decide +kernel⟩,
   ⟨atCore 3847225344 { g := [1, 0xFFFFFFFF, 3, 0x80000000, 5, 0x7FFFFFFF, 7, 8, 9, 10, 11, 12, 13, 14, 15, 16], flags := 15, a0 := 77, a1 := 0xFFFFFFFFF0#40, p := [16, 17, 18, 19, 20, 21, 22, 23], step := [1, 2, 3, 4, 5, 6, 7, 8] }, 9, 3, 3847225344, 0, -11, by decide +kernel⟩,
   ⟨atCore 3897556993 { g := [1, 0xFFFFFFFF, 3, 0x80000000, 5, 0x7FFFFFFF, 7, 8, 9, 10, 11, 12, 13, 14, 15, 16], flags := 15, a0 := 77, a1 := 0xFFFFFFFFF0#40, p := [16, 17, 18, 19, 20, 21, 22, 23], step := [1, 2, 3, 4, 5, 6, 7, 8] }, 9, 3, 3897556993, 0, 720885, by decide +kernel⟩⟩

theorem test_witness_AssayLoadStoreComplete :
  -- ldu
  (∃ (s : State) (t : Nat) (k : Nat) (w : Nat) (a : Nat),
    (s.stands k w .ldu = true) ∧ ((s.dev.core k).cur.busAddr w false = a) ∧ (a < 0x4000) ∧ (s.sramPoison.contains ((coreU k + 4 * a) / 32 * 32) = false)) ∧
  -- ldv
  (∃ (s : State) (t : Nat) (k : Nat) (w : Nat) (a : Nat),
    (s.stands k w .ldv = true) ∧ ((s.dev.core k).cur.busAddr w true = a) ∧ (a < 0x3800) ∧ (s.sramPoison.contains ((coreV k + 4 * a) / 32 * 32) = false)) ∧
  -- stu
  (∃ (s : State) (t : Nat) (k : Nat) (w : Nat) (a : Nat),
    (s.stands k w .stu = true) ∧ ((s.dev.core k).cur.busAddr w false = a) ∧ (a < 0x4000)) ∧
  -- stv
  (∃ (s : State) (t : Nat) (k : Nat) (w : Nat) (a : Nat),
    (s.stands k w .stv = true) ∧ ((s.dev.core k).cur.busAddr w true = a) ∧ (a < 0x4000)) ∧
  -- pld
  (∃ (s : State) (t : Nat) (k : Nat) (w : Nat) (a : Nat) (b : Nat),
    (s.stands k w .pld = true) ∧ (fieldOf w 18 18 = 1) ∧ (fieldOf w 10 10 = 1) ∧ ((s.dev.core k).cur.addrOf (fieldOf w 17 16) = a) ∧ (a < 0x4000) ∧ ((s.dev.core k).cur.addrOf (4 + fieldOf w 9 8) = b) ∧ (b < 0x3800) ∧ (s.sramPoison.contains ((coreU k + 4 * a) / 32 * 32) = false) ∧ (s.sramPoison.contains ((coreV k + 4 * b) / 32 * 32) = false)) :=
  ⟨⟨{ atCore 1350893571 { g := [1, 0xFFFFFFFF, 3, 0x80000000, 5, 0x7FFFFFFF, 7, 8, 9, 10, 11, 12, 13, 14, 15, 16], flags := 15, a0 := 77, a1 := 0xFFFFFFFFF0#40, p := [16, 17, 18, 19, 20, 21, 22, 23], step := [1, 2, 3, 4, 5, 6, 7, 8] } with sram := memSetBytes (atCore 1350893571 { g := [1, 0xFFFFFFFF, 3, 0x80000000, 5, 0x7FFFFFFF, 7, 8, 9, 10, 11, 12, 13, 14, 15, 16], flags := 15, a0 := 77, a1 := 0xFFFFFFFFF0#40, p := [16, 17, 18, 19, 20, 21, 22, 23], step := [1, 2, 3, 4, 5, 6, 7, 8] }).sram (coreU 3 + 4 * 17) [1, 2, 3, 4] }, 9, 3, 1350893571, 17, by decide +kernel⟩,
   ⟨{ atCore 1418264575 { g := [1, 0xFFFFFFFF, 3, 0x80000000, 5, 0x7FFFFFFF, 7, 8, 9, 10, 11, 12, 13, 14, 15, 16], flags := 15, a0 := 77, a1 := 0xFFFFFFFFF0#40, p := [16, 17, 18, 19, 20, 21, 22, 23], step := [1, 2, 3, 4, 5, 6, 7, 8] } with sram := memSetBytes (atCore 1418264575 { g := [1, 0xFFFFFFFF, 3, 0x80000000, 5, 0x7FFFFFFF, 7, 8, 9, 10, 11, 12, 13, 14, 15, 16], flags := 15, a0 := 77, a1 := 0xFFFFFFFFF0#40, p := [16, 17, 18, 19, 20, 21, 22, 23], step := [1, 2, 3, 4, 5, 6, 7, 8] }).sram (coreV 3 + 4 * 21) [1, 2, 3, 4] }, 9, 3, 1418264575, 21, by decide +kernel⟩,
   ⟨atCore 1480802303 { g := [1, 0xFFFFFFFF, 3, 0x80000000, 5, 0x7FFFFFFF, 7, 8, 9, 10, 11, 12, 13, 14, 15, 16], flags := 15, a0 := 77, a1 := 0xFFFFFFFFF0#40, p := [16, 17, 18, 19, 20, 21, 22, 23], step := [1, 2, 3, 4, 5, 6, 7, 8] }, 9, 3, 1480802303, 16383, by decide +kernel⟩,
   ⟨atCore 1557004288 { g := [1, 0xFFFFFFFF, 3, 0x80000000, 5, 0x7FFFFFFF, 7, 8, 9, 10, 11, 12, 13, 14, 15, 16], flags := 15, a0 := 77, a1 := 0xFFFFFFFFF0#40, p := [16, 17, 18, 19, 20, 21, 22, 23], step := [1, 2, 3, 4, 5, 6, 7, 8] }, 9, 3, 1557004288, 23, by decide +kernel⟩,
   ⟨{ atCore 4026918568 { g := [1, 0xFFFFFFFF, 3, 0x80000000, 5, 0x7FFFFFFF, 7, 8, 9, 10, 11, 12, 13, 14, 15, 16], flags := 15, a0 := 77, a1 := 0xFFFFFFFFF0#40, p := [16, 17, 18, 19, 20, 21, 22, 23], step := [1, 2, 3, 4, 5, 6, 7, 8] } with sram := memSetBytes (memSetBytes (atCore 4026918568 { g := [1, 0xFFFFFFFF, 3, 0x80000000, 5, 0x7FFFFFFF, 7, 8, 9, 10, 11, 12, 13, 14, 15, 16], flags := 15, a0 := 77, a1 := 0xFFFFFFFFF0#40, p := [16, 17, 18, 19, 20, 21, 22, 23], step := [1, 2, 3, 4, 5, 6, 7, 8] }).sram (coreU 3 + 4 * 17) [1, 2, 3, 4]) (coreV 3 + 4 * 22) [5] }, 9, 3, 4026918568, 17, 22, by decide +kernel⟩⟩

theorem test_witness_AssayControlComplete :
  -- br
  (∃ (s : State) (t : Nat) (k : Nat) (w : Nat),
    (s.stands k w .br = true)) ∧
  -- call
  (∃ (s : State) (t : Nat) (k : Nat) (w : Nat),
    (s.stands k w .call = true)) ∧
  -- jr
  (∃ (s : State) (t : Nat) (k : Nat) (w : Nat),
    (s.stands k w .jr = true)) ∧
  -- doLoop
  (∃ (s : State) (t : Nat) (k : Nat) (w : Nat),
    (s.stands k w .doLoop = true) ∧ ((if fieldOf w 25 25 = 1 then bits (s.gOf k (fieldOf w 18 15)) 15 0 else fieldOf w 14 0) ≠ 0)) ∧
  -- doSkipped
  (∃ (s : State) (t : Nat) (k : Nat) (w : Nat),
    (s.stands k w .doLoop = true) ∧ ((if fieldOf w 25 25 = 1 then bits (s.gOf k (fieldOf w 18 15)) 15 0 else fieldOf w 14 0) = 0)) ∧
  -- rete
  (∃ (s : State) (t : Nat) (k : Nat) (w : Nat),
    (s.stands k w .rete = true)) ∧
  -- movsRead
  (∃ (s : State) (t : Nat) (k : Nat) (w : Nat),
    (s.stands k w .movs = true) ∧ (fieldOf w 25 25 = 1) ∧ (16 ≤ fieldOf w 7 0) ∧ (fieldOf w 7 0 < 24)) ∧
  -- movsWriteLr
  (∃ (s : State) (t : Nat) (k : Nat) (w : Nat),
    (s.stands k w .movs = true) ∧ (fieldOf w 25 25 = 0) ∧ (fieldOf w 7 0 = 1)) ∧
  -- movsWriteLate
  (∃ (s : State) (t : Nat) (k : Nat) (w : Nat),
    (s.stands k w .movs = true) ∧ (fieldOf w 25 25 = 0) ∧ (16 ≤ fieldOf w 7 0) ∧ (fieldOf w 7 0 < 48)) ∧
  -- movsStatus
  (∃ (s : State) (t : Nat) (k : Nat) (w : Nat),
    (s.stands k w .movs = true) ∧ (fieldOf w 25 25 = 0) ∧ (fieldOf w 7 0 = 0) ∧ ((s.dev.core k).inHandler = false)) ∧
  -- wait
  (∃ (s : State) (t : Nat) (k : Nat) (w : Nat),
    (s.stands k w .wait = true) ∧ ((s.dev.core k).nextEvent = none)) :=
  ⟨⟨atCore 2160066558 { g := [1, 0xFFFFFFFF, 3, 0x80000000, 5, 0x7FFFFFFF, 7, 8, 9, 10, 11, 12, 13, 14, 15, 16], flags := 15, a0 := 77, a1 := 0xFFFFFFFFF0#40, p := [16, 17, 18, 19, 20, 21, 22, 23], step := [1, 2, 3, 4, 5, 6, 7, 8] }, 9, 3, 2160066558, by decide +kernel⟩,
   ⟨atCore 2214592544 { g := [1, 0xFFFFFFFF, 3, 0x80000000, 5, 0x7FFFFFFF, 7, 8, 9, 10, 11, 12, 13, 14, 15, 16], flags := 15, a0 := 77, a1 := 0xFFFFFFFFF0#40, p := [16, 17, 18, 19, 20, 21, 22, 23], step := [1, 2, 3, 4, 5, 6, 7, 8] }, 9, 3, 2214592544, by decide +kernel⟩,
   ⟨atCore 2302672896 { g := [1, 0xFFFFFFFF, 3, 0x80000000, 5, 0x7FFFFFFF, 7, 8, 9, 10, 11, 12, 13, 14, 15, 16], flags := 15, a0 := 77, a1 := 0xFFFFFFFFF0#40, p := [16, 17, 18, 19, 20, 21, 22, 23], step := [1, 2, 3, 4, 5, 6, 7, 8] }, 9, 3, 2302672896, by decide +kernel⟩,
   ⟨atCore 2384101376 { g := [1, 0xFFFFFFFF, 3, 0x80000000, 5, 0x7FFFFFFF, 7, 8, 9, 10, 11, 12, 13, 14, 15, 16], flags := 15, a0 := 77, a1 := 0xFFFFFFFFF0#40, p := [16, 17, 18, 19, 20, 21, 22, 23], step := [1, 2, 3, 4, 5, 6, 7, 8] }, 9, 3, 2384101376, by decide +kernel⟩,
   ⟨atCore 2350546944 { g := [1, 0xFFFFFFFF, 3, 0x80000000, 5, 0x7FFFFFFF, 7, 8, 9, 10, 11, 12, 13, 14, 15, 16], flags := 15, a0 := 77, a1 := 0xFFFFFFFFF0#40, p := [16, 17, 18, 19, 20, 21, 22, 23], step := [1, 2, 3, 4, 5, 6, 7, 8] }, 9, 3, 2350546944, by decide +kernel⟩,
   ⟨atCore 2415919104 { g := [1, 0xFFFFFFFF, 3, 0x80000000, 5, 0x7FFFFFFF, 7, 8, 9, 10, 11, 12, 13, 14, 15, 16], flags := 15, a0 := 77, a1 := 0xFFFFFFFFF0#40, p := [16, 17, 18, 19, 20, 21, 22, 23], step := [1, 2, 3, 4, 5, 6, 7, 8] }, 9, 3, 2415919104, by decide +kernel⟩,
   ⟨atCore 2531262487 { g := [1, 0xFFFFFFFF, 3, 0x80000000, 5, 0x7FFFFFFF, 7, 8, 9, 10, 11, 12, 13, 14, 15, 16], flags := 15, a0 := 77, a1 := 0xFFFFFFFFF0#40, p := [16, 17, 18, 19, 20, 21, 22, 23], step := [1, 2, 3, 4, 5, 6, 7, 8] }, 9, 3, 2531262487, by decide +kernel⟩,
   ⟨atCore 2493513729 { g := [1, 0xFFFFFFFF, 3, 0x80000000, 5, 0x7FFFFFFF, 7, 8, 9, 10, 11, 12, 13, 14, 15, 16], flags := 15, a0 := 77, a1 := 0xFFFFFFFFF0#40, p := [16, 17, 18, 19, 20, 21, 22, 23], step := [1, 2, 3, 4, 5, 6, 7, 8] }, 9, 3, 2493513729, by decide +kernel⟩,
   ⟨atCore 2493513775 { g := [1, 0xFFFFFFFF, 3, 0x80000000, 5, 0x7FFFFFFF, 7, 8, 9, 10, 11, 12, 13, 14, 15, 16], flags := 15, a0 := 77, a1 := 0xFFFFFFFFF0#40, p := [16, 17, 18, 19, 20, 21, 22, 23], step := [1, 2, 3, 4, 5, 6, 7, 8] }, 9, 3, 2493513775, by decide +kernel⟩,
   ⟨atCore 2493513728 { g := [1, 0xFFFFFFFF, 3, 0x80000000, 5, 0x7FFFFFFF, 7, 8, 9, 10, 11, 12, 13, 14, 15, 16], flags := 15, a0 := 77, a1 := 0xFFFFFFFFF0#40, p := [16, 17, 18, 19, 20, 21, 22, 23], step := [1, 2, 3, 4, 5, 6, 7, 8] }, 9, 3, 2493513728, by decide +kernel⟩,
   ⟨atCore 2550136832 { g := [1, 0xFFFFFFFF, 3, 0x80000000, 5, 0x7FFFFFFF, 7, 8, 9, 10, 11, 12, 13, 14, 15, 16], flags := 15, a0 := 77, a1 := 0xFFFFFFFFF0#40, p := [16, 17, 18, 19, 20, 21, 22, 23], step := [1, 2, 3, 4, 5, 6, 7, 8] }, 9, 3, 2550136832, by decide +kernel⟩⟩

theorem test_witness_AssayEventsComplete :
  -- setCopy
  (∃ (s : State) (t : Nat) (k : Nat) (n : Nat) (x : CandSet) (b : Batch),
    (s.dev.alive = true) ∧ (k < 16) ∧ (s.dev.hst.cbuf = [(n, x)]) ∧ (s.dev.coreOf x.uid = some k) ∧ ((s.dev.core k).ringCount < 8) ∧ ((s.dev.core k).removed = false) ∧ ((s.dev.core k).batches = [b]) ∧ (b.uid = x.uid)) ∧
  -- setWaitsForRing
  (∃ (s : State) (t : Nat) (k : Nat) (n : Nat) (x : CandSet),
    (s.dev.alive = true) ∧ (s.dev.hst.cbuf = [(n, x)]) ∧ (s.dev.coreOf x.uid = some k) ∧ ((s.dev.core k).ringCount = 8)) ∧
  -- canary
  (∃ (s : State) (t : Nat) (k : Nat),
    (s.dev.alive = true) ∧ (k < 16) ∧ ((s.dev.core k).eligible = true) ∧ ((s.dev.core k).nextEvent = some 0) ∧ ((s.dev.core k).delayed = [])) ∧
  -- batch
  (∃ (s : State) (t : Nat) (k : Nat),
    (s.dev.alive = true) ∧ (k < 16) ∧ ((s.dev.core k).eligible = true) ∧ ((s.dev.core k).nextEvent = some 1) ∧ ((s.dev.core k).delayed = [])) ∧
  -- round
  (∃ (s : State) (t : Nat) (k : Nat),
    (s.dev.alive = true) ∧ (k < 16) ∧ ((s.dev.core k).eligible = true) ∧ ((s.dev.core k).nextEvent = some 2) ∧ ((s.dev.core k).delayed = [])) ∧
  -- batchTimeLimit
  (∃ (s : State) (t : Nat) (k : Nat) (x : Nat) (b : Batch),
    (s.dev.alive = true) ∧ (s.dev.top.state = .held) ∧ (k < 16) ∧ ((s.dev.core k).batches = [b]) ∧ (b.late = false) ∧ (b.lastAt = some x) ∧ (s.dev.fld R.ASY_BATCH_LIMIT 15 0 < ((s.dev.advanceTo t).now - x) / 2) ∧ (s.dev.faultRoom 0x0C05 = true)) ∧
  -- batchTimeLimitHolds
  (∃ (s : State) (t : Nat) (k : Nat) (x : Nat) (b : Batch),
    (s.dev.alive = true) ∧ ((s.dev.core k).batches = [b]) ∧ (b.late = false) ∧ (b.lastAt = some x) ∧ (s.dev.fld R.ASY_BATCH_LIMIT 15 0 < ((s.dev.advanceTo t).now - x) / 2)) ∧
  -- divisionResult
  (∃ (s : State) (t : Nat) (k : Nat) (n : Nat) (v : Word),
    (s.dev.alive = true) ∧ ((s.dev.core k).div = some { left := 0, shadow := false, dest := .gen n, value := v })) ∧
  -- loopCountEnd
  (∃ (s : State) (t : Nat) (k : Nat) (l : LoopRec) (r : List LoopRec),
    (s.dev.alive = true) ∧ ((s.dev.core k).inHandler = false) ∧ ((s.dev.core k).fg.loops = l :: r) ∧ (l.count = 0) ∧ (r.all (fun x => x.count != 0) = true)) ∧
  -- backgroundSliceExhausted
  (∃ (s : State) (t : Nat) (k : Nat),
    (s.dev.alive = true) ∧ (k < 16) ∧ ((s.dev.core k).fg.flags.testBit 4 = true) ∧ ((s.dev.core k).started = true) ∧ ((s.dev.reg R.ASY_BG_SLICE).toNat ≤ (s.dev.reg (R.ASY_BG_USED k)).toNat)) ∧
  -- illegalInstruction
  (∃ (s : State) (t : Nat) (k : Nat),
    (s.dev.alive = true) ∧ (k < 16) ∧ (s.dev.canIssue k false = true) ∧ (s.fetchPoisoned k = false) ∧ (decodeAsy (s.coreWord k) = none) ∧ (s.dev.faultRoom 0x0C01 = true) ∧ ((s.dev.core k).batches = [])) ∧
  -- poisonedFetch
  (∃ (s : State) (t : Nat) (k : Nat),
    (s.dev.alive = true) ∧ (k < 16) ∧ (s.dev.canIssue k false = true) ∧ (s.dev.faultRoom 0x0C02 = true) ∧ ((s.dev.core k).batches = [])) :=
  ⟨⟨st { up .ranging with hst := { cbuf := [(4, { uid := 9, cell := 5 })] }, asy := { cores := [(3, { started := true, ringRd := 5, ringCount := 7, batches := [{ uid := 9, total := 2 }] })] } }, 50, 3, 4, { uid := 9, cell := 5 }, { uid := 9, total := 2 }, by decide +kernel⟩,
   ⟨st { up .ranging with hst := { cbuf := [(4, { uid := 9, cell := 5 })] }, asy := { cores := [(3, { started := true, ringRd := 5, ringCount := 8, batches := [{ uid := 9, total := 2 }] })] } }, 50, 3, 4, { uid := 9, cell := 5 }, by decide +kernel⟩,
   ⟨st { up .ranging with asy := { cores := [(3, { started := true, pc := 16383, waiting := true, vec := [40, 50, 60], evEn := 7, evPend := 7 })] } }, 50, 3, by decide +kernel⟩,
   ⟨st { up .ranging with asy := { cores := [(3, { started := true, pc := 7, vec := [40, 50, 60], evEn := 6, evPend := 7 })] } }, 50, 3, by decide +kernel⟩,
   ⟨st { up .ranging with asy := { cores := [(3, { started := true, pc := 7, vec := [40, 50, 60], evEn := 4, evPend := 7 })] } }, 50, 3, by decide +kernel⟩,
   ⟨st { (up .held).setReg R.ASY_BATCH_LIMIT 10#32 with asy := { cores := [(3, { started := true, batches := [{ uid := 9, total := 2, lastAt := some 28 }] })] } }, 50, 3, 28, { uid := 9, total := 2, lastAt := some 28 }, by decide +kernel⟩,
   ⟨st { (up .ranging).setReg R.ASY_BATCH_LIMIT 10#32 with asy := { cores := [(3, { started := true, batches := [{ uid := 9, total := 2, lastAt := some 28 }] })] } }, 50, 3, 28, { uid := 9, total := 2, lastAt := some 28 }, by decide +kernel⟩,
   ⟨atCore 0 { g := [1, 2] } |> fun s => { s with dev := s.dev.onCore 3 (fun c => { c with div := some { left := 0, shadow := false, dest := .gen 15, value := 9 } }) }, 50, 3, 15, 9, by decide +kernel⟩,
   ⟨atCore 0 { loops := [{ count := 0, start := 3, stop := 5 }, { count := 2, start := 1, stop := 9 }] }, 50, 3, { count := 0, start := 3, stop := 5 }, [{ count := 2, start := 1, stop := 9 }], by decide +kernel⟩,
   ⟨atCore 0 { flags := 16 } |> fun s => { s with dev := (s.dev.setReg R.ASY_BG_SLICE 5#32).setReg (R.ASY_BG_USED 3) 5#32 }, 50, 3, by decide +kernel⟩,
   ⟨atCore 0x30000000 {}, 50, 3, by decide +kernel⟩,
   ⟨atCore 0 {}, 50, 3, by decide +kernel⟩⟩

theorem test_witness_AssayDebugComplete :
  -- asyHalt
  (∃ (s : State) (src : Nat) (t : Nat) (k : Nat) (v : Word),
    (s.dev.alive = true) ∧ (k < 16) ∧ (s.dev.top.state ≠ .headframe) ∧ (s.dev.top.state ≠ .ranging) ∧ (v.getLsbD 1 = true) ∧ (v.getLsbD 2 = false) ∧ ((s.dev.core k).halted = false) ∧ ((s.dev.core k).delayed = []) ∧ ((s.dev.core k).div = none)) ∧
  -- haltRefused
  (∃ (s : State) (src : Nat) (t : Nat) (k : Nat) (v : Word),
    (s.dev.alive = true) ∧ (k < 16) ∧ (s.dev.top.state = .ranging) ∧ (v.getLsbD 0 = true) ∧ (v.getLsbD 1 = true) ∧ (v.getLsbD 2 = false) ∧ ((s.dev.core k).halted = false)) ∧
  -- resume
  (∃ (s : State) (src : Nat) (t : Nat) (k : Nat) (v : Word),
    (s.dev.alive = true) ∧ (k < 16) ∧ (s.dev.top.state ≠ .headframe) ∧ (s.dev.top.state ≠ .ranging) ∧ (v.getLsbD 1 = false) ∧ (v.getLsbD 2 = false) ∧ ((s.dev.core k).halted = true)) ∧
  -- asyDispatchWrite
  (∃ (s : State) (src : Nat) (t : Nat) (k : Nat) (v : Word),
    (s.dev.alive = true) ∧ (k < 16) ∧ (s.dev.top.state ≠ .headframe) ∧ ((s.dev.top.state ≠ .ranging ∨ v.getLsbD 0 = true)) ∧ (v.getLsbD 1 = false) ∧ (v.getLsbD 2 = false) ∧ ((s.dev.core k).halted = false) ∧ (s.dev.rbit (R.ASY_CTRL k) 1 = false)) ∧
  -- asyStep
  (∃ (s : State) (src : Nat) (t : Nat) (k : Nat),
    (s.dev.alive = true) ∧ (k < 16) ∧ (s.dev.top.state ≠ .headframe) ∧ ((s.dev.top.state ≠ .ranging ∨ s.dev.rbit (R.ASY_CTRL k) 0 = true)) ∧ (s.dev.rbit (R.ASY_CTRL k) 1 = true) ∧ (s.dev.core k = { started := true, halted := true, pc := (s.dev.core k).pc }) ∧ (decodeAsy (s.coreWord k) = some .nop) ∧ (s.fetchPoisoned k = false)) ∧
  -- breakpointHit
  (∃ (s : State) (t : Nat) (k : Nat),
    (s.dev.alive = true) ∧ (k < 16) ∧ (s.dev.top.state ≠ .ranging) ∧ (s.dev.rbit (R.ASY_CTRL k) 3 = true) ∧ ((s.dev.core k).running = true) ∧ ((s.dev.core k).pc = s.dev.fld (R.ASY_BKPT k) 13 0) ∧ ((s.dev.core k).delayed = []) ∧ ((s.dev.core k).div = none)) ∧
  -- windowRead
  (∃ (s : State) (src : Nat) (t : Nat) (k : Nat) (off : Nat),
    (s.dev.alive = true) ∧ ((s.dev.core k).running = false) ∧ (off < 0x8000)) ∧
  -- windowReadRunning
  (∃ (s : State) (src : Nat) (t : Nat) (k : Nat) (off : Nat),
    (s.dev.alive = true) ∧ (k < 16) ∧ ((s.dev.core k).running = true) ∧ (off < 0x8000)) ∧
  -- windowWrite
  (∃ (s : State) (src : Nat) (t : Nat) (k : Nat) (off : Nat) (v : Word),
    (s.dev.alive = true) ∧ (s.dev.top.state ≠ .headframe) ∧ ((s.dev.core k).running = false) ∧ (off < 0x8000)) ∧
  -- windowWriteRunning
  (∃ (s : State) (src : Nat) (t : Nat) (k : Nat) (off : Nat) (v : Word),
    (s.dev.alive = true) ∧ ((s.dev.core k).running = true) ∧ (off < 0x8000)) ∧
  -- pageWrite
  (∃ (s : State) (src : Nat) (t : Nat) (k : Nat) (off : Nat) (v : Word),
    (s.dev.alive = true) ∧ (s.dev.top.state ≠ .headframe) ∧ (k < 16) ∧ ((s.dev.core k).running = false) ∧ (s.dev.asyPage src k = 3) ∧ (0x8000 ≤ off) ∧ (off + 4 ≤ 0x10000)) :=
  ⟨⟨{ atCore 0 {} with dev := (atCore 0 {}).dev.setReg 0x10 0#32 |> fun d => { d with top := { d.top with state := .armed } } }, 1, 50, 3, 3#32, by decide +kernel⟩,
   ⟨atCore 0 {}, 1, 50, 3, 3#32, by decide +kernel⟩,
   ⟨st { up .armed with asy := { cores := [(3, { started := true, halted := true, pc := 9 })] } }, 1, 50, 3, 1#32, by decide +kernel⟩,
   ⟨atCore 0 {}, 1, 50, 3, 9#32, by decide +kernel⟩,
   ⟨{ st { (up .armed).setReg (R.ASY_CTRL 3) 2#32 with asy := { cores := [(3, { started := true, halted := true, pc := 9 })] } } with sram := memSetBytes [] (coreI 3 + 36) (leBytes 4 0) }, 1, 50, 3, by decide +kernel⟩,
   ⟨st { ((up .armed).setReg (R.ASY_CTRL 3) 8#32).setReg (R.ASY_BKPT 3) 9#32 with asy := { cores := [(3, { started := true, pc := 9 })] } }, 50, 3, by decide +kernel⟩,
   ⟨st { up .armed with asy := { cores := [(3, { started := true, halted := true, pc := 9, sh := { g := [0, 0, 77] } })] } }, 1, 50, 3, 0x188, by decide +kernel⟩,
   ⟨atCore 0 {}, 1, 50, 3, 0x188, by decide +kernel⟩,
   ⟨st { up .armed with asy := { cores := [(3, { started := true, halted := true, pc := 9, fg := { g := [0, 0, 77] } })] } }, 1, 50, 3, 0x104, 5, by decide +kernel⟩,
   ⟨atCore 0 {}, 1, 50, 3, 0x188, 5, by decide +kernel⟩,
   ⟨st { up .armed with mgt := { reqs := [(1, { pages := [(R.ASY_PAGE 3, 3)] })] } }, 1, 50, 3, 0xFFFC, 0xA5000001#32, by decide +kernel⟩⟩

theorem test_witness_PointRecordsComplete :
  -- pointAccept
  (∃ (s : State) (t : Nat) (k : Nat) (t0 : Nat) (w0 : Word) (w1 : Word) (w2 : Word) (w3 : Word) (b : Batch) (r : CellRec),
    (s.dev.alive = true) ∧ (k < 16) ∧ ((s.dev.core k).committing = some t0) ∧ (s.dev.bufferFill < 1024) ∧ ((s.dev.core k).staging = [w0, w1, w2, w3]) ∧ ((s.dev.core k).stagingOver = false) ∧ (bits w1 19 16 = 0) ∧ ((s.dev.core k).batches = [b]) ∧ (b.cell = bits w0 31 16 + 65536 * bits w1 7 0) ∧ (s.dev.cellOf b.uid = some r) ∧ (r.recorded = false) ∧ (r.heldClosed = false) ∧ (r.uid = b.uid) ∧ (r.entry.stream < 4) ∧ (s.dev.streamOn r.entry.stream = true) ∧ (s.dev.streamLaneEn r.entry.stream = false)) ∧
  -- recordMalformed
  (∃ (s : State) (t : Nat) (k : Nat) (t0 : Nat),
    (s.dev.alive = true) ∧ (k < 16) ∧ ((s.dev.core k).committing = some t0) ∧ (s.dev.bufferFill < 1024) ∧ ((s.dev.core k).staging.length ≠ 4 + 2 * bits ((s.dev.core k).staging.getD 1 0) 19 16) ∧ (s.dev.faultRoom 0x0D01 = true)) ∧
  -- noBatchFallback
  (∃ (s : State) (t : Nat) (c : CellRec),
    (s.dev.alive = true) ∧ (c.entry.stream < 4) ∧ ((s.dev.seq.cells.map (·.2)).filter (fun c => !c.recorded && c.setCount == 0 && (s.dev.advanceTo t).cellClosable c.uid && s.dev.gat.wins.all (fun w => w.uid != c.uid || w.opened)) = [c])) ∧
  -- packetClose
  (∃ (s : State) (t : Nat) (n : Nat) (r : PntRec) (x : Bool) (y : Bool),
    (s.dev.alive = true) ∧ (s.dev.queue n = [r]) ∧ (s.dev.fld (R.PNT_STREAM_WAIT n) 10 0 = 0) ∧ (s.dev.streamLaneEn n = true) ∧ (n ≠ 4)) ∧
  -- packetPoisoned
  (∃ (s : State) (t : Nat) (n : Nat) (r : PntRec) (x : Bool) (y : Bool),
    (s.dev.alive = true) ∧ (s.dev.queue n = [r]) ∧ (r.kind = 1) ∧ (s.dev.fld (R.PNT_STREAM_WAIT n) 10 0 = 0) ∧ (s.dev.streamLaneEn n = true) ∧ (n < 4) ∧ (s.dev.faultRoom 0x0D04 = true) ∧ (s.dev.rbit (R.PNT_STREAM_CFG n) 6 = false) ∧ (s.dev.rbit (R.PNT_STREAM_CFG n) 12 = false) ∧ (s.dev.pnt.cfgPend = [])) ∧
  -- bulkDropGapRecord
  (∃ (s : State) (t : Nat) (n : Nat) (m : Nat),
    (s.dev.alive = true) ∧ (n < 16) ∧ (mget s.dev.pnt.drops n = some m) ∧ (0 < m) ∧ (s.dev.streamOn n = true)) ∧
  -- lodeExport
  (∃ (s : State) (src : Nat) (t : Nat) (bank : Nat) (ep : Nat) (mp : List Word),
    (s.dev.takesCmd R.PNT_CMD = true) ∧ (s.dev.pnt.export_ = none) ∧ (s.dev.hst.sealedBank = some (bank, ep, mp)) ∧ (lodeBad mp = false) ∧ (bits (mp.getD 1 0) 23 0 * bits (mp.getD 2 0) 16 8 * 2 ^ bits (mp.getD 3 0) 12 11 ≠ 0)) ∧
  -- lodeExportRejected
  (∃ (s : State) (src : Nat) (t : Nat),
    (s.dev.takesCmd R.PNT_CMD = true) ∧ (s.dev.pnt.export_ = none) ∧ (s.dev.hst.sealedBank = none)) ∧
  -- journalDump
  (∃ (s : State) (src : Nat) (t : Nat),
    (s.dev.takesCmd R.PNT_CMD = true) ∧ (s.dev.pnt.export_ = none) ∧ (s.dev.streamOn 11 = true) ∧ (s.dev.flg.ring = []) ∧ (s.dev.flg.jwr = 0) ∧ (s.dev.flg.wrapped = false)) ∧
  -- flush
  (∃ (s : State) (src : Nat) (t : Nat) (n : Nat),
    (s.dev.takesCmd R.PNT_CMD = true) ∧ (8 ≤ n) ∧ (n ≤ 13) ∧ (s.dev.streamOn n = true)) ∧
  -- flushRejected
  (∃ (s : State) (src : Nat) (t : Nat) (n : Nat),
    (s.dev.takesCmd R.PNT_CMD = true) ∧ (n < 8)) :=
  ⟨⟨st { (up .ranging).setReg (R.PNT_STREAM_CFG 2) 1#32 with asy := { cores := [(3, { started := true, committing := some 40, staging := [0x50000#32, 0#32, 0#32, 0#32], batches := [{ uid := 9, cell := 5 }] })] }, seq := { cells := [(9, { uid := 9, cell := 5, entry := { stream := 2 } })] } }, 50, 3, 40, 0x50000#32, 0#32, 0#32, 0#32, { uid := 9, cell := 5 }, { uid := 9, cell := 5, entry := { stream := 2 } }, by decide +kernel⟩,
   ⟨st { up .ranging with asy := { cores := [(3, { started := true, committing := some 40, staging := [0x50000#32, 0#32, 0#32] })] } }, 50, 3, 40, by decide +kernel⟩,
   ⟨st { (up .ranging).setReg (R.PNT_STREAM_CFG 2) 1#32 with seq := { cells := [(9, { uid := 9, cell := 5, cancelled := true, firedTotal := 1, entry := { stream := 2 } })] } }, 50, { uid := 9, cell := 5, cancelled := true, firedTotal := 1, entry := { stream := 2 } }, by decide +kernel⟩,
   ⟨st { ((up .ranging).setReg (R.PNT_STREAM_CFG 2) 0x29#32).setReg (R.PNT_STREAM_WAIT 2) 0#32 with pnt := { queues := [(2, [{ seq := 7, body := List.replicate 16 1#8 }])] } }, 50, 2, { seq := 7, body := List.replicate 16 1#8 }, true, true, by decide +kernel⟩,
   ⟨st { ((up .ranging).setReg (R.PNT_STREAM_CFG 2) 0x29#32).setReg (R.PNT_STREAM_WAIT 2) 0#32 with pnt := { queues := [(2, [{ seq := 7, body := List.replicate 36 1#8, fallback := List.replicate 16 2#8 }])] } }, 50, 2, { seq := 7, body := List.replicate 36 1#8, fallback := List.replicate 16 2#8 }, true, true, by decide +kernel⟩,
   ⟨st { (up .ranging).setReg (R.PNT_STREAM_CFG 9) 1#32 with pnt := { drops := [(9, 3)] } }, 50, 9, 3, by decide +kernel⟩,
   ⟨st { up .ranging with hst := { sealedBank := some (1, 5, [0#32, 4#32, 0x400#32, 0#32]) } }, 1, 50, 1, 5, [0#32, 4#32, 0x400#32, 0#32], by decide +kernel⟩,
   ⟨st (up .ranging), 1, 50, by decide +kernel⟩,
   ⟨st ((up .ranging).setReg (R.PNT_STREAM_CFG 11) 1#32), 1, 50, by decide +kernel⟩,
   ⟨st { (up .ranging).setReg (R.PNT_STREAM_CFG 9) 1#32 with pnt := { queues := [(9, [{}, {}])] } }, 1, 50, 9, by decide +kernel⟩,
   ⟨st { (up .ranging).setReg (R.PNT_STREAM_CFG 4) 1#32 with pnt := { queues := [(4, [{}, {}])] } }, 1, 50, 4, by decide +kernel⟩⟩

theorem test_witness_ForemanComplete :
  -- roundBoundary
  (∃ (s : State) (t : Nat),
    (s.dev.alive = true) ∧ (s.dev.reg64 R.FMN_ROUND < (s.dev.advanceTo t).now / 16384) ∧ ((s.dev.advanceTo t).now / 16384 < 2 ^ 64) ∧ (s.dev.fmn.approved = false) ∧ (s.dev.fmn.waiting = [])) ∧
  -- allocationsApplied
  (∃ (s : State) (t : Nat) (a : Nat) (v : Nat),
    (s.dev.alive = true) ∧ (s.dev.reg64 R.FMN_ROUND < (s.dev.advanceTo t).now / 16384) ∧ (s.dev.fmn.approved = true) ∧ (s.dev.fmn.waiting = []) ∧ (s.dev.fmn.pend = [(a, v)]) ∧ (a < 24)) ∧
  -- activityServed
  (∃ (s : State) (t : Nat) (a : Nat) (n : Nat) (panic : Bool),
    (s.dev.alive = true) ∧ (8 ≤ a) ∧ (a < 24) ∧ (a ≠ 16) ∧ (n ≤ s.dev.actLeft a)) ∧
  -- activityWaits
  (∃ (s : State) (t : Nat) (a : Nat) (n : Nat),
    (s.dev.alive = true) ∧ (8 ≤ a) ∧ (a < 24) ∧ (a ≠ 14) ∧ (s.dev.actLeft a < n)) ∧
  -- activityOverruns
  (∃ (s : State) (t : Nat) (a : Nat) (n : Nat) (panic : Bool),
    (s.dev.alive = true) ∧ (a < 8) ∧ (a ≠ 2) ∧ ((s.dev.reg (R.FMN_ALLOC a)).toNat < mgetD s.dev.fmn.used a 0 + n) ∧ (s.dev.fmn.overrun = false) ∧ (s.dev.faultRoom 0x0E02 = true)) ∧
  -- check
  (∃ (s : State) (src : Nat) (t : Nat),
    (s.dev.takesCmd R.FMN_CMD = true)) ∧
  -- admissionPassed
  (∃ (s : State) (t : Nat),
    (s.dev.alive = true) ∧ (s.dev.fmn.checking = true) ∧ (s.dev.fmn.recheckDue = false) ∧ (s.dev.top.stage10 = false) ∧ ((s.dev.admission s.sram s.dev.dispatchCores).code = 0)) ∧
  -- admissionFailed
  (∃ (s : State) (t : Nat),
    (s.dev.alive = true) ∧ (s.dev.fmn.checking = true) ∧ (s.dev.fmn.recheckDue = false) ∧ (s.dev.top.stage10 = false) ∧ ((s.dev.admission s.sram s.dev.dispatchCores).code ≠ 0) ∧ (s.dev.faultRoom 0x0E01 = true)) ∧
  -- fmnAllocWrite
  (∃ (s : State) (src : Nat) (t : Nat) (a : Nat) (v : Word),
    (s.dev.alive = true) ∧ (s.dev.top.state ≠ .headframe) ∧ (a < 24)) ∧
  -- foremanParityError
  (∃ (s : State) (t : Nat),
    (s.dev.alive = true)) :=
  ⟨⟨st { (up .ranging).setReg (R.ASY_BG_USED 3) 7#32 with asy := { cores := [(3, { started := true, bgHeld := true })] }, fmn := { used := [(4, 9)], overrun := true } }, 32768, by decide +kernel⟩,
   ⟨st { up .ranging with fmn := { pend := [(2, 9)], approved := true } }, 32768, 2, 9, by decide +kernel⟩,
   ⟨st { (up .ranging).setReg (R.FMN_ALLOC 14) 10#32 with fmn := { used := [(14, 4)] } }, 50, 14, 6, false, by decide +kernel⟩,
   ⟨st { (up .ranging).setReg (R.FMN_ALLOC 15) 10#32 with fmn := { used := [(15, 4)] } }, 50, 15, 7, by decide +kernel⟩,
   ⟨st { (up .ranging).setReg (R.FMN_ALLOC 1) 10#32 with fmn := { used := [(1, 4)] } }, 50, 1, 7, false, by decide +kernel⟩,
   ⟨st (up .ranging), 1, 50, by decide +kernel⟩,
   ⟨{ st { ((up .armed).setReg (R.FMN_ALLOC 1) 0#32) with fmn := { checking := true } } with sram := memSetBytes [] 0x01800000 [0, 0, 0, 0, 0, 0, 0, 0, 0, 0, 0, 0, 0, 0, 0, 0] }, 50, by decide +kernel⟩,
   ⟨{ st { ((up .armed).setReg (R.FMN_ALLOC 1) 0xFFFFF#32) with fmn := { checking := true } } with sram := memSetBytes [] 0x01800000 [0, 0, 0, 0, 0, 0, 0, 0, 0, 0, 0, 0, 0, 0, 0, 0] }, 50, by decide +kernel⟩,
   ⟨st (up .ranging), 1, 50, 23, 9, by decide +kernel⟩,
   ⟨st (up .ranging), 50, by decide +kernel⟩⟩

theorem test_witness_WaveformComplete :
  -- wavTapCfgWrite
  (∃ (s : State) (src : Nat) (t : Nat) (tap : Nat) (v : Word),
    (s.dev.alive = true) ∧ (s.dev.top.state ≠ .headframe) ∧ (tap < 8) ∧ ((s.dev.tap tap).st = .idle) ∧ ((s.dev.tap tap).cfgPend = []) ∧ (v.getLsbD 0 = false) ∧ (bits v 11 9 ≠ 7)) ∧
  -- tapStarts
  (∃ (s : State) (src : Nat) (t : Nat) (tap : Nat) (v : Word),
    (s.dev.alive = true) ∧ (s.dev.inState [.armed, .ranging, .held] = true) ∧ (tap < 8) ∧ (s.dev.hoistServing = true) ∧ ((s.dev.tap tap).st = .idle) ∧ ((s.dev.tap tap).dead = false) ∧ ((s.dev.tap tap).cfgPend = []) ∧ (v.getLsbD 0 = true)) ∧
  -- cfgHeld
  (∃ (s : State) (src : Nat) (t : Nat) (tap : Nat) (v : Word),
    (s.dev.alive = true) ∧ (s.dev.top.state ≠ .headframe) ∧ (tap < 8) ∧ ((s.dev.tap tap).st = .capturing) ∧ (v.getLsbD 0 = true) ∧ (bits v 11 9 ≠ 7) ∧ (s.dev.reg (R.WAV_TAP_CFG tap) = 1#32) ∧ (v &&& 0x003F3FFE#32 ≠ 0#32) ∧ (bits v 15 14 = 0)) ∧
  -- levelTrigger
  (∃ (s : State) (t : Nat) (tap : Nat) (k : Nat) (a : Nat) (b : Nat),
    (s.dev.alive = true) ∧ (tap < 8) ∧ ((s.dev.tap tap).st = .armed) ∧ ((s.dev.tap tap).flushing = false) ∧ ((s.dev.tap tap).primed = true) ∧ ((s.dev.tap tap).recent = [a]) ∧ (s.dev.rbit (R.WAV_TAP_TRIG tap) 1 = true) ∧ (s.dev.rbit (R.WAV_TAP_TRIG tap) 5 = false) ∧ (s.dev.fld (R.WAV_TAP_CFG tap) 13 12 = 0) ∧ (a < s.dev.fld (R.WAV_TAP_LEVEL tap) 7 0) ∧ (s.dev.fld (R.WAV_TAP_LEVEL tap) 7 0 ≤ b) ∧ (b < 256) ∧ (1 ≤ k)) ∧
  -- trigInEdge
  (∃ (s : State) (t : Nat) (tick : Nat) (fine : Nat) (tap : Nat),
    (s.dev.alive = true) ∧ (tap < 8) ∧ ((s.dev.tap tap).st = .armed) ∧ ((s.dev.tap tap).flushing = false) ∧ (s.dev.rbit (R.WAV_TAP_TRIG tap) 3 = true)) ∧
  -- triggerIgnored
  (∃ (s : State) (t : Nat) (tick : Nat) (fine : Nat) (tap : Nat),
    (s.dev.alive = true) ∧ (tap < 8) ∧ ((s.dev.tap tap).st = .rearm) ∧ (s.dev.rbit (R.WAV_TAP_TRIG tap) 3 = true)) ∧
  -- triggerDecision
  (∃ (s : State) (t : Nat) (tap : Nat) (x : Trig),
    (s.dev.alive = true) ∧ (tap < 8) ∧ ((s.dev.tap tap).st = .armed) ∧ ((s.dev.tap tap).trigs = [x]) ∧ ((s.dev.tap tap).gaps = []) ∧ (trigSample x.tick x.fine + 256 ≤ 2 * (s.dev.advanceTo t).now) ∧ (recordBytes (bits ((s.dev.advanceTo t).newRecord tap (trigSample x.tick x.fine) [x]).cfg 11 9) (((s.dev.advanceTo t).newRecord tap (trigSample x.tick x.fine) [x]).preValid + ((s.dev.advanceTo t).newRecord tap (trigSample x.tick x.fine) [x]).post) ≤ s.dev.ringFree tap)) ∧
  -- ringFull
  (∃ (s : State) (t : Nat) (tap : Nat) (x : Trig),
    (s.dev.alive = true) ∧ (tap < 8) ∧ ((s.dev.tap tap).st = .armed) ∧ ((s.dev.tap tap).trigs = [x]) ∧ (trigSample x.tick x.fine + 256 ≤ 2 * (s.dev.advanceTo t).now) ∧ (s.dev.ringFree tap < recordBytes (bits ((s.dev.advanceTo t).newRecord tap (trigSample x.tick x.fine) [x]).cfg 11 9) (((s.dev.advanceTo t).newRecord tap (trigSample x.tick x.fine) [x]).preValid + ((s.dev.advanceTo t).newRecord tap (trigSample x.tick x.fine) [x]).post)) ∧ (s.dev.rbit (R.WAV_TAP_STATUS tap) 5 = false) ∧ (s.dev.faultRoom 0x0F02 = true)) ∧
  -- captureEnd
  (∃ (s : State) (t : Nat) (tap : Nat) (xs : List Nat) (r : WavRec),
    (s.dev.alive = true) ∧ ((s.dev.tap tap).cap = some r) ∧ ((s.dev.tap tap).cfgPend = []) ∧ (r.k + r.post ≤ 2 * (s.dev.advanceTo t).now + 2)) ∧
  -- writeBufferFull
  (∃ (s : State) (t : Nat) (tap : Nat) (n : Nat) (xs : List Nat) (r : WavRec),
    (s.dev.alive = true) ∧ (tap < 8) ∧ ((s.dev.tap tap).cap = some r) ∧ ((s.dev.tap tap).cfgPend = []) ∧ (r.k ≤ n) ∧ (n < r.k + r.post) ∧ (bits r.cfg 11 9 = 0) ∧ (s.dev.faultRoom 0x0F01 = true) ∧ (s.dev.rbit (R.WAV_TAP_STATUS tap) 4 = false)) ∧
  -- recordWritten
  (∃ (s : State) (t : Nat) (tap : Nat) (pre : Nat) (r : WavRec),
    (s.dev.alive = true) ∧ (tap < 8) ∧ ((s.dev.tap tap).writing = some r)) ∧
  -- rearmEnd
  (∃ (s : State) (t : Nat) (tap : Nat),
    (s.dev.alive = true) ∧ ((s.dev.tap tap).st = .rearm) ∧ ((s.dev.tap tap).writing = none) ∧ ((s.dev.tap tap).rearmEnd ≤ 2 * (s.dev.advanceTo t).now)) ∧
  -- wavGapRecord
  (∃ (s : State) (t : Nat) (tap : Nat) (g : Nat × Nat × Nat × Nat),
    (s.dev.alive = true) ∧ (tap < 8) ∧ (s.dev.hoistServing = true) ∧ ((s.dev.tap tap).cap = none) ∧ ((s.dev.tap tap).writing = none) ∧ ((s.dev.tap tap).st ≠ .idle) ∧ ((s.dev.tap tap).gaps = [g]) ∧ (32 ≤ s.dev.ringFree tap)) ∧
  -- wavFlush
  (∃ (s : State) (src : Nat) (t : Nat) (tap : Nat),
    (s.dev.takesCmd R.WAV_CMD = true) ∧ (tap < 8) ∧ ((s.dev.tap tap).st ≠ .idle) ∧ ((s.dev.tap tap).flushing = false)) ∧
  -- wavFlushIdle
  (∃ (s : State) (src : Nat) (t : Nat) (tap : Nat),
    (s.dev.takesCmd R.WAV_CMD = true) ∧ (tap < 8) ∧ ((s.dev.tap tap).st = .idle)) ∧
  -- flushExecute
  (∃ (s : State) (t : Nat) (tap : Nat),
    (s.dev.alive = true) ∧ (tap < 8) ∧ ((s.dev.tap tap).flushing = true) ∧ ((s.dev.tap tap).cap = none) ∧ ((s.dev.tap tap).writing = none) ∧ ((s.dev.tap tap).ringPend = [])) ∧
  -- ringDrainApply
  (∃ (s : State) (t : Nat) (tap : Nat) (v : Word),
    (s.dev.alive = true) ∧ (tap < 8) ∧ ((s.dev.tap tap).ringPend = [(R.WAV_RING_LEN tap, v)]) ∧ ((s.dev.tap tap).cap = none) ∧ ((s.dev.tap tap).writing = none) ∧ (s.dev.ringUsed tap = 0)) ∧
  -- streamRecordRead
  (∃ (s : State) (t : Nat) (tap : Nat) (off : Nat) (len : Nat) (rest : List (Nat × Nat)),
    (s.dev.alive = true) ∧ (tap < 8) ∧ (s.dev.hoistServing = true) ∧ ((s.dev.tap tap).ring = (off, len) :: rest) ∧ (len % 32 = 0) ∧ (s.dev.rbit (R.WAV_TAP_CFG tap) 15 = true) ∧ (s.dev.streamOn 10 = true)) ∧
  -- tapParityError
  (∃ (s : State) (t : Nat) (tap : Nat),
    (s.dev.alive = true) ∧ (tap < 8) ∧ (s.dev.faultRoom 0x0F04 = true)) :=
  ⟨⟨st (up .ranging), 1, 50, 3, 0xFFFFF7FE#32, by decide +kernel⟩,
   ⟨st ((up .ranging).setReg R.HOI_STATUS 1#32), 1, 50, 3, 0x3#32, by decide +kernel⟩,
   ⟨st { (up .ranging).setReg (R.WAV_TAP_CFG 3) 1#32 with taps := [(3, { st := .capturing })] }, 1, 50, 3, 0x7#32, by decide +kernel⟩,
   ⟨st { ((up .ranging).setReg (R.WAV_TAP_TRIG 3) 2#32).setReg (R.WAV_TAP_LEVEL 3) 100#32 with taps := [(3, { st := .armed, primed := true, recent := [93] })] }, 50, 3, 1000, 93, 255, by decide +kernel⟩,
   ⟨st { (up .ranging).setReg (R.WAV_TAP_TRIG 3) 8#32 with taps := [(3, { st := .armed })] }, 50, 48, 31, 3, by decide +kernel⟩,
   ⟨st { (up .ranging).setReg (R.WAV_TAP_TRIG 3) 8#32 with taps := [(3, { st := .rearm })] }, 50, 48, 31, 3, by decide +kernel⟩,
   ⟨st { up .ranging with taps := [(3, { st := .armed, trigs := [{ source := 3, tick := 48, fine := 31 }] })] }, 500, 3, { source := 3, tick := 48, fine := 31 }, by decide +kernel⟩,
   ⟨st { ((up .ranging).setReg (R.WAV_RING_WR 3) 4032#32).setReg (R.WAV_TAP_LEN 3) 0x100#32 with taps := [(3, { st := .armed, trigs := [{ source := 3, tick := 48, fine := 31 }] })] }, 500, 3, { source := 3, tick := 48, fine := 31 }, by decide +kernel⟩,
   ⟨st { up .ranging with taps := [(3, { st := .capturing, cap := some { k := 20, preValid := 1, post := 2 } })] }, 500, 3, [300, 4, 5], { k := 20, preValid := 1, post := 2 }, by decide +kernel⟩,
   ⟨st { up .ranging with taps := [(3, { st := .capturing, cap := some { k := 20, preValid := 1, post := 2 } })] }, 500, 3, 21, [300, 4, 5], { k := 20, preValid := 1, post := 2 }, by decide +kernel⟩,
   ⟨st { (up .ranging).setReg (R.WAV_RING_WR 3) 4064#32 with taps := [(3, { st := .rearm, writing := some { k := 20, samples := [1, 2, 3] } })] }, 500, 3, 30, { k := 20, samples := [1, 2, 3] }, by decide +kernel⟩,
   ⟨st { up .ranging with taps := [(3, { st := .rearm, rearmEnd := 100 })] }, 50, 3, by decide +kernel⟩,
   ⟨st { ((up .ranging).setReg (R.WAV_RING_WR 3) 64#32).setReg R.HOI_STATUS 1#32 with taps := [(3, { st := .rearm, gaps := [(1, 4, 5, 6)] })] }, 50, 3, (1, 4, 5, 6), by decide +kernel⟩,
   ⟨st { up .ranging with taps := [(3, { st := .armed })] }, 1, 50, 3, by decide +kernel⟩,
   ⟨st (up .ranging), 1, 50, 3, by decide +kernel⟩,
   ⟨st { (up .ranging).setReg (R.WAV_RING_WR 3) 64#32 with taps := [(3, { st := .rearm, flushing := true, ring := [(0, 64)] })] }, 50, 3, by decide +kernel⟩,
   ⟨st { (up .ranging).setReg (R.WAV_RING_WR 3) 64#32 |>.setReg (R.WAV_RING_RD 3) 64#32 with taps := [(3, { st := .rearm, ringPend := [(R.WAV_RING_LEN 3, 9)] })] }, 50, 3, 9, by decide +kernel⟩,
   ⟨st { (((up .ranging).setReg R.HOI_STATUS 1#32).setReg (R.WAV_TAP_CFG 3) 0x8000#32).setReg (R.PNT_STREAM_CFG 10) 1#32 with taps := [(3, { st := .rearm, ring := [(0, 64)] })] }, 50, 3, 0, 64, [], by decide +kernel⟩,
   ⟨st { up .ranging with taps := [(3, { st := .armed })] }, 50, 3, by decide +kernel⟩⟩

theorem test_witness_HousekeepingComplete :
  -- hkaConversion
  (∃ (s : State) (t : Nat) (u : Nat) (e : Nat) (n : Nat) (x : Int) (ovl : Bool),
    (s.dev.alive = true) ∧ (u < 6) ∧ (e < 8) ∧ ((s.dev.hka u).run = some (e, n)) ∧ ((s.dev.hka u).cal = false) ∧ ((s.dev.hka u).calWait = false) ∧ (mget (s.dev.hka u).seqPend e = none) ∧ (s.dev.senseMode u = false) ∧ (s.dev.isRemoved (.converter u) = false) ∧ (inputOk u (s.dev.fld (R.HKA_SEQ u e) 5 0) = true)) ∧
  -- hkaStart
  (∃ (s : State) (src : Nat) (t : Nat) (u : Nat),
    (s.dev.takesCmd R.HKA_CMD = true) ∧ (u < 6) ∧ (s.dev.rbit (R.HKA_CFG u) 0 = true) ∧ (s.dev.scanned u = false) ∧ (s.dev.senseMode u = false) ∧ (s.dev.fld (R.HKA_CFG u) 20 5 = 0) ∧ ((s.dev.hka u) = {})) ∧
  -- hkaStartDelayed
  (∃ (s : State) (src : Nat) (t : Nat) (u : Nat),
    (s.dev.takesCmd R.HKA_CMD = true) ∧ (u < 6) ∧ (s.dev.rbit (R.HKA_CFG u) 0 = true) ∧ (s.dev.scanned u = false) ∧ (s.dev.senseMode u = false) ∧ (s.dev.fld (R.HKA_CFG u) 20 5 ≠ 0) ∧ ((s.dev.hka u) = {})) ∧
  -- hkaStartRejected
  (∃ (s : State) (src : Nat) (t : Nat) (u : Nat),
    (s.dev.takesCmd R.HKA_CMD = true) ∧ (u < 6) ∧ (s.dev.rbit (R.HKA_CFG u) 0 = false)) ∧
  -- hkaTimerOverflow
  (∃ (s : State) (t : Nat) (timer : Nat) (u : Nat),
    (s.dev.alive = true) ∧ (u < 6) ∧ (s.dev.reg (R.HKA_TIMER timer) ≠ 0#32) ∧ (s.dev.fld (R.HKA_CFG u) 4 1 = timer + 1) ∧ (s.dev.rbit (R.HKA_CFG u) 0 = true) ∧ (s.dev.scanned u = false) ∧ (s.dev.senseMode u = false) ∧ (s.dev.fld (R.HKA_CFG u) 20 5 = 0) ∧ ((s.dev.hka u) = {})) ∧
  -- startDelayEnd
  (∃ (s : State) (t : Nat) (u : Nat) (x : Nat),
    (s.dev.alive = true) ∧ ((s.dev.hka u) = { delayEnd := some x }) ∧ (x ≤ (s.dev.advanceTo t).now)) ∧
  -- inject
  (∃ (s : State) (src : Nat) (t : Nat) (u : Nat) (a : Nat) (code : Nat),
    (s.dev.takesCmd R.HKA_CMD = true) ∧ (u < 4) ∧ (a ≤ 5) ∧ (s.dev.senseMode u = false) ∧ ((s.dev.hka u) = {})) ∧
  -- injectRejected
  (∃ (s : State) (src : Nat) (t : Nat) (u : Nat) (a : Nat) (code : Nat),
    (s.dev.takesCmd R.HKA_CMD = true) ∧ (4 ≤ u) ∧ (u < 6)) ∧
  -- injectionDone
  (∃ (s : State) (t : Nat) (u : Nat) (a : Nat) (code : Nat) (xs : List Int),
    (s.dev.alive = true) ∧ (u < 6) ∧ ((s.dev.hka u) = { inj := some (a, code) }) ∧ (s.dev.isRemoved (.converter u) = false)) ∧
  -- hkaCal
  (∃ (s : State) (src : Nat) (t : Nat) (u : Nat),
    (s.dev.takesCmd R.HKA_CMD = true) ∧ (u < 6) ∧ (s.dev.senseMode u = false) ∧ (s.dev.isRemoved (.converter u) = false) ∧ ((s.dev.hka u) = {})) ∧
  -- hkaCalWaits
  (∃ (s : State) (src : Nat) (t : Nat) (u : Nat) (e : Nat) (n : Nat),
    (s.dev.takesCmd R.HKA_CMD = true) ∧ (u < 6) ∧ (s.dev.senseMode u = false) ∧ (s.dev.isRemoved (.converter u) = false) ∧ ((s.dev.hka u) = { run := some (e, n) })) ∧
  -- selfCalibrationDone
  (∃ (s : State) (t : Nat) (u : Nat) (oc : Nat) (gc : Nat) (off : Int) (gain : Int),
    (s.dev.alive = true) ∧ (u < 6) ∧ ((s.dev.hka u) = { cal := true }) ∧ (off.natAbs ≤ 64) ∧ (gain.natAbs ≤ 20000)) ∧
  -- selfCalibrationFailed
  (∃ (s : State) (t : Nat) (u : Nat) (oc : Nat) (gc : Nat) (off : Int) (gain : Int),
    (s.dev.alive = true) ∧ (u < 6) ∧ ((s.dev.hka u) = { cal := true }) ∧ (64 < off.natAbs ∨ 20000 < gain.natAbs) ∧ (s.dev.faultRoom (if u < 4 then 0x1101 else 0x1102) = true)) :=
  ⟨⟨st { (up .ranging).setReg (R.HKA_SEQ 5 2) 0x205#32 with hkas := [(5, { run := some (2, 0) })] }, 50, 5, 2, 0, -5, true, by decide +kernel⟩,
   ⟨st ((up .ranging).setReg (R.HKA_CFG 2) 1#32), 1, 50, 2, by decide +kernel⟩,
   ⟨st ((up .ranging).setReg (R.HKA_CFG 2) 0x61#32), 1, 50, 2, by decide +kernel⟩,
   ⟨st (up .ranging), 1, 50, 2, by decide +kernel⟩,
   ⟨st (((up .ranging).setReg (R.HKA_CFG 2) 5#32).setReg (R.HKA_TIMER 1) 9#32), 50, 1, 2, by decide +kernel⟩,
   ⟨st { up .ranging with hkas := [(2, { delayEnd := some 40 })] }, 50, 2, 40, by decide +kernel⟩,
   ⟨st (up .ranging), 1, 50, 3, 5, 63, by decide +kernel⟩,
   ⟨st (up .ranging), 1, 50, 5, 5, 63, by decide +kernel⟩,
   ⟨st { up .ranging with hkas := [(2, { inj := some (1, 5) })] }, 50, 2, 1, 5, [3, -10], by decide +kernel⟩,
   ⟨st (up .ranging), 1, 50, 5, by decide +kernel⟩,
   ⟨st { up .ranging with hkas := [(2, { run := some (1, 5) })] }, 1, 50, 2, 1, 5, by decide +kernel⟩,
   ⟨st { up .ranging with hkas := [(2, { cal := true })] }, 50, 2, 300, 5, -64, 20000, by decide +kernel⟩,
   ⟨st { up .ranging with hkas := [(5, { cal := true })] }, 50, 5, 300, 5, -65, 20000, by decide +kernel⟩⟩

theorem test_witness_FilterComplete :
  -- filterOutput
  (∃ (s : State) (t : Nat) (n : Nat) (at0 : Nat) (x : Int) (rest : List (Int × Nat)),
    (s.dev.alive = true) ∧ (n < 16) ∧ ((s.dev.flt n).ready = (x, at0) :: rest) ∧ ((s.dev.flt n).lastOut = none) ∧ ((s.dev.flt n).fade = none) ∧ ((s.dev.flt n).swapNow = false) ∧ ((s.dev.flt n).left = 0)) ∧
  -- filterOverrun
  (∃ (s : State) (t : Nat) (n : Nat) (at0 : Nat) (l : Nat) (x : Int) (rest : List (Int × Nat)),
    (s.dev.alive = true) ∧ (n < 16) ∧ ((s.dev.flt n).ready = (x, at0) :: rest) ∧ ((s.dev.flt n).lastOut = some l) ∧ (at0 < l + 1600) ∧ (s.dev.rbit R.FLT_STATUS 3 = false) ∧ (s.dev.faultRoom 0x1002 = true)) ∧
  -- fadeEnd
  (∃ (s : State) (t : Nat) (n : Nat) (f : Nat) (i : Nat),
    (s.dev.alive = true) ∧ (n < 16) ∧ ((s.dev.flt n).fade = some (f, i)) ∧ (f ≤ i)) ∧
  -- synchronisingReset
  (∃ (s : State) (t : Nat) (n : Nat),
    (s.dev.alive = true) ∧ (n < 16) ∧ ((s.dev.flt n).resetPend = true)) ∧
  -- swap
  (∃ (s : State) (src : Nat) (t : Nat) (n : Nat),
    (s.dev.takesCmd R.FLT_CMD = true) ∧ (n < 16) ∧ ((s.dev.flt n).swapPend = false) ∧ ((s.dev.flt n).swapNow = false) ∧ ((s.dev.flt n).fade = none) ∧ (s.dev.fltLinear n (1 - s.dev.fltActive n) = false ∨ s.dev.fltSymmetric n (1 - s.dev.fltActive n) = true)) ∧
  -- swapRefused
  (∃ (s : State) (src : Nat) (t : Nat) (n : Nat),
    (s.dev.takesCmd R.FLT_CMD = true) ∧ (n < 16) ∧ ((s.dev.flt n).swapNow = true)) ∧
  -- fltSync
  (∃ (s : State) (src : Nat) (t : Nat) (n : Nat),
    (s.dev.takesCmd R.FLT_CMD = true) ∧ (n < 16)) ∧
  -- fltReinstate
  (∃ (s : State) (src : Nat) (t : Nat) (n : Nat),
    (s.dev.takesCmd R.FLT_CMD = true) ∧ (n < 16) ∧ (s.dev.isRemoved (.filter n) = true) ∧ (s.dev.faultCleared 0x1001 = true)) ∧
  -- fltReinstateRejected
  (∃ (s : State) (src : Nat) (t : Nat) (n : Nat),
    (s.dev.takesCmd R.FLT_CMD = true) ∧ (n < 16) ∧ (s.dev.isRemoved (.filter n) = false)) ∧
  -- fltBankWrite
  (∃ (s : State) (src : Nat) (t : Nat) (n : Nat) (j : Nat) (v : Word),
    (s.dev.alive = true) ∧ (s.dev.top.state ≠ .headframe) ∧ (n < 16) ∧ (j < 128) ∧ ((s.dev.flt n).fade = none)) ∧
  -- activeBankWrite
  (∃ (s : State) (src : Nat) (t : Nat) (n : Nat) (j : Nat) (v : Word),
    (s.dev.alive = true) ∧ (s.dev.top.state ≠ .headframe) ∧ (n < 16) ∧ (j < 128) ∧ ((s.dev.flt n).fade = none)) ∧
  -- filterParityError
  (∃ (s : State) (t : Nat) (n : Nat),
    (s.dev.alive = true) ∧ (n < 16) ∧ (s.dev.faultRoom 0x1001 = true)) :=
  ⟨⟨st { ((up .ranging).setReg (R.FLT_BANK 2) 0x2#32).setReg 0x231800 0x8000#32 |>.setReg 0x231804 0x3FFFF#32 with flts := [(2, { ready := [(70000, 40)], hist := [200000] })] }, 50, 2, 40, 70000, [], by decide +kernel⟩,
   ⟨st { up .ranging with flts := [(2, { ready := [(70000, 1639)], lastOut := some 40 })] }, 50, 2, 1639, 40, 70000, [], by decide +kernel⟩,
   ⟨st { up .ranging with flts := [(2, { fade := some (3, 3), swapPend := true })] }, 50, 2, 3, 3, by decide +kernel⟩,
   ⟨st { (up .ranging).setReg (R.FLT_BANK 2) 0x1C02#32 with flts := [(2, { resetPend := true, valid := true, hist := [3] })] }, 50, 2, by decide +kernel⟩,
   ⟨st ((up .ranging).setReg (R.FLT_BANK 2) 0x0#32), 1, 50, 2, by decide +kernel⟩,
   ⟨st { up .ranging with flts := [(2, { swapNow := true })] }, 1, 50, 2, by decide +kernel⟩,
   ⟨st (up .ranging), 1, 50, 15, by decide +kernel⟩,
   ⟨st { (up .ranging).setReg R.FLT_STATUS 0xFFFFFFFF#32 with top := { (up .ranging).top with removed := [.filter 15] } }, 1, 50, 15, by decide +kernel⟩,
   ⟨st (up .ranging), 1, 50, 15, by decide +kernel⟩,
   ⟨st (up .ranging), 1, 50, 15, 127, 0x20000#32, by decide +kernel⟩,
   ⟨st (up .ranging), 1, 50, 15, 127, 0x20000#32, by decide +kernel⟩,
   ⟨st { up .ranging with flts := [(15, { valid := true })] }, 50, 15, by decide +kernel⟩⟩

theorem test_witness_SensorComplete :
  -- sensorSlotEnd
  (∃ (s : State) (t : Nat) (cv : Nat) (n : Nat) (x : Int) (lead : Int),
    (s.dev.alive = true) ∧ (cv < 2) ∧ (n < 8) ∧ (s.dev.rbit R.SNS_CTRL cv = true) ∧ ((s.dev.hka (4 + cv)).cal = false) ∧ (s.dev.scanChannel cv = some n) ∧ (s.dev.wiring n = 2) ∧ ((s.dev.snsCh n).affected = false) ∧ (bits (s.dev.reg (R.SNS_STATUS n)) 3 1 = 0) ∧ (s.dev.fld (R.SNS_CFG n) 11 8 = 7) ∧ (0 ≤ x)) ∧
  -- slotOpenWire
  (∃ (s : State) (t : Nat) (cv : Nat) (n : Nat) (x : Int) (lead : Int),
    (s.dev.alive = true) ∧ (cv < 2) ∧ (n < 8) ∧ (s.dev.rbit R.SNS_CTRL cv = true) ∧ ((s.dev.hka (4 + cv)).cal = false) ∧ (s.dev.scanChannel cv = some n) ∧ (s.dev.wiring n = 2) ∧ (s.dev.rbit (R.SNS_STATUS n) 1 = true)) ∧
  -- biasSlewStep
  (∃ (s : State) (t : Nat),
    (s.dev.alive = true) ∧ (s.dev.rbit R.SNS_BIAS_STATUS 16 = false) ∧ (s.dev.sns.biasTarget < 65536)) ∧
  -- openWireTrip
  (∃ (s : State) (t : Nat) (n : Nat),
    (s.dev.alive = true) ∧ (n < 8) ∧ (s.dev.rbit (R.SNS_CFG n) 0 = true) ∧ (s.dev.faultRoom 0x1201 = true)) ∧
  -- leadTestStart
  (∃ (s : State) (t : Nat) (n : Nat),
    (s.dev.alive = true) ∧ (n < 8) ∧ (s.dev.rbit (R.SNS_CFG n) 0 = true)) ∧
  -- leadTestEnd
  (∃ (s : State) (t : Nat) (n : Nat) (mo : Nat) (x : Nat),
    (s.dev.alive = true) ∧ (n < 8) ∧ ((s.dev.snsCh n).tone.isSome = true) ∧ (s.dev.wiring n ≠ 0) ∧ (250 * s.dev.fld (R.SNS_CFG n) 23 16 < mo) ∧ (s.dev.faultRoom 0x1202 = true)) ∧
  -- leadIntermittent
  (∃ (s : State) (t : Nat) (n : Nat) (mo : Nat) (x : Nat) (y : Nat),
    (s.dev.alive = true) ∧ (n < 8) ∧ ((s.dev.snsCh n).tone.isSome = true) ∧ (s.dev.wiring n = 0) ∧ (x < y) ∧ (y < 4 * (y - x)) ∧ (s.dev.faultRoom 0x1203 = true)) ∧
  -- heaterPeriodStart
  (∃ (s : State) (t : Nat) (k : Nat),
    (s.dev.alive = true) ∧ (k < 2) ∧ (s.dev.rbit (R.SNS_HTR k) 0 = true) ∧ (s.dev.inState [.armed, .ranging, .held] = true) ∧ (s.dev.supplyBad .io33 = false) ∧ (s.dev.rbit (R.SNS_HTR k) 1 = false)) ∧
  -- thermostatOn
  (∃ (s : State) (t : Nat) (k : Nat) (n : Nat),
    (s.dev.alive = true) ∧ (k < 2) ∧ (s.dev.rbit (R.SNS_HTR k) 0 = true) ∧ (s.dev.inState [.armed, .ranging, .held] = true) ∧ (s.dev.supplyBad .io33 = false) ∧ (s.dev.rbit (R.SNS_HTR k) 1 = true) ∧ (s.dev.fld (R.SNS_HTR k) 4 2 = n) ∧ (s.dev.rbit (R.SNS_STATUS n) 0 = true) ∧ (signed 24 (s.dev.reg (R.SNS_VAL n)).toNat < 64 * signed 12 (s.dev.fld (R.SNS_HTR_SET k) 27 16) - 64 * (s.dev.fld (R.SNS_HTR_HYST k) 7 0 : Nat))) ∧
  -- thermostatOff
  (∃ (s : State) (t : Nat) (k : Nat) (n : Nat),
    (s.dev.alive = true) ∧ (k < 2) ∧ (s.dev.rbit (R.SNS_HTR k) 0 = true) ∧ (s.dev.inState [.armed, .ranging, .held] = true) ∧ (s.dev.supplyBad .io33 = false) ∧ (s.dev.rbit (R.SNS_HTR k) 1 = true) ∧ (s.dev.fld (R.SNS_HTR k) 4 2 = n) ∧ (s.dev.rbit (R.SNS_STATUS n) 0 = true) ∧ (64 * signed 12 (s.dev.fld (R.SNS_HTR_SET k) 27 16) < signed 24 (s.dev.reg (R.SNS_VAL n)).toNat)) ∧
  -- heaterOff
  (∃ (s : State) (t : Nat) (k : Nat),
    (s.dev.alive = true) ∧ (k < 2) ∧ (s.dev.rbit (R.SNS_HTR k) 0 = false)) ∧
  -- heaterDutyEnd
  (∃ (s : State) (t : Nat) (k : Nat),
    (s.dev.alive = true) ∧ ((s.dev.heater k).on = true) ∧ ((s.dev.heater k).duty < (s.dev.heater k).period)) ∧
  -- encoderEdge
  (∃ (s : State) (t : Nat) (k : Nat) (a : Bool) (b : Bool),
    (s.dev.alive = true) ∧ (k < 2) ∧ ((grayPos a b + 4 - grayPos (s.dev.enc k).a (s.dev.enc k).b) % 4 = 1)) ∧
  -- encoderEdgeBack
  (∃ (s : State) (t : Nat) (k : Nat) (a : Bool) (b : Bool),
    (s.dev.alive = true) ∧ (k < 2) ∧ ((grayPos a b + 4 - grayPos (s.dev.enc k).a (s.dev.enc k).b) % 4 = 3)) ∧
  -- encoderIllegal
  (∃ (s : State) (t : Nat) (k : Nat),
    (s.dev.alive = true) ∧ (k < 2) ∧ ((s.dev.enc k).logged = false) ∧ (s.dev.faultRoom 0x1207 = true)) ∧
  -- encoderIndex
  (∃ (s : State) (t : Nat) (k : Nat),
    (s.dev.alive = true) ∧ (k < 2)) ∧
  -- imuTrigger
  (∃ (s : State) (t : Nat),
    (s.dev.alive = true) ∧ (s.dev.rbit R.SNS_IMU_CFG 0 = true) ∧ (s.dev.rbit R.SNS_IMU_CFG 1 = true) ∧ (s.dev.sns.imu = none)) ∧
  -- imuTriggerDropped
  (∃ (s : State) (t : Nat),
    (s.dev.alive = true) ∧ (s.dev.rbit R.SNS_IMU_CFG 0 = true) ∧ (s.dev.rbit R.SNS_IMU_CFG 1 = true) ∧ (s.dev.sns.imu.isSome = true)) ∧
  -- imuXfer
  (∃ (s : State) (src : Nat) (t : Nat),
    (s.dev.takesCmd R.SNS_IMU_XFER = true) ∧ (s.dev.rbit R.SNS_IMU_CFG 0 = false) ∧ (s.dev.sns.imu = none)) ∧
  -- imuXferRejected
  (∃ (s : State) (src : Nat) (t : Nat),
    (s.dev.takesCmd R.SNS_IMU_XFER = true) ∧ (s.dev.rbit R.SNS_IMU_CFG 0 = true)) ∧
  -- imuTransferDone
  (∃ (s : State) (t : Nat) (x : Nat) (cmd : Bool) (data : List Byte),
    (s.dev.alive = true) ∧ (s.dev.sns.imu = some (x, cmd)) ∧ (56 ≤ data.length) ∧ (56 ≤ s.dev.fld R.SNS_IMU_CFG 19 14)) :=
  ⟨⟨st (((up .ranging).setReg R.SNS_CTRL 2#32).setReg (R.SNS_CFG 6) 0x705#32), 50, 1, 6, 1000000, -3, by decide +kernel⟩,
   ⟨st ((((up .ranging).setReg R.SNS_CTRL 2#32).setReg (R.SNS_CFG 6) 0x705#32).setReg (R.SNS_STATUS 6) 3#32), 50, 1, 6, 1000000, -3, by decide +kernel⟩,
   ⟨st { ((up .ranging).setReg R.SNS_BIAS_STATUS 100#32).setReg R.SNS_BIAS_CFG 0x00070000#32 with sns := { biasTarget := 95 } }, 50, by decide +kernel⟩,
   ⟨st ((up .ranging).setReg (R.SNS_CFG 7) 1#32), 50, 7, by decide +kernel⟩,
   ⟨st ((up .ranging).setReg (R.SNS_CFG 7) 1#32), 50, 7, by decide +kernel⟩,
   ⟨st { (up .ranging).setReg (R.SNS_CFG 7) 0x10003#32 with sns := { chs := [(7, { tone := some 4 })] } }, 50, 7, 251, 9, by decide +kernel⟩,
   ⟨st { (up .ranging).setReg (R.SNS_CFG 7) 0x10001#32 with sns := { chs := [(7, { tone := some 4 })] } }, 50, 7, 251, 74, 100, by decide +kernel⟩,
   ⟨st (((up .ranging).setReg (R.SNS_HTR 1) 0x640001#32).setReg (R.SNS_HTR_SET 1) 0x32#32), 50, 1, by decide +kernel⟩,
   ⟨st ((((up .ranging).setReg (R.SNS_HTR 1) 0x640007#32).setReg (R.SNS_HTR_SET 1) 0xF000032#32).setReg (R.SNS_STATUS 1) 1#32 |>.setReg (R.SNS_VAL 1) 0xFF0000#32), 50, 1, 1, by decide +kernel⟩,
   ⟨st ((((up .ranging).setReg (R.SNS_HTR 1) 0x640007#32).setReg (R.SNS_HTR_SET 1) 0xF000032#32).setReg (R.SNS_STATUS 1) 1#32 |>.setReg (R.SNS_VAL 1) 0x000001#32), 50, 1, 1, by decide +kernel⟩,
   ⟨st { up .ranging with sns := { heaters := [(1, { on := true })] } }, 50, 1, by decide +kernel⟩,
   ⟨st { up .ranging with sns := { heaters := [(1, { on := true, duty := 5, period := 10 })] } }, 50, 1, by decide +kernel⟩,
   ⟨st (up .ranging), 50, 1, true, false, by decide +kernel⟩,
   ⟨st (up .ranging), 50, 1, false, true, by decide +kernel⟩,
   ⟨st (up .ranging), 50, 1, by decide +kernel⟩,
   ⟨st (((up .ranging).setReg (R.SNS_ENC_CNT 1) 9#32).setReg (R.SNS_ENC_CFG 1) 0x10#32), 50, 1, by decide +kernel⟩,
   ⟨st ((up .ranging).setReg R.SNS_IMU_CFG 3#32), 50, by decide +kernel⟩,
   ⟨st { (up .ranging).setReg R.SNS_IMU_CFG 3#32 with sns := { imu := some (4, false) } }, 50, by decide +kernel⟩,
   ⟨st (up .ranging), 1, 50, by decide +kernel⟩,
   ⟨st ((up .ranging).setReg R.SNS_IMU_CFG 1#32), 1, 50, by decide +kernel⟩,
   ⟨st { (up .ranging).setReg R.SNS_IMU_CFG 0xFC000#32 |>.setReg R.SNS_IMU_STAT 15#32 with sns := { imu := some (4, true) } }, 50, 4, true, List.replicate 56 7#8, by decide +kernel⟩⟩

theorem test_witness_CanComplete :
  -- canFrameReceived
  (∃ (s : State) (t : Nat) (n : Nat) (id : Nat) (dlc : Nat) (sof : Nat) (f : Nat) (ide : Bool) (brs : Bool) (esi : Bool) (data : List Byte),
    (s.dev.alive = true) ∧ (n < 2) ∧ (s.dev.canOn n = true) ∧ (s.dev.canFilter n id ide = some f) ∧ (s.dev.canMgt n = false ∨ f ≠ 31) ∧ (s.dev.cnyRoutes = false ∨ 4 ≤ f) ∧ ((s.dev.can n).fifo.length < 32) ∧ (s.dev.rbit (R.CAN_CTRL n) 1 = true)) ∧
  -- canFrameFiltered
  (∃ (s : State) (t : Nat) (n : Nat) (id : Nat) (dlc : Nat) (sof : Nat) (ide : Bool) (fd : Bool) (brs : Bool) (esi : Bool) (data : List Byte),
    (s.dev.alive = true) ∧ (n < 2) ∧ (s.dev.canFilter n id ide = none)) ∧
  -- canFifoFull
  (∃ (s : State) (t : Nat) (n : Nat) (id : Nat) (dlc : Nat) (sof : Nat) (f : Nat) (ide : Bool) (brs : Bool) (esi : Bool) (data : List Byte),
    (s.dev.alive = true) ∧ (n < 2) ∧ (s.dev.canOn n = true) ∧ (s.dev.canFilter n id ide = some f) ∧ (s.dev.canMgt n = false ∨ f ≠ 31) ∧ (s.dev.cnyRoutes = false ∨ 4 ≤ f) ∧ ((s.dev.can n).fifo.length = 32) ∧ (s.dev.rbit (R.CAN_CTRL n) 1 = true) ∧ (s.dev.faultRoom 0x1702 = true)) ∧
  -- canFrameTransmitted
  (∃ (s : State) (t : Nat) (n : Nat) (b : Nat),
    (s.dev.alive = true) ∧ (n < 2) ∧ (s.dev.canOn n = true) ∧ (s.dev.canNext n = some b) ∧ (b < 7)) ∧
  -- canBusOff
  (∃ (s : State) (t : Nat) (n : Nat),
    (s.dev.alive = true) ∧ (n < 2) ∧ (s.dev.canOn n = true) ∧ (s.dev.faultRoom 0x1701 = true)) ∧
  -- recover
  (∃ (s : State) (src : Nat) (t : Nat) (n : Nat),
    (n < 2) ∧ (s.dev.takesCmd (R.CAN_CMD n) = true) ∧ (s.dev.fld (R.CAN_STATUS n) 1 0 = 2)) ∧
  -- recoverRejected
  (∃ (s : State) (src : Nat) (t : Nat) (n : Nat),
    (n < 2) ∧ (s.dev.takesCmd (R.CAN_CMD n) = true) ∧ (s.dev.fld (R.CAN_STATUS n) 1 0 ≠ 2)) ∧
  -- canAutoRecovery
  (∃ (s : State) (t : Nat) (n : Nat),
    (s.dev.alive = true) ∧ (n < 2) ∧ (s.dev.fld (R.CAN_STATUS n) 1 0 = 2) ∧ (s.dev.rbit (R.CAN_CTRL n) 3 = true ∨ (s.dev.can n).recovering = true)) ∧
  -- canCanaryWrite
  (∃ (s : State) (src : Nat) (t : Nat) (a : Nat) (v : Word),
    (s.dev.alive = true) ∧ (s.dev.top.state ≠ .headframe) ∧ (s.dev.canaryOwns a = true)) :=
  ⟨⟨st (((up .ranging).setReg (R.CAN_CTRL 1) 3#32).setReg (R.CAN_FLT 1 14) 0x80000123#32 |>.setReg (R.CAN_FLT 1 15) 0x7FF#32), 50, 1, 0x123, 9, 40, 7, false, true, false, [1, 2, 3], by decide +kernel⟩,
   ⟨st ((up .ranging).setReg (R.CAN_CTRL 1) 3#32), 50, 1, 0x123, 9, 40, false, true, true, false, [1, 2, 3], by decide +kernel⟩,
   ⟨st { ((up .ranging).setReg (R.CAN_CTRL 1) 3#32).setReg (R.CAN_FLT 1 14) 0x80000123#32 |>.setReg (R.CAN_FLT 1 15) 0x7FF#32 with cans := [(1, { fifo := List.replicate 32 [] })] }, 50, 1, 0x123, 9, 40, 7, false, true, false, [1, 2, 3], by decide +kernel⟩,
   ⟨st (((up .ranging).setReg (R.CAN_CTRL 1) 1#32).setReg (R.CAN_TX 1 41) 0x80000001#32 |>.setReg (R.CAN_TX 1 40) 5#32), 50, 1, 2, by decide +kernel⟩,
   ⟨st ((up .ranging).setReg (R.CAN_CTRL 1) 1#32), 50, 1, by decide +kernel⟩,
   ⟨st ((up .ranging).setReg (R.CAN_STATUS 1) 2#32), 1, 50, 1, by decide +kernel⟩,
   ⟨st (up .ranging), 1, 50, 1, by decide +kernel⟩,
   ⟨st { (up .ranging).setReg (R.CAN_STATUS 1) 0x12FF02#32 with cans := [(1, { recovering := true })] }, 50, 1, by decide +kernel⟩,
   ⟨st { up .ranging with cny := { active := some [], swReset := 2 } }, 1, 50, R.CAN_TX 0 3, 5, by decide +kernel⟩⟩

theorem test_witness_HoistTrainingComplete :
  -- trainingStepDone
  (∃ (s : State) (t : Nat) (x : Training),
    (s.dev.alive = true) ∧ (s.dev.hoi.training = some x) ∧ (s.dev.hoi.ratePend = none) ∧ (1 ≤ x.step) ∧ (x.step < 6)) ∧
  -- trainingStepAgain
  (∃ (s : State) (t : Nat) (x : Training),
    (s.dev.alive = true) ∧ (s.dev.hoi.training = some x) ∧ (s.dev.hoi.ratePend = none) ∧ (1 ≤ x.step) ∧ (x.step ≤ 6) ∧ (x.again = false)) ∧
  -- trainingFails
  (∃ (s : State) (t : Nat) (x : Training),
    (s.dev.alive = true) ∧ (s.dev.hoi.training = some x) ∧ (s.dev.hoi.ratePend = none) ∧ (1 ≤ x.step) ∧ (x.step ≤ 6) ∧ (x.again = true) ∧ (x.rate ≠ 0) ∧ (s.dev.faultRoom 0x1301 = true)) ∧
  -- trainingComplete
  (∃ (s : State) (t : Nat) (x : Training) (b : Bool),
    (s.dev.alive = true) ∧ (s.dev.hoi.training = some x) ∧ (s.dev.hoi.ratePend = none) ∧ (x.step = 7) ∧ (x.rate < 4)) ∧
  -- hoiRetrain
  (∃ (s : State) (src : Nat) (t : Nat),
    (s.dev.takesCmd R.HOI_CMD = true) ∧ (s.dev.inState [.armed, .held] = true) ∧ (s.dev.hoistFailed = false) ∧ (s.dev.hoi.training = none)) ∧
  -- hoiRetrainRejected
  (∃ (s : State) (src : Nat) (t : Nat),
    (s.dev.takesCmd R.HOI_CMD = true) ∧ (s.dev.inState [.armed, .held] = false)) ∧
  -- hoiRateWrite
  (∃ (s : State) (src : Nat) (t : Nat) (v : Word),
    (s.dev.alive = true) ∧ (s.dev.inState [.armed, .held] = true) ∧ (s.dev.hoistFailed = false) ∧ (s.dev.hoi.training = none) ∧ (bits v 1 0 ≠ s.dev.fld R.HOI_CTRL 1 0)) ∧
  -- hoiRateRefused
  (∃ (s : State) (src : Nat) (t : Nat) (v : Word),
    (s.dev.alive = true) ∧ (s.dev.top.state = .ranging) ∧ (bits v 1 0 ≠ s.dev.fld R.HOI_CTRL 1 0)) ∧
  -- laneTest
  (∃ (s : State) (src : Nat) (t : Nat) (n : Nat) (r : Nat),
    (s.dev.takesCmd R.HOI_CMD = true) ∧ (n < 2) ∧ (r < 2) ∧ (s.dev.hoi.training = none) ∧ (s.dev.hoi.laneTest = none) ∧ (s.dev.hoistServing = true)) ∧
  -- laneTestRejected
  (∃ (s : State) (src : Nat) (t : Nat) (n : Nat) (r : Nat),
    (s.dev.takesCmd R.HOI_CMD = true) ∧ (s.dev.hoi.training = none) ∧ (s.dev.hoi.laneTest = none) ∧ (s.dev.hoistServing = false)) ∧
  -- laneTestDone
  (∃ (s : State) (t : Nat) (n : Nat) (r : Nat) (p : Nat),
    (s.dev.alive = true) ∧ (s.dev.hoi.laneTest = some (n, r, true)) ∧ (n < 2) ∧ (p < 20) ∧ (s.dev.rbit (if r = 0 then R.HOI_CH_DEAD0 n else R.HOI_CH_DEAD1 n) p = false) ∧ (s.dev.fld R.HOI_CMD 9 8 = 3) ∧ (s.dev.faultRoom 0x1306 = true)) :=
  ⟨⟨st { up .armed with hoi := { training := some { step := 5, rate := 1, again := true } } }, 50, { step := 5, rate := 1, again := true }, by decide +kernel⟩,
   ⟨st { up .armed with hoi := { training := some { step := 6, rate := 1 } } }, 50, { step := 6, rate := 1 }, by decide +kernel⟩,
   ⟨st { up .armed with hoi := { training := some { step := 6, rate := 1, again := true } } }, 50, { step := 6, rate := 1, again := true }, by decide +kernel⟩,
   ⟨st { up .armed with hoi := { training := some { step := 7, rate := 3 } }, top := { (up .armed).top with removed := [.hoist] } }, 50, { step := 7, rate := 3 }, true, by decide +kernel⟩,
   ⟨st (up .armed), 1, 50, by decide +kernel⟩,
   ⟨st (up .ranging), 1, 50, by decide +kernel⟩,
   ⟨st ((up .armed).setReg R.HOI_CTRL 0#32), 1, 50, 0xE1#32, by decide +kernel⟩,
   ⟨st ((up .ranging).setReg R.HOI_CTRL 0#32), 1, 50, 0x1D#32, by decide +kernel⟩,
   ⟨st ((up .armed).setReg R.HOI_STATUS 1#32), 1, 50, 1, 1, by decide +kernel⟩,
   ⟨st (up .armed), 1, 50, 1, 1, by decide +kernel⟩,
   ⟨st { (up .armed).setReg R.HOI_CMD 0x302#32 with hoi := { laneTest := some (1, 1, true) } }, 50, 1, 1, 19, by decide +kernel⟩⟩

theorem test_witness_HoistAccessComplete :
  -- dramRead
  (∃ (s : State) (t : Nat) (act : Nat) (a : Nat) (n : Nat) (g : DTag),
    (s.dev.alive = true) ∧ (s.dev.hoistServing = true) ∧ (s.dev.hoistFailed = false) ∧ (chanOf a = n) ∧ ((s.dev.hoiCh n).recovery = none) ∧ (s.dev.rbit R.HOI_RH_CFG 16 = false) ∧ (a % 64 = 0) ∧ (a < s.dev.hoistBytes) ∧ (2 ≤ s.dev.actLeft act) ∧ (s.dev.tagOf (a / 64) = some g) ∧ (g.epoch = s.dev.epoch8) ∧ (g.p0 = false) ∧ (g.p1 = false)) ∧
  -- dramReadUncorrectable
  (∃ (s : State) (t : Nat) (act : Nat) (a : Nat) (n : Nat) (g : DTag),
    (s.dev.alive = true) ∧ (s.dev.hoistServing = true) ∧ (s.dev.hoistFailed = false) ∧ (chanOf a = n) ∧ ((s.dev.hoiCh n).recovery = none) ∧ (s.dev.rbit R.HOI_RH_CFG 16 = false) ∧ (a % 64 = 0) ∧ (a < s.dev.hoistBytes) ∧ (2 ≤ s.dev.actLeft act) ∧ (s.dev.tagOf (a / 64) = some g) ∧ ((s.dev.hoiCh n).logged ≠ s.dev.reg64 R.FMN_ROUND + 1) ∧ (s.dev.faultRoom 0x1303 = true)) ∧
  -- dramReadFailed
  (∃ (s : State) (t : Nat) (act : Nat) (a : Nat),
    (s.dev.alive = true) ∧ (s.dev.hoistFailed = true)) ∧
  -- dramWrite
  (∃ (s : State) (t : Nat) (act : Nat) (a : Nat) (n : Nat) (data : List Byte),
    (s.dev.alive = true) ∧ (s.dev.hoistServing = true) ∧ (s.dev.hoistFailed = false) ∧ (chanOf a = n) ∧ ((s.dev.hoiCh n).recovery = none) ∧ (s.dev.rbit R.HOI_RH_CFG 16 = false) ∧ (a % 64 = 0) ∧ (a + 32 < s.dev.hoistBytes) ∧ (2 ≤ s.dev.actLeft act) ∧ (data.length = 64)) ∧
  -- dramMergedWrite
  (∃ (s : State) (t : Nat) (act : Nat) (a : Nat) (n : Nat) (data : List Byte) (g : DTag),
    (s.dev.alive = true) ∧ (s.dev.hoistServing = true) ∧ (s.dev.hoistFailed = false) ∧ (chanOf a = n) ∧ ((s.dev.hoiCh n).recovery = none) ∧ (s.dev.rbit R.HOI_RH_CFG 16 = false) ∧ (a % 32 = 0) ∧ (a < s.dev.hoistBytes) ∧ (4 ≤ s.dev.actLeft act) ∧ (data.length = 32) ∧ (s.dev.tagOf (a / 64) = some g) ∧ (g.epoch = s.dev.epoch8) ∧ (g.p0 = false) ∧ (g.p1 = false)) ∧
  -- correctedWriteBack
  (∃ (s : State) (t : Nat) (n : Nat),
    (s.dev.alive = true) ∧ (s.dev.hoistServing = true) ∧ ((s.dev.hoiCh n).recovery = none)) :=
  ⟨⟨{ st { ((up .ranging).setReg R.HOI_STATUS 1#32).setReg (R.FMN_ALLOC 16) 4#32 |>.setReg (R.HOI_CH_GEOM 0) 0x1000#32 |>.setReg R.HOI_RH_CFG 0#32 with hoi := { tags := [{ lo := 4, hi := 5, epoch := (up .ranging).fld R.HOI_EPOCH 7 0 }] } } with dram := [(256, 7), (257, 9)] }, 50, 16, 256, 1, { lo := 4, hi := 5, epoch := (up .ranging).fld R.HOI_EPOCH 7 0 }, by decide +kernel⟩,
   ⟨{ st { ((up .ranging).setReg R.HOI_STATUS 1#32).setReg (R.FMN_ALLOC 16) 4#32 |>.setReg (R.HOI_CH_GEOM 0) 0x1000#32 |>.setReg R.HOI_RH_CFG 0#32 with hoi := { tags := [{ lo := 4, hi := 5, epoch := (up .ranging).fld R.HOI_EPOCH 7 0 }] } } with dram := [(256, 7), (257, 9)] }, 50, 16, 256, 1, { lo := 4, hi := 5, epoch := (up .ranging).fld R.HOI_EPOCH 7 0 }, by decide +kernel⟩,
   ⟨st { up .ranging with top := { (up .ranging).top with removed := [.hoist] } }, 50, 16, 256, by decide +kernel⟩,
   ⟨st (((up .ranging).setReg R.HOI_STATUS 1#32).setReg (R.FMN_ALLOC 16) 4#32 |>.setReg (R.HOI_CH_GEOM 0) 0x1000#32 |>.setReg R.HOI_RH_CFG 0#32), 50, 16, 256, 1, (List.range 64).map (fun i => BitVec.ofNat 8 i), by decide +kernel⟩,
   ⟨st { ((up .ranging).setReg R.HOI_STATUS 1#32).setReg (R.FMN_ALLOC 16) 4#32 |>.setReg (R.HOI_CH_GEOM 0) 0x1000#32 |>.setReg R.HOI_RH_CFG 0#32 with hoi := { tags := [{ lo := 4, hi := 5, epoch := (up .ranging).fld R.HOI_EPOCH 7 0 }] } }, 50, 16, 288, 1, (List.range 32).map (fun i => BitVec.ofNat 8 i), { lo := 4, hi := 5, epoch := (up .ranging).fld R.HOI_EPOCH 7 0 }, by decide +kernel⟩,
   ⟨st { (up .ranging).setReg R.HOI_STATUS 1#32 with hoi := { chs := [(1, { wb := [4, 5] })] } }, 50, 1, by decide +kernel⟩⟩

theorem test_witness_HoistUpkeepComplete :
  -- refreshDue
  (∃ (s : State) (t : Nat) (n : Nat) (r : Nat) (b : Nat),
    (s.dev.alive = true) ∧ (s.dev.hoistServing = true) ∧ ((s.dev.hoiCh n).recovery = none) ∧ (n < 2) ∧ (s.dev.rbit (R.HOI_CH_STATUS n) 1 = false) ∧ (s.dev.rbit (R.HOI_CH_STATUS n) 2 = false) ∧ (s.dev.rbit R.HST_STATUS 1 = false)) ∧
  -- refreshPostponed
  (∃ (s : State) (t : Nat) (n : Nat) (r : Nat) (b : Nat),
    (s.dev.alive = true) ∧ (s.dev.hoistServing = true) ∧ ((s.dev.hoiCh n).recovery = none) ∧ (n < 2) ∧ (s.dev.rbit (R.HOI_CH_STATUS n) 1 = false) ∧ (s.dev.rbit R.HST_STATUS 1 = true) ∧ (s.dev.fld (R.HOI_CH_STATUS n) 6 4 < 4)) ∧
  -- temperaturePoll
  (∃ (s : State) (t : Nat) (n : Nat) (r : Nat) (x : Bool),
    (s.dev.alive = true) ∧ (s.dev.hoistServing = true) ∧ (s.dev.ddr5 = true) ∧ (n < 2)) ∧
  -- neighbourRefresh
  (∃ (s : State) (t : Nat) (n : Nat) (b : Nat) (row : Nat) (l : List (Nat × Nat)),
    (s.dev.alive = true) ∧ (s.dev.hoistServing = true) ∧ ((s.dev.hoiCh n).recovery = none) ∧ (n < 2) ∧ (s.dev.rbit R.HOI_RH_CFG 16 = false) ∧ ((s.dev.hoiCh n).rhQueue = (b, row) :: l) ∧ ((s.dev.hoiCh n).retry = []) ∧ (2 ≤ row) ∧ (row + 2 < 2 ^ (s.dev.geom n).row)) ∧
  -- refreshWindowEnd
  (∃ (s : State) (t : Nat) (n : Nat),
    (s.dev.alive = true)) ∧
  -- rowCloseOnIdle
  (∃ (s : State) (t : Nat) (n : Nat) (b : Nat) (row : Nat) (x : Nat),
    (s.dev.alive = true) ∧ (mget (s.dev.hoiCh n).openRows b = some (row, x)) ∧ (x + 16 * s.dev.fld (R.HOI_CH_PAGE n) 7 0 ≤ (s.dev.advanceTo t).now)) ∧
  -- parityAlert
  (∃ (s : State) (t : Nat) (n : Nat),
    (s.dev.alive = true) ∧ (s.dev.hoistServing = true) ∧ ((s.dev.hoiCh n).recovery = none) ∧ (n < 2) ∧ (s.dev.hoi.training = none)) ∧
  -- parityFallBack
  (∃ (s : State) (t : Nat) (n : Nat) (r : Recovery),
    (s.dev.alive = true) ∧ (s.dev.hoistServing = true) ∧ ((s.dev.hoiCh n).recovery = some r) ∧ (n < 2) ∧ (s.dev.hoi.training = none) ∧ (r.replaying = true) ∧ (3 ≤ r.attempt) ∧ ((s.dev.hoiCh n).falls = []) ∧ (s.dev.faultRoom 0x1304 = true)) ∧
  -- alertNRise
  (∃ (s : State) (t : Nat) (n : Nat) (r : Recovery),
    (s.dev.alive = true) ∧ ((s.dev.hoiCh n).recovery = some r) ∧ (r.replaying = false) ∧ (n < 2)) ∧
  -- parityRecoveryTimeout
  (∃ (s : State) (t : Nat) (n : Nat) (r : Recovery),
    (s.dev.alive = true) ∧ ((s.dev.hoiCh n).recovery = some r) ∧ (r.start + 160000 < (s.dev.advanceTo t).now) ∧ (s.dev.faultRoom 0x1305 = true)) ∧
  -- selfRefreshEntry
  (∃ (s : State) (t : Nat) (n : Nat),
    (s.dev.alive = true) ∧ (s.dev.hoistServing = true) ∧ (n < 2) ∧ (s.dev.rbit R.HOI_SR_CFG 0 = true) ∧ (s.dev.rtIdle = true) ∧ (s.dev.rbit (R.HOI_CH_STATUS n) 1 = false) ∧ ((s.dev.hoiCh n).lastReq + 1600 * s.dev.fld R.HOI_SR_CFG 31 16 ≤ (s.dev.advanceTo t).now)) ∧
  -- selfRefreshAborted
  (∃ (s : State) (t : Nat) (n : Nat),
    (s.dev.alive = true) ∧ (s.dev.hoistServing = true) ∧ (n < 2) ∧ (s.dev.rbit R.HOI_SR_CFG 0 = true) ∧ (s.dev.rtIdle = true) ∧ (s.dev.rbit (R.HOI_CH_STATUS n) 1 = false) ∧ ((s.dev.hoiCh n).lastReq + 1600 * s.dev.fld R.HOI_SR_CFG 31 16 ≤ (s.dev.advanceTo t).now)) ∧
  -- selfRefreshExit
  (∃ (s : State) (t : Nat) (n : Nat),
    (s.dev.alive = true) ∧ (n < 2)) ∧
  -- hoistQueueParityError
  (∃ (s : State) (t : Nat),
    (s.dev.alive = true) ∧ (s.dev.faultRoom 0x1307 = true)) :=
  ⟨⟨st { ((up .ranging).setReg R.HOI_STATUS 1#32).setReg (R.HOI_CH_STATUS 1) 0x30#32 with hoi := { chs := [(1, { openRows := [(0, 3, 4), (33, 4, 5)] })] } }, 50, 1, 1, 0, by decide +kernel⟩,
   ⟨st (((up .ranging).setReg R.HOI_STATUS 1#32).setReg (R.HOI_CH_STATUS 1) 0x30#32 |>.setReg R.HST_STATUS 2#32), 50, 1, 1, 0, by decide +kernel⟩,
   ⟨st ((up .ranging).setReg R.HOI_STATUS 1#32), 50, 1, 1, true, by decide +kernel⟩,
   ⟨st { ((up .ranging).setReg R.HOI_STATUS 1#32).setReg (R.HOI_CH_GEOM 1) 0x800#32 |>.setReg R.HOI_RH_CFG 0#32 with hoi := { chs := [(1, { rhQueue := [(3, 9)], openRows := [(3, 8, 40)] })] } }, 50, 1, 3, 9, [], by decide +kernel⟩,
   ⟨st { up .ranging with hoi := { chs := [(1, { rh := [(3, [(9, 4)])] })] } }, 50, 1, by decide +kernel⟩,
   ⟨st { (up .ranging).setReg (R.HOI_CH_PAGE 1) 1#32 with hoi := { chs := [(1, { openRows := [(3, 9, 34)] })] } }, 50, 1, 3, 9, 34, by decide +kernel⟩,
   ⟨st ((up .ranging).setReg R.HOI_STATUS 1#32), 50, 1, by decide +kernel⟩,
   ⟨st { (up .ranging).setReg R.HOI_STATUS 1#32 with hoi := { chs := [(1, { recovery := some { attempt := 3, replaying := true } })] } }, 50, 1, { attempt := 3, replaying := true }, by decide +kernel⟩,
   ⟨st { (up .ranging).setReg (R.HOI_CH_STATUS 1) 8#32 with hoi := { chs := [(1, { openRows := [(3, 9, 34)], recovery := some {} })] } }, 50, 1, {}, by decide +kernel⟩,
   ⟨st { up .ranging with hoi := { chs := [(1, { recovery := some {} })] } }, 160001, 1, {}, by decide +kernel⟩,
   ⟨st (((up .ranging).setReg R.HOI_STATUS 1#32).setReg R.HOI_SR_CFG 0x10001#32), 1600, 1, by decide +kernel⟩,
   ⟨st (((up .ranging).setReg R.HOI_STATUS 1#32).setReg R.HOI_SR_CFG 0x10001#32), 1600, 1, by decide +kernel⟩,
   ⟨st (((up .ranging).setReg R.HOI_STATUS 0x21#32).setReg (R.HOI_CH_STATUS 1) 2#32), 1600, 1, by decide +kernel⟩,
   ⟨st ((up .ranging).setReg R.HOI_STATUS 1#32), 1600, by decide +kernel⟩⟩

theorem test_witness_LaneComplete :
  -- laneEnable
  (∃ (s : State) (src : Nat) (t : Nat) (n : Nat) (v : Word),
    (s.dev.alive = true) ∧ (s.dev.top.state ≠ .headframe) ∧ (n < 8) ∧ (s.dev.isRemoved (.lane n) = false) ∧ (v.getLsbD 0 = true) ∧ ((s.dev.lane n).st = .down) ∧ (6 ≤ s.dev.boot.stage) ∧ (s.dev.serialOk = true)) ∧
  -- laneDisable
  (∃ (s : State) (src : Nat) (t : Nat) (n : Nat) (v : Word),
    (s.dev.alive = true) ∧ (s.dev.top.state ≠ .headframe) ∧ (n < 8) ∧ (s.dev.isRemoved (.lane n) = false) ∧ (v.getLsbD 0 = false) ∧ ((s.dev.lane n).st = .up)) ∧
  -- genCapWrite
  (∃ (s : State) (src : Nat) (t : Nat) (n : Nat) (v : Word),
    (s.dev.alive = true) ∧ (s.dev.top.state ≠ .headframe) ∧ (n < 8) ∧ (s.dev.isRemoved (.lane n) = false) ∧ (v.getLsbD 0 = true) ∧ ((s.dev.lane n).st = .up) ∧ (1 ≤ bits v 3 1) ∧ (bits v 3 1 ≤ 5) ∧ (bits v 3 1 ≠ s.dev.fld (R.LNK_CFG n) 3 1)) ∧
  -- lnkRetrain
  (∃ (s : State) (src : Nat) (t : Nat) (n : Nat),
    (s.dev.takesCmd (R.LNK_CMD n) = true) ∧ (n < 8) ∧ ((s.dev.lane n).st = .up)) ∧
  -- lnkRetrainQueued
  (∃ (s : State) (src : Nat) (t : Nat) (n : Nat),
    (s.dev.takesCmd (R.LNK_CMD n) = true) ∧ (n < 8) ∧ ((s.dev.lane n).st = .step)) ∧
  -- lnkReinstate
  (∃ (s : State) (src : Nat) (t : Nat) (n : Nat),
    (s.dev.takesCmd (R.LNK_CMD n) = true) ∧ (n < 8) ∧ (s.dev.isRemoved (.lane n) = true) ∧ (s.dev.faultCleared 0x1404 = true)) ∧
  -- lnkReinstateRejected
  (∃ (s : State) (src : Nat) (t : Nat) (n : Nat),
    (s.dev.takesCmd (R.LNK_CMD n) = true) ∧ (n < 8) ∧ (s.dev.isRemoved (.lane n) = false)) ∧
  -- laneLock
  (∃ (s : State) (t : Nat) (n : Nat),
    (s.dev.alive = true) ∧ (n < 8) ∧ (s.dev.isRemoved (.lane n) = false) ∧ ((s.dev.lane n).st = .align) ∧ ((s.dev.lane n).locked = false)) ∧
  -- lockLoss
  (∃ (s : State) (t : Nat) (n : Nat),
    (s.dev.alive = true) ∧ (n < 8) ∧ (s.dev.isRemoved (.lane n) = false) ∧ ((s.dev.lane n).st = .up) ∧ ((s.dev.lane n).locked = true)) ∧
  -- lockLossTimeout
  (∃ (s : State) (t : Nat) (n : Nat) (x : Nat),
    (s.dev.alive = true) ∧ (n < 8) ∧ (s.dev.isRemoved (.lane n) = false) ∧ ((s.dev.lane n).st = .up) ∧ ((s.dev.lane n).lostAt = some x) ∧ (x + 1600000 < (s.dev.advanceTo t).now) ∧ (s.dev.faultRoom 0x1401 = true)) ∧
  -- capSymbol
  (∃ (s : State) (t : Nat) (n : Nat) (ver : Nat) (hi : Nat) (dev : Nat) (num : Nat) (part : Nat) (seen : Bool),
    (s.dev.alive = true) ∧ (n < 8) ∧ (s.dev.isRemoved (.lane n) = false) ∧ ((s.dev.lane n).locked = true) ∧ ((s.dev.lane n).discarding = false) ∧ ((s.dev.lane n).st = .cap) ∧ (1 ≤ hi) ∧ (hi ≤ 5) ∧ ((s.dev.lane n).capTx = false)) ∧
  -- capAgreed
  (∃ (s : State) (t : Nat) (n : Nat) (ver : Nat) (hi : Nat) (dev : Nat) (num : Nat) (part : Nat),
    (s.dev.alive = true) ∧ (n < 8) ∧ (s.dev.isRemoved (.lane n) = false) ∧ ((s.dev.lane n).locked = true) ∧ ((s.dev.lane n).discarding = false) ∧ ((s.dev.lane n).st = .cap) ∧ (1 ≤ hi) ∧ (hi ≤ 5) ∧ ((s.dev.lane n).capTx = true) ∧ (1 < Nat.min (Nat.min hi (s.dev.fld (R.LNK_CFG n) 3 1)) (if ver % 4 = 1 then 3 else 5))) ∧
  -- rateProposal
  (∃ (s : State) (t : Nat) (n : Nat),
    (s.dev.alive = true) ∧ (n < 8) ∧ (s.dev.isRemoved (.lane n) = false) ∧ ((s.dev.lane n).locked = true) ∧ ((s.dev.lane n).discarding = false) ∧ ((s.dev.lane n).st = .step) ∧ ((s.dev.lane n).moved = false)) ∧
  -- rateResult
  (∃ (s : State) (t : Nat) (n : Nat) (e : Nat),
    (s.dev.alive = true) ∧ (n < 8) ∧ (s.dev.isRemoved (.lane n) = false) ∧ ((s.dev.lane n).locked = true) ∧ ((s.dev.lane n).discarding = false) ∧ ((s.dev.lane n).st = .step) ∧ ((s.dev.lane n).moved = true) ∧ ((s.dev.lane n).partnerRes = none) ∧ ((s.dev.lane n).localRes = some (true, e)) ∧ ((s.dev.lane n).resTx = true) ∧ ((s.dev.lane n).pendRetrain = false) ∧ ((s.dev.lane n).pendCap = false) ∧ ((s.dev.lane n).target ≤ (s.dev.lane n).gen)) ∧
  -- prbsMarker
  (∃ (s : State) (t : Nat) (n : Nat),
    (s.dev.alive = true) ∧ (n < 8) ∧ (s.dev.isRemoved (.lane n) = false) ∧ ((s.dev.lane n).locked = true) ∧ ((s.dev.lane n).discarding = false) ∧ ((s.dev.lane n).st = .step) ∧ ((s.dev.lane n).moved = true) ∧ ((s.dev.lane n).localRes = none)) ∧
  -- prbsCheckEnd
  (∃ (s : State) (t : Nat) (n : Nat) (e : Nat),
    (s.dev.alive = true) ∧ (n < 8) ∧ (s.dev.isRemoved (.lane n) = false) ∧ ((s.dev.lane n).st = .step) ∧ ((s.dev.lane n).checking = true) ∧ (2 ≤ (s.dev.lane n).gen) ∧ ((s.dev.lane n).gen ≤ 5)) ∧
  -- rateResultTimeout
  (∃ (s : State) (t : Nat) (n : Nat) (x : Bool × Nat),
    (s.dev.alive = true) ∧ (n < 8) ∧ (s.dev.isRemoved (.lane n) = false) ∧ ((s.dev.lane n).st = .step) ∧ ((s.dev.lane n).localRes = some x) ∧ ((s.dev.lane n).partnerRes = none) ∧ ((s.dev.lane n).localEnd + 1600000 ≤ (s.dev.advanceTo t).now) ∧ ((s.dev.lane n).moved = true) ∧ ((s.dev.lane n).pendRetrain = false) ∧ ((s.dev.lane n).pendCap = false)) ∧
  -- dataSymbol
  (∃ (s : State) (t : Nat) (n : Nat),
    (s.dev.alive = true) ∧ (n < 8) ∧ (s.dev.isRemoved (.lane n) = false) ∧ ((s.dev.lane n).locked = true) ∧ ((s.dev.lane n).discarding = false) ∧ ((s.dev.lane n).st ≠ .down)) ∧
  -- timeSymbol
  (∃ (s : State) (t : Nat) (n : Nat),
    (s.dev.alive = true) ∧ (n < 8) ∧ (s.dev.isRemoved (.lane n) = false) ∧ ((s.dev.lane n).locked = true) ∧ ((s.dev.lane n).discarding = false) ∧ ((s.dev.lane n).st ≠ .down)) ∧
  -- unknownSymbol
  (∃ (s : State) (t : Nat) (n : Nat),
    (s.dev.alive = true) ∧ (n < 8) ∧ (s.dev.isRemoved (.lane n) = false) ∧ ((s.dev.lane n).locked = true) ∧ ((s.dev.lane n).discarding = false) ∧ ((s.dev.lane n).st ≠ .down)) ∧
  -- symbolUncorrectable
  (∃ (s : State) (t : Nat) (n : Nat) (e : Nat),
    (s.dev.alive = true) ∧ (n < 8) ∧ (s.dev.isRemoved (.lane n) = false) ∧ ((s.dev.lane n).locked = true) ∧ ((s.dev.lane n).discarding = false) ∧ ((s.dev.lane n).st ≠ .down) ∧ (2 ≤ e)) ∧
  -- safeSymbol
  (∃ (s : State) (t : Nat) (k : Nat) (n : Nat) (m : List Byte),
    (s.dev.alive = true) ∧ (n < 8) ∧ (s.dev.isRemoved (.lane n) = false) ∧ ((s.dev.lane n).locked = true) ∧ ((s.dev.lane n).discarding = false) ∧ ((s.dev.lane n).st ≠ .down) ∧ (n ≠ 0)) ∧
  -- safeSymbolTaken
  (∃ (s : State) (t : Nat) (k : Nat) (m : List Byte),
    (s.dev.alive = true) ∧ (s.dev.isRemoved (.lane 0) = false) ∧ ((s.dev.lane 0).locked = true) ∧ ((s.dev.lane 0).discarding = false) ∧ ((s.dev.lane 0).st ≠ .down) ∧ ((s.dev.lane 0).partnerVer = 2) ∧ (s.dev.cny.lost = false) ∧ (s.dev.netB = true) ∧ (s.dev.cnyRoutes = true) ∧ (s.dev.cny.copies = []) ∧ (m.length = 27)) ∧
  -- stuffingError
  (∃ (s : State) (t : Nat) (n : Nat),
    (s.dev.alive = true) ∧ (n < 8) ∧ (s.dev.isRemoved (.lane n) = false) ∧ ((s.dev.lane n).st ≠ .down) ∧ ((s.dev.lane n).locked = true)) ∧
  -- elasticDrop
  (∃ (s : State) (t : Nat) (n : Nat) (f : Nat),
    (s.dev.alive = true) ∧ (n < 8) ∧ (s.dev.isRemoved (.lane n) = false) ∧ ((s.dev.lane n).st ≠ .down) ∧ ((s.dev.lane n).locked = true) ∧ (5 < f) ∧ (f ≤ 8)) ∧
  -- elasticInsert
  (∃ (s : State) (t : Nat) (n : Nat) (f : Nat) (b : Bool),
    (s.dev.alive = true) ∧ (n < 8) ∧ (s.dev.isRemoved (.lane n) = false) ∧ ((s.dev.lane n).st ≠ .down) ∧ ((s.dev.lane n).locked = true) ∧ (f < 3)) ∧
  -- elasticBroken
  (∃ (s : State) (t : Nat) (n : Nat) (f : Nat) (b : Bool),
    (s.dev.alive = true) ∧ (n < 8) ∧ (s.dev.isRemoved (.lane n) = false) ∧ ((s.dev.lane n).st = .up) ∧ ((s.dev.lane n).locked = true) ∧ (s.dev.faultRoom 0x1403 = true)) ∧
  -- slotSafe
  (∃ (s : State) (t : Nat) (n : Nat) (d : Nat) (q : Nat) (m : List Byte) (rest : List (Nat × List Byte)),
    (s.dev.alive = true) ∧ (n < 8) ∧ (s.dev.isRemoved (.lane n) = false) ∧ ((s.dev.lane n).st = .up) ∧ ((s.dev.lane n).safe = (q, m) :: rest) ∧ ((s.dev.lane n).slot < 63)) ∧
  -- slotResponse
  (∃ (s : State) (t : Nat) (n : Nat) (d : Nat) (b : Bool) (r : List Byte) (rest : List (Bool × List Byte)),
    (s.dev.alive = true) ∧ (n < 8) ∧ (s.dev.isRemoved (.lane n) = false) ∧ ((s.dev.lane n).st = .up) ∧ ((s.dev.lane n).safe = []) ∧ ((s.dev.lane n).timeDue = false) ∧ ((s.dev.lane n).bounded = none) ∧ (s.dev.nextPacket n false = none) ∧ ((s.dev.lane n).responses = (b, r) :: rest) ∧ ((s.dev.lane n).slot = 63)) ∧
  -- slotData
  (∃ (s : State) (t : Nat) (n : Nat) (d : Nat) (p : Packet),
    (s.dev.alive = true) ∧ (n < 8) ∧ (s.dev.isRemoved (.lane n) = false) ∧ ((s.dev.lane n).st = .up) ∧ ((s.dev.lane n).safe = []) ∧ ((s.dev.lane n).timeDue = false) ∧ ((s.dev.lane n).bounded = none) ∧ (s.dev.nextPacket n false = some p) ∧ (29 < p.bytes.length) ∧ ((s.dev.lane n).slot < 63)) ∧
  -- packetSent
  (∃ (s : State) (t : Nat) (n : Nat) (d : Nat) (o : Nat) (p : Packet),
    (s.dev.alive = true) ∧ (n < 8) ∧ (s.dev.isRemoved (.lane n) = false) ∧ ((s.dev.lane n).st = .up) ∧ ((s.dev.lane n).safe = []) ∧ ((s.dev.lane n).timeDue = false) ∧ ((s.dev.lane n).bounded = some (p, o)) ∧ (p.bytes.length ≤ o + 29) ∧ (p.xs = []) ∧ (p.stream < 16) ∧ ((s.dev.lane n).slot < 63)) ∧
  -- slotCap
  (∃ (s : State) (t : Nat) (n : Nat) (d : Nat),
    (s.dev.alive = true) ∧ (n < 8) ∧ (s.dev.isRemoved (.lane n) = false) ∧ ((s.dev.lane n).st = .cap) ∧ ((s.dev.lane n).capSeen = false) ∧ ((s.dev.lane n).slot < 63)) ∧
  -- timeSymbolDue
  (∃ (s : State) (t : Nat) (n : Nat),
    (s.dev.alive = true) ∧ (n < 8) ∧ (s.dev.isRemoved (.lane n) = false) ∧ ((s.dev.lane n).st = .up) ∧ (s.dev.rbit (R.LNK_CFG n) 4 = true) ∧ ((s.dev.lane n).partnerVer = 2) ∧ (s.dev.fld (R.LNK_CFG n) 15 8 ≤ (s.dev.lane n).frames)) ∧
  -- laneParityError
  (∃ (s : State) (t : Nat) (n : Nat),
    (s.dev.alive = true) ∧ (n < 8) ∧ (s.dev.isRemoved (.lane n) = false) ∧ (s.dev.faultRoom 0x1404 = true) ∧ ((s.dev.lane n).st ≠ .up)) :=
  ⟨⟨st { up .armed with boot := { (up .armed).boot with stage := 6 } }, 1, 50, 7, 0xB#32, by decide +kernel⟩,
   ⟨st { up .armed with lanes := [(7, { st := .up, gen := 3, locked := true })] }, 1, 50, 7, 0xA#32, by decide +kernel⟩,
   ⟨st { up .armed with lanes := [(7, { st := .up, gen := 3, locked := true })] }, 1, 50, 7, 0x3#32, by decide +kernel⟩,
   ⟨st { up .armed with lanes := [(7, { st := .up, gen := 3, locked := true })] }, 1, 50, 7, by decide +kernel⟩,
   ⟨st { up .armed with lanes := [(7, { st := .step, gen := 3, locked := true })] }, 1, 50, 7, by decide +kernel⟩,
   ⟨st { up .armed with top := { (up .armed).top with removed := [.lane 7] } }, 1, 50, 7, by decide +kernel⟩,
   ⟨st (up .armed), 1, 50, 7, by decide +kernel⟩,
   ⟨st { up .armed with lanes := [(7, { st := .align })] }, 50, 7, by decide +kernel⟩,
   ⟨st { up .armed with lanes := [(7, { st := .up, locked := true })] }, 50, 7, by decide +kernel⟩,
   ⟨st { up .armed with lanes := [(7, { st := .up, lostAt := some 9 })] }, 1600010, 7, 9, by decide +kernel⟩,
   ⟨st { up .armed with lanes := [(7, { st := .cap, locked := true })] }, 50, 7, 2, 5, 3, 4, 0x4256, true, by decide +kernel⟩,
   ⟨st { (up .armed).setReg (R.LNK_CFG 7) 0x9#32 with lanes := [(7, { st := .cap, locked := true, capTx := true, gen := 1 })] }, 50, 7, 2, 5, 3, 4, 0x4256, by decide +kernel⟩,
   ⟨st { up .armed with lanes := [(7, { st := .step, locked := true, gen := 1 })] }, 50, 7, by decide +kernel⟩,
   ⟨st { up .armed with lanes := [(7, { st := .step, locked := true, gen := 3, target := 3, moved := true, localRes := some (true, 0), resTx := true })] }, 50, 7, 0, by decide +kernel⟩,
   ⟨st { up .armed with lanes := [(7, { st := .step, locked := true, gen := 3, moved := true })] }, 50, 7, by decide +kernel⟩,
   ⟨st { up .armed with lanes := [(7, { st := .step, locked := true, gen := 5, moved := true, checking := true })] }, 50, 7, 300, by decide +kernel⟩,
   ⟨st { up .armed with lanes := [(7, { st := .step, locked := true, gen := 3, moved := true, localRes := some (true, 0) })] }, 1600000, 7, (true, 0), by decide +kernel⟩,
   ⟨st { up .armed with lanes := [(7, { st := .up, locked := true })] }, 50, 7, by decide +kernel⟩,
   ⟨st { up .armed with lanes := [(7, { st := .up, locked := true })] }, 50, 7, by decide +kernel⟩,
   ⟨st { up .armed with lanes := [(7, { st := .up, locked := true })] }, 50, 7, by decide +kernel⟩,
   ⟨st { up .armed with lanes := [(7, { st := .up, locked := true })] }, 50, 7, 2, by decide +kernel⟩,
   ⟨st { up .armed with lanes := [(7, { st := .up, locked := true })] }, 50, 3, 7, [], by decide +kernel⟩,
   ⟨st { up .armed with lanes := [(0, { st := .up, locked := true, partnerVer := 2 })], cny := { swReset := 2, active := some [(paramBase + 0x10, 0x100#32)] } }, 50, 3, List.replicate 27 1#8, by decide +kernel⟩,
   ⟨st { up .armed with lanes := [(7, { st := .up, locked := true })] }, 50, 7, by decide +kernel⟩,
   ⟨st { up .armed with lanes := [(7, { st := .up, locked := true, discarding := true })] }, 50, 7, 8, by decide +kernel⟩,
   ⟨st { up .armed with lanes := [(7, { st := .up, locked := true, discarding := true })] }, 50, 7, 2, true, by decide +kernel⟩,
   ⟨st { up .armed with lanes := [(7, { st := .up, locked := true, discarding := true })] }, 50, 7, 2, true, by decide +kernel⟩,
   ⟨st { up .armed with lanes := [(7, { st := .up, locked := true, safe := [(4, [1, 2])], slot := 62 })] }, 50, 7, 10, 4, [1, 2], [], by decide +kernel⟩,
   ⟨st { up .armed with lanes := [(7, { st := .up, locked := true, responses := [(false, [1, 2])], slot := 63 })] }, 50, 7, 10, false, [1, 2], [], by decide +kernel⟩,
   ⟨st { up .armed with lanes := [(7, { st := .up, locked := true, slot := 3 })], pnt := { lanes := [(7, [{ stream := 2, bytes := List.replicate 30 5 }])] } }, 50, 7, 10, { stream := 2, bytes := List.replicate 30 5 }, by decide +kernel⟩,
   ⟨st { up .armed with lanes := [(7, { st := .up, locked := true, slot := 3, bounded := some ({ stream := 2, records := 3, bytes := List.replicate 30 5 }, 29) })] }, 50, 7, 10, 29, { stream := 2, records := 3, bytes := List.replicate 30 5 }, by decide +kernel⟩,
   ⟨st { up .armed with lanes := [(7, { st := .cap, locked := true, slot := 3, capRx := true })] }, 50, 7, 10, by decide +kernel⟩,
   ⟨st { (up .armed).setReg (R.LNK_CFG 7) 0x311#32 with lanes := [(7, { st := .up, partnerVer := 2, frames := 3 })] }, 50, 7, by decide +kernel⟩,
   ⟨st { up .armed with lanes := [(7, { st := .cap, partnerVer := 2, frames := 3 })] }, 50, 7, by decide +kernel⟩⟩

theorem test_witness_NetworkComplete :
  -- csiEnable
  (∃ (s : State) (src : Nat) (t : Nat) (v : Word),
    (s.dev.alive = true) ∧ (s.dev.top.state ≠ .headframe) ∧ (v.getLsbD 0 = true) ∧ (s.dev.rbit R.CSI_CTRL 0 = false)) ∧
  -- csiDisable
  (∃ (s : State) (src : Nat) (t : Nat) (v : Word),
    (s.dev.alive = true) ∧ (s.dev.top.state ≠ .headframe) ∧ (v.getLsbD 0 = false)) ∧
  -- dphyPllUnlock
  (∃ (s : State) (t : Nat),
    (s.dev.alive = true) ∧ (s.dev.rbit R.CSI_CTRL 0 = true) ∧ (s.dev.rbit R.CSI_STATUS 0 = true) ∧ (s.dev.faultRoom 0x1501 = true)) ∧
  -- dphyPllRelock
  (∃ (s : State) (t : Nat),
    (s.dev.alive = true) ∧ (s.dev.rbit R.CSI_CTRL 0 = true) ∧ (s.dev.rbit R.CSI_STATUS 0 = false) ∧ (s.dev.serialOk = true)) ∧
  -- ethLinkDown
  (∃ (s : State) (t : Nat),
    (s.dev.alive = true) ∧ (s.dev.ethUp = true) ∧ (s.dev.faultRoom 0x1601 = true)) ∧
  -- ethernetLinkUp
  (∃ (s : State) (t : Nat) (x : Nat),
    (s.dev.alive = true) ∧ (s.dev.rbit R.ETH_CTRL 0 = true) ∧ (s.dev.serialOk = true) ∧ (s.dev.rbit R.ETH_STATUS 0 = false)) ∧
  -- arpRequest
  (∃ (s : State) (t : Nat) (vid : Option Nat) (m : List Byte),
    (s.dev.alive = true) ∧ (s.dev.ethUp = true) ∧ (s.dev.tagOk vid = true)) ∧
  -- neighbourSolicitation
  (∃ (s : State) (t : Nat) (vid : Option Nat),
    (s.dev.alive = true) ∧ (s.dev.ethUp = true) ∧ (s.dev.tagOk vid = true)) ∧
  -- frameForeignTag
  (∃ (s : State) (t : Nat) (vid : Option Nat) (a : Word) (m : List Byte),
    (s.dev.alive = true) ∧ (s.dev.ethUp = true) ∧ (s.dev.tagOk vid = false)) ∧
  -- safetyDatagramDiscarded
  (∃ (s : State) (t : Nat) (k : Nat) (vid : Option Nat) (m : List Byte),
    (s.dev.alive = true) ∧ (s.dev.ethUp = true) ∧ (s.dev.cnyRoutes = false)) ∧
  -- safetyDatagram
  (∃ (s : State) (t : Nat) (k : Nat) (vid : Option Nat) (m : List Byte),
    (s.dev.alive = true) ∧ (s.dev.ethUp = true) ∧ (s.dev.tagOk vid = true) ∧ (s.dev.cnyRoutes = true) ∧ (s.dev.netB = false) ∧ (s.dev.cny.lost = false) ∧ (s.dev.cny.copies = []) ∧ (m.length = 27)) ∧
  -- otherFrame
  (∃ (s : State) (t : Nat),
    (s.dev.alive = true) ∧ (s.dev.ethUp = true)) ∧
  -- c22Read
  (∃ (s : State) (src : Nat) (t : Nat) (phy : Nat) (r : Nat) (data : Nat),
    (s.dev.takesCmd R.ETH_MDIO = true)) ∧
  -- c22Write
  (∃ (s : State) (src : Nat) (t : Nat) (phy : Nat) (r : Nat),
    (s.dev.takesCmd R.ETH_MDIO = true)) ∧
  -- c45Address
  (∃ (s : State) (src : Nat) (t : Nat) (phy : Nat) (r : Nat),
    (s.dev.takesCmd R.ETH_MDIO = true)) ∧
  -- c45Read
  (∃ (s : State) (src : Nat) (t : Nat) (phy : Nat) (r : Nat) (data : Nat),
    (s.dev.takesCmd R.ETH_MDIO = true)) ∧
  -- c45Write
  (∃ (s : State) (src : Nat) (t : Nat) (phy : Nat) (r : Nat),
    (s.dev.takesCmd R.ETH_MDIO = true)) ∧
  -- mdioWaits
  (∃ (s : State) (src : Nat) (t : Nat) (phy : Nat) (r : Nat) (data : Nat),
    (s.dev.takesCmd R.ETH_MDIO = true)) ∧
  -- mdioTimeout
  (∃ (s : State) (t : Nat),
    (s.dev.alive = true) ∧ (s.dev.fld R.ETH_MDIO 9 8 = 3) ∧ (s.dev.faultRoom 0x1602 = true)) :=
  ⟨⟨st (up .armed), 1, 50, 0x5#32, by decide +kernel⟩,
   ⟨st ((up .armed).setReg R.CSI_STATUS 3#32), 1, 50, 0x4#32, by decide +kernel⟩,
   ⟨st (((up .armed).setReg R.CSI_STATUS 3#32).setReg R.CSI_CTRL 1#32), 50, by decide +kernel⟩,
   ⟨st ((up .armed).setReg R.CSI_CTRL 1#32), 50, by decide +kernel⟩,
   ⟨st (((up .armed).setReg R.ETH_STATUS 9#32).setReg R.ETH_CTRL 1#32), 50, by decide +kernel⟩,
   ⟨st ((up .armed).setReg R.ETH_CTRL 1#32), 50, 3, by decide +kernel⟩,
   ⟨st (((up .armed).setReg R.ETH_STATUS 9#32).setReg R.ETH_CTRL 1#32), 50, none, [1, 2], by decide +kernel⟩,
   ⟨st (((up .armed).setReg R.ETH_STATUS 9#32).setReg R.ETH_CTRL 1#32), 50, none, by decide +kernel⟩,
   ⟨st (((up .armed).setReg R.ETH_STATUS 9#32).setReg R.ETH_CTRL 1#32), 50, some 5, 7, [], by decide +kernel⟩,
   ⟨st (((up .armed).setReg R.ETH_STATUS 9#32).setReg R.ETH_CTRL 1#32), 50, 4, none, [], by decide +kernel⟩,
   ⟨st { ((up .armed).setReg R.ETH_STATUS 9#32).setReg R.ETH_CTRL 1#32 with cny := { swReset := 2, active := some [] } }, 50, 4, none, List.replicate 27 1#8, by decide +kernel⟩,
   ⟨st (((up .armed).setReg R.ETH_STATUS 9#32).setReg R.ETH_CTRL 1#32), 50, by decide +kernel⟩,
   ⟨st ((up .armed).setReg R.ETH_MDIO_DATA 7#32), 1, 50, 31, 33, 65537, by decide +kernel⟩,
   ⟨st ((up .armed).setReg R.ETH_MDIO_DATA 7#32), 1, 50, 31, 33, by decide +kernel⟩,
   ⟨st ((up .armed).setReg R.ETH_MDIO_DATA 7#32), 1, 50, 31, 33, by decide +kernel⟩,
   ⟨st ((up .armed).setReg R.ETH_MDIO_DATA 7#32), 1, 50, 31, 33, 65537, by decide +kernel⟩,
   ⟨st ((up .armed).setReg R.ETH_MDIO_DATA 7#32), 1, 50, 31, 33, by decide +kernel⟩,
   ⟨st (up .armed), 1, 50, 31, 33, 5, by decide +kernel⟩,
   ⟨st ((up .armed).setReg R.ETH_MDIO 0x301#32), 50, by decide +kernel⟩⟩

theorem test_witness_CanaryDemandComplete :
  -- vddCnyLoss
  (∃ (s : State) (t : Nat),
    (s.dev.alive = true) ∧ (s.dev.cny.lost = false) ∧ (s.dev.faultRoom 0x1805 = true)) ∧
  -- heartbeatLost
  (∃ (s : State) (t : Nat) (c : Nat),
    (s.dev.top.state ≠ .reset) ∧ (s.dev.cny.lost = false) ∧ (s.dev.cny.clockFault = false) ∧ (s.dev.cny.heartbeat = false) ∧ (s.dev.faultRoom 0x1803 = true)) ∧
  -- heartbeatLostUnderClockFault
  (∃ (s : State) (t : Nat) (c : Nat),
    (s.dev.top.state ≠ .reset) ∧ (s.dev.cny.lost = false) ∧ (s.dev.cny.clockFault = true)) ∧
  -- comparisonMismatch
  (∃ (s : State) (t : Nat) (c : Nat),
    (s.dev.top.state ≠ .reset) ∧ (s.dev.cny.lost = false) ∧ (s.dev.cny.mismatch = false) ∧ (s.dev.faultRoom 0x1804 = true)) ∧
  -- comparisonMismatchGone
  (∃ (s : State) (t : Nat) (c : Nat),
    (s.dev.top.state ≠ .reset) ∧ (s.dev.cny.lost = false) ∧ (s.dev.cny.mismatch = true)) ∧
  -- sealSwitchSample
  (∃ (s : State) (t : Nat) (c : Nat) (v : Nat),
    (s.dev.top.state ≠ .reset) ∧ (s.dev.cny.lost = false) ∧ (s.dev.cny.swSeen = [v, v]) ∧ (v < 8) ∧ (s.dev.cny.sw < 8) ∧ (s.dev.cny.sw ≠ v) ∧ (v / 2 % 4 = s.dev.cny.swReset / 2 % 4)) ∧
  -- sealBroken
  (∃ (s : State) (t : Nat) (c : Nat) (v : Nat),
    (s.dev.top.state ≠ .reset) ∧ (s.dev.cny.lost = false) ∧ (s.dev.cny.swSeen = [v, v]) ∧ (8 ≤ v) ∧ (v < 16) ∧ (s.dev.cny.sw < 8) ∧ (v / 2 % 4 = s.dev.cny.swReset / 2 % 4) ∧ (s.dev.faultRoom 0x1801 = true)) ∧
  -- modeSwitchChanged
  (∃ (s : State) (t : Nat) (c : Nat) (v : Nat),
    (s.dev.top.state ≠ .reset) ∧ (s.dev.cny.lost = false) ∧ (s.dev.cny.swSeen = [v, v]) ∧ (v < 8) ∧ (s.dev.cny.sw < 8) ∧ (v / 2 % 4 ≠ s.dev.cny.swReset / 2 % 4) ∧ (s.dev.cny.sw ≠ v) ∧ (s.dev.cny.modeChanged = false) ∧ (s.dev.faultRoom 0x1802 = true)) ∧
  -- sealSwitchBounce
  (∃ (s : State) (t : Nat) (c : Nat) (v : Nat) (w : Nat),
    (s.dev.top.state ≠ .reset) ∧ (s.dev.cny.lost = false) ∧ (s.dev.cny.swSeen = [w])) :=
  ⟨⟨st { up .ranging with emt := { emitEn := true }, cny := { ossdOn := [true, true] } }, 50, by decide +kernel⟩,
   ⟨st { up .ranging with cny := { rc := 7, ossdOn := [true, true] }, emt := { emitEn := true } }, 50, 1000000, by decide +kernel⟩,
   ⟨st { up .ranging with cny := { rc := 7, clockFault := true } }, 50, 1000000, by decide +kernel⟩,
   ⟨st { up .ranging with cny := { rc := 7, ossdOn := [true, true] }, emt := { emitEn := true } }, 50, 1000000, by decide +kernel⟩,
   ⟨st { up .ranging with cny := { rc := 7, mismatch := true }, flg := { log := [(0, { code := 0x1804, active := true })] } }, 50, 1000000, by decide +kernel⟩,
   ⟨st { up .ranging with cny := { rc := 7, sw := 2, swReset := 2, swSeen := [3, 3] } }, 50, 1000000, 3, by decide +kernel⟩,
   ⟨st { up .ranging with cny := { rc := 7, sw := 2, swReset := 2, swSeen := [10, 10], ossdOn := [true, true] } }, 50, 1000000, 10, by decide +kernel⟩,
   ⟨st { up .ranging with cny := { rc := 7, sw := 2, swReset := 2, swSeen := [4, 4], ossdOn := [true, true] } }, 50, 1000000, 4, by decide +kernel⟩,
   ⟨st { up .ranging with cny := { rc := 7, sw := 2, swReset := 2, swSeen := [3] } }, 50, 1000000, 3, 3, by decide +kernel⟩⟩

theorem test_witness_CanaryParametersComplete :
  -- cnyParamWrite
  (∃ (s : State) (src : Nat) (t : Nat) (c : Nat) (n : Nat) (v : Word),
    (s.dev.alive = true) ∧ (s.dev.top.state ≠ .headframe) ∧ (s.dev.cny.comm = none) ∧ (n < 8192)) ∧
  -- cnyParamWriteIgnored
  (∃ (s : State) (src : Nat) (t : Nat) (c : Nat) (n : Nat) (v : Word) (r : List Byte),
    (s.dev.alive = true) ∧ (s.dev.top.state ≠ .headframe) ∧ (s.dev.cny.comm = some r) ∧ (n < 8192)) ∧
  -- checkRecompute
  (∃ (s : State) (t : Nat) (c : Nat) (w : Nat),
    (s.dev.top.state ≠ .reset) ∧ (s.dev.cny.lost = false) ∧ (s.dev.cny.lastWrite = some w) ∧ (w + 48000 ≤ (Nat.max s.dev.cny.rc c)) ∧ (s.dev.cny.swReset / 2 % 4 = 0)) ∧
  -- checkRecomputeFails
  (∃ (s : State) (t : Nat) (c : Nat) (w : Nat),
    (s.dev.top.state ≠ .reset) ∧ (s.dev.cny.lost = false) ∧ (s.dev.cny.lastWrite = some w) ∧ (w + 48000 ≤ (Nat.max s.dev.cny.rc c)) ∧ (s.dev.cny.swReset / 2 % 4 ≠ 0) ∧ (s.dev.boot.commission = []) ∧ (s.dev.faultRoom 0x1806 = true)) ∧
  -- checkRecomputeEarly
  (∃ (s : State) (t : Nat) (c : Nat) (w : Nat),
    (s.dev.top.state ≠ .reset) ∧ (s.dev.cny.lost = false) ∧ (s.dev.cny.lastWrite = some w) ∧ ((Nat.max s.dev.cny.rc c) < w + 48000)) ∧
  -- commission
  (∃ (s : State) (src : Nat) (t : Nat),
    (s.dev.takesCmd R.CNY_CMD = true) ∧ (s.dev.inState [.armed, .ranging, .held] = true) ∧ (s.dev.safetyMode ≠ 0) ∧ (s.dev.cny.sw % 2 = 1) ∧ (s.dev.cny.comm = none) ∧ (blockValid (blockBytes s.dev.workWords) = true) ∧ (s.dev.reg R.CNY_COMM_CONFIRM = s.dev.reg R.CNY_CHECK_COMPUTED)) ∧
  -- commissionRejected
  (∃ (s : State) (src : Nat) (t : Nat),
    (s.dev.takesCmd R.CNY_CMD = true) ∧ (s.dev.inState [.armed, .ranging, .held] = true) ∧ (s.dev.safetyMode ≠ 0) ∧ (s.dev.cny.sw % 2 = 0)) ∧
  -- commissionDone
  (∃ (s : State) (t : Nat) (c : Nat) (r : List Byte),
    (s.dev.top.state ≠ .reset) ∧ (s.dev.cny.lost = false) ∧ (s.dev.cny.comm = some r) ∧ (s.dev.cny.lastWrite.isSome = true)) ∧
  -- commissionFails
  (∃ (s : State) (t : Nat) (c : Nat) (r : List Byte),
    (s.dev.top.state ≠ .reset) ∧ (s.dev.cny.lost = false) ∧ (s.dev.cny.comm = some r) ∧ (s.dev.faultRoom 0x1812 = true)) ∧
  -- cnyClear
  (∃ (s : State) (src : Nat) (t : Nat) (x : Nat),
    (s.dev.takesCmd R.CNY_CMD = true) ∧ (s.dev.cny.locks = [x]) ∧ (s.dev.faultCleared x = true)) ∧
  -- cnyClearRejected
  (∃ (s : State) (src : Nat) (t : Nat) (x : Nat),
    (s.dev.takesCmd R.CNY_CMD = true) ∧ (s.dev.cny.locks = [x]) ∧ (s.dev.faultCleared x = false)) :=
  ⟨⟨st { up .ranging with cny := { rc := 7, active := some [] } }, 2, 50, 1000, 8191, 0x12345678#32, by decide +kernel⟩,
   ⟨st { up .ranging with cny := { rc := 7, comm := some [1] } }, 2, 50, 1000, 8191, 0x12345678#32, [1], by decide +kernel⟩,
   ⟨st { up .ranging with cny := { rc := 7, lastWrite := some 5 } }, 50, 1000000, 5, by decide +kernel⟩,
   ⟨st { up .ranging with cny := { rc := 7, lastWrite := some 5, swReset := 2 } }, 50, 1000000, 5, by decide +kernel⟩,
   ⟨st { up .ranging with cny := { rc := 7, lastWrite := some 999999 } }, 50, 1000000, 999999, by decide +kernel⟩,
   ⟨st { up .armed with regs := [(0x278000, 0x50535A44#32), (0x278004, 0x01010001#32), (0x27800C, 1000#32), (0x278010, 10#32), (0x278014, 0x00640000#32), (0x278020, 1#32), (0x278024, 50#32), (0x278028, 0x00010000#32), (0x278100, 0x0004FF00#32), (0x278110, 0x0004FF00#32), (0x278120, 0x0004FF00#32), (0x278130, 0x0004FF00#32), (0x278140, 0x0004FF00#32), (0x278150, 0x0004FF00#32), (0x278160, 0x0004FF00#32), (0x278170, 0x0004FF00#32)], cny := { sw := 3, swReset := 3 } }, 2, 50, by decide +kernel⟩,
   ⟨st { up .armed with cny := { sw := 2, swReset := 2 } }, 2, 50, by decide +kernel⟩,
   ⟨st { up .ranging with cny := { rc := 7, comm := some (List.replicate 32 3#8), lastWrite := some 4 } }, 50, 1000000, List.replicate 32 3#8, by decide +kernel⟩,
   ⟨st { up .ranging with cny := { rc := 7, comm := some [1, 2] } }, 50, 1000000, [1, 2], by decide +kernel⟩,
   ⟨st { up .ranging with cny := { rc := 7, locks := [0x180F] } }, 2, 50, 0x180F, by decide +kernel⟩,
   ⟨st { up .ranging with cny := { rc := 7, locks := [0x180F] }, flg := { log := [(3, { code := 0x180F })] } }, 2, 50, 0x180F, by decide +kernel⟩⟩

theorem test_witness_SafetyInputsComplete :
  -- functionalSample
  (∃ (s : State) (t : Nat) (c : Nat) (l : Nat) (rb : Nat) (n : Nat),
    (s.dev.top.state ≠ .reset) ∧ (s.dev.cny.lost = false) ∧ (s.dev.cny.tp = []) ∧ (n < 8)) ∧
  -- functionalSampleDemand
  (∃ (s : State) (t : Nat) (c : Nat) (l : Nat) (rb : Nat) (n : Nat),
    (s.dev.top.state ≠ .reset) ∧ (s.dev.cny.lost = false) ∧ (s.dev.cny.tp = []) ∧ (n < 8) ∧ (s.dev.inputMode = true) ∧ (s.dev.cny.active.isSome = true) ∧ (s.dev.inputField n 0 1 = 1) ∧ ((l.testBit (2 * n) = false ∨ l.testBit (2 * n + 1) = false))) ∧
  -- testPulse
  (∃ (s : State) (t : Nat) (c : Nat) (n : Nat),
    (s.dev.top.state ≠ .reset) ∧ (s.dev.cny.lost = false) ∧ (n < 4)) ∧
  -- testPulseMissing
  (∃ (s : State) (t : Nat) (c : Nat) (j : Nat) (l : Nat) (x : Nat) (n : Nat),
    (s.dev.top.state ≠ .reset) ∧ (s.dev.cny.lost = false) ∧ (s.dev.inputMode = true) ∧ (s.dev.cny.active.isSome = true) ∧ (j < 4) ∧ (mget s.dev.cny.tp j = some x) ∧ (x ≤ (Nat.max s.dev.cny.rc c)) ∧ ((Nat.max s.dev.cny.rc c) < x + 9600) ∧ (n < 16) ∧ (s.dev.tpOf n = some j) ∧ (s.dev.inputField (s.dev.fnOwner n) 0 1 ≠ 0) ∧ (l.testBit n = true)) ∧
  -- testPulseSeen
  (∃ (s : State) (t : Nat) (c : Nat) (j : Nat) (l : Nat) (x : Nat),
    (s.dev.top.state ≠ .reset) ∧ (s.dev.cny.lost = false) ∧ (s.dev.inputMode = true) ∧ (s.dev.cny.active.isSome = true) ∧ (j < 4) ∧ (mget s.dev.cny.tp j = some x) ∧ (x ≤ (Nat.max s.dev.cny.rc c)) ∧ ((Nat.max s.dev.cny.rc c) < x + 9600) ∧ (l = 0) ∧ (s.dev.cny.fns = [])) ∧
  -- ossdReadbackCheck
  (∃ (s : State) (t : Nat) (c : Nat) (x : Nat) (rb : Nat),
    (s.dev.top.state ≠ .reset) ∧ (s.dev.cny.lost = false) ∧ (s.dev.cny.switched = [some x, none]) ∧ (x + 96000 ≤ (Nat.max s.dev.cny.rc c)) ∧ (s.dev.cny.ossdOn = [false, true]) ∧ (rb % 4 = 0)) ∧
  -- ossdReadbackFails
  (∃ (s : State) (t : Nat) (c : Nat) (x : Nat) (rb : Nat),
    (s.dev.top.state ≠ .reset) ∧ (s.dev.cny.lost = false) ∧ (s.dev.cny.switched = [some x, none]) ∧ (x + 96000 ≤ (Nat.max s.dev.cny.rc c)) ∧ (s.dev.cny.ossdOn = [false, true]) ∧ (rb % 4 ≠ 0) ∧ (s.dev.faultRoom 0x1810 = true)) ∧
  -- ossdOffTest
  (∃ (s : State) (t : Nat) (c : Nat) (p : Nat),
    (s.dev.top.state ≠ .reset) ∧ (s.dev.cny.lost = false)) ∧
  -- ossdOffTestFails
  (∃ (s : State) (t : Nat) (c : Nat) (p : Nat),
    (s.dev.top.state ≠ .reset) ∧ (s.dev.cny.lost = false) ∧ (p < 2) ∧ (s.dev.cny.ossdOn.getD p false = true) ∧ (s.dev.faultRoom 0x1810 = true)) :=
  ⟨⟨st { up .ranging with cny := { rc := 7, fns := [(7, { a := true, suspect := [14] })] } }, 50, 1000000, 0x4002, 18, 7, by decide +kernel⟩,
   ⟨st { up .ranging with cny := { rc := 7, swReset := 2, active := some [(0x278000 + 0x100, 1#32)] } }, 50, 1000000, 0xFFFD, 0, 0, by decide +kernel⟩,
   ⟨st { up .ranging with cny := { rc := 7, tp := [(3, 4)] } }, 50, 1000000, 3, by decide +kernel⟩,
   ⟨st { up .ranging with cny := { rc := 7, swReset := 2, tp := [(1, 995000)], active := some [(0x278000 + 0x100, 0x1001#32)] } }, 50, 1000000, 1, 2, 995000, 1, by decide +kernel⟩,
   ⟨st { up .ranging with cny := { rc := 7, swReset := 2, tp := [(1, 995000)], active := some [(0x278000 + 0x100, 0x1001#32)] } }, 50, 1000000, 1, 0, 995000, by decide +kernel⟩,
   ⟨st { up .ranging with cny := { rc := 7, switched := [some 9, none], ossdOn := [false, true] } }, 50, 1000000, 9, 12, by decide +kernel⟩,
   ⟨st { up .ranging with cny := { rc := 7, switched := [some 9, none], ossdOn := [false, true] } }, 50, 1000000, 9, 13, by decide +kernel⟩,
   ⟨st { up .ranging with cny := { rc := 7, ossdOn := [true, true] } }, 50, 1000000, 1, by decide +kernel⟩,
   ⟨st { up .ranging with cny := { rc := 7, ossdOn := [false, true] } }, 50, 1000000, 1, by decide +kernel⟩⟩

theorem test_witness_MotionAndFieldsComplete :
  -- canaryEncoderEdge
  (∃ (s : State) (t : Nat) (c : Nat) (n : Nat) (a : Bool) (b : Bool) (z : Bool),
    (s.dev.top.state ≠ .reset) ∧ (s.dev.cny.lost = false) ∧ (n < 4)) ∧
  -- axisComputation
  (∃ (s : State) (t : Nat) (c : Nat) (j : Nat),
    (s.dev.top.state ≠ .reset) ∧ (s.dev.cny.lost = false) ∧ (j < 2) ∧ (s.dev.cny.active.isSome = true)) ∧
  -- echoEvaluation
  (∃ (s : State) (t : Nat) (c : Nat) (r : CnyRec) (l : List CnyRec) (f : FieldFrame),
    (s.dev.top.state ≠ .reset) ∧ (s.dev.cny.lost = false) ∧ (s.dev.cny.queue = r :: l) ∧ (s.dev.cny.frames = [f]) ∧ (f.num = r.frame)) ∧
  -- fieldEvaluationClose
  (∃ (s : State) (t : Nat) (c : Nat) (f : FieldFrame) (x : Nat),
    (s.dev.top.state ≠ .reset) ∧ (s.dev.cny.lost = false) ∧ (s.dev.cny.frames = [f]) ∧ (f.next = some x) ∧ (x + 1600000 ≤ (s.dev.advanceTo t).now)) ∧
  -- framePeriodOverFrameMax
  (∃ (s : State) (t : Nat) (c : Nat) (f : FieldFrame),
    (s.dev.top.state ≠ .reset) ∧ (s.dev.cny.lost = false) ∧ (s.dev.cny.frames = [f]) ∧ (f.next = none) ∧ (f.late = false) ∧ (f.start + 1600 * s.dev.prm 0x0C 4 < (s.dev.advanceTo t).now) ∧ (s.dev.faultRoom 0x1808 = true)) ∧
  -- livenessRequest
  (∃ (s : State) (t : Nat) (c : Nat) (n : Nat),
    (s.dev.top.state ≠ .reset) ∧ (s.dev.cny.lost = false) ∧ (s.dev.nativeMode = true) ∧ (n < 16) ∧ ((s.dev.core n).running = true)) ∧
  -- livenessAnswered
  (∃ (s : State) (t : Nat) (c : Nat) (n : Nat) (q : Nat) (x : Nat) (a : Word),
    (s.dev.top.state ≠ .reset) ∧ (s.dev.cny.lost = false) ∧ (mget s.dev.cny.live n = some (q, x)) ∧ (x + 960 ≤ (Nat.max s.dev.cny.rc c)) ∧ ((s.dev.core n).cnyAck = some a) ∧ (a.toNat % 65536 = 65535 - q)) ∧
  -- livenessFails
  (∃ (s : State) (t : Nat) (c : Nat) (n : Nat) (q : Nat) (x : Nat),
    (s.dev.top.state ≠ .reset) ∧ (s.dev.cny.lost = false) ∧ (mget s.dev.cny.live n = some (q, x)) ∧ (x + 960 ≤ (Nat.max s.dev.cny.rc c)) ∧ (n < 16) ∧ ((s.dev.core n).cnyAck = none) ∧ ((s.dev.core n).removed = false) ∧ (s.dev.faultRoom 0x1807 = true)) :=
  ⟨⟨st { up .ranging with cny := { rc := 7, encs := [(3, { a := true, count := 5 })] } }, 50, 1000000, 3, true, true, true, by decide +kernel⟩,
   ⟨st { up .ranging with cny := { rc := 7, swReset := 4, encs := [(2, { count := 9, hist := [3] }), (3, { count := 7 })], active := some [(0x278000 + 0x420, 3#32), (0x278000 + 0x424, 5#32), (0x278000 + 0x438, 1#32)] } }, 50, 1000000, 1, by decide +kernel⟩,
   ⟨st { up .ranging with cny := { rc := 7, queue := [{ frame := 2, body := List.replicate 64 1#8 }], frames := [{ num := 2 }], swReset := 4, active := some [(0x278000 + 0x22, 65535#32), (0x278000 + 0x28, 3#32)] } }, 50, 1000000, { frame := 2, body := List.replicate 64 1#8 }, [], { num := 2 }, by decide +kernel⟩,
   ⟨st { up .ranging with cny := { rc := 7, frames := [{ num := 2, next := some 40, sets := [1] }], queue := [{ frame := 2, body := [] }] } }, 1600040, 1000000, { num := 2, next := some 40, sets := [1] }, 40, by decide +kernel⟩,
   ⟨st { up .ranging with cny := { rc := 7, frames := [{ num := 2, start := 3, sets := [1] }], active := some [(0x278000 + 0x0C, 1000#32)] } }, 1600004, 1000000, { num := 2, start := 3, sets := [1] }, by decide +kernel⟩,
   ⟨st { up .ranging with cny := { rc := 7, swReset := 4 }, asy := { cores := [(15, { started := true })] } }, 50, 1000000, 15, by decide +kernel⟩,
   ⟨st { up .ranging with cny := { rc := 7, live := [(15, (3, 9))] }, asy := { cores := [(15, { started := true, cnyAck := some 65532#32 })] } }, 50, 1000000, 15, 3, 9, 65532#32, by decide +kernel⟩,
   ⟨st { up .ranging with cny := { rc := 7, live := [(15, (3, 9))] }, asy := { cores := [(15, { started := true })] } }, 50, 1000000, 15, 3, 9, by decide +kernel⟩⟩

theorem test_witness_SafetyMessagesComplete :
  -- stateSend
  (∃ (s : State) (t : Nat) (c : Nat),
    (s.dev.top.state ≠ .reset) ∧ (s.dev.cny.lost = false) ∧ (s.dev.cnyRoutes = true) ∧ (s.dev.cny.stateAt = none)) ∧
  -- stateNotDue
  (∃ (s : State) (t : Nat) (c : Nat) (x : Nat),
    (s.dev.top.state ≠ .reset) ∧ (s.dev.cny.lost = false) ∧ (s.dev.cnyRoutes = true) ∧ (s.dev.cny.stateAt = some x) ∧ ((Nat.max s.dev.cny.rc c) < x + 48000 * s.dev.prm 0x10 1) ∧ (s.dev.stateBytes = s.dev.cny.stateSent)) ∧
  -- selectFirstCopy
  (∃ (s : State) (t : Nat) (c : Nat) (net : Nat) (m : List Byte),
    (s.dev.top.state ≠ .reset) ∧ (s.dev.cny.lost = false) ∧ (s.dev.cnyRoutes = true) ∧ (net < 2) ∧ (m.length = 27) ∧ (leAt m 0 1 = 0x81) ∧ (s.dev.cny.copies = [])) ∧
  -- select
  (∃ (s : State) (t : Nat) (c : Nat) (net : Nat) (x : Nat) (m : List Byte),
    (s.dev.top.state ≠ .reset) ∧ (s.dev.cny.lost = false) ∧ (s.dev.cnyRoutes = true) ∧ (net < 2) ∧ (m.length = 27) ∧ (s.dev.cny.copies = [(1 - net, x, m)]) ∧ ((Nat.max s.dev.cny.rc c) ≤ x + 192000) ∧ (s.dev.messageValid m = true) ∧ (leAt m 0 1 = 0x81)) ∧
  -- mute
  (∃ (s : State) (t : Nat) (c : Nat) (net : Nat) (x : Nat) (m : List Byte),
    (s.dev.top.state ≠ .reset) ∧ (s.dev.cny.lost = false) ∧ (s.dev.cnyRoutes = true) ∧ (net < 2) ∧ (m.length = 27) ∧ (s.dev.cny.copies = [(1 - net, x, m)]) ∧ ((Nat.max s.dev.cny.rc c) ≤ x + 192000) ∧ (s.dev.messageValid m = true) ∧ (leAt m 0 1 = 0x82) ∧ (s.dev.muteOk m = true) ∧ (leAt m 9 2 ≠ 0)) ∧
  -- muteEnds
  (∃ (s : State) (t : Nat) (c : Nat) (net : Nat) (x : Nat) (m : List Byte),
    (s.dev.top.state ≠ .reset) ∧ (s.dev.cny.lost = false) ∧ (s.dev.cnyRoutes = true) ∧ (net < 2) ∧ (m.length = 27) ∧ (s.dev.cny.copies = [(1 - net, x, m)]) ∧ ((Nat.max s.dev.cny.rc c) ≤ x + 192000) ∧ (s.dev.messageValid m = true) ∧ (leAt m 0 1 = 0x82) ∧ (s.dev.muteOk m = true) ∧ (leAt m 9 2 = 0)) ∧
  -- muteNotAllowed
  (∃ (s : State) (t : Nat) (c : Nat) (net : Nat) (x : Nat) (m : List Byte),
    (s.dev.top.state ≠ .reset) ∧ (s.dev.cny.lost = false) ∧ (s.dev.cnyRoutes = true) ∧ (net < 2) ∧ (m.length = 27) ∧ (s.dev.cny.copies = [(1 - net, x, m)]) ∧ ((Nat.max s.dev.cny.rc c) ≤ x + 192000) ∧ (s.dev.messageValid m = true) ∧ (leAt m 0 1 = 0x82) ∧ (s.dev.muteOk m = false)) ∧
  -- loneCopyDiscard
  (∃ (s : State) (t : Nat) (c : Nat) (net : Nat) (x : Nat) (m : List Byte),
    (s.dev.top.state ≠ .reset) ∧ (s.dev.cny.lost = false) ∧ (s.dev.cny.copies = [(net, x, m)]) ∧ (x + 192000 ≤ (Nat.max s.dev.cny.rc c)) ∧ (s.dev.rbit R.CNY_STATUS 10 = false) ∧ (s.dev.faultRoom 0x1811 = true)) ∧
  -- messageTimeout
  (∃ (s : State) (t : Nat) (c : Nat),
    (s.dev.top.state ≠ .reset) ∧ (s.dev.cny.lost = false) ∧ (s.dev.cnyRoutes = true) ∧ (s.dev.cny.timedOut = false) ∧ (s.dev.prm 0x12 1 ≠ 0) ∧ (s.dev.cny.lastMsg + 960000 ≤ (Nat.max s.dev.cny.rc c)) ∧ (s.dev.faultRoom 0x1811 = true)) ∧
  -- muteExpiry
  (∃ (s : State) (t : Nat) (c : Nat) (f : Nat) (g : Nat) (e : Nat),
    (s.dev.top.state ≠ .reset) ∧ (s.dev.cny.lost = false) ∧ (s.dev.cny.mute = some (f, g, e)) ∧ (e ≤ (Nat.max s.dev.cny.rc c))) ∧
  -- muteLasts
  (∃ (s : State) (t : Nat) (c : Nat) (f : Nat) (g : Nat) (e : Nat),
    (s.dev.top.state ≠ .reset) ∧ (s.dev.cny.lost = false) ∧ (s.dev.cny.mute = some (f, g, e)) ∧ ((Nat.max s.dev.cny.rc c) < e)) :=
  ⟨⟨st { up .ranging with cny := { rc := 7, swReset := 2, txSeq := 65535, active := some [(0x278000 + 0x10, 10#32)] } }, 50, 1000000, by decide +kernel⟩,
   ⟨st { up .ranging with cny := { rc := 7, swReset := 2, stateAt := some 999000, stateSent := (5, 0), active := some [(0x278000 + 0x10, 10#32)] } }, 50, 1000000, 999000, by decide +kernel⟩,
   ⟨st { up .ranging with cny := { rc := 7, swReset := 2, active := some [(0x278000 + 0x10, 10#32)] } }, 50, 1000000, 1, [129, 16, 5, 0, 7, 0, 0, 0, 0, 0, 0, 0, 0, 0, 0, 0, 0, 0, 0, 0, 0, 0, 0, 159, 104, 201, 118], by decide +kernel⟩,
   ⟨st { up .ranging with cny := { rc := 7, swReset := 2, copies := [(0, 990000, [129, 16, 5, 0, 7, 0, 0, 0, 0, 0, 0, 0, 0, 0, 0, 0, 0, 0, 0, 0, 0, 0, 0, 159, 104, 201, 118])], active := some [(0x278000 + 0x10, 10#32)] } }, 50, 1000000, 1, 990000, [129, 16, 5, 0, 7, 0, 0, 0, 0, 0, 0, 0, 0, 0, 0, 0, 0, 0, 0, 0, 0, 0, 0, 159, 104, 201, 118], by decide +kernel⟩,
   ⟨st { up .ranging with cny := { rc := 7, swReset := 2, copies := [(0, 990000, [130, 16, 5, 0, 1, 0, 0, 0, 0, 3, 0, 0, 0, 0, 0, 0, 0, 0, 0, 0, 0, 0, 0, 92, 182, 27, 140])], active := some [(0x278000 + 0x20, 600#32), (0x278000 + 0x104, 4#32)] } }, 50, 1000000, 1, 990000, [130, 16, 5, 0, 1, 0, 0, 0, 0, 3, 0, 0, 0, 0, 0, 0, 0, 0, 0, 0, 0, 0, 0, 92, 182, 27, 140], by decide +kernel⟩,
   ⟨st { up .ranging with cny := { rc := 7, swReset := 2, mute := some (1, 0, 9), copies := [(0, 990000, [130, 16, 5, 0, 1, 0, 0, 0, 0, 0, 0, 0, 0, 0, 0, 0, 0, 0, 0, 0, 0, 0, 0, 150, 73, 18, 112])], active := some [(0x278000 + 0x20, 600#32), (0x278000 + 0x104, 4#32)] } }, 50, 1000000, 1, 990000, [130, 16, 5, 0, 1, 0, 0, 0, 0, 0, 0, 0, 0, 0, 0, 0, 0, 0, 0, 0, 0, 0, 0, 150, 73, 18, 112], by decide +kernel⟩,
   ⟨st { up .ranging with cny := { rc := 7, swReset := 2, copies := [(0, 990000, [130, 16, 5, 0, 1, 0, 0, 0, 0, 3, 0, 0, 0, 0, 0, 0, 0, 0, 0, 0, 0, 0, 0, 92, 182, 27, 140])], active := some [(0x278000 + 0x20, 600#32)] } }, 50, 1000000, 1, 990000, [130, 16, 5, 0, 1, 0, 0, 0, 0, 3, 0, 0, 0, 0, 0, 0, 0, 0, 0, 0, 0, 0, 0, 92, 182, 27, 140], by decide +kernel⟩,
   ⟨st { up .ranging with cny := { rc := 7, copies := [(1, 9, [1])] } }, 50, 1000000, 1, 9, [1], by decide +kernel⟩,
   ⟨st { up .ranging with cny := { rc := 7, swReset := 2, msgSet := some 3, mute := some (1, 0, 9), lastMsg := 8, active := some [(0x278000 + 0x10, 0x10000#32)] } }, 50, 1000000, by decide +kernel⟩,
   ⟨st { up .ranging with cny := { rc := 7, mute := some (1, 0, 1000000) } }, 50, 1000000, 1, 0, 1000000, by decide +kernel⟩,
   ⟨st { up .ranging with cny := { rc := 7, mute := some (1, 0, 1000001) } }, 50, 1000000, 1, 0, 1000001, by decide +kernel⟩⟩

theorem test_witness_CalibrationComplete :
  -- calFull
  (∃ (s : State) (src : Nat) (t : Nat),
    (s.dev.takesCmd R.CAL_CMD = true) ∧ (s.dev.top.state = .armed) ∧ (s.dev.cal.full = none)) ∧
  -- calFullRejected
  (∃ (s : State) (src : Nat) (t : Nat),
    (s.dev.takesCmd R.CAL_CMD = true) ∧ (s.dev.top.state ≠ .armed)) ∧
  -- calFullRunning
  (∃ (s : State) (src : Nat) (t : Nat) (b : Bool),
    (s.dev.takesCmd R.CAL_CMD = true) ∧ (s.dev.top.state = .armed) ∧ (s.dev.cal.full = some b)) ∧
  -- calPort
  (∃ (s : State) (src : Nat) (t : Nat) (n : Nat),
    (s.dev.takesCmd R.CAL_CMD = true) ∧ (s.dev.top.state = .ranging) ∧ (n < 32)) ∧
  -- calPortRejected
  (∃ (s : State) (src : Nat) (t : Nat) (n : Nat),
    (s.dev.takesCmd R.CAL_CMD = true) ∧ (s.dev.top.state ≠ .ranging)) ∧
  -- fullCalibrationComplete
  (∃ (s : State) (t : Nat) (b : Bool),
    (s.dev.alive = true) ∧ (s.dev.top.state = .armed) ∧ (s.dev.cal.full = some b) ∧ (s.dev.reg R.CAL_SKEW_EN = 0#32)) ∧
  -- calibrationCode
  (∃ (s : State) (t : Nat) (n : Nat) (b : Bool) (w : Word),
    (s.dev.alive = true) ∧ (s.dev.top.state = .armed) ∧ (s.dev.cal.full = some b) ∧ (s.dev.reg R.CAL_SKEW_EN = 0#32) ∧ (n < 256) ∧ (trimAtEnd (R.RFE_TRIM_CMP n) w = false)) ∧
  -- calibrationFails
  (∃ (s : State) (t : Nat) (n : Nat) (b : Bool),
    (s.dev.alive = true) ∧ (s.dev.top.state = .armed) ∧ (s.dev.cal.full = some b) ∧ (s.dev.reg R.CAL_SKEW_EN = 0#32) ∧ (s.dev.rbit R.CAL_CTRL 1 = false) ∧ (n < 32) ∧ (s.dev.rbit (R.RFE_CTRL (8 * n)) 0 = true) ∧ (s.dev.faultRoom 0x1901 = true)) ∧
  -- portTurn
  (∃ (s : State) (t : Nat),
    (s.dev.alive = true) ∧ (s.dev.rbit R.CAL_CTRL 0 = true) ∧ (s.dev.cal.turnTick + 1600000000 * s.dev.fld R.CAL_CTRL 23 8 ≤ (s.dev.advanceTo t).now) ∧ (s.dev.cal.nextTurn < 32)) ∧
  -- portTurnNotDue
  (∃ (s : State) (t : Nat),
    (s.dev.alive = true) ∧ (s.dev.rbit R.CAL_CTRL 0 = true) ∧ ((s.dev.advanceTo t).now < s.dev.cal.turnTick + 1600000000 * s.dev.fld R.CAL_CTRL 23 8)) ∧
  -- blindIntervalEnd
  (∃ (s : State) (t : Nat) (n : Nat),
    (s.dev.alive = true) ∧ (s.dev.cal.turn = some n) ∧ (n < 32) ∧ (s.dev.cal.turnAt + 153600 ≤ (s.dev.advanceTo t).now)) ∧
  -- blindIntervalFails
  (∃ (s : State) (t : Nat) (n : Nat),
    (s.dev.alive = true) ∧ (s.dev.cal.turn = some n) ∧ (n < 32) ∧ (s.dev.cal.turnAt + 153600 ≤ (s.dev.advanceTo t).now) ∧ (s.dev.faultRoom 0x1902 = true)) :=
  ⟨⟨st (up .armed), 3, 50, by decide +kernel⟩,
   ⟨st (up .ranging), 3, 50, by decide +kernel⟩,
   ⟨st { up .armed with cal := { full := some false } }, 3, 50, false, by decide +kernel⟩,
   ⟨st (up .ranging), 3, 50, 31, by decide +kernel⟩,
   ⟨st (up .armed), 3, 50, 31, by decide +kernel⟩,
   ⟨st { (up .armed).setReg R.CAL_SKEW_EN 0#32 with cal := { full := some false } }, 50, false, by decide +kernel⟩,
   ⟨st { (up .armed).setReg R.CAL_SKEW_EN 0#32 with cal := { full := some true } }, 50, 255, true, 0x12345678#32, by decide +kernel⟩,
   ⟨st { ((up .armed).setReg R.CAL_SKEW_EN 0#32).setReg (R.RFE_CTRL 248) 1#32 with cal := { full := some true } }, 50, 31, true, by decide +kernel⟩,
   ⟨st { (up .ranging).setReg R.CAL_CTRL 0x101#32 with cal := { nextTurn := 31, turnTick := 5 } }, 1600000005, by decide +kernel⟩,
   ⟨st { (up .ranging).setReg R.CAL_CTRL 0x101#32 with cal := { nextTurn := 31, turnTick := 5 } }, 1600000004, by decide +kernel⟩,
   ⟨st { (up .ranging).setReg R.CAL_PENDING 0x80000001#32 with cal := { turn := some 31, turnAt := 9, hostWrote := true } }, 153609, 31, by decide +kernel⟩,
   ⟨st { (up .ranging).setReg R.CAL_PENDING 0x80000001#32 with cal := { turn := some 31, turnAt := 9 } }, 153609, 31, by decide +kernel⟩⟩

theorem test_witness_FaultLogComplete :
  -- clear
  (∃ (s : State) (src : Nat) (t : Nat) (n : Nat) (e : LogEntry),
    (s.dev.takesCmd R.FLG_CMD = true) ∧ (n < 256) ∧ (mget s.dev.flg.log n = some e)) ∧
  -- clearOthers
  (∃ (s : State) (src : Nat) (t : Nat) (n : Nat) (m : Nat),
    (s.dev.takesCmd R.FLG_CMD = true) ∧ (n < 256) ∧ (m ≠ n)) ∧
  -- clearRejected
  (∃ (s : State) (src : Nat) (t : Nat) (n : Nat),
    (s.dev.takesCmd R.FLG_CMD = true) ∧ (n < 256) ∧ (mget s.dev.flg.log n = none)) ∧
  -- clearCode
  (∃ (s : State) (src : Nat) (t : Nat),
    (s.dev.takesCmd R.FLG_CMD = true)) ∧
  -- clearAll
  (∃ (s : State) (src : Nat) (t : Nat),
    (s.dev.takesCmd R.FLG_CMD = true)) ∧
  -- clearJournal
  (∃ (s : State) (src : Nat) (t : Nat),
    (s.dev.takesCmd R.FLG_CMD = true) ∧ (s.dev.flg.jwr < 1024)) ∧
  -- journalCopy
  (∃ (s : State) (t : Nat) (e : JEntry) (l : List JEntry),
    (s.dev.alive = true) ∧ (s.dev.flg.copyQueue = e :: l) ∧ (s.dev.rbit R.FLG_JCOPY_CTRL 0 = true) ∧ (s.dev.hoistServing = true) ∧ (s.dev.copyUsed + 32 < s.dev.copyLen) ∧ (4 ≤ s.dev.actLeft 17) ∧ ((s.dev.reg R.FLG_JCOPY_WR).toNat % 32 = 0) ∧ (((s.dev.reg R.FLG_JCOPY_BASE).toNat * 4096 + (s.dev.reg R.FLG_JCOPY_WR).toNat) < s.dev.hoistBytes)) ∧
  -- journalCopyLost
  (∃ (s : State) (t : Nat) (e : JEntry) (l : List JEntry),
    (s.dev.alive = true) ∧ (s.dev.flg.copyQueue = e :: l) ∧ (s.dev.rbit R.FLG_JCOPY_CTRL 0 = true) ∧ (s.dev.hoistServing = true) ∧ (s.dev.copyLen ≤ s.dev.copyUsed + 32) ∧ (s.dev.rbit R.FLG_STATUS 10 = false) ∧ (s.dev.faultRoom 0x1A01 = true)) ∧
  -- logParityError
  (∃ (s : State) (t : Nat) (n : Nat),
    (s.dev.alive = true) ∧ (s.dev.faultRoom 0x1A02 = true)) ∧
  -- journalParityError
  (∃ (s : State) (t : Nat) (n : Nat),
    (s.dev.alive = true) ∧ (s.dev.faultRoom 0x1A02 = true)) :=
  ⟨⟨st { up .held with flg := { jwr := 1023, wrapped := true, ring := [(0, { seq := 5 })], log := [(0, { code := 0x1A01 }), (255, { code := 0x1902, active := true }), (7, { code := 0x1A01 })] } }, 1, 50, 255, { code := 0x1902, active := true }, by decide +kernel⟩,
   ⟨st { up .held with flg := { jwr := 1023, wrapped := true, ring := [(0, { seq := 5 })], log := [(0, { code := 0x1A01 }), (255, { code := 0x1902, active := true }), (7, { code := 0x1A01 })] } }, 1, 50, 255, 7, by decide +kernel⟩,
   ⟨st { up .held with flg := { jwr := 1023, wrapped := true, ring := [(0, { seq := 5 })], log := [(0, { code := 0x1A01 }), (255, { code := 0x1902, active := true }), (7, { code := 0x1A01 })] } }, 1, 50, 254, by decide +kernel⟩,
   ⟨st { (up .held).setReg R.FLG_CODE 0x1A01#32 with flg := { jwr := 1023, wrapped := true, ring := [(0, { seq := 5 })], log := [(0, { code := 0x1A01 }), (255, { code := 0x1902, active := true }), (7, { code := 0x1A01 })] } }, 1, 50, by decide +kernel⟩,
   ⟨st { up .held with flg := { jwr := 1023, wrapped := true, ring := [(0, { seq := 5 })], log := [(0, { code := 0x1A01 }), (255, { code := 0x1902, active := true }), (7, { code := 0x1A01 })] } }, 1, 50, by decide +kernel⟩,
   ⟨st { up .held with flg := { jwr := 1023, wrapped := true, ring := [(0, { seq := 5 })], log := [(0, { code := 0x1A01 }), (255, { code := 0x1902, active := true }), (7, { code := 0x1A01 })] } }, 1, 50, by decide +kernel⟩,
   ⟨st { ((((((up .ranging).setReg R.HOI_STATUS 1#32).setReg (R.FMN_ALLOC 17) 4#32).setReg (R.HOI_CH_GEOM 0) 0x1000#32).setReg R.FLG_JCOPY_CTRL 1#32).setReg R.FLG_JCOPY_LEN 1#32).setReg R.FLG_JCOPY_WR 4064#32 |>.setReg R.FLG_JCOPY_RD 32#32 with flg := { copyQueue := [{ seq := 3, addr := 8 }] } }, 50, { seq := 3, addr := 8 }, [], by decide +kernel⟩,
   ⟨st { (((((up .ranging).setReg R.HOI_STATUS 1#32).setReg (R.FMN_ALLOC 17) 4#32).setReg R.FLG_JCOPY_CTRL 1#32).setReg R.FLG_JCOPY_LEN 1#32).setReg R.FLG_JCOPY_WR 4064#32 with flg := { copyQueue := [{ seq := 3, addr := 8 }] } }, 50, { seq := 3, addr := 8 }, [], by decide +kernel⟩,
   ⟨st { up .held with flg := { jwr := 1023, wrapped := true, ring := [(0, { seq := 5 })], log := [(0, { code := 0x1A01 }), (255, { code := 0x1902, active := true }), (7, { code := 0x1A01 })] } }, 50, 255, by decide +kernel⟩,
   ⟨st { up .held with flg := { jwr := 1023, wrapped := true, ring := [(0, { seq := 5 })], log := [(0, { code := 0x1A01 }), (255, { code := 0x1902, active := true }), (7, { code := 0x1A01 })] } }, 50, 0, by decide +kernel⟩⟩

theorem test_witness_WriteCommandsComplete :
  -- registerWrite
  (∃ (s : State) (src : Nat) (t : Nat) (v : Word) (o : Outside),
    (s.dev.alive = true) ∧ (s.dev.top.state ≠ .headframe)) ∧
  -- registerWriteJournal
  (∃ (s : State) (src : Nat) (t : Nat) (v : Word) (o : Outside),
    (s.dev.alive = true) ∧ (s.dev.top.state ≠ .headframe)) ∧
  -- registerWriteHeadframe
  (∃ (s : State) (src : Nat) (t : Nat) (v : Word) (o : Outside),
    (s.dev.alive = true) ∧ (s.dev.top.state = .headframe)) ∧
  -- registerWriteReadOnly
  (∃ (s : State) (src : Nat) (t : Nat) (v : Word) (o : Outside),
    (s.dev.alive = true) ∧ (s.dev.top.state ≠ .headframe)) ∧
  -- registerWriteMisaligned
  (∃ (s : State) (src : Nat) (t : Nat) (a : Nat) (v : Word) (o : Outside),
    (s.dev.alive = true) ∧ (a % 4 ≠ 0)) ∧
  -- registerWriteSram
  (∃ (s : State) (src : Nat) (t : Nat) (n : Nat) (v : Word) (o : Outside),
    (s.dev.alive = true) ∧ (s.dev.top.state ≠ .headframe) ∧ (n < 1310720)) ∧
  -- registerWriteBusy
  (∃ (s : State) (src : Nat) (t : Nat) (v : Word) (o : Outside),
    (s.dev.alive = true) ∧ (s.dev.top.state ≠ .headframe) ∧ (s.dev.fld R.CAL_CMD 9 8 = 3)) ∧
  -- shadowedWriteRanging
  (∃ (s : State) (src : Nat) (t : Nat) (n : Nat) (v : Word),
    (s.dev.alive = true) ∧ (s.dev.top.state = .ranging) ∧ (n < 256) ∧ (s.dev.shown (R.RFE_TRIM_CMP n) = s.dev.reg (R.RFE_TRIM_CMP n)) ∧ (s.dev.reg (R.RFE_TRIM_CMP n) = 0#32)) ∧
  -- shadowedWriteAtOnce
  (∃ (s : State) (src : Nat) (t : Nat) (n : Nat) (v : Word),
    (s.dev.alive = true) ∧ (s.dev.top.state ≠ .headframe) ∧ (s.dev.top.state ≠ .ranging) ∧ (n < 256) ∧ (s.dev.shown (R.RFE_TRIM_CMP n) = 0#32)) ∧
  -- mgtDramWinWrite
  (∃ (s : State) (src : Nat) (t : Nat) (v : Word),
    (s.dev.alive = true) ∧ (s.dev.top.state ≠ .headframe)) :=
  ⟨⟨st ((up .armed).setReg R.FLG_CODE 0x1234#32), 4, 50, 0xABCD5678#32, {}, by decide +kernel⟩,
   ⟨st { (up .armed).setReg R.FLG_CODE 0x1234#32 with flg := { jwr := 1023, jseq := 9 } }, 4, 50, 0xABCD5678#32, {}, by decide +kernel⟩,
   ⟨st (up .headframe), 4, 50, 0xABCD5678#32, {}, by decide +kernel⟩,
   ⟨st (up .armed), 4, 50, 3#32, {}, by decide +kernel⟩,
   ⟨st (up .armed), 4, 50, 0x290009, 3#32, {}, by decide +kernel⟩,
   ⟨st (up .armed), 4, 50, 1310719, 0xABCD5678#32, {}, by decide +kernel⟩,
   ⟨st ((up .armed).setReg R.CAL_CMD 0x301#32), 4, 50, 1#32, {}, by decide +kernel⟩,
   ⟨st ((up .ranging).setReg (R.RFE_TRIM_CMP 255) 0#32), 4, 50, 255, 0x12345678#32, by decide +kernel⟩,
   ⟨st ((up .armed).setReg (R.RFE_TRIM_CMP 255) 0#32), 4, 50, 255, 0x12345678#32, by decide +kernel⟩,
   ⟨st (up .armed), 4, 50, 0xFFFFFFFF#32, by decide +kernel⟩⟩

theorem test_witness_ReadCommandsComplete :
  -- lowWordRead
  (∃ (s : State) (src : Nat) (t : Nat) (n : Nat),
    (s.dev.alive = true) ∧ (n < 8) ∧ (s.dev.flg.copyPend = []) ∧ (s.dev.pnt.cfgPend = []) ∧ (s.dev.shadow = [])) ∧
  -- highWordRead
  (∃ (s : State) (src : Nat) (t : Nat) (n : Nat) (lo : Word) (hi : Word),
    (s.dev.alive = true) ∧ (n < 8) ∧ ((s.dev.req src).snap = some ((R.LNK_CNT_MGT n), lo, hi, false))) ∧
  -- highWordReadTorn
  (∃ (s : State) (src : Nat) (t : Nat) (n : Nat),
    (s.dev.alive = true) ∧ (n < 8) ∧ (s.dev.flg.copyPend = []) ∧ (s.dev.pnt.cfgPend = []) ∧ (s.dev.shadow = []) ∧ ((s.dev.req src).snap = none)) ∧
  -- serialWriteFrame
  (∃ (s : State) (src : Nat) (t : Nat) (v : Word),
    (s.dev.alive = true) ∧ (s.dev.top.state ≠ .headframe) ∧ (src < 2)) ∧
  -- serialWriteFrameUnknown
  (∃ (s : State) (src : Nat) (t : Nat) (x : Nat) (v : Word),
    (s.dev.alive = true) ∧ (src < 2) ∧ (x ≠ 1) ∧ (x ≠ 2) ∧ (x ≠ 5)) ∧
  -- serialReadFrame
  (∃ (s : State) (src : Nat) (t : Nat),
    (s.dev.alive = true) ∧ (src < 2) ∧ (s.dev.flg.copyPend = []) ∧ (s.dev.pnt.cfgPend = []) ∧ (s.dev.shadow = [])) ∧
  -- serialStatusFrame
  (∃ (s : State) (src : Nat) (t : Nat),
    (s.dev.alive = true) ∧ (src < 2)) ∧
  -- i2cWordTimeout
  (∃ (s : State) (t : Nat),
    (s.dev.alive = true)) ∧
  -- mgtRead
  (∃ (s : State) (t : Nat) (n : Nat) (q : List Byte),
    (s.dev.alive = true) ∧ (n < 8) ∧ (s.dev.isRemoved (.lane n) = false) ∧ ((s.dev.lane n).st = .up) ∧ ((s.dev.lane n).locked = true) ∧ ((s.dev.lane n).discarding = false) ∧ (heldAnswers (s.dev.lane n).responses < 4) ∧ (s.dev.flg.copyPend = []) ∧ (s.dev.pnt.cfgPend = []) ∧ (s.dev.shadow = []) ∧ (leAt q 2 1 = 1) ∧ (leAt q 3 1 = 1) ∧ (leAt q 4 4 = R.FLG_CODE)) ∧
  -- mgtReadBusy
  (∃ (s : State) (t : Nat) (n : Nat) (q : List Byte),
    (s.dev.alive = true) ∧ (n < 8) ∧ (s.dev.isRemoved (.lane n) = false) ∧ ((s.dev.lane n).st = .up) ∧ ((s.dev.lane n).locked = true) ∧ ((s.dev.lane n).discarding = false) ∧ (4 ≤ heldAnswers (s.dev.lane n).responses) ∧ (leAt q 2 1 = 1) ∧ (leAt q 3 1 = 1) ∧ (leAt q 4 4 = R.FLG_CODE)) ∧
  -- mgtWrite
  (∃ (s : State) (t : Nat) (n : Nat) (q : List Byte),
    (s.dev.alive = true) ∧ (s.dev.top.state ≠ .headframe) ∧ (n < 8) ∧ (s.dev.isRemoved (.lane n) = false) ∧ ((s.dev.lane n).st = .up) ∧ ((s.dev.lane n).locked = true) ∧ ((s.dev.lane n).discarding = false) ∧ (heldAnswers (s.dev.lane n).responses < 4) ∧ (leAt q 2 1 = 2) ∧ (leAt q 3 1 = 1) ∧ (leAt q 4 4 = R.FLG_CODE)) ∧
  -- mgtDatagram
  (∃ (s : State) (t : Nat) (port : Nat) (p : Nat) (q : List Byte),
    (s.dev.alive = true) ∧ (s.dev.ethUp = true) ∧ (s.dev.rbit R.ETH_CTRL 5 = true) ∧ (q.length = 32) ∧ (q.headD 0 = 0x20) ∧ (port = s.dev.fld R.ETH_UDP 31 16) ∧ (s.dev.flg.copyPend = []) ∧ (s.dev.pnt.cfgPend = []) ∧ (s.dev.shadow = []) ∧ (leAt q 2 1 = 1) ∧ (leAt q 3 1 = 1) ∧ (leAt q 4 4 = R.FLG_CODE)) ∧
  -- mgtDatagramDiscarded
  (∃ (s : State) (t : Nat) (port : Nat) (p : Nat) (q : List Byte),
    (s.dev.alive = true) ∧ (s.dev.ethUp = true) ∧ (s.dev.rbit R.ETH_CTRL 5 = false)) :=
  ⟨⟨st (((up .ranging).setReg (R.LNK_CNT_MGT 7) 5#32).setReg (R.LNK_CNT_MGT 7 + 4) 9#32), 4, 50, 7, by decide +kernel⟩,
   ⟨st { up .ranging with mgt := { reqs := [(4, { snap := some (R.LNK_CNT_MGT 7, 5#32, 9#32, false) })] } }, 4, 50, 7, 5#32, 9#32, by decide +kernel⟩,
   ⟨st ((up .ranging).setReg (R.LNK_CNT_MGT 7 + 4) 9#32), 4, 50, 7, by decide +kernel⟩,
   ⟨st (up .armed), 1, 50, 0xABCD5678#32, by decide +kernel⟩,
   ⟨st (up .armed), 1, 50, 9, 0xABCD5678#32, by decide +kernel⟩,
   ⟨st ((up .armed).setReg R.FLG_CODE 0x1234#32), 1, 50, by decide +kernel⟩,
   ⟨st { up .armed with mgt := { reqs := [(1, { frameStatus := 3, lastWritten := 7, status := 0x11#32 })] } }, 1, 50, by decide +kernel⟩,
   ⟨st (up .armed), 50, by decide +kernel⟩,
   ⟨st { (up .armed).setReg R.FLG_CODE 0x1234#32 with lanes := [(7, { st := .up, locked := true })] }, 50, 7, [32, 90, 1, 1, 8, 0, 41, 0, 0, 0, 0, 0, 0, 0, 0, 0, 0, 0, 0, 0, 0, 0, 0, 0, 0, 0, 0, 0, 0, 0, 0, 0], by decide +kernel⟩,
   ⟨st { up .armed with lanes := [(7, { st := .up, locked := true, responses := List.replicate 4 (false, []) })] }, 50, 7, [32, 90, 1, 1, 8, 0, 41, 0, 0, 0, 0, 0, 0, 0, 0, 0, 0, 0, 0, 0, 0, 0, 0, 0, 0, 0, 0, 0, 0, 0, 0, 0], by decide +kernel⟩,
   ⟨st { (up .armed).setReg R.FLG_CODE 0x1234#32 with lanes := [(7, { st := .up, locked := true })] }, 50, 7, [32, 90, 2, 1, 8, 0, 41, 0, 120, 86, 205, 171, 0, 0, 0, 0, 0, 0, 0, 0, 0, 0, 0, 0, 0, 0, 0, 0, 0, 0, 0, 0], by decide +kernel⟩,
   ⟨st ((((up .armed).setReg R.ETH_CTRL 0x21#32).setReg R.ETH_STATUS 1#32).setReg R.FLG_CODE 0x1234#32 |>.setReg R.ETH_UDP 0x12340000#32), 50, 0x1234, 77, [32, 90, 1, 1, 8, 0, 41, 0, 0, 0, 0, 0, 0, 0, 0, 0, 0, 0, 0, 0, 0, 0, 0, 0, 0, 0, 0, 0, 0, 0, 0, 0], by decide +kernel⟩,
   ⟨st (((up .armed).setReg R.ETH_CTRL 1#32).setReg R.ETH_STATUS 1#32), 50, 0x1234, 77, [32, 90, 1, 1, 8, 0, 41, 0, 0, 0, 0, 0, 0, 0, 0, 0, 0, 0, 0, 0, 0, 0, 0, 0, 0, 0, 0, 0, 0, 0, 0, 0], by decide +kernel⟩⟩

theorem test_witness_WindowAccessComplete :
  -- dramWindowWrite
  (∃ (s : State) (src : Nat) (t : Nat) (n : Nat) (v : Word) (g : DTag),
    (s.dev.alive = true) ∧ (s.dev.top.state ≠ .headframe) ∧ (s.dev.hoistServing = true) ∧ (s.dev.hoistFailed = false) ∧ (n < 2 ^ 28) ∧ (4 ≤ s.dev.actLeft 18) ∧ (s.dev.dramAddr src (0x40000000 + 4 * n) < s.dev.hoistBytes) ∧ ((s.dev.hoiCh (chanOf (s.dev.dramAddr src (0x40000000 + 4 * n)))).recovery = none) ∧ (s.dev.rbit R.HOI_RH_CFG 16 = false) ∧ (s.dev.tagOf (s.dev.dramAddr src (0x40000000 + 4 * n) / 64) = some g) ∧ (g.epoch = s.dev.epoch8) ∧ (g.p0 = false) ∧ (g.p1 = false)) ∧
  -- dramWindowRead
  (∃ (s : State) (src : Nat) (t : Nat) (n : Nat) (g : DTag),
    (s.dev.alive = true) ∧ (s.dev.hoistServing = true) ∧ (s.dev.hoistFailed = false) ∧ (n < 2 ^ 28) ∧ (2 ≤ s.dev.actLeft 18) ∧ (s.dev.reg (R.FMN_ALLOC 18) ≠ 0#32) ∧ (s.dev.dramAddr src (0x40000000 + 4 * n) < s.dev.hoistBytes) ∧ ((s.dev.hoiCh (chanOf (s.dev.dramAddr src (0x40000000 + 4 * n)))).recovery = none) ∧ (s.dev.rbit R.HOI_RH_CFG 16 = false) ∧ (s.dev.tagOf (s.dev.dramAddr src (0x40000000 + 4 * n) / 64) = some g) ∧ (g.epoch = s.dev.epoch8) ∧ (g.p0 = false) ∧ (g.p1 = false)) ∧
  -- dramWindowFailed
  (∃ (s : State) (src : Nat) (t : Nat) (n : Nat),
    (s.dev.alive = true) ∧ (s.dev.hoistFailed = true) ∧ (n < 2 ^ 28) ∧ (s.dev.reg (R.FMN_ALLOC 18) ≠ 0#32)) ∧
  -- dramWindowNoAllocation
  (∃ (s : State) (src : Nat) (t : Nat) (n : Nat),
    (s.dev.alive = true) ∧ (s.dev.reg (R.FMN_ALLOC 18) = 0#32) ∧ (n < 2 ^ 28)) ∧
  -- windowReadTimeout
  (∃ (s : State) (src : Nat) (t : Nat) (n : Nat) (v : Word),
    (s.dev.alive = true) ∧ (n < 2 ^ 28)) ∧
  -- windowWriteTimeout
  (∃ (s : State) (src : Nat) (t : Nat) (n : Nat) (v : Word),
    (s.dev.alive = true) ∧ (s.dev.top.state ≠ .headframe) ∧ (n < 2 ^ 28)) ∧
  -- requestParityError
  (∃ (s : State) (src : Nat) (t : Nat),
    (s.dev.alive = true) ∧ (s.dev.faultRoom 0x1B01 = true)) ∧
  -- windowParityError
  (∃ (s : State) (src : Nat) (t : Nat),
    (s.dev.alive = true) ∧ (s.dev.faultRoom 0x1B02 = true)) :=
  ⟨⟨st { ((((up .armed).setReg R.HOI_STATUS 1#32).setReg (R.FMN_ALLOC 18) 8#32).setReg (R.HOI_CH_GEOM 0) 0x1000#32).setReg R.HOI_RH_CFG 0#32 with hoi := { tags := [{ lo := 4, hi := 5, epoch := (up .armed).fld R.HOI_EPOCH 7 0 }] } }, 4, 50, 65, 0xABCD5678#32, { lo := 4, hi := 5, epoch := (up .armed).fld R.HOI_EPOCH 7 0 }, by decide +kernel⟩,
   ⟨{ st { ((((up .armed).setReg R.HOI_STATUS 1#32).setReg (R.FMN_ALLOC 18) 8#32).setReg (R.HOI_CH_GEOM 0) 0x1000#32).setReg R.HOI_RH_CFG 0#32 with hoi := { tags := [{ lo := 4, hi := 5, epoch := (up .armed).fld R.HOI_EPOCH 7 0 }] } } with dram := [(260, 7), (263, 9)] }, 4, 50, 65, { lo := 4, hi := 5, epoch := (up .armed).fld R.HOI_EPOCH 7 0 }, by decide +kernel⟩,
   ⟨st { (up .armed).setReg (R.FMN_ALLOC 18) 8#32 with top := { (up .armed).top with removed := [.hoist] } }, 4, 50, 65, by decide +kernel⟩,
   ⟨st ((up .armed).setReg (R.FMN_ALLOC 18) 0#32), 4, 50, 65, by decide +kernel⟩,
   ⟨st (up .armed), 4, 50, 65, 0#32, by decide +kernel⟩,
   ⟨st (up .armed), 4, 50, 65, 7#32, by decide +kernel⟩,
   ⟨st (up .armed), 4, 50, by decide +kernel⟩,
   ⟨st { up .armed with mgt := { reqs := [(4, { dramWin := 5 })] } }, 4, 50, by decide +kernel⟩⟩

theorem test_witness_UnmappedAccessRules :
  -- lduUnmapped
  (∃ (s : State) (t : Nat) (k : Nat) (w : Nat) (a : Nat),
    (s.stands k w .ldu = true) ∧ ((s.dev.core k).cur.busAddr w false = a) ∧ (0x4000 ≤ a) ∧ ((a < 0x40000 ∨ 0x80000 ≤ a)) ∧ ((a < 0xFF000 ∨ 0xFF040 ≤ a)) ∧ ((s.dev.core k).sticky.testBit 5 = false) ∧ (s.dev.faultRoom 0x0C04 = true)) ∧
  -- lduUnmappedAgain
  (∃ (s : State) (t : Nat) (k : Nat) (w : Nat) (a : Nat),
    (s.stands k w .ldu = true) ∧ ((s.dev.core k).cur.busAddr w false = a) ∧ (0x4000 ≤ a) ∧ ((a < 0x40000 ∨ 0x80000 ≤ a)) ∧ ((a < 0xFF000 ∨ 0xFF040 ≤ a)) ∧ ((s.dev.core k).sticky.testBit 5 = true)) ∧
  -- ldvUnmapped
  (∃ (s : State) (t : Nat) (k : Nat) (w : Nat) (a : Nat),
    (s.stands k w .ldv = true) ∧ ((s.dev.core k).cur.busAddr w true = a) ∧ (0x4000 ≤ a) ∧ ((s.dev.core k).sticky.testBit 5 = false) ∧ (s.dev.faultRoom 0x0C04 = true)) ∧
  -- ldvUnmappedAgain
  (∃ (s : State) (t : Nat) (k : Nat) (w : Nat) (a : Nat),
    (s.stands k w .ldv = true) ∧ ((s.dev.core k).cur.busAddr w true = a) ∧ (0x4000 ≤ a) ∧ ((s.dev.core k).sticky.testBit 5 = true)) ∧
  -- stuUnmapped
  (∃ (s : State) (t : Nat) (k : Nat) (w : Nat) (a : Nat),
    (s.stands k w .stu = true) ∧ ((s.dev.core k).cur.busAddr w false = a) ∧ (0x4000 ≤ a) ∧ ((a < 0x40000 ∨ 0x80000 ≤ a)) ∧ ((a < 0xFF000 ∨ 0xFF040 ≤ a)) ∧ ((s.dev.core k).sticky.testBit 5 = false) ∧ (s.dev.faultRoom 0x0C04 = true)) ∧
  -- stuUnmappedAgain
  (∃ (s : State) (t : Nat) (k : Nat) (w : Nat) (a : Nat),
    (s.stands k w .stu = true) ∧ ((s.dev.core k).cur.busAddr w false = a) ∧ (0x4000 ≤ a) ∧ ((a < 0x40000 ∨ 0x80000 ≤ a)) ∧ ((a < 0xFF000 ∨ 0xFF040 ≤ a)) ∧ ((s.dev.core k).sticky.testBit 5 = true)) ∧
  -- stvUnmapped
  (∃ (s : State) (t : Nat) (k : Nat) (w : Nat) (a : Nat),
    (s.stands k w .stv = true) ∧ ((s.dev.core k).cur.busAddr w true = a) ∧ (0x4000 ≤ a) ∧ ((s.dev.core k).sticky.testBit 5 = false) ∧ (s.dev.faultRoom 0x0C04 = true)) ∧
  -- stvUnmappedAgain
  (∃ (s : State) (t : Nat) (k : Nat) (w : Nat) (a : Nat),
    (s.stands k w .stv = true) ∧ ((s.dev.core k).cur.busAddr w true = a) ∧ (0x4000 ≤ a) ∧ ((s.dev.core k).sticky.testBit 5 = true)) ∧
  -- pldUnmapped
  (∃ (s : State) (t : Nat) (k : Nat) (w : Nat) (a : Nat) (b : Nat),
    (s.stands k w .pld = true) ∧ (fieldOf w 18 18 = 1) ∧ (fieldOf w 10 10 = 1) ∧ ((s.dev.core k).cur.addrOf (fieldOf w 17 16) = a) ∧ (0x4000 ≤ a) ∧ ((a < 0x40000 ∨ 0x80000 ≤ a)) ∧ ((a < 0xFF000 ∨ 0xFF040 ≤ a)) ∧ ((s.dev.core k).cur.addrOf (4 + fieldOf w 9 8) = b) ∧ (0x4000 ≤ b) ∧ ((s.dev.core k).sticky.testBit 5 = false) ∧ (s.dev.faultRoom 0x0C04 = true)) ∧
  -- pldUnmappedAgain
  (∃ (s : State) (t : Nat) (k : Nat) (w : Nat) (a : Nat) (b : Nat),
    (s.stands k w .pld = true) ∧ (fieldOf w 18 18 = 1) ∧ (fieldOf w 10 10 = 1) ∧ ((s.dev.core k).cur.addrOf (fieldOf w 17 16) = a) ∧ (0x4000 ≤ a) ∧ ((a < 0x40000 ∨ 0x80000 ≤ a)) ∧ ((a < 0xFF000 ∨ 0xFF040 ≤ a)) ∧ ((s.dev.core k).cur.addrOf (4 + fieldOf w 9 8) = b) ∧ (0x4000 ≤ b) ∧ ((s.dev.core k).sticky.testBit 5 = true)) :=
  ⟨⟨atCore 1350893571 { g := [1, 0xFFFFFFFF, 3, 4], p := [0, 20480, 0, 0, 0, 0, 16385, 524287] }, 9, 3, 1350893571, 20480, by decide +kernel⟩,
   ⟨{ (atCore 1350893571 { g := [1, 0xFFFFFFFF, 3, 4], p := [0, 20480, 0, 0, 0, 0, 16385, 524287] }) with dev := { up .ranging with asy := { cores := [(3, { started := true, pc := 5, fg := { g := [1, 0xFFFFFFFF, 3, 4], p := [0, 20480, 0, 0, 0, 0, 16385, 524287] }, sticky := 32 })] } } }, 9, 3, 1350893571, 20480, by decide +kernel⟩,
   ⟨atCore 1418264575 { g := [1, 0xFFFFFFFF, 3, 4], p := [0, 20480, 0, 0, 0, 0, 16385, 524287] }, 9, 3, 1418264575, 16384, by decide +kernel⟩,
   ⟨{ (atCore 1418264575 { g := [1, 0xFFFFFFFF, 3, 4], p := [0, 20480, 0, 0, 0, 0, 16385, 524287] }) with dev := { up .ranging with asy := { cores := [(3, { started := true, pc := 5, fg := { g := [1, 0xFFFFFFFF, 3, 4], p := [0, 20480, 0, 0, 0, 0, 16385, 524287] }, sticky := 32 })] } } }, 9, 3, 1418264575, 16384, by decide +kernel⟩,
   ⟨atCore 1480916995 { g := [1, 0xFFFFFFFF, 3, 4], p := [0, 20480, 0, 0, 0, 0, 16385, 524287] }, 9, 3, 1480916995, 20480, by decide +kernel⟩,
   ⟨{ (atCore 1480916995 { g := [1, 0xFFFFFFFF, 3, 4], p := [0, 20480, 0, 0, 0, 0, 16385, 524287] }) with dev := { up .ranging with asy := { cores := [(3, { started := true, pc := 5, fg := { g := [1, 0xFFFFFFFF, 3, 4], p := [0, 20480, 0, 0, 0, 0, 16385, 524287] }, sticky := 32 })] } } }, 9, 3, 1480916995, 20480, by decide +kernel⟩,
   ⟨atCore 1557004288 { g := [1, 0xFFFFFFFF, 3, 4], p := [0, 20480, 0, 0, 0, 0, 16385, 524287] }, 9, 3, 1557004288, 524287, by decide +kernel⟩,
   ⟨{ (atCore 1557004288 { g := [1, 0xFFFFFFFF, 3, 4], p := [0, 20480, 0, 0, 0, 0, 16385, 524287] }) with dev := { up .ranging with asy := { cores := [(3, { started := true, pc := 5, fg := { g := [1, 0xFFFFFFFF, 3, 4], p := [0, 20480, 0, 0, 0, 0, 16385, 524287] }, sticky := 32 })] } } }, 9, 3, 1557004288, 524287, by decide +kernel⟩,
   ⟨atCore 4026918568 { g := [1, 0xFFFFFFFF, 3, 4], p := [0, 20480, 0, 0, 0, 0, 16385, 524287] }, 9, 3, 4026918568, 20480, 16385, by decide +kernel⟩,
   ⟨{ (atCore 4026918568 { g := [1, 0xFFFFFFFF, 3, 4], p := [0, 20480, 0, 0, 0, 0, 16385, 524287] }) with dev := { up .ranging with asy := { cores := [(3, { started := true, pc := 5, fg := { g := [1, 0xFFFFFFFF, 3, 4], p := [0, 20480, 0, 0, 0, 0, 16385, 524287] }, sticky := 32 })] } } }, 9, 3, 4026918568, 20480, 16385, by decide +kernel⟩⟩

theorem test_witness_TallyParityErrorRule :
  -- tallyParityClassH
  (∃ (s : State) (t : Nat),
    (s.dev.alive = true) ∧ (s.dev.logged 0x0501 = false) ∧ (s.dev.faultRoom 0x0501 = true)) ∧
  -- tallyParityAgain
  (∃ (s : State) (t : Nat),
    (s.dev.alive = true) ∧ (s.dev.logged 0x0501 = true)) :=
  ⟨⟨st (up .ranging), 50, by decide +kernel⟩,
   ⟨st { up .ranging with flg := { log := [(3, { code := 0x0501, cls := .h })] } }, 50, by decide +kernel⟩⟩

theorem test_witness_FrontEndModeRule :
  -- modeAccepted
  (∃ (s : State) (src : Nat) (t : Nat) (ch : Nat) (v : Word),
    (s.dev.alive = true) ∧ (s.dev.top.state ≠ .headframe) ∧ (s.dev.top.state ≠ .ranging) ∧ (ch < 256) ∧ ((s.dev.ch ch).pend = []) ∧ (mget s.dev.shadow (R.RFE_CTRL ch) = none) ∧ (bits v 1 1 ≠ s.dev.fld (R.RFE_CTRL ch) 1 1)) ∧
  -- modeIgnored
  (∃ (s : State) (src : Nat) (t : Nat) (ch : Nat) (v : Word),
    (s.dev.alive = true) ∧ (s.dev.top.state = .ranging) ∧ (ch < 256) ∧ ((s.dev.ch ch).pend = []) ∧ (mget s.dev.shadow (R.RFE_CTRL ch) = none) ∧ (bits v 1 1 ≠ s.dev.fld (R.RFE_CTRL ch) 1 1)) :=
  ⟨⟨st (up .armed), 1, 62, 255, 0xFFFFFFFF#32, by decide +kernel⟩,
   ⟨st (up .ranging), 1, 62, 255, 2#32, by decide +kernel⟩⟩

/-! Ill-formed commands: one for each check, which it refuses. -/

theorem test_ill_formed_1 : ([.resetRelease 128 0 0, .resetRelease 0 16 0, .commissioningHandover 0 [], .start 13 0, .stop 13 0, .leaveHeld 13 0,
    .hold 13 0, .stepCommit 13 0 0, .pairLowWrite 13 0 0 0, .pairLowWrite 0 0 (2 ^ 32) 0, .pairHighWrite 13 0 0 0, .pairHighWrite 0 0 (2 ^ 32) 0,
    .lowWordRead 13 0 0, .lowWordRead 0 0 (2 ^ 32), .highWordRead 13 0 0, .highWordRead 0 0 (2 ^ 32), .syncInEdge 0 32, .syncMessage 0 (2 ^ 96),
    .ppsInEdge 0 32, .frameAtArm 13 0 0, .fuseKey 13 0 0 0, .fuseKey 0 0 4 0, .fuseKey 0 0 0 65536, .revoke 13 0 0 0] : List Instr).all (fun i => !i.wf) = true := by decide +kernel

theorem test_ill_formed_2 : ([.revoke 0 0 4 0, .revoke 0 0 0 65536, .attest 13 0, .frameFirstEntryRead 0 37, .scanEntryRead 0 37, .settleTimeout 0 4,
    .confidenceFlag 0 (2 ^ 24) 0, .confidenceFlag 0 0 (2 ^ 32), .squash 0 (2 ^ 24) 0, .squash 0 0 (2 ^ 32), .seqSquashCmd 13 0 0, .tallySnapshotRead 13 0 0 0,
    .tallySnapshotRead 0 0 192 0, .tallySnapshotRead 0 0 0 4, .monConversion 0 32 0, .strayMonPulse 0 32, .emtReinstate 13 0 0, .emtReinstate 0 0 32,
    .positionSample 0 4 0 0 false false, .relockTimeout 0 4, .strReinstate 13 0 0, .strReinstate 0 0 4, .polygonIndex 0 4, .indexTimeout 0 4] : List Instr).all (fun i => !i.wf) = true := by decide +kernel

theorem test_ill_formed_3 : ([.strModeWrite 13 0 0 0, .strModeWrite 0 0 4 0, .leadingEdge 0 256 0, .leadingEdge 0 0 32, .eventComplete 0 256 0 false, .eventComplete 0 0 32 false,
    .windowBoundaryApply 0 256, .settleEnd 0 256, .rfeModeWrite 13 0 0 0, .rfeModeWrite 0 0 256 0, .quadrantSupplyTrip 0 4, .lineMonitorCheck 0 256 0,
    .lineMonitorCheck 0 0 8, .comparatorStuck 0 256, .trimParityError 0 256, .reinstateCh 13 0 0 false, .reinstateCh 0 0 256 false, .reinstateQuad 13 0 0,
    .reinstateQuad 0 0 4, .eventArrival 0 256, .eventCommit 0 37, .histogramUpdate 0 2 0, .histogramUpdate 0 0 37, .sieveLaneTake 0 16 [] false] : List Instr).all (fun i => !i.wf) = true := by decide +kernel

theorem test_ill_formed_4 : ([.histogramReadoutEnd 0 16, .candidateHandoff 0 16 0, .candidateHandoff 0 0 37, .hstWindowWrite 13 0 0 0, .hstWindowWrite 0 0 (2 ^ 32) 0, .hstSlotSnapshotRead 13 0 0 0,
    .hstSlotSnapshotRead 0 0 512 0, .hstSlotSnapshotRead 0 0 0 4, .setCopy 0 16, .batch 0 16, .canary 0 16, .round 0 16,
    .batchTimeLimit 0 16, .divisionResult 0 16, .loopCountEnd 0 16, .backgroundSliceExhausted 0 16, .nop 0 16, .mpy 0 16 0 0 0,
    .mpy 0 0 37 0 0, .mpy 0 0 0 37 0, .mac 0 16 0 0 0, .mac 0 0 37 0 0, .mac 0 0 0 37 0, .msu 0 16 0 0 0] : List Instr).all (fun i => !i.wf) = true := by decide +kernel

theorem test_ill_formed_5 : ([.msu 0 0 37 0 0, .msu 0 0 0 37 0, .dmpy 0 16 0 0 0, .dmpy 0 0 37 0 0, .dmpy 0 0 0 37 0, .dmac 0 16 0 0 0,
    .dmac 0 0 37 0 0, .dmac 0 0 0 37 0, .dmsu 0 16 0 0 0, .dmsu 0 0 37 0 0, .dmsu 0 0 0 37 0, .pld 0 16 0 0 0,
    .pld 0 0 37 0 0, .pld 0 0 0 37 0, .add 0 16, .sub 0 16, .cmp 0 16, .and 0 16,
    .or 0 16, .xor 0 16, .andn 0 16, .shl 0 16, .shr 0 16, .sra 0 16] : List Instr).all (fun i => !i.wf) = true := by decide +kernel

theorem test_ill_formed_6 : ([.min 0 16, .max 0 16, .abs 0 16, .neg 0 16, .ext 0 16, .ins 0 16,
    .mul 0 16, .norm 0 16, .div 0 16, .divu 0 16, .clra 0 16, .adda 0 16,
    .suba 0 16, .mova 0 16, .sha 0 16, .addaa 0 16, .rnda 0 16, .ldi 0 16,
    .ldih 0 16, .addi 0 16, .cmpi 0 16, .ldu 0 16 0 0 0, .ldu 0 0 37 0 0, .ldu 0 0 0 37 0] : List Instr).all (fun i => !i.wf) = true := by decide +kernel

theorem test_ill_formed_7 : ([.ldv 0 16 0 0 0, .ldv 0 0 37 0 0, .ldv 0 0 0 37 0, .stu 0 16 0 0 0, .stu 0 0 37 0 0, .stu 0 0 0 37 0,
    .stv 0 16 0 0 0, .stv 0 0 37 0 0, .stv 0 0 0 37 0, .setp 0 16, .br 0 16, .call 0 16,
    .jr 0 16, .doLoop 0 16, .rete 0 16, .movs 0 16, .wait 0 16, .illegalInstruction 0 16,
    .poisonedFetch 0 16 0, .poisonedFetch 0 0 37, .asyHalt 13 0 0 0, .asyHalt 0 0 16 0, .asyDispatchWrite 13 0 0 0, .asyDispatchWrite 0 0 16 0] : List Instr).all (fun i => !i.wf) = true := by decide +kernel

theorem test_ill_formed_8 : ([.asyStep 13 0 0 0 0 0, .asyStep 0 0 16 0 0 0, .asyStep 0 0 0 37 0 0, .asyStep 0 0 0 0 37 0, .breakpointHit 0 16, .asyRegisterWindowAccess 13 0 0 0 false 0 0,
    .asyRegisterWindowAccess 0 0 16 0 false 0 0, .asyRegisterWindowAccess 0 0 0 0 false 0 37, .pointAccept 0 16, .packetClose 0 16 [] false false, .bulkDropGapRecord 0 16, .lodeExport 13 0,
    .journalDump 13 0, .flush 13 0 0, .flush 0 0 16, .activityRequest 0 24 0 false, .check 13 0, .fmnAllocWrite 13 0 0 0,
    .fmnAllocWrite 0 0 24 0, .wavTapCfgWrite 13 0 0 0, .wavTapCfgWrite 0 0 8 0, .levelTrigger 0 8 0 [], .trigInEdge 0 0 32, .triggerDecision 0 8] : List Instr).all (fun i => !i.wf) = true := by decide +kernel

theorem test_ill_formed_9 : ([.writeBufferFull 0 8 0 [], .captureEnd 0 8 [], .recordWritten 0 8 0, .rearmEnd 0 8, .wavGapRecord 0 8, .wavFlush 13 0 0,
    .wavFlush 0 0 8, .flushExecute 0 8, .ringDrainApply 0 8, .streamRecordRead 0 8 [], .tapParityError 0 8, .hkaConversion 0 6 0 false,
    .hkaStart 13 0 0, .hkaStart 0 0 6, .hkaTimerOverflow 0 4, .startDelayEnd 0 6, .inject 13 0 0 0 0, .inject 0 0 6 0 0,
    .inject 0 0 0 8 0, .inject 0 0 0 0 64, .injectionDone 0 6 [], .hkaCal 13 0 0, .hkaCal 0 0 6, .selfCalibrationDone 0 6 0 0 0 0] : List Instr).all (fun i => !i.wf) = true := by decide +kernel

theorem test_ill_formed_10 : ([.filterOutput 0 16 [], .swap 13 0 0, .swap 0 0 16, .fadeEnd 0 16, .fltSync 13 0 0, .fltSync 0 0 16,
    .synchronisingReset 0 16, .fltReinstate 13 0 0, .fltReinstate 0 0 16, .fltBankWrite 13 0 0 0, .fltBankWrite 0 0 (2 ^ 32) 0, .filterParityError 0 16,
    .sensorSlotEnd 0 2 0 0 false, .openWireTrip 0 8, .leadTestStart 0 8, .leadTestEnd 0 8 0 0 0, .heaterPeriodStart 0 2, .heaterDutyEnd 0 2,
    .encoderEdge 0 2 false false, .encoderIndex 0 2, .imuXfer 13 0, .canFrameReceived 0 2 0 0 false false false false [] 0 [], .canFrameReceived 0 0 (2 ^ 29) 0 false false false false [] 0 [], .canFrameReceived 0 0 0 16 false false false false [] 0 []] : List Instr).all (fun i => !i.wf) = true := by decide +kernel

theorem test_ill_formed_11 : ([.canFrameTransmitted 0 2, .canBusOff 0 2, .recover 13 0 0, .recover 0 0 2, .canAutoRecovery 0 2, .canCanaryWrite 13 0 0 0,
    .canCanaryWrite 0 0 (2 ^ 32) 0, .hoiRetrain 13 0, .hoiRateWrite 13 0 0, .laneTest 13 0 0 0, .laneTest 0 0 2 0, .laneTest 0 0 0 2,
    .dramRead 0 24 0 0 0 false, .dramRead 0 0 (2 ^ 37) 0 0 false, .dramRead 0 0 0 37 0 false, .dramRead 0 0 0 0 37 false, .dramWrite 0 24 0 [] false 0 0, .dramWrite 0 0 (2 ^ 37) [] false 0 0,
    .dramWrite 0 0 0 [] false 37 0, .dramWrite 0 0 0 [] false 0 37, .correctedWriteBack 0 2, .refreshDue 0 2 0 0 false, .refreshDue 0 0 2 0 false, .temperaturePoll 0 2 0 false] : List Instr).all (fun i => !i.wf) = true := by decide +kernel

theorem test_ill_formed_12 : ([.temperaturePoll 0 0 2 false, .neighbourRefresh 0 2, .refreshWindowEnd 0 2, .parityAlert 0 2 false, .selfRefreshEntry 0 2 false, .selfRefreshExit 0 2,
    .laneEnable 13 0 0 0, .laneEnable 0 0 8 0, .laneLock 0 8, .lockLoss 0 8, .lockLossTimeout 0 8, .capSymbol 0 8 0 0 0 0 0 false 0,
    .rateSymbol 0 8 0 0 0 false, .prbsMarker 0 8 0 0, .prbsCheckEnd 0 8 0, .rateResultTimeout 0 8, .dataSymbol 0 8 0, .timeSymbol 0 8 0,
    .safeSymbol 0 0 8 0 [], .unknownSymbol 0 8 0, .stuffingError 0 8, .elasticBufferAdjust 0 8 0 false false, .frameSlotTransmit 0 8 0, .timeSymbolDue 0 8] : List Instr).all (fun i => !i.wf) = true := by decide +kernel

theorem test_ill_formed_13 : ([.lnkRetrain 13 0 0, .lnkRetrain 0 0 8, .lnkReinstate 13 0 0, .lnkReinstate 0 0 8, .genCapWrite 13 0 0 0, .genCapWrite 0 0 8 0,
    .laneParityError 0 8, .csiEnable 13 0 0, .mgtDatagram 0 none 65536 0 [] [], .mgtDatagram 0 none 0 65536 [] [], .c22Read 13 0 0 0 false 0, .c22Read 0 0 32 0 false 0,
    .c22Read 0 0 0 32 false 0, .c22Write 13 0 0 0 false, .c22Write 0 0 32 0 false, .c22Write 0 0 0 32 false, .c45Address 13 0 0 0 false, .c45Address 0 0 32 0 false,
    .c45Address 0 0 0 32 false, .c45Read 13 0 0 0 false 0, .c45Read 0 0 32 0 false 0, .c45Read 0 0 0 32 false 0, .c45Write 13 0 0 0 false, .c45Write 0 0 32 0 false] : List Instr).all (fun i => !i.wf) = true := by decide +kernel

theorem test_ill_formed_14 : ([.c45Write 0 0 0 32 false, .sealSwitchSample 0 0 16, .cnyParamWrite 13 0 0 0 0, .cnyParamWrite 0 0 0 (2 ^ 32) 0, .commission 13 0, .cnyClear 13 0,
    .testPulseCheck 0 0 4 0, .canaryEncoderEdge 0 0 2 false false false, .axisComputation 0 0 2, .ossdOffTest 0 0 2 false, .select 0 0 2 (List.replicate 27 0), .select 0 0 0 [],
    .mute 0 0 2 (List.replicate 27 0), .mute 0 0 0 [], .livenessDeadline 0 0 16, .calFull 13 0, .calPort 13 0 0, .calPort 0 0 32,
    .clear 13 0 0, .clear 0 0 256, .clearCode 13 0, .clearAll 13 0, .clearJournal 13 0, .registerWrite 13 0 0 0 {}] : List Instr).all (fun i => !i.wf) = true := by decide +kernel

theorem test_ill_formed_15 : ([.registerWrite 0 0 (2 ^ 32) 0 {}, .shadowedRegisterWrite 13 0 0 0, .shadowedRegisterWrite 0 0 (2 ^ 32) 0, .serialWriteFrame 2 0 0 0 0 [] [], .serialWriteFrame 0 0 0 (2 ^ 32) 0 [] [], .serialReadFrame 2 0 0 0 [],
    .serialReadFrame 0 0 (2 ^ 32) 0 [], .serialStatusFrame 2 0, .mgtRead 0 8 0 (List.replicate 32 0) [], .mgtRead 0 0 0 [] [], .mgtWrite 0 8 0 (List.replicate 32 0) [], .mgtWrite 0 0 0 [] [],
    .dramWindowAccess 13 0 0 false 0 {}, .dramWindowAccess 0 0 (2 ^ 32) false 0 {}, .mgtDramWinWrite 13 0 0, .windowAccessTimeout 13 0 0 false 0, .windowAccessTimeout 0 0 (2 ^ 32) false 0, .mgtParityError 13 0 false,
    .ethernetLinkUp 0 4, .alertNRise 0 2 false, .parityRecoveryTimeout 0 2, .rowCloseOnIdle 0 2 0 false, .testPulse 0 0 4] : List Instr).all (fun i => !i.wf) = true := by decide +kernel

end Sys2Proof.Tests
end

section
/-! PROOF. The tally parity error on a full fault log (R75, R89, R410). The statement bounds neither the class of the open
entry of 0x0501 nor the room left in the log. An open entry of class N is counted on as it stands; entering HELD then
squashes, the squash finds the audit ring full and logs 0x0504, and that fault takes the place of the class N entry. -/
namespace Sys2Proof.Machine

/-- A full fault log in key order, its 256 codes distinct: 0x0501 open in an entry of class N, every other entry open and of
class H. Of these only the entry of 0x0501 can be taken by a further fault (R410). -/
def evictableLog : Map LogEntry :=
  (0, { code := 0x0501, cls := .n }) :: (List.range' 1 255).map (fun i => (i, { code := 0x0600 + i, cls := .h }))

/-- A device in RANGING with that log, one accepted cell whose only shot is in ISSUED with its handover edge still to come,
and a full audit ring: SEQ_AUDIT_RD is one ahead of SEQ_AUDIT_WR, and the overflow is not yet reported. -/
def evictionState : State :=
  { dev := { ({} : Dev).setReg R.SEQ_AUDIT_RD 1#32 with
      top := { state := .ranging, por := false }
      clk := { locked := true, running := true }
      seq := { cells := [(0, { uid := 0, emitters := [0], dwell := 1, issued := [(0, 1)] })]
               tally := [(0, { uid := 0, dec := 100 })] }
      flg := { log := evictableLog } } }

theorem evictionState_alive : evictionState.dev.alive = true := by decide +kernel

theorem evictionState_logged : evictionState.dev.logged 0x0501 = true := by decide +kernel

/-- While the device lives, a tally parity error logs 0x0501 and then enters HELD. -/
theorem exec_tallyParityError_alive (s : State) (t : Nat) (h : s.dev.alive = true) :
    exec (.tallyParityError t) s =
      .next { s with dev := ((s.dev.advanceTo t).logFault 0x0501 .h).enterHeld 0x0501 } :=
  State.atTick_alive s t (fun d => d.raise 0x0501 .h) h

/-- Counting on leaves the entry of 0x0501 in class N; the squash on entry to HELD then logs 0x0504 in its place. -/
theorem evictionState_enterHeld_evicts :
    let log := (((evictionState.dev.advanceTo 0).logFault 0x0501 .h).enterHeld 0x0501).flg.log
    (openEntry log 0x0504).map (·.1) = some 0 ∧ (openEntry log 0x0501).isSome = false := by decide +kernel

/-- Refutes O59: an open entry of 0x0501 that is of class N is lost to the 0x0504 of the squash when the log and the audit
ring are full, so the second clause (`tallyParityAgain`) does not hold of every state. -/
theorem not_tallyParityErrorRule : ¬ Obligations.TallyParityErrorRule := by
  unfold Obligations.TallyParityErrorRule
  rintro ⟨-, again⟩
  obtain ⟨s', hexec, hlogged, -⟩ := again evictionState 0 evictionState_alive evictionState_logged
  rw [exec_tallyParityError_alive evictionState 0 evictionState_alive] at hexec
  obtain rfl := Host.Outcome.next.inj hexec
  obtain ⟨-, hlost⟩ := evictionState_enterHeld_evicts
  exact Bool.false_ne_true (hlost.symm.trans hlogged)

end Sys2Proof.Machine
end

section
/-! PROOF. A write of RFE_CTRLc.mode (R136). The write is judged, the rest of the word is queued, and outside RANGING, or
where no window is scheduled, the queued word comes into force at once. What comes into force with it (R135, R137 to R139,
R158) touches neither the mode, nor a settle that begins at the present tick, nor cfg_rej. -/
namespace Sys2Proof.Machine

/-! Bits of a word, and the addresses of a channel's registers. -/

theorem bits_bit (w : Word) (i : Nat) : bits w i i = (w.getLsbD i).toNat := by
  rw [bits, Nat.add_sub_cancel_left, Nat.pow_one, BitVec.getLsbD, Nat.toNat_testBit]

/-- The writable bits of RFE_CTRLc hold the mode (Table 07-8). -/
theorem bits_ctrlMask_mode (v : Word) : bits (v &&& 0x1F1F#32) 1 1 = bits v 1 1 := by simp [bits_bit]

theorem bits_setBits_same_bit (w w' : Word) (i : Nat) (h : i < 32) : bits (setBits w i i (bits w' i i)) i i = bits w' i i := by
  rw [bits_setBits_self w i i _ h (Nat.le_refl i), bits_bit w' i, Nat.add_sub_cancel_left, Nat.pow_one]
  exact Nat.mod_eq_of_lt (Bool.toNat_lt _)

theorem rfeCtrl_ne_status (c : Nat) : R.RFE_CTRL c ≠ R.RFE_STATUS c := by simp only [R.RFE_CTRL, R.RFE_STATUS]; omega

theorem cntNotch_ne_ctrl (c : Nat) : R.RFE_CNT_NOTCH c ≠ R.RFE_CTRL c := by simp only [R.RFE_CNT_NOTCH, R.RFE_CTRL]; omega

theorem cntNotch_ne_status (c : Nat) : R.RFE_CNT_NOTCH c ≠ R.RFE_STATUS c := by
  simp only [R.RFE_CNT_NOTCH, R.RFE_STATUS]; omega

theorem portStatus_ne_ctrl {c : Nat} (_ : c < 256) : R.GAT_PORT_STATUS (c / 8) ≠ R.RFE_CTRL c := by
  simp only [R.GAT_PORT_STATUS, R.RFE_CTRL]; omega

theorem portStatus_ne_status {c : Nat} (_ : c < 256) : R.GAT_PORT_STATUS (c / 8) ≠ R.RFE_STATUS c := by
  simp only [R.GAT_PORT_STATUS, R.RFE_STATUS]; omega

theorem rfeCtrl_ne_cntWr {c : Nat} (_ : c < 256) (src : Nat) : R.RFE_CTRL c ≠ R.MGT_CNT_WR src := by
  simp only [R.RFE_CTRL, R.MGT_CNT_WR]; omega

/-! `Dev.onCh` changes its channel only. -/

@[simp] theorem Dev.ch_onCh_self (d : Dev) (c : Nat) (f : RfeCh → RfeCh) : (d.onCh c f).ch c = f (d.ch c) :=
  mgetD_mput_self d.rfe c (f (d.ch c)) {}
@[simp] theorem Dev.onCh_now (d : Dev) (c : Nat) (f : RfeCh → RfeCh) : (d.onCh c f).now = d.now := (rfl)
@[simp] theorem Dev.onCh_shadow (d : Dev) (c : Nat) (f : RfeCh → RfeCh) : (d.onCh c f).shadow = d.shadow := (rfl)
@[simp] theorem Dev.onCh_top (d : Dev) (c : Nat) (f : RfeCh → RfeCh) : (d.onCh c f).top = d.top := (rfl)
@[simp] theorem Dev.onCh_flg (d : Dev) (c : Nat) (f : RfeCh → RfeCh) : (d.onCh c f).flg = d.flg := (rfl)
@[simp] theorem Dev.onCh_reg (d : Dev) (c a : Nat) (f : RfeCh → RfeCh) : (d.onCh c f).reg a = d.reg a := (rfl)
@[simp] theorem Dev.onCh_rbit (d : Dev) (c a i : Nat) (f : RfeCh → RfeCh) : (d.onCh c f).rbit a i = d.rbit a i := (rfl)

/-- A channel rests on the channels' states alone. -/
@[simp] theorem Dev.ch_setReg (d : Dev) (a c : Nat) (v : Word) : (d.setReg a v).ch c = d.ch c := (rfl)
@[simp] theorem Dev.ch_setBit (d : Dev) (a i c : Nat) (b : Bool) : (d.setBit a i b).ch c = d.ch c := (rfl)

theorem Dev.rbit_setReg_ne (d : Dev) (a b i : Nat) (v : Word) (h : b ≠ a) : (d.setReg a v).rbit b i = d.rbit b i := by
  simp only [Dev.rbit, Dev.fld_setReg_ne d a b i i v h]

/-! The settle at the present tick, and the steps that keep it. -/

/-- Channel `c` settles from the present tick, and RFE_STATUSc says so (R135). -/
def Dev.SettlesNow (d : Dev) (c : Nat) : Prop := (d.ch c).settleFrom = some d.now ∧ d.rbit (R.RFE_STATUS c) 3 = true

/-- From `d` to `d'` channel `c` keeps what R136 speaks of: its RFE_CTRL word, in force and pending, cfg_rej, and a settle
from the present tick. -/
structure Dev.KeepsMode (c : Nat) (d d' : Dev) : Prop where
  now : d'.now = d.now
  shadow : d'.shadow = d.shadow
  flg : d'.flg = d.flg
  pend : (d'.ch c).pend = (d.ch c).pend
  ctrl : d'.reg (R.RFE_CTRL c) = d.reg (R.RFE_CTRL c)
  rejected : d'.rbit (R.RFE_STATUS c) 18 = d.rbit (R.RFE_STATUS c) 18
  settles : d.SettlesNow c → d'.SettlesNow c

namespace Dev.KeepsMode

variable {c : Nat} {d d' d'' : Dev}

theorem refl (c : Nat) (d : Dev) : KeepsMode c d d := ⟨rfl, rfl, rfl, rfl, rfl, rfl, id⟩

theorem trans (h : KeepsMode c d d') (k : KeepsMode c d' d'') : KeepsMode c d d'' :=
  ⟨k.now.trans h.now, k.shadow.trans h.shadow, k.flg.trans h.flg, k.pend.trans h.pend, k.ctrl.trans h.ctrl,
    k.rejected.trans h.rejected, k.settles ∘ h.settles⟩

theorem ite {p : Prop} [Decidable p] (h : KeepsMode c d d') : KeepsMode c d (if p then d' else d) := by
  split
  · exact h
  · exact refl c d

theorem setReg {a : Nat} (v : Word) (hctrl : a ≠ R.RFE_CTRL c) (hstat : a ≠ R.RFE_STATUS c) : KeepsMode c d (d.setReg a v) where
  now := rfl
  shadow := rfl
  flg := rfl
  pend := rfl
  ctrl := d.reg_setReg_ne a _ v hctrl.symm
  rejected := d.rbit_setReg_ne a _ 18 v hstat.symm
  settles h := ⟨h.1, (d.rbit_setReg_ne a _ 3 v hstat.symm).trans h.2⟩

/-- Another field of RFE_STATUSc than settling and cfg_rej. -/
theorem setStatus (m l v : Nat) (hl : l ≤ m) (hset : m < 3 ∨ 3 < l) (hrej : m < 18 ∨ 18 < l) :
    KeepsMode c d (d.setFld (R.RFE_STATUS c) m l v) where
  now := rfl
  shadow := rfl
  flg := rfl
  pend := rfl
  ctrl := d.reg_setFld_ne _ _ m l v (rfeCtrl_ne_status c)
  rejected := by
    simp only [Dev.rbit, d.fld_setFld_other _ 18 18 m l v (by omega) (Nat.le_refl 18) hl (by omega)]
  settles h := by
    refine ⟨h.1, ?_⟩
    simpa only [Dev.rbit, d.fld_setFld_other _ 3 3 m l v (by omega) (Nat.le_refl 3) hl (by omega)] using h.2

theorem onCh {f : RfeCh → RfeCh} (hpend : ∀ q, (f q).pend = q.pend) (hset : ∀ q, (f q).settleFrom = q.settleFrom) :
    KeepsMode c d (d.onCh c f) where
  now := rfl
  shadow := rfl
  flg := rfl
  pend := by simp [hpend]
  ctrl := rfl
  rejected := rfl
  settles h := ⟨by simp [hset, h.1], h.2⟩

theorem gat (g : GatState) : KeepsMode c d { d with gat := g } := ⟨rfl, rfl, rfl, rfl, rfl, rfl, id⟩

end Dev.KeepsMode

/-- A settle begun at the present tick and shown. -/
theorem Dev.startSettle_settlesNow (d : Dev) (c : Nat) : ((d.startSettle c d.now).setBit (R.RFE_STATUS c) 3 true).SettlesNow c := by
  refine ⟨?_, Dev.rbit_setBit_self _ _ 3 true (by omega)⟩
  simp [Dev.ch, Dev.startSettle]

theorem Dev.startSettle_keepsMode (d : Dev) (c : Nat) :
    KeepsMode c d ((d.startSettle c d.now).setBit (R.RFE_STATUS c) 3 true) where
  now := rfl
  shadow := rfl
  flg := rfl
  pend := by simp [Dev.ch, Dev.startSettle]
  ctrl := Dev.reg_setBit_ne _ _ _ 3 true (rfeCtrl_ne_status c)
  rejected := by
    simp only [Dev.rbit, Dev.setBit, Dev.fld_setFld_other _ _ 18 18 3 3 _ (by omega) (Nat.le_refl 18) (Nat.le_refl 3) (by omega)]
    rfl
  settles _ := d.startSettle_settlesNow c

/-! A channel's queued words come into force, stage by stage. -/

/-- The queued words of channel `c` take their places (R135). -/
def Dev.loadPend (d : Dev) (c : Nat) : Dev :=
  (d.ch c).pend.foldl (fun d x => d.setReg x.1 x.2) (d.onCh c (fun q => { q with pend := [] }))

/-- A range other than the former one is switched to, and the channel settles (R135). -/
def Dev.switchRange (d : Dev) (c : Nat) (former : Bool) : Dev :=
  if d.rbit (R.RFE_CTRL c) 2 != former then (d.startSettle c d.now).setBit (R.RFE_STATUS c) 3 true else d

/-- The ambient controller goes off: the channel's notch is to return to 0 (R138). -/
def Dev.ambientOff (d : Dev) (c : Nat) : Dev := d.onCh c (fun q => { q with notchZero := true, below := 0 })

/-- The port settings come into force on channel `c` and are reported (R158). -/
def Dev.showPort (d : Dev) (c : Nat) : Dev :=
  let d := { d with gat := { d.gat with mEff := mput d.gat.mEff c (d.mEffOf (c / 8)), cfgAt := mdel d.gat.cfgAt c } }
  (d.setFld (R.GAT_PORT_STATUS (c / 8)) 1 0 (d.mEffOf (c / 8))).setBit (R.GAT_PORT_STATUS (c / 8)) 2
    (d.rbit (R.RFE_PORT_STATUS (c / 8)) 0)

/-- Channel `c` after its range and its ambient controller have followed the words that took their places. -/
def Dev.followCtrl (d : Dev) (c : Nat) (range amb : Bool) : Dev :=
  if amb && !(d.switchRange c range).rbit (R.RFE_CTRL c) 3 then (d.switchRange c range).ambientOff c else d.switchRange c range

theorem Dev.applyCh_eq (d : Dev) (c : Nat) :
    d.applyCh c = ((((d.loadPend c).followCtrl c (d.rbit (R.RFE_CTRL c) 2) (d.rbit (R.RFE_CTRL c) 3)).applyNotch c).showPort c).chReport c :=
  (rfl)

theorem Dev.ambientOff_keepsMode (d : Dev) (c : Nat) : KeepsMode c d (d.ambientOff c) := .onCh (fun _ => rfl) (fun _ => rfl)

theorem Dev.followCtrl_keepsMode (d : Dev) (c : Nat) (range amb : Bool) : KeepsMode c d (d.followCtrl c range amb) :=
  .trans (.ite (d.startSettle_keepsMode c)) (.ite (Dev.ambientOff_keepsMode _ c))

theorem Dev.applyNotch_keepsMode (d : Dev) (c : Nat) : KeepsMode c d (d.applyNotch c) := by
  have hreq : KeepsMode c d (d.onCh c (fun q => { q with upReq := false, downReq := false, notchZero := false })) :=
    .onCh (fun _ => rfl) (fun _ => rfl)
  have hnotch : ∀ (d : Dev) (n : Nat), KeepsMode c d (d.setFld (R.RFE_STATUS c) 7 4 n) := fun d n =>
    .setStatus 7 4 n (by omega) (by omega) (by omega)
  have hbelow : ∀ d : Dev, KeepsMode c d (d.onCh c (fun q => { q with below := 0 })) := fun d =>
    .onCh (fun _ => rfl) (fun _ => rfl)
  have hcount : ∀ (d : Dev) (m l : Nat), KeepsMode c d (d.incSat (R.RFE_CNT_NOTCH c) m l 1) := fun d m l =>
    .setReg _ (cntNotch_ne_ctrl c) (cntNotch_ne_status c)
  refine hreq.trans ?_
  unfold Dev.applyNotch
  dsimp only
  split
  · exact (hnotch _ _).trans (hbelow _)
  · split
    · exact ((hnotch _ _).trans (hcount _ _ _)).trans (hbelow _)
    · split
      · exact .refl _ _
      · split
        · exact (hnotch _ _).trans (hcount _ _ _)
        · exact .refl _ _

theorem Dev.showPort_keepsMode (d : Dev) {c : Nat} (hc : c < 256) : KeepsMode c d (d.showPort c) :=
  .trans (.gat _) (.trans (.setReg _ (portStatus_ne_ctrl hc) (portStatus_ne_status hc))
    (.setReg _ (portStatus_ne_ctrl hc) (portStatus_ne_status hc)))

theorem Dev.chReport_keepsMode (d : Dev) (c : Nat) : KeepsMode c d (d.chReport c) :=
  .trans (.setStatus 17 8 _ (by omega) (by omega) (by omega))
    (.trans (.setStatus 2 2 _ (by omega) (by omega) (by omega)) (.setStatus 0 0 _ (by omega) (by omega) (by omega)))

/-- Once the queued words stand in their places, what follows from them keeps the mode. -/
theorem Dev.applyCh_keepsMode (d : Dev) {c : Nat} (hc : c < 256) : KeepsMode c (d.loadPend c) (d.applyCh c) := by
  rw [Dev.applyCh_eq]
  exact .trans (Dev.followCtrl_keepsMode _ c _ _)
    (.trans (Dev.applyNotch_keepsMode _ c) (.trans (Dev.showPort_keepsMode _ hc) (Dev.chReport_keepsMode _ c)))

/-- Where the RFE_CTRL word alone is queued, it alone takes its place. -/
theorem Dev.loadPend_ctrl (d : Dev) (c : Nat) (w : Word) (h : (d.ch c).pend = [(R.RFE_CTRL c, w)]) :
    d.loadPend c = (d.onCh c (fun q => { q with pend := [] })).setReg (R.RFE_CTRL c) w := by
  simp [Dev.loadPend, h]

/-! The write of RFE_CTRLc. -/

/-- What a write of `v` gives RFE_CTRLc at once: enable and range stay as in `old` until they are applied (R135). -/
def ctrlAtOnce (old v : Word) : Word := setBits (setBits v 0 0 (bits old 0 0)) 2 2 (bits old 2 2)

theorem bits_ctrlAtOnce_mode (old v : Word) : bits (ctrlAtOnce old v) 1 1 = bits v 1 1 := by
  rw [ctrlAtOnce, bits_setBits_other _ 1 1 2 2 _ (by omega) (by omega) (by omega) (by omega),
    bits_setBits_other _ 1 1 0 0 _ (by omega) (by omega) (by omega) (by omega)]

/-- The word `v` written over `old` is queued on channel `c` for the next window boundary (R135). -/
def Dev.queueCtrl (d : Dev) (c : Nat) (old v : Word) : Dev :=
  (if bits old 3 3 = 1 ∧ bits v 3 3 = 0 then d.ambientOff c else d).onCh c (fun q => { q with pend := mput q.pend (R.RFE_CTRL c) v })

/-- What queueing the word leaves of the channel, where nothing else is queued. -/
theorem Dev.queueCtrl_spec (d : Dev) (c : Nat) (old v : Word) (h : (d.ch c).pend = []) :
    ((d.queueCtrl c old v).ch c).pend = [(R.RFE_CTRL c, v)] ∧
      KeepsMode c d ((d.queueCtrl c old v).onCh c (fun q => { q with pend := [] })) := by
  have hamb : KeepsMode c d (if bits old 3 3 = 1 ∧ bits v 3 3 = 0 then d.ambientOff c else d) := .ite (d.ambientOff_keepsMode c)
  refine ⟨?_, hamb.now, hamb.shadow, hamb.flg, ?_, hamb.ctrl, hamb.rejected, fun hs => ?_⟩
  · simp [Dev.queueCtrl, hamb.pend, h, mput]
  · simp [h]
  · obtain ⟨hfrom, hbit⟩ := hamb.settles hs
    exact ⟨by simpa [Dev.queueCtrl] using hfrom, hbit⟩

theorem rfeCtrl_mod (c : Nat) : R.RFE_CTRL c % 64 = 0 := by simp only [R.RFE_CTRL]; omega

/-- A changed mode of `v` is taken: it is in force, the channel settles, and the rest of the word is queued (R136). -/
def Dev.takeMode (d : Dev) (c : Nat) (v : Word) : Dev :=
  ((((d.setReg (R.RFE_CTRL c) (ctrlAtOnce (d.reg (R.RFE_CTRL c)) v)).startSettle c d.now).setBit (R.RFE_STATUS c) 3 true)).queueCtrl
    c (d.reg (R.RFE_CTRL c)) v

/-- A changed mode is refused: cfg_rej is set, and the word `v`, which has the former mode, is queued (R136). -/
def Dev.refuseMode (d : Dev) (c : Nat) (v : Word) : Dev :=
  ((d.setBit (R.RFE_STATUS c) 18 true).setReg (R.RFE_CTRL c) (ctrlAtOnce (d.reg (R.RFE_CTRL c)) v)).queueCtrl
    c (d.reg (R.RFE_CTRL c)) v

/-- The word a refused write of `v` leaves: the mode of `old`, the other writable bits of `v` (R136). -/
def ctrlRefused (old v : Word) : Word := setBits (v &&& 0x1F1F#32) 1 1 (bits old 1 1)

theorem bits_ctrlRefused_mode (old v : Word) : bits (ctrlRefused old v) 1 1 = bits old 1 1 :=
  bits_setBits_same_bit _ old 1 (by omega)

@[simp] theorem Dev.queueCtrl_top (d : Dev) (c : Nat) (old v : Word) : (d.queueCtrl c old v).top = d.top := by
  unfold Dev.queueCtrl; split <;> rfl

theorem ctrlMask_mode_changes {d : Dev} {c : Nat} {v : Word} (hm : bits v 1 1 ≠ d.fld (R.RFE_CTRL c) 1 1) :
    (bits (v &&& 0x1F1F#32) 1 1 != bits (d.reg (R.RFE_CTRL c)) 1 1) = true := by
  rw [bits_ctrlMask_mode]; exact bne_iff_ne.2 hm

/-- Outside RANGING a write that changes the mode is taken, and the queued word comes into force at once. -/
theorem Dev.rfeWrite_takeMode (d : Dev) (c : Nat) (v : Word) (hr : d.ranging = false)
    (hm : bits v 1 1 ≠ d.fld (R.RFE_CTRL c) 1 1) :
    d.rfeWrite c (R.RFE_CTRL c) v = (d.takeMode c (v &&& 0x1F1F#32)).applyCh c := by
  have hr' : (d.takeMode c (v &&& 0x1F1F#32)).ranging = false := by simpa [Dev.takeMode, Dev.ranging, Dev.startSettle] using hr
  simp only [Dev.rfeWrite, rfeCtrl_mod, hr, ctrlMask_mode_changes hm, Bool.and_false, Bool.not_false, Bool.and_true, if_true,
    Bool.false_eq_true, if_false]
  exact if_neg (fun h => Bool.false_ne_true (hr'.symm.trans (Bool.and_eq_true_iff.1 h).1))

/-- In RANGING a write that changes the mode is refused, and the queued word waits or comes into force. -/
theorem Dev.rfeWrite_refuseMode (d : Dev) (c : Nat) (v : Word) (hr : d.ranging = true)
    (hm : bits v 1 1 ≠ d.fld (R.RFE_CTRL c) 1 1) :
    d.rfeWrite c (R.RFE_CTRL c) v = d.refuseMode c (ctrlRefused (d.reg (R.RFE_CTRL c)) v) ∨
      d.rfeWrite c (R.RFE_CTRL c) v = (d.refuseMode c (ctrlRefused (d.reg (R.RFE_CTRL c)) v)).applyCh c := by
  simp only [Dev.rfeWrite, rfeCtrl_mod, hr, ctrlMask_mode_changes hm, Bool.not_true, Bool.and_false, Bool.and_true, if_true,
    Bool.false_eq_true, if_false]
  exact ite_eq_or_eq _ _ _

/-- Where the RFE_CTRL word `w` alone is queued, it comes into force; nothing waits any more, and cfg_rej, the log and a settle
from the present tick stay. -/
theorem Dev.applyCh_ctrl (d : Dev) {c : Nat} (hc : c < 256) (w : Word) (h : (d.ch c).pend = [(R.RFE_CTRL c, w)]) :
    (d.applyCh c).reg (R.RFE_CTRL c) = w ∧
      KeepsMode c ((d.onCh c (fun q => { q with pend := [] })).setReg (R.RFE_CTRL c) w) (d.applyCh c) := by
  have hkeep := d.applyCh_keepsMode hc
  rw [d.loadPend_ctrl c w h] at hkeep
  exact ⟨hkeep.ctrl.trans (Dev.reg_setReg_self _ _ w), hkeep⟩

theorem Dev.SettlesNow.setCtrl {d : Dev} {c : Nat} (h : d.SettlesNow c) (w : Word) : (d.setReg (R.RFE_CTRL c) w).SettlesNow c :=
  ⟨h.1, (d.rbit_setReg_ne _ _ 3 w (rfeCtrl_ne_status c).symm).trans h.2⟩

/-- A write that changes the mode outside RANGING: the mode is in force and the channel settles (R136). -/
theorem Dev.rfeWrite_mode_accepted (d : Dev) {c : Nat} (hc : c < 256) (v : Word) (hp : (d.ch c).pend = [])
    (hr : d.ranging = false) (hm : bits v 1 1 ≠ d.fld (R.RFE_CTRL c) 1 1) :
    let d' := d.rfeWrite c (R.RFE_CTRL c) v
    d'.fld (R.RFE_CTRL c) 1 1 = bits v 1 1 ∧ d'.SettlesNow c ∧ d'.now = d.now ∧ d'.flg = d.flg := by
  have hsettle := (d.setReg (R.RFE_CTRL c) (ctrlAtOnce (d.reg (R.RFE_CTRL c)) (v &&& 0x1F1F#32))).startSettle_settlesNow c
  obtain ⟨hq, hqueue⟩ := Dev.queueCtrl_spec _ c (d.reg (R.RFE_CTRL c)) (v &&& 0x1F1F#32)
    ((Dev.startSettle_keepsMode (d.setReg (R.RFE_CTRL c) (ctrlAtOnce (d.reg (R.RFE_CTRL c)) (v &&& 0x1F1F#32))) c).pend.trans hp)
  obtain ⟨hctrl, happly⟩ := (d.takeMode c (v &&& 0x1F1F#32)).applyCh_ctrl hc _ hq
  rw [d.rfeWrite_takeMode c v hr hm]
  refine ⟨?_, happly.settles ((hqueue.settles hsettle).setCtrl _), happly.now.trans hqueue.now, happly.flg.trans hqueue.flg⟩
  rw [Dev.fld, hctrl, bits_ctrlMask_mode]

/-- What a read shows of RFE_CTRLc: the queued word where one waits, else the one in force (R423). -/
theorem Dev.shown_rfeCtrl (d : Dev) {c : Nat} (_ : c < 256) (hs : mget d.shadow (R.RFE_CTRL c) = none) :
    d.shown (R.RFE_CTRL c) = (mget (d.ch c).pend (R.RFE_CTRL c)).getD (d.reg (R.RFE_CTRL c)) := by
  have hin : 0x80000 ≤ R.RFE_CTRL c ∧ R.RFE_CTRL c < 0x84000 := by simp only [R.RFE_CTRL]; omega
  have hidx : (R.RFE_CTRL c - 0x80000) / 64 = c := by simp only [R.RFE_CTRL]; omega
  have hpend : d.pendingAt (R.RFE_CTRL c) = mget (d.ch c).pend (R.RFE_CTRL c) := by
    simp only [Dev.pendingAt, hs, Option.isSome_none, Bool.false_eq_true, if_false, if_pos hin, hidx, Dev.ch]
  have htap : ¬ (0x220100 ≤ R.RFE_CTRL c ∧ R.RFE_CTRL c < 0x220500 ∧ R.RFE_CTRL c % 0x80 = 0) := by omega
  rw [Dev.shown, hpend]
  cases mget (d.ch c).pend (R.RFE_CTRL c) with
  | none => rfl
  | some w => exact if_neg htap

/-- A write that changes the mode in RANGING: the mode stays, in force and as read, and cfg_rej is set (R136). -/
theorem Dev.rfeWrite_mode_ignored (d : Dev) {c : Nat} (hc : c < 256) (v : Word) (hp : (d.ch c).pend = [])
    (hs : mget d.shadow (R.RFE_CTRL c) = none) (hr : d.ranging = true) (hm : bits v 1 1 ≠ d.fld (R.RFE_CTRL c) 1 1) :
    let d' := d.rfeWrite c (R.RFE_CTRL c) v
    d'.fld (R.RFE_CTRL c) 1 1 = d.fld (R.RFE_CTRL c) 1 1 ∧ bits (d'.shown (R.RFE_CTRL c)) 1 1 = d.fld (R.RFE_CTRL c) 1 1 ∧
      d'.rbit (R.RFE_STATUS c) 18 = true ∧ d'.flg = d.flg := by
  have hmode := bits_ctrlRefused_mode (d.reg (R.RFE_CTRL c)) v
  generalize hw : ctrlRefused (d.reg (R.RFE_CTRL c)) v = w at hmode
  obtain ⟨hq, hqueue⟩ := Dev.queueCtrl_spec
    ((d.setBit (R.RFE_STATUS c) 18 true).setReg (R.RFE_CTRL c) (ctrlAtOnce (d.reg (R.RFE_CTRL c)) w)) c (d.reg (R.RFE_CTRL c)) w (by simpa using hp)
  have hrej : (d.refuseMode c w).rbit (R.RFE_STATUS c) 18 = true :=
    hqueue.rejected.trans ((Dev.rbit_setReg_ne _ _ _ 18 _ (rfeCtrl_ne_status c).symm).trans
      (Dev.rbit_setBit_self d _ 18 true (by omega)))
  have hflg : (d.refuseMode c w).flg = d.flg := hqueue.flg.trans (by simp)
  have hshadow : mget (d.refuseMode c w).shadow (R.RFE_CTRL c) = none := by
    rwa [show (d.refuseMode c w).shadow = d.shadow from hqueue.shadow.trans (by simp)]
  cases d.rfeWrite_refuseMode c v hr hm with
  | inl hwait =>
    have hctrl : (d.refuseMode c w).reg (R.RFE_CTRL c) = ctrlAtOnce (d.reg (R.RFE_CTRL c)) w :=
      hqueue.ctrl.trans (Dev.reg_setReg_self _ _ _)
    have hshown : (d.refuseMode c w).shown (R.RFE_CTRL c) = w := by
      rw [Dev.shown_rfeCtrl _ hc hshadow, Dev.refuseMode, hq]; simp [mget]
    rw [hwait, hw]
    refine ⟨?_, ?_, hrej, hflg⟩
    · rw [Dev.fld, hctrl, bits_ctrlAtOnce_mode, hmode, Dev.fld]
    · rw [hshown, hmode, Dev.fld]
  | inr hnow =>
    obtain ⟨hctrl, happly⟩ := (d.refuseMode c w).applyCh_ctrl hc w hq
    have hshown : ((d.refuseMode c w).applyCh c).shown (R.RFE_CTRL c) = w := by
      rw [Dev.shown_rfeCtrl _ hc (by rwa [happly.shadow]), happly.pend, hctrl]
      simp [mget]
    rw [hnow, hw]
    refine ⟨?_, ?_, ?_, happly.flg.trans hflg⟩
    · rw [Dev.fld, hctrl, hmode, Dev.fld]
    · rw [hshown, hmode, Dev.fld]
    · exact happly.rejected.trans ((Dev.rbit_setReg_ne _ _ _ 18 _ (rfeCtrl_ne_status c).symm).trans hrej)

/-! The management access around the write (R414, R423). -/

/-- The device at tick `t`, once it has counted and journaled a write of `v` to RFE_CTRLc by `src`. -/
def Dev.ctrlJournaled (d : Dev) (src t c : Nat) (v : Word) : Dev :=
  let d := (d.advanceTo t).incSat (R.MGT_CNT_WR src) 31 0 1
  d.journal src (R.RFE_CTRL c) (d.shown (R.RFE_CTRL c)) v false false

theorem Dev.ctrlJournaled_reg (d : Dev) (src t : Nat) {c : Nat} (hc : c < 256) (v : Word) :
    (d.ctrlJournaled src t c v).reg (R.RFE_CTRL c) = d.reg (R.RFE_CTRL c) :=
  (Dev.reg_setFld_ne _ _ _ 31 0 _ (rfeCtrl_ne_cntWr hc src)).trans (d.advanceTo_reg t _)

theorem Dev.ctrlJournaled_ch (d : Dev) (src t c : Nat) (v : Word) : (d.ctrlJournaled src t c v).ch c = d.ch c := by
  simp [Dev.ch, Dev.ctrlJournaled]

/-- Outside RESET and HEADFRAME the write is counted and journaled, takes effect and is answered with status 0. -/
theorem exec_rfeModeWrite_taken (s : State) (src t c : Nat) (v : Word) (ha : s.dev.alive = true)
    (hs : s.dev.top.state ≠ .headframe) :
    exec (.rfeModeWrite src t c v) s =
      .next { s with dev := ((s.dev.ctrlJournaled src t c v).rfeWrite c (R.RFE_CTRL c) v).respond src 0 } := by
  have hexec : exec (.rfeModeWrite src t c v) s = execRfeModeWrite src t c v s := rfl
  rw [hexec, execRfeModeWrite, State.atTick_alive s t _ ha, Dev.regWrite_taken _ _ _ _ _ (by simpa using ha) (by simpa using hs)]
  rfl

/-- A journaled write that leaves the journal as it found it, answered with status 0, is a write taken. -/
theorem writeTaken_ctrl (s : State) (src t c : Nat) (v : Word) (d : Dev) (h : d.flg = (s.dev.ctrlJournaled src t c v).flg) :
    writeTaken src s { s with dev := d.respond src 0 } := by
  refine ⟨?_, ?_, rfl, rfl, rfl, rfl⟩
  · have hseq : (d.respond src 0).flg = d.flg := rfl
    simp [hseq, h, Dev.ctrlJournaled]
  · simp [Dev.respond, Dev.req, Dev.onReq]

/-- Settles O60: outside RANGING the settle begins with the write and survives all that comes into force with it; in RANGING
the queued word itself carries the former mode, whether it waits or is applied. -/
theorem frontEndModeRule : Obligations.FrontEndModeRule := by
  unfold Obligations.FrontEndModeRule
  constructor
  case left =>
    intro s src t c v ha hhead hrng hc hp _ hm
    have hr : (s.dev.ctrlJournaled src t c v).ranging = false := by simpa [Dev.ranging, Dev.ctrlJournaled] using hrng
    obtain ⟨hmode, ⟨hfrom, hbit⟩, hnow, hflg⟩ := (s.dev.ctrlJournaled src t c v).rfeWrite_mode_accepted hc v
      (by rwa [Dev.ctrlJournaled_ch]) hr (by rwa [Dev.fld, Dev.ctrlJournaled_reg _ _ _ hc])
    exact ⟨_, exec_rfeModeWrite_taken s src t c v ha hhead, hmode, hfrom.trans (congrArg some hnow), hbit,
      writeTaken_ctrl s src t c v _ hflg⟩
  case right =>
    intro s src t c v ha hrng hc hp hs hm
    have hr : (s.dev.ctrlJournaled src t c v).ranging = true := by simpa [Dev.ranging, Dev.ctrlJournaled] using hrng
    have hfld : (s.dev.ctrlJournaled src t c v).fld (R.RFE_CTRL c) 1 1 = s.dev.fld (R.RFE_CTRL c) 1 1 :=
      congrArg (bits · 1 1) (s.dev.ctrlJournaled_reg src t hc v)
    obtain ⟨hmode, hshown, hrej, hflg⟩ := (s.dev.ctrlJournaled src t c v).rfeWrite_mode_ignored hc v
      (by rwa [Dev.ctrlJournaled_ch]) (by simpa [Dev.ctrlJournaled] using hs) hr (by rwa [hfld])
    exact ⟨_, exec_rfeModeWrite_taken s src t c v ha (by simp [hrng]), hmode.trans hfld, hshown.trans hfld, hrej,
      writeTaken_ctrl s src t c v _ hflg⟩

end Sys2Proof.Machine
end

section
/-! PROOF. Unmapped accesses of a core (R200). An access outside the ranges of Table 10-1 only sets STATUS.BUS and, when BUS was
clear, logs 0x0C04; the rest of the instruction updates pointers and delays the value 0 of a load. The core then issues as for any
instruction that stands in D with nothing in flight (R210 to R212). -/
namespace Sys2Proof.Machine

/-! The register set in use, and a core's place in the device. -/

@[simp] theorem Core.cur_onCur (c : Core) (h : RegSet → RegSet) : (c.onCur h).cur = h c.cur := by
  unfold Core.onCur Core.cur; split <;> simp [*]

/-- A change that leaves the set in use as it is leaves the core as it is. -/
theorem Core.onCur_of_cur_eq (c : Core) (h : RegSet → RegSet) (hcur : h c.cur = c.cur) : c.onCur h = c := by
  unfold Core.onCur
  unfold Core.cur at hcur
  split
  · next hin => rw [if_pos hin] at hcur; rw [hcur]
  · next hout => rw [if_neg hout] at hcur; rw [hcur]

theorem Issue.onC_onCur_self (x : Issue) : x.onC (fun c => c.onCur (fun r => r)) = x := by
  simp only [Issue.onC, Core.onCur_of_cur_eq x.c (fun r => r) rfl]

@[simp] theorem Core.onCur_div (c : Core) (h : RegSet → RegSet) : (c.onCur h).div = c.div := by unfold Core.onCur; split <;> rfl
@[simp] theorem Core.onCur_delayed (c : Core) (h : RegSet → RegSet) : (c.onCur h).delayed = c.delayed := by
  unfold Core.onCur; split <;> rfl
@[simp] theorem Core.onCur_slots (c : Core) (h : RegSet → RegSet) : (c.onCur h).slots = c.slots := by
  unfold Core.onCur; split <;> rfl
@[simp] theorem Core.onCur_removed (c : Core) (h : RegSet → RegSet) : (c.onCur h).removed = c.removed := by
  unfold Core.onCur; split <;> rfl
@[simp] theorem Core.onCur_sticky (c : Core) (h : RegSet → RegSet) : (c.onCur h).sticky = c.sticky := by
  unfold Core.onCur; split <;> rfl
@[simp] theorem Core.onCur_pc (c : Core) (h : RegSet → RegSet) : (c.onCur h).pc = c.pc := by unfold Core.onCur; split <;> rfl

@[simp] theorem Dev.core_onCore_self (d : Dev) (k : Nat) (f : Core → Core) : (d.onCore k f).core k = f (d.core k) :=
  mgetD_mput_self d.asy.cores k (f (d.core k)) {}
@[simp] theorem Dev.onCore_flg (d : Dev) (k : Nat) (f : Core → Core) : (d.onCore k f).flg = d.flg := (rfl)

/-- A core rests on the state of the assay cluster alone. -/
theorem Dev.core_of_asy {d d' : Dev} (h : d'.asy = d.asy) (k : Nat) : d'.core k = d.core k := by simp [Dev.core, h]

@[simp] theorem Dev.core_advanceTo (d : Dev) (t k : Nat) : (d.advanceTo t).core k = d.core k := Dev.core_of_asy (by simp) k
@[simp] theorem Dev.core_setReg (d : Dev) (a k : Nat) (v : Word) : (d.setReg a v).core k = d.core k := (rfl)
@[simp] theorem Dev.core_coreReport (d : Dev) (k j : Nat) : (d.coreReport k).core j = d.core j := (rfl)
@[simp] theorem Dev.coreReport_flg (d : Dev) (k : Nat) : (d.coreReport k).flg = d.flg := (rfl)

/-! An access to an unmapped address (R200). -/

theorem Dev.logFault_asy (d : Dev) (code : Nat) (cls : FClass) (a r : Bool) : (d.logFault code cls a r).asy = d.asy := by
  unfold Dev.logFault
  simp only []
  split
  · rfl
  · split
    · rfl
    · split <;> simp

/-- A class N fault of a core is an entry of the log and its cause in ASY_STATUSk. -/
theorem Dev.coreFault_n (d : Dev) (k code : Nat) :
    d.coreFault k code .n = (d.setFld (R.ASY_STATUS k) 31 24 (code % 256)).logFault code .n := by
  rw [Dev.coreFault, Dev.raise_n]

/-- A class N fault of a core changes no core. -/
theorem Dev.core_coreFault_n (d : Dev) (k code j : Nat) : (d.coreFault k code .n).core j = d.core j :=
  Dev.core_of_asy (by rw [Dev.coreFault_n, Dev.logFault_asy, Dev.setFld_asy]) j

/-- What is logged, and what can be, rests on the fault log alone. -/
theorem Dev.logged_of_flg {d d' : Dev} (h : d'.flg = d.flg) (code : Nat) : d'.logged code = d.logged code := by
  rw [Dev.logged, Dev.logged, h]

theorem Dev.faultRoom_of_flg {d d' : Dev} (h : d'.flg = d.flg) (code : Nat) : d'.faultRoom code = d.faultRoom code := by
  rw [Dev.faultRoom, Dev.faultRoom, Dev.logged_of_flg h, h]

/-- A class N fault of a core is logged where the log has room. -/
theorem Dev.coreFault_n_logged (d : Dev) (k code : Nat) (h : d.faultRoom code = true) : (d.coreFault k code .n).logged code = true := by
  rw [Dev.coreFault_n]
  exact Dev.logFault_logged _ code .n false false (by rwa [Dev.faultRoom_of_flg (Dev.setFld_flg ..)])

/-- The device after an unmapped access of the instruction `x`: 0x0C04 is logged when STATUS.BUS was clear. -/
def Issue.busDev (x : Issue) : Dev :=
  if x.c.sticky.testBit 5 then x.s.dev else (x.s.dev.onCore x.k (fun _ => x.c.stick true 5)).coreFault x.k 0x0C04 .n

theorem Issue.busDev_logged (x : Issue) (hb : x.c.sticky.testBit 5 = false) (hr : x.s.dev.faultRoom 0x0C04 = true) :
    x.busDev.logged 0x0C04 = true := by
  rw [Issue.busDev, if_neg (by simp [hb])]
  exact Dev.coreFault_n_logged _ _ _ hr

theorem Issue.busDev_again (x : Issue) (hb : x.c.sticky.testBit 5 = true) : x.busDev = x.s.dev := if_pos hb

/-- An unmapped access does nothing but set STATUS.BUS and log its fault. -/
theorem Issue.bus_eq (x : Issue) : x.bus = { x with s := { x.s with dev := x.busDev }, c := x.c.stick true 5 } := by
  cases hb : x.c.sticky.testBit 5 with
  | true => simp [Issue.bus, Issue.busDev, Issue.sticky, Issue.onC, Core.stick, hb]
  | false => simp [Issue.bus, Issue.busDev, Issue.sticky, Issue.onC, Issue.sync, Core.stick, hb, Dev.core_coreFault_n]

@[simp] theorem Core.stick_bus_testBit (c : Core) : (c.stick true 5).sticky.testBit 5 = true := by
  rw [Core.stick, if_pos rfl, Nat.testBit_or, Nat.testBit_two_pow_self, Bool.or_true]

@[simp] theorem Core.cur_stick (c : Core) (b : Bool) (i : Nat) : (c.stick b i).cur = c.cur := by
  unfold Core.stick; split <;> rfl

/-- While STATUS.BUS is set, an unmapped access changes nothing. -/
theorem Issue.bus_of_set (x : Issue) (hb : x.c.sticky.testBit 5 = true) : x.bus = x := by
  have hor : x.c.sticky ||| 2 ^ 5 = x.c.sticky := by
    apply Nat.eq_of_testBit_eq
    intro i
    by_cases hi : i = 5
    · rw [hi, Nat.testBit_or, hb, Bool.true_or]
    · rw [Nat.testBit_or, Nat.testBit_two_pow_of_ne (Ne.symm hi), Bool.or_false]
  rw [Issue.bus_eq, Issue.busDev_again x hb, Core.stick, if_pos rfl, hor]

/-- An address of the U bus, or of the V bus (`v`), that no memory and no core I/O answers (Table 10-1). -/
def unmappedAddr (v : Bool) (a : Nat) : Prop :=
  0x4000 ≤ a ∧ (v = false → (a < 0x40000 ∨ 0x80000 ≤ a) ∧ (a < 0xFF000 ∨ 0xFF040 ≤ a))

theorem unmappedAddr_u {a : Nat} (h : 0x4000 ≤ a) (hc : a < 0x40000 ∨ 0x80000 ≤ a) (hio : a < 0xFF000 ∨ 0xFF040 ≤ a) :
    unmappedAddr false a := ⟨h, fun _ => ⟨hc, hio⟩⟩

theorem unmappedAddr_v {a : Nat} (h : 0x4000 ≤ a) : unmappedAddr true a := ⟨h, fun hv => nomatch hv⟩

theorem Issue.memAddr_unmapped (x : Issue) {v : Bool} {a : Nat} (h : unmappedAddr v a) : x.memAddr v a = none := by
  obtain ⟨hlow, hu⟩ := h
  cases v with
  | true => simp [Issue.memAddr, Nat.not_lt.mpr hlow]
  | false =>
    have hcluster : ¬ (0x40000 ≤ a ∧ a < 0x80000) := by have := (hu rfl).1; omega
    simp [Issue.memAddr, Nat.not_lt.mpr hlow, hcluster]

/-- No core I/O answers an unmapped address. -/
theorem coreIo_unmapped {v : Bool} {a : Nat} (h : unmappedAddr v a) : (!v && decide (0xFF000 ≤ a ∧ a < 0xFF040)) = false := by
  obtain ⟨-, hu⟩ := h
  cases v with
  | true => rfl
  | false =>
    have hio : ¬ (0xFF000 ≤ a ∧ a < 0xFF040) := by have := (hu rfl).2; omega
    simp [hio]

theorem Issue.load_unmapped (x : Issue) {v : Bool} {a : Nat} (h : unmappedAddr v a) : x.load v a = (x.bus, 0#32) := by
  simp only [Issue.load, x.memAddr_unmapped h, coreIo_unmapped h, Bool.false_eq_true, if_false]
  rfl

theorem Issue.store_unmapped (x : Issue) {v : Bool} {a : Nat} (val : Word) (h : unmappedAddr v a) : x.store v a val = x.bus := by
  simp only [Issue.store, x.memAddr_unmapped h, coreIo_unmapped h, Bool.false_eq_true, if_false]

/-! Pointers (R207). -/

@[simp] theorem RegSet.postMod_loops (r : RegSet) (i : Nat) (m : Int) : (r.postMod i m).loops = r.loops := (rfl)

@[simp] theorem RegSet.afterAddr_loops (r : RegSet) (w : Nat) (v : Bool) : (r.afterAddr w v).loops = r.loops := by
  unfold RegSet.afterAddr; simp only []; split <;> rfl

/-- The address another pointer gives does not move with a post-modify. -/
theorem RegSet.addrOf_postMod_ne (r : RegSet) (i j : Nat) (m : Int) (h : i ≠ j) : (r.postMod i m).addrOf j = r.addrOf j := by
  simp only [RegSet.addrOf, RegSet.postMod, List.getD_eq_getElem?_getD, List.getElem?_set_ne h]

/-- A load or store of format I forms its address and post-modifies its pointer (Table 10-10). -/
theorem Issue.memOperand_eq (x : Issue) (v : Bool) :
    x.memOperand v = (x.c.cur.busAddr x.w v, x.onC (fun c => c.onCur (fun r => r.afterAddr x.w v))) := by
  unfold Issue.memOperand RegSet.busAddr RegSet.afterAddr Issue.f
  have hlt : fieldOf x.w 17 16 < 4 := Nat.mod_lt _ (by decide)
  generalize fieldOf x.w 17 16 = am at hlt ⊢
  match am, hlt with
  | 0, _ => simp only [x.onC_onCur_self]
  | 1, _ => rfl
  | 2, _ => rfl
  | 3, _ => simp only [x.onC_onCur_self]

/-! What an instruction with unmapped accesses only does. -/

/-- From `x` to `x'` an instruction makes unmapped accesses only: it changes pointers of the set in use, delays the results
`L`, sets STATUS.BUS, and logs 0x0C04 when BUS was clear (R200). -/
structure Issue.Unmapped (x x' : Issue) (L : List (Dest × Word)) : Prop where
  writes : x'.writes = x.writes
  late : x'.late.map (fun v => (v.dest, v.value)) = x.late.map (fun v => (v.dest, v.value)) ++ L
  core : ∃ f : RegSet → RegSet, (∀ r, (f r).loops = r.loops) ∧ x'.c = (x.c.onCur f).stick true 5
  mem : sameMemory x.s x'.s
  logged : x.c.sticky.testBit 5 = false → x.s.dev.faultRoom 0x0C04 = true → x'.s.dev.logged 0x0C04 = true
  again : x.c.sticky.testBit 5 = true → x'.s.dev = x.s.dev

namespace Issue.Unmapped
variable {x x' : Issue} {L : List (Dest × Word)}

/-- A pointer update and then an unmapped access. -/
theorem access (x : Issue) {f : RegSet → RegSet} (hf : ∀ r, (f r).loops = r.loops) :
    Unmapped x (x.onC (fun c => c.onCur f)).bus [] := by
  have hs : (x.onC (fun c => c.onCur f)).c.sticky = x.c.sticky := x.c.onCur_sticky f
  rw [Issue.bus_eq]
  exact {
    writes := rfl
    late := (List.append_nil _).symm
    core := ⟨f, hf, rfl⟩
    mem := ⟨rfl, rfl, rfl, rfl⟩
    logged := fun hb hr => Issue.busDev_logged _ (by rwa [hs]) hr
    again := fun hb => Issue.busDev_again _ (by rwa [hs]) }

theorem bus_self (x : Issue) : Unmapped x x.bus [] := by
  simpa only [x.onC_onCur_self] using access x (f := fun r => r) (fun _ => rfl)

theorem putLate (h : Unmapped x x' L) (n : Nat) (v : Word) : Unmapped x (x'.putLate n v) (L ++ [(.gen n, v)]) where
  writes := h.writes
  late := by simp [Issue.putLate, h.late]
  core := h.core
  mem := h.mem
  logged := h.logged
  again := h.again

/-- A pointer update after the access. -/
theorem onCur (h : Unmapped x x' L) {g : RegSet → RegSet} (hg : ∀ r, (g r).loops = r.loops) :
    Unmapped x (x'.onC (fun c => c.onCur g)) L where
  writes := h.writes
  late := h.late
  core := by
    obtain ⟨f, hf, hc⟩ := h.core
    refine ⟨g ∘ f, fun r => (hg _).trans (hf r), ?_⟩
    simp only [Issue.onC, hc, Core.stick, Core.onCur, Function.comp_apply, if_true]
    split <;> simp_all
  mem := h.mem
  logged := h.logged
  again := h.again

theorem bus_set (h : Unmapped x x' L) : x'.c.sticky.testBit 5 = true := by
  obtain ⟨f, -, hc⟩ := h.core
  rw [hc, Core.stick_bus_testBit]

/-- One more unmapped access. -/
theorem bus (h : Unmapped x x' L) : Unmapped x x'.bus L := by rwa [x'.bus_of_set h.bus_set]

end Issue.Unmapped

theorem Issue.loadOp_unmapped (x : Issue) {v : Bool} (h : unmappedAddr v (x.c.cur.busAddr x.w v)) :
    x.Unmapped (x.loadOp v) [(.gen (fieldOf x.w 25 22), 0#32)] := by
  have heq : x.loadOp v = (x.onC (fun c => c.onCur (fun r => r.afterAddr x.w v))).bus.putLate (fieldOf x.w 25 22) 0#32 := by
    rw [Issue.loadOp, Issue.memOperand_eq]
    simp only [Issue.load_unmapped _ h, Issue.bus_eq]
    rfl
  rw [heq]
  exact (Unmapped.access x (fun r => r.afterAddr_loops x.w v)).putLate _ _

theorem Issue.storeOp_unmapped (x : Issue) {v : Bool} (h : unmappedAddr v (x.c.cur.busAddr x.w v)) :
    x.Unmapped (x.storeOp v) [] := by
  rw [Issue.storeOp, Issue.memOperand_eq]
  simp only [Issue.store_unmapped _ _ h]
  exact Unmapped.access x (fun r => r.afterAddr_loops x.w v)

/-- One parallel load of a format M instruction, by pointer `i` into register G `dst` (R213). -/
def Issue.parallelLoad (x : Issue) (v : Bool) (i mode dst : Nat) : Issue :=
  ((x.load v (x.c.cur.addrOf i)).1.onC (fun c => c.onCur (fun r => r.postMod i (r.modStep i mode)))).putLate dst
    (x.load v (x.c.cur.addrOf i)).2

/-- PLD: the load of the U bus, then the one of the V bus. -/
theorem Issue.pld_eq (x : Issue) :
    x.pld =
      let y := if x.f 18 18 = 1 then x.parallelLoad false (x.f 17 16) (x.f 15 14) (x.f 13 11) else x
      if y.f 10 10 = 1 then y.parallelLoad true (4 + y.f 9 8) (y.f 7 6) (8 + y.f 5 3) else y := (rfl)

theorem Issue.parallelLoad_unmapped (x : Issue) {v : Bool} {i : Nat} (mode dst : Nat) (h : unmappedAddr v (x.c.cur.addrOf i)) :
    x.parallelLoad v i mode dst = (x.bus.onC (fun c => c.onCur (fun r => r.postMod i (r.modStep i mode)))).putLate dst 0#32 := by
  rw [Issue.parallelLoad, x.load_unmapped h]

/-- Both parallel loads unmapped: they use different pointers, so the address of the second is that of before. -/
theorem Issue.pld_unmapped (x : Issue) (hu : fieldOf x.w 18 18 = 1) (hv : fieldOf x.w 10 10 = 1)
    (ha : unmappedAddr false (x.c.cur.addrOf (fieldOf x.w 17 16)))
    (hb : unmappedAddr true (x.c.cur.addrOf (4 + fieldOf x.w 9 8))) :
    x.Unmapped x.pld [(.gen (fieldOf x.w 13 11), 0#32), (.gen (8 + fieldOf x.w 5 3), 0#32)] := by
  have hloops : ∀ (i mode : Nat) (r : RegSet), (r.postMod i (r.modStep i mode)).loops = r.loops := fun _ _ _ => rfl
  have hne : fieldOf x.w 17 16 ≠ 4 + fieldOf x.w 9 8 := by
    have : fieldOf x.w 17 16 < 4 := Nat.mod_lt _ (by decide)
    omega
  have hword : (x.parallelLoad false (fieldOf x.w 17 16) (fieldOf x.w 15 14) (fieldOf x.w 13 11)).w = x.w := by
    rw [x.parallelLoad_unmapped _ _ ha, Issue.bus_eq]; rfl
  simp only [Issue.pld_eq, Issue.f, hu, if_true, hword, hv]
  rw [x.parallelLoad_unmapped _ _ ha, Issue.parallelLoad_unmapped]
  case h =>
    simpa [Issue.putLate, Issue.onC, Issue.bus_eq, RegSet.addrOf_postMod_ne _ _ _ _ hne] using hb
  exact ((((Unmapped.bus_self x).onCur (hloops _ _)).putLate _ _).bus.onCur (hloops _ _)).putLate _ _

/-! How an instruction issues. -/

/-- Nothing is in flight in the core, and D lies in no delay slot and in no loop. -/
structure Core.Quiet (c : Core) : Prop where
  div : c.div = none
  delayed : c.delayed = []
  slots : c.slots = 0
  loops : c.cur.loops = []
  removed : c.removed = false

theorem Core.Quiet.settleLoops {c : Core} (h : c.Quiet) : c.settleLoops = c :=
  c.onCur_of_cur_eq _ (by rw [h.loops, List.dropWhile_nil, ← h.loops])

theorem Core.seqNext_noLoop (c : Core) (h : c.cur.loops = []) : c.seqNext = { c with pc := (c.pc + 1) % 2 ^ 14 } := by
  simp only [Core.seqNext, h, loopEnd]
  rw [c.onCur_of_cur_eq _ (by rw [← h])]

theorem Issue.Unmapped.pc {x x' : Issue} {L : List (Dest × Word)} (h : x.Unmapped x' L) : x'.c.pc = x.c.pc := by
  obtain ⟨f, -, hc⟩ := h.core
  rw [hc]
  exact Core.onCur_pc _ _

/-- Unmapped accesses leave a quiet core quiet. -/
theorem Issue.Unmapped.quiet {x x' : Issue} {L : List (Dest × Word)} (h : x.Unmapped x' L) (hq : x.c.Quiet) : x'.c.Quiet := by
  obtain ⟨f, hf, hc⟩ := h.core
  rw [hc]
  exact {
    div := (Core.onCur_div _ _).trans hq.div
    delayed := (Core.onCur_delayed _ _).trans hq.delayed
    slots := (Core.onCur_slots _ _).trans hq.slots
    loops := by rw [Core.cur_stick, Core.cur_onCur, hf, hq.loops]
    removed := (Core.onCur_removed _ _).trans hq.removed }

theorem Issue.finish_quiet (x : Issue) (c : Core) (hq : x.c.Quiet) (hw : x.writes = []) :
    x.finish c = { x with c := { x.c with delayed := x.late, oldFlags := c.cur.flags, oldNeg := c.cur.a0.msb }, late := [] } := by
  simp [Issue.finish, hq.div, hq.delayed, hw]

/-- The instruction with word `w` of core `k`, about to run with nothing in error and no stall. -/
def State.issueStart (s : State) (k w : Nat) : Issue :=
  { s := { s with dev := s.dev.drew }, k := k, c := s.dev.core k, w := w, free := s.dev.fresh 32 }

/-- Core `k` after the instruction in D, run from the core `c` to `x`, has issued (R210, R211). -/
def Issue.next (x : Issue) (c : Core) : Core :=
  if (x.finish c).c.removed then (x.finish c).c
  else if (x.finish c).c.slots = 3 then ({ (x.finish c).c with slots := 2 }).seqNext
  else (x.finish c).c.flow c.slots

/-- The state after the instruction in D of core `k`, run from the core `c` to `x`, has issued. -/
def Issue.issued (x : Issue) (k : Nat) (c : Core) : State :=
  let d := (x.finish c).s.dev.onCore k (fun _ => x.next c)
  let d := if !c.inHandler && c.fg.flags.testBit 4 then d.setReg (R.ASY_BG_USED k) (d.reg (R.ASY_BG_USED k) + 1) else d
  { (x.finish c).s with dev := d.coreReport k }

theorem Issue.issued_core (x : Issue) (k : Nat) (c : Core) : (x.issued k c).dev.core k = x.next c := by
  simp only [Issue.issued, Dev.core_coreReport]
  split <;> simp

theorem Issue.issued_flg (x : Issue) (k : Nat) (c : Core) : (x.issued k c).dev.flg = x.s.dev.flg := by
  simp only [Issue.issued, Dev.coreReport_flg]
  split <;> rfl

theorem Issue.issued_mem (x : Issue) (k : Nat) (c : Core) : sameMemory x.s (x.issued k c) := ⟨rfl, rfl, rfl, rfl⟩

/-- With nothing in flight the next address comes to D, and the instruction's own results are what is delayed. -/
theorem Issue.next_quiet (x : Issue) (c : Core) (hc : c.Quiet) (hq : x.c.Quiet) (hw : x.writes = []) :
    x.next c = { x.c with delayed := x.late, oldFlags := c.cur.flags, oldNeg := c.cur.a0.msb, pc := (x.c.pc + 1) % 2 ^ 14 } := by
  simp only [Issue.next, x.finish_quiet c hq hw, hq.removed, hq.slots, hc.slots, Core.flow]
  exact Core.seqNext_noLoop _ hq.loops

theorem State.stands_iff (s : State) (k w : Nat) (op : AsyOp) :
    s.stands k w op = true ↔ s.dev.alive = true ∧ k < 16 ∧ s.coreWord k = w ∧ decodeAsy w = some op ∧ s.dev.canIssue k false = true ∧
      s.fetchPoisoned k = false ∧ (s.dev.core k).waiting = false ∧
      ((s.dev.core k).eligible && (s.dev.core k).nextEvent.isSome) = false ∧ (s.dev.core k).div = none ∧
      (s.dev.core k).delayed = [] ∧ (s.dev.core k).slots = 0 ∧ (s.dev.core k).cur.loops = [] := by
  simp only [State.stands, Bool.and_eq_true, Bool.not_eq_true', decide_eq_true_eq, beq_iff_eq, Option.isNone_iff_eq_none,
    List.isEmpty_iff, and_assoc]

theorem Dev.canIssue_removed {d : Dev} {k : Nat} {step : Bool} (h : d.canIssue k step = true) : (d.core k).removed = false := by
  cases hr : (d.core k).removed with
  | false => rfl
  | true => simp [Dev.canIssue, hr] at h

theorem State.quiet_of_stands {s : State} {k w : Nat} {op : AsyOp} (h : s.stands k w op = true) : (s.dev.core k).Quiet := by
  obtain ⟨-, -, -, -, hissue, -, -, -, hdiv, hdelayed, hslots, hloops⟩ := (s.stands_iff k w op).mp h
  exact ⟨hdiv, hdelayed, hslots, hloops, Dev.canIssue_removed hissue⟩

theorem State.stands_advanceTo {s : State} {k w : Nat} {op : AsyOp} (h : s.stands k w op = true) (t : Nat) :
    ({ s with dev := s.dev.advanceTo t } : State).stands k w op = true := by
  simpa [State.stands, State.coreWord, State.fetchPoisoned, Dev.canIssue, Dev.sliceSpent] using h

/-- What stands in D issues at once. -/
theorem State.issue_of_stands {s : State} {k w : Nat} {op : AsyOp} (h : s.stands k w op = true) (hop : op ≠ .wait) :
    s.issue { core := k } op false = ((s.issueStart k w).run op).issued k (s.dev.core k) := by
  obtain ⟨-, -, hword, hdec, hissue, hpoison, hwait, hevent, -, -, -, -⟩ := (s.stands_iff k w op).mp h
  have hc := State.quiet_of_stands h
  have hplace : (s.dev.core k).badPlace op = false := by simp [Core.badPlace, hc.slots, hc.loops]
  simp only [State.issue, hc.settleLoops, hc.div, hword, hdec, hissue, hpoison, hwait, hevent, hplace, hop, bne_self_eq_false,
    Bool.not_true, Bool.or_false, Bool.false_eq_true, if_false]
  rfl

/-- From `s` to `s'` core `k` has issued an instruction with unmapped accesses only, which delays the results `L` (R200). -/
structure UnmappedIssued (k : Nat) (L : List (Dest × Word)) (s s' : State) : Prop where
  delayed : (s'.dev.core k).delayed.map (fun v => (v.dest, v.value)) = L
  bus : (s'.dev.core k).sticky.testBit 5 = true
  pc : (s'.dev.core k).pc = ((s.dev.core k).pc + 1) % 2 ^ 14
  mem : sameMemory s s'
  logged : (s.dev.core k).sticky.testBit 5 = false → s.dev.faultRoom 0x0C04 = true → s'.dev.logged 0x0C04 = true
  again : (s.dev.core k).sticky.testBit 5 = true → s'.dev.flg = s.dev.flg

theorem sameMemory.trans {s s' s'' : State} (h : sameMemory s s') (h' : sameMemory s' s'') : sameMemory s s'' := by
  obtain ⟨hsram, hdram, hpoison, hback⟩ := h
  obtain ⟨hsram', hdram', hpoison', hback'⟩ := h'
  exact ⟨hsram'.trans hsram, hdram'.trans hdram, hpoison'.trans hpoison, hback'.trans hback⟩

theorem State.issue_unmapped {s : State} {k w : Nat} {op : AsyOp} {L : List (Dest × Word)} (h : s.stands k w op = true)
    (hop : op ≠ .wait) (hrun : (s.issueStart k w).Unmapped ((s.issueStart k w).run op) L) :
    UnmappedIssued k L s (s.issue { core := k } op false) := by
  have hquiet := State.quiet_of_stands h
  rw [State.issue_of_stands h hop]
  generalize (s.issueStart k w).run op = x at hrun
  have hcore : (x.issued k (s.dev.core k)).dev.core k = _ :=
    (x.issued_core k _).trans (x.next_quiet _ hquiet (hrun.quiet hquiet) hrun.writes)
  have hflg := x.issued_flg k (s.dev.core k)
  exact {
    delayed := by rw [hcore]; exact hrun.late
    bus := by rw [hcore]; exact hrun.bus_set
    pc := by rw [hcore, hrun.pc]; rfl
    mem := hrun.mem.trans (x.issued_mem k _)
    logged := fun hb hr => (Dev.logged_of_flg hflg _).trans (hrun.logged hb hr)
    again := fun hb => hflg.trans ((congrArg Dev.flg (hrun.again hb)).trans s.dev.drew_flg) }

/-- The same of the command at tick `t`, for a run that makes unmapped accesses only wherever it starts with the core of `s`. -/
theorem State.issueAt_unmapped {s : State} {k w : Nat} {op : AsyOp} {L : List (Dest × Word)} (h : s.stands k w op = true) (t : Nat)
    (hop : op ≠ .wait) (hrun : ∀ x : Issue, x.c = s.dev.core k → x.w = w → x.Unmapped (x.run op) L) :
    ∃ s', s.issueAt t { core := k } op = .next s' ∧ UnmappedIssued k L s s' := by
  obtain ⟨halive, -⟩ := (s.stands_iff k w op).mp h
  have hi := State.issue_unmapped (State.stands_advanceTo h t) hop (hrun _ (by simp [State.issueStart]) rfl)
  refine ⟨_, State.atTickMem_alive s t _ halive, ?_⟩
  exact {
    delayed := hi.delayed
    bus := hi.bus
    pc := by simpa using hi.pc
    mem := hi.mem
    logged := fun hb hr => hi.logged (by simpa using hb) (by rwa [Dev.faultRoom_of_flg (s.dev.advanceTo_flg t)])
    again := fun hb => (hi.again (by simpa using hb)).trans (s.dev.advanceTo_flg t) }

theorem exec_ldu_unmapped {s : State} {k w : Nat} (h : s.stands k w .ldu = true) (t : Nat)
    (ha : unmappedAddr false ((s.dev.core k).cur.busAddr w false)) :
    ∃ s', exec (.ldu t k 0 0 0) s = .next s' ∧ UnmappedIssued k [(.gen (fieldOf w 25 22), 0#32)] s s' :=
  State.issueAt_unmapped h t (by decide) (by rintro x hc rfl; exact x.loadOp_unmapped (by rwa [hc]))

theorem exec_ldv_unmapped {s : State} {k w : Nat} (h : s.stands k w .ldv = true) (t : Nat)
    (ha : unmappedAddr true ((s.dev.core k).cur.busAddr w true)) :
    ∃ s', exec (.ldv t k 0 0 0) s = .next s' ∧ UnmappedIssued k [(.gen (fieldOf w 25 22), 0#32)] s s' :=
  State.issueAt_unmapped h t (by decide) (by rintro x hc rfl; exact x.loadOp_unmapped (by rwa [hc]))

theorem exec_stu_unmapped {s : State} {k w : Nat} (h : s.stands k w .stu = true) (t : Nat)
    (ha : unmappedAddr false ((s.dev.core k).cur.busAddr w false)) :
    ∃ s', exec (.stu t k 0 0 0) s = .next s' ∧ UnmappedIssued k [] s s' :=
  State.issueAt_unmapped h t (by decide) (by rintro x hc rfl; exact x.storeOp_unmapped (by rwa [hc]))

theorem exec_stv_unmapped {s : State} {k w : Nat} (h : s.stands k w .stv = true) (t : Nat)
    (ha : unmappedAddr true ((s.dev.core k).cur.busAddr w true)) :
    ∃ s', exec (.stv t k 0 0 0) s = .next s' ∧ UnmappedIssued k [] s s' :=
  State.issueAt_unmapped h t (by decide) (by rintro x hc rfl; exact x.storeOp_unmapped (by rwa [hc]))

theorem exec_pld_unmapped {s : State} {k w : Nat} (h : s.stands k w .pld = true) (t : Nat) (hu : fieldOf w 18 18 = 1)
    (hv : fieldOf w 10 10 = 1) (ha : unmappedAddr false ((s.dev.core k).cur.addrOf (fieldOf w 17 16)))
    (hb : unmappedAddr true ((s.dev.core k).cur.addrOf (4 + fieldOf w 9 8))) :
    ∃ s', exec (.pld t k 0 0 0) s = .next s' ∧
      UnmappedIssued k [(.gen (fieldOf w 13 11), 0#32), (.gen (8 + fieldOf w 5 3), 0#32)] s s' :=
  State.issueAt_unmapped h t (by decide) (by rintro x hc rfl; exact x.pld_unmapped hu hv (by rwa [hc]) (by rwa [hc]))

/-- Settles O58: every access of the instruction is the model's `Issue.bus`, which the log sees only while BUS is clear. -/
theorem unmappedAccessRules : Obligations.UnmappedAccessRules := by
  unfold Obligations.UnmappedAccessRules
  refine ⟨?lduUnmapped, ?lduUnmappedAgain, ?ldvUnmapped, ?ldvUnmappedAgain, ?stuUnmapped, ?stuUnmappedAgain, ?stvUnmapped,
    ?stvUnmappedAgain, ?pldUnmapped, ?pldUnmappedAgain⟩
  case lduUnmapped =>
    rintro s t k w _ h rfl hlow hcluster hio hclear hroom
    obtain ⟨s', hexec, hi⟩ := exec_ldu_unmapped h t (unmappedAddr_u hlow hcluster hio)
    exact ⟨s', hexec, hi.delayed, hi.bus, hi.logged hclear hroom, hi.pc, hi.mem⟩
  case lduUnmappedAgain =>
    rintro s t k w _ h rfl hlow hcluster hio hset
    obtain ⟨s', hexec, hi⟩ := exec_ldu_unmapped h t (unmappedAddr_u hlow hcluster hio)
    exact ⟨s', hexec, hi.delayed, hi.bus, hi.again hset, hi.mem⟩
  case ldvUnmapped =>
    rintro s t k w _ h rfl hlow hclear hroom
    obtain ⟨s', hexec, hi⟩ := exec_ldv_unmapped h t (unmappedAddr_v hlow)
    exact ⟨s', hexec, hi.delayed, hi.bus, hi.logged hclear hroom, hi.pc, hi.mem⟩
  case ldvUnmappedAgain =>
    rintro s t k w _ h rfl hlow hset
    obtain ⟨s', hexec, hi⟩ := exec_ldv_unmapped h t (unmappedAddr_v hlow)
    exact ⟨s', hexec, hi.delayed, hi.bus, hi.again hset, hi.mem⟩
  case stuUnmapped =>
    rintro s t k w _ h rfl hlow hcluster hio hclear hroom
    obtain ⟨s', hexec, hi⟩ := exec_stu_unmapped h t (unmappedAddr_u hlow hcluster hio)
    exact ⟨s', hexec, List.map_eq_nil_iff.mp hi.delayed, hi.bus, hi.logged hclear hroom, hi.pc, hi.mem⟩
  case stuUnmappedAgain =>
    rintro s t k w _ h rfl hlow hcluster hio hset
    obtain ⟨s', hexec, hi⟩ := exec_stu_unmapped h t (unmappedAddr_u hlow hcluster hio)
    exact ⟨s', hexec, List.map_eq_nil_iff.mp hi.delayed, hi.bus, hi.again hset, hi.mem⟩
  case stvUnmapped =>
    rintro s t k w _ h rfl hlow hclear hroom
    obtain ⟨s', hexec, hi⟩ := exec_stv_unmapped h t (unmappedAddr_v hlow)
    exact ⟨s', hexec, List.map_eq_nil_iff.mp hi.delayed, hi.bus, hi.logged hclear hroom, hi.pc, hi.mem⟩
  case stvUnmappedAgain =>
    rintro s t k w _ h rfl hlow hset
    obtain ⟨s', hexec, hi⟩ := exec_stv_unmapped h t (unmappedAddr_v hlow)
    exact ⟨s', hexec, List.map_eq_nil_iff.mp hi.delayed, hi.bus, hi.again hset, hi.mem⟩
  case pldUnmapped =>
    rintro s t k w _ _ h hu hv rfl hlow hcluster hio rfl hlowV hclear hroom
    obtain ⟨s', hexec, hi⟩ := exec_pld_unmapped h t hu hv (unmappedAddr_u hlow hcluster hio) (unmappedAddr_v hlowV)
    exact ⟨s', hexec, hi.delayed, hi.bus, hi.logged hclear hroom, hi.mem⟩
  case pldUnmappedAgain =>
    rintro s t k w _ _ h hu hv rfl hlow hcluster hio rfl hlowV hset
    obtain ⟨s', hexec, hi⟩ := exec_pld_unmapped h t hu hv (unmappedAddr_u hlow hcluster hio) (unmappedAddr_v hlowV)
    exact ⟨s', hexec, hi.delayed, hi.bus, hi.again hset, hi.mem⟩

end Sys2Proof.Machine
end

section
/-! PROOF. Steps and the queue, the reset state, and a write that HEADFRAME does not refuse without a trace (R43, R368). -/
namespace Sys2Proof.Machine

/-- Settles O1: `step` is `exec` of the front command by its definition. -/
theorem stepRunsFront : Obligations.StepRunsFront := by
  unfold Obligations.StepRunsFront
  intro c s rest hqueue
  simp [step, hqueue]

/-- Settles O2. -/
theorem stepIdlesWhenEmpty : Obligations.StepIdlesWhenEmpty := by
  unfold Obligations.StepIdlesWhenEmpty
  intro s hqueue
  simp [step, hqueue]

/-- Settles O3: every conjunct is a value of the reset state; its register map is the reset map, with no word listed. -/
theorem resetState : Obligations.ResetState := by
  unfold Obligations.ResetState
  refine ⟨rfl, rfl, ?_, fun _ => rfl, fun _ => rfl, ?_, ?_, ?_, rfl, rfl, rfl, rfl, rfl, rfl, fun _ => rfl⟩ <;> decide

/-- A living device in HEADFRAME that programs a commissioning record. -/
def programmingInHeadframe : State :=
  { dev := { top := { state := .headframe }, clk := { running := true }, cny := { comm := some [] } } }

/-- A refused write of the safety parameters still shows bit 9 of CNY_STATUS. -/
theorem paramWrite_shows_ignored (d : Dev) (src a : Nat) (v : Word) (hcomm : d.cny.comm.isSome = true) :
    (d.paramWrite src a v).rbit R.CNY_STATUS 9 = true := by
  simp [Dev.paramWrite, hcomm, Dev.rbit_setBit_self]

/-- A management write of the working copy, in a living device, is `Dev.paramWrite`. -/
theorem State.mgtWrite_paramBase (s : State) (src : Nat) (v : Word) (o : Outside) (h : s.dev.alive = true) :
    s.mgtWrite src paramBase v o = s.onDev (fun d => d.paramWrite src paramBase v) := by
  simp [State.mgtWrite, h, paramBase, R.TOP_CMD]

/-- Refutes O10: while a record is programmed, a write of the safety parameters takes the ignored path, which shows bit 9 of
CNY_STATUS in HEADFRAME too. -/
theorem not_headframeRefusesWrites : ¬ Obligations.HeadframeRefusesWrites := by
  unfold Obligations.HeadframeRefusesWrites
  intro h
  obtain ⟨s', hexec, -, -, -, -, -, hregs, -⟩ :=
    h programmingInHeadframe 0 0 paramBase 0 {} (by decide) (by decide) (by decide)
  have hshown : s'.dev.rbit R.CNY_STATUS 9 = true := by
    rw [exec, execRegisterWrite, State.atTickMem_alive _ _ _ (by decide), State.mgtWrite_paramBase _ _ _ _ (by decide)] at hexec
    cases hexec
    exact paramWrite_shows_ignored _ _ _ _ (by decide)
  rw [Dev.rbit, Dev.fld, hregs _ (by decide)] at hshown
  exact absurd hshown (by decide)

end Sys2Proof.Machine
end

section
/-! PROOF. How a command acts on a state: on the device, on the memories, by a reset. The statements about every command
that follow from it alone. -/
namespace Sys2Proof.Machine

theorem sameMemory_refl (s : State) : sameMemory s s := ⟨rfl, rfl, rfl, rfl⟩

theorem sameMemory_onDev (s : State) (f : Dev → Dev) : sameMemory s (s.onDev f) := ⟨rfl, rfl, rfl, rfl⟩

theorem sameMemory_topStart (s : State) (w : Word) : sameMemory s (s.topStart w) := by
  unfold State.topStart
  dsimp only
  split <;> exact ⟨rfl, rfl, rfl, rfl⟩

theorem sameMemory_topCmd (s : State) (w : Word) : sameMemory s (s.topCmd w) := by
  unfold State.topCmd
  split
  · exact sameMemory_topStart s w
  all_goals exact sameMemory_onDev s _

theorem sameMemory_topWrite (s : State) (src : Nat) (w : Word) : sameMemory s (s.topWrite src w) := by
  unfold State.topWrite
  dsimp only
  split
  · exact sameMemory_topCmd _ w
  · exact sameMemory_onDev s _

/-! Core instructions without a bus access leave the whole state outside the core copy, except DO with a full stack. -/

namespace Issue

@[simp] theorem onC_s (x : Issue) (h : Core → Core) : (x.onC h).s = x.s := rfl
@[simp] theorem put_s (x : Issue) (n : Nat) (v : Word) : (x.put n v).s = x.s := rfl
@[simp] theorem putLate_s (x : Issue) (n : Nat) (v : Word) : (x.putLate n v).s = x.s := rfl
@[simp] theorem flags_s (x : Issue) (m n : Nat) : (x.flags m n).s = x.s := rfl
@[simp] theorem sticky_s (x : Issue) (i : Nat) : (x.sticky i).s = x.s := rfl
@[simp] theorem branch_s (x : Issue) (t : Option Nat) : (x.branch t).s = x.s := rfl
@[simp] theorem finish_s (x : Issue) (c : Core) : (x.finish c).s = x.s := rfl

theorem sticky_if_s (x : Issue) (b : Prop) [Decidable b] (i : Nat) : (if b then x.sticky i else x).s = x.s := by
  split <;> rfl

@[simp] theorem putAcc_s (x : Issue) (s one : Bool) (v : Int) : (x.putAcc s one v).s = x.s := by
  simp [putAcc, apply_ite Issue.s]

@[simp] theorem putAlu_s (x : Issue) (m : Nat) (r : Alu) : (x.putAlu m r).s = x.s := by
  simp [putAlu, apply_ite Issue.s]

@[simp] theorem putZN_s (x : Issue) (v : Word) : (x.putZN v).s = x.s := putAlu_s ..

@[simp] theorem startDiv_s (x : Issue) (m : Nat) (r : Alu) : (x.startDiv m r).s = x.s := by
  simp [startDiv, apply_ite Issue.s]

@[simp] theorem accFlags_s (x : Issue) (v : BitVec 40) : (x.accFlags v).s = x.s := rfl

@[simp] theorem accResult_s (x : Issue) (s : Bool) (v : Int) : (x.accResult s v).s = x.s := by simp [accResult]

theorem abs_s (x : Issue) : x.abs.s = x.s := by simp [abs, apply_ite Issue.s]

theorem div_s (x : Issue) : x.div.s = x.s := by simp [div, apply_ite Issue.s]

theorem divu_s (x : Issue) : x.divu.s = x.s := by simp [divu, apply_ite Issue.s]

theorem mova_s (x : Issue) : x.mova.s = x.s := by simp [mova, apply_ite Issue.s]

theorem addi_s (x : Issue) : x.addi.s = x.s := by simp [addi, apply_ite Issue.s]

@[simp] theorem spRead_s (x : Issue) (n : Nat) : (x.spRead n).1.s = x.s := by
  simp [spRead, apply_ite Prod.fst, apply_ite Issue.s]

@[simp] theorem spWrite_s (x : Issue) (n : Nat) (v : Word) : (x.spWrite n v).s = x.s := by
  simp [spWrite, apply_ite Issue.s]

theorem movs_s (x : Issue) : x.movs.s = x.s := by simp [movs, apply_ite Issue.s]

end Issue

/-- The instructions without a bus access. -/
def AsyOp.local : AsyOp → Bool
  | .mpy | .mac | .msu | .dmpy | .dmac | .dmsu | .pld | .ldu | .ldv | .stu | .stv => false
  | _ => true

theorem Issue.doLoop_mem (x : Issue) : sameMemory x.s x.doLoop.s := by
  unfold doLoop
  dsimp only
  split_ifs <;> exact ⟨rfl, rfl, rfl, rfl⟩

/-- An instruction other than DO that has no bus access leaves the state outside its core copy. -/
theorem Issue.run_s (x : Issue) (op : AsyOp) (h : op.local = true) (hdo : op ≠ .doLoop) : (x.run op).s = x.s := by
  cases op with
  | mpy | mac | msu | dmpy | dmac | dmsu | pld | ldu | ldv | stu | stv => cases h
  | doLoop => cases hdo rfl
  | nop | wait | setp | br | call | jr | rete | cmp | cmpi | ldi | ldih => rfl
  | abs => exact x.abs_s
  | div => exact x.div_s
  | divu => exact x.divu_s
  | mova => exact x.mova_s
  | addi => exact x.addi_s
  | movs => exact x.movs_s
  | clra | adda | suba | sha | addaa | rnda => exact accResult_s ..
  | _ => exact putAlu_s ..

theorem Issue.run_mem (x : Issue) (op : AsyOp) (h : op.local = true) : sameMemory x.s (x.run op).s := by
  by_cases hdo : op = .doLoop
  · subst hdo
    exact x.doLoop_mem
  · rw [x.run_s op h hdo]
    exact sameMemory_refl _

theorem State.issue_mem (s : State) (e : IssueEnv) (op : AsyOp) (step : Bool) (h : op.local = true) :
    sameMemory s (s.issue e op step) := by
  unfold State.issue
  extract_lets k w c c0 out d x
  split
  · exact sameMemory_refl _
  split
  · exact sameMemory_refl _
  split
  · split <;> exact ⟨rfl, rfl, rfl, rfl⟩
  split
  · exact sameMemory_refl _

  · exact Issue.run_mem x op h

/-! What a command can be, as one case distinction over the commands. -/

/-- How `exec` of a command acts on a state: on the device at a tick or in the Canary's time, on the whole state at a tick, on
the device at no tick, or by a reset. Each way says what it does in RESET and to the memories. -/
inductive Acts (c : Instr) (s : State) : Prop
  | tick (t : Nat) (f : Dev → Dev) (h : exec c s = s.atTick t f)
  | canary (t k : Nat) (f : Dev → Dev) (h : exec c s = s.atCny t k f)
  | state (t : Nat) (f : State → State) (h : exec c s = s.atTickMem t f) (hmem : touchesMemory c = false → ∀ s, sameMemory s (f s))
  | device (f : Dev → Dev) (h : exec c s = s.mapDev f) (hreset : actsInReset c = false → ∀ d, d.top.state = .reset → f d = d)
  | resets (s' : State) (h : exec c s = .next s') (hpending : s'.pending = s.pending)
      (hreset : actsInReset c = false → s.dev.top.state = .reset → s' = s) (hmem : touchesMemory c = true)

theorem Acts.lane {c : Instr} {s : State} {t n : Nat} {f : Dev → Dev} (h : exec c s = s.atLane t n f) : Acts c s := .tick t _ h

theorem Acts.mdio {c : Instr} {s : State} {src t op phy r data : Nat} {turn : Bool} (h : exec c s = s.mdio src t op phy r turn data) :
    Acts c s := .tick t _ h

theorem Acts.boot {c : Instr} {s : State} {t n : Nat} {f : State → State} (h : exec c s = s.atBoot t n f)
    (hmem : touchesMemory c = true) : Acts c s := .state t _ h (fun hn => by rw [hmem] at hn; cases hn)

theorem Acts.issue {c : Instr} {s : State} {t : Nat} {e : IssueEnv} {op : AsyOp} (h : exec c s = s.issueAt t e op)
    (hmem : touchesMemory c = true ∨ op.local = true) : Acts c s :=
  .state t _ h (fun hn s => s.issue_mem e op false (hmem.resolve_left (by simp [hn])))

theorem resetNAssert_acts (c ns : Nat) (s : State) : Acts (.resetNAssert c ns) s := by
  by_cases hlow : 1000 ≤ ns ∨ (900 ≤ ns ∧ Config.shortResetPulse ns = true)
  · exact .resets _ (if_pos hlow) rfl (fun h => by cases h) rfl
  · exact .resets s (if_neg hlow) rfl (fun _ _ => rfl) rfl

theorem supplyMonitorTrip_acts (t : Nat) (x : Supply) (s : State) : Acts (.supplyMonitorTrip t x) s :=
  .resets _ rfl rfl (fun h => by cases h) rfl

theorem watchdogTimeout_acts (t c : Nat) (s : State) : Acts (.watchdogTimeout t c) s := by
  by_cases hquiet : (s.dev.top.state == .reset || s.dev.cny.lost) = true
  · exact .resets s (if_pos hquiet) rfl (fun _ _ => rfl) rfl
  · have hawake : s.dev.top.state ≠ .reset := fun hr => hquiet (by simp [hr])
    have hrun : execWatchdogTimeout t c s = _ := if_neg hquiet
    extract_lets due at hrun
    split at hrun
    · exact .resets _ hrun rfl (fun _ hr => absurd hr hawake) rfl
    · exact .resets s hrun rfl (fun _ _ => rfl) rfl

/-- Every command acts in one of these ways. -/
theorem exec_acts (c : Instr) (s : State) : Acts c s := by
  cases c
  case emtReinstate | reinstateCh | reinstateQuad | flush | wavFlush | laneTest | calPort | clear =>
    exact .tick _ _ (by
      delta exec execEmtReinstate execReinstateCh execReinstateQuad execFlush execWavFlush execLaneTest execCalPort execClear
      rfl)
  case stopComplete | pllUnlock | slewCarry | stepCommit | pairLowWrite | pairHighWrite | syncEpochSend | syncInEdge | syncMessage |
      syncMessageTimeout | timeSourceHoldover | ppsInEdge | ppsOutRise | ppsOutFall | frameAtArm | scheduledFrameStart | gptpMessage | gptpSyncSend |
      fuseKey | revoke | fuseProgrammingDone | attest | attestDone | frameBoundary | shotIssue | handover | steeringSettled | settleTimeout |
      admissionTest | fire | confidenceFlag | squash | seqSquashCmd | accountingCheck | tallyParityError | tallySnapshotRead | inhibitAssert |
      enSettleExpiry | monConversion | monDebitCorrection | strayMonPulse | budgetBucketBoundary | budgetParityError | positionSample | relockTimeout
      | strReinstate | polygonIndex | indexTimeout | strModeWrite | leadingEdge | eventComplete | windowBoundaryApply | settleEnd | rfeModeWrite |
      meterRoundClose | quadrantSupplyTrip | lineMonitorCheck | comparatorStuck | trimParityError | windowOpen | checkIn | eventArrival | verdict |
      eventCommit | histogramClosing | histogramReadoutEnd | candidateHandoff | hstWindowWrite | hstSlotSnapshotRead | slotTableParityError | batch |
      canary | round | batchTimeLimit | divisionResult | loopCountEnd | backgroundSliceExhausted | breakpointHit | pointAccept | noBatchFallback |
      packetClose | bulkDropGapRecord | lodeExport | journalDump | roundBoundary | check | admissionCheckDone | fmnAllocWrite | foremanParityError |
      wavTapCfgWrite | levelTrigger | trigInEdge | writeBufferFull | captureEnd | rearmEnd | ringDrainApply | tapParityError | hkaConversion |
      hkaStart | hkaTimerOverflow | startDelayEnd | inject | injectionDone | hkaCal | selfCalibrationDone | filterOutput | swap | fadeEnd | fltSync |
      synchronisingReset | fltReinstate | fltBankWrite | filterParityError | sensorSlotEnd | biasSlewStep | openWireTrip | leadTestStart | leadTestEnd
      | heaterPeriodStart | heaterDutyEnd | encoderEdge | encoderIndex | imuTrigger | imuXfer | imuTransferDone | canFrameTransmitted | canBusOff |
      recover | canAutoRecovery | canCanaryWrite | trainingStepDone | trainingComplete | hoiRetrain | hoiRateWrite | laneTestDone | correctedWriteBack
      | refreshDue | temperaturePoll | neighbourRefresh | refreshWindowEnd | parityAlert | selfRefreshEntry | selfRefreshExit | hoistQueueParityError
      | laneEnable | lnkRetrain | lnkReinstate | genCapWrite | csiEnable | dphyPllUnlock | arpRequest | neighbourSolicitation | safetyDatagram |
      otherFrame | ethLinkDown | mdioTimeout | vddCnyLoss | cnyParamWrite | commission | cnyClear | calFull | fullCalibrationComplete | portTurn |
      blindIntervalEnd | clearCode | clearAll | clearJournal | logParityError | serialStatusFrame | i2cWordTimeout | mgtParityError | ethernetLinkUp |
      dphyPllRelock | inhibitNRelease | alertNRise | parityRecoveryTimeout | rowCloseOnIdle =>
    exact .tick _ _ (by unfold exec; rfl)
  case laneLock | lockLoss | lockLossTimeout | capSymbol | rateSymbol | prbsMarker | prbsCheckEnd | rateResultTimeout | dataSymbol | timeSymbol |
      safeSymbol | unknownSymbol | stuffingError | elasticBufferAdjust | frameSlotTransmit | timeSymbolDue | laneParityError =>
    exact .lane (by unfold exec; rfl)
  case c22Read | c22Write | c45Address | c45Read | c45Write =>
    exact .mdio (by unfold exec; rfl)
  case canaryClockGate | heartbeatLost | selfComparisonMismatch | sealSwitchSample | checkRecompute | commissionDone | functionalSample |
      testPulseCheck | canaryEncoderEdge | axisComputation | echoEvaluation | fieldEvaluationClose | ossdReadbackCheck | ossdOffTest | stateSend |
      select | mute | loneCopyDiscard | messageTimeout | muteExpiry | livenessRequest | livenessDeadline | framePeriodOverFrameMax | testPulse =>
    exact .canary _ _ _ (by unfold exec; rfl)
  case softReset | w288WriteBack | lowWordRead | highWordRead | frameFirstEntryRead | scanEntryRead | histogramUpdate | sieveLaneTake | lodeWriteBack
      | lodeClearPass | setCopy | illegalInstruction | poisonedFetch | asyHalt | asyDispatchWrite | asyStep | asyRegisterWindowAccess |
      activityRequest | triggerDecision | recordWritten | wavGapRecord | flushExecute | streamRecordRead | canFrameReceived | dramRead | dramWrite |
      mgtDatagram | journalCopy | registerWrite | shadowedRegisterWrite | serialWriteFrame | serialReadFrame | mgtRead | mgtWrite | dramWindowAccess |
      mgtDramWinWrite | windowAccessTimeout =>
    exact .state _ _ (by unfold exec; rfl) (fun h => by cases h)
  case identityKeyDerivation | flashDiscovery | flashReadBurst | imageVerify | sectionActivation | commissioningHandover =>
    exact .boot (by unfold exec; rfl) rfl
  case mpy | mac | msu | dmpy | dmac | dmsu | pld | ldu | ldv | stu | stv =>
    exact .issue (by unfold exec; rfl) (.inl rfl)
  case nop | add | sub | cmp | and | or | xor | andn | shl | shr | sra | min | max | abs | neg | ext | ins | mul | norm | div | divu | clra | adda |
      suba | mova | sha | addaa | rnda | ldi | ldih | addi | cmpi | setp | br | call | jr | doLoop | rete | movs | wait =>
    exact .issue (by unfold exec; rfl) (.inr rfl)
  case start | stop | leaveHeld | hold =>
    exact .state _ _ (by unfold exec; rfl) (fun _ s => sameMemory_topWrite s _ _)
  case powerOn | resetRelease | bypass | idcode | samplePreload | extest | clamp | highz | supplyBackInRange =>
    exact .device _ (by unfold exec; rfl) (fun h => by cases h)
  case pllLock | pllRelock =>
    exact .device _ (by unfold exec; rfl) (fun _ d hr => by simp [hr])
  case resetNAssert => exact resetNAssert_acts ..
  case supplyMonitorTrip => exact supplyMonitorTrip_acts ..
  case watchdogTimeout => exact watchdogTimeout_acts ..

theorem State.atTickMem_next (s : State) (t : Nat) (f : State → State) :
    ∃ s', s.atTickMem t f = .next s' ∧ s'.pending = s.pending := by
  by_cases h : s.dev.alive = true
  · exact ⟨_, s.atTickMem_alive t f h, rfl⟩
  · exact ⟨s, s.atTickMem_idle t f (by simpa using h), rfl⟩

theorem State.atTickMem_mem {s s' : State} {t : Nat} {f : State → State} (h : s.atTickMem t f = .next s')
    (hf : ∀ s, sameMemory s (f s)) : sameMemory s s' := by
  unfold State.atTickMem at h
  split at h
  · cases h
    obtain ⟨hs, hd, hp, hw⟩ := hf { s with dev := s.dev.advanceTo t }
    exact ⟨hs, hd, hp, hw⟩
  · cases h
    exact sameMemory_refl s

theorem Dev.alive_reset (d : Dev) (h : d.top.state = .reset) : d.alive = false := by simp [Dev.alive, h]

/-- Settles O4. -/
theorem everyCommandGoesOn : Obligations.EveryCommandGoesOn := by
  unfold Obligations.EveryCommandGoesOn
  intro c s
  cases exec_acts c s with
  | tick t f h => exact ⟨_, h, rfl⟩
  | canary t k f h => exact ⟨_, h, rfl⟩
  | state t f h => rw [h]; exact s.atTickMem_next t f
  | device f h => exact ⟨_, h, rfl⟩
  | resets s' h hpending => exact ⟨s', h, hpending⟩

/-- Settles O8: every way to act but the resets asks for a living device or for a state that is not RESET. -/
theorem resetIsQuiet : Obligations.ResetIsQuiet := by
  unfold Obligations.ResetIsQuiet
  intro c s hreset hc
  have hdead := s.dev.alive_reset hreset
  cases exec_acts c s with
  | tick t f h => rw [h, State.atTick, State.mapDev, hdead]; rfl
  | canary t k f h => rw [h, State.atCny, State.mapDev, hreset]; rfl
  | state t f h => rw [h, s.atTickMem_idle t f hdead]
  | device f h hquiet => rw [h, State.mapDev, hquiet hc _ hreset]
  | resets s' h _ hquiet => rw [h, hquiet hc hreset]

/-- Settles O11: a command acts on the device alone, or on a state whose memories it leaves. -/
theorem memoryUntouched : Obligations.MemoryUntouched := by
  unfold Obligations.MemoryUntouched
  intro c s s' hc hexec
  cases exec_acts c s with
  | tick t f h | canary t k f h | device f h =>
    cases h.symm.trans hexec
    exact ⟨rfl, rfl, rfl, rfl⟩
  | state t f h hmem => exact State.atTickMem_mem (h.symm.trans hexec) (hmem hc)
  | resets s' h _ _ hmem => rw [hc] at hmem; cases hmem

end Sys2Proof.Machine
end

section
/-! PROOF. What the shot path and the two safety outputs rest on, as a part of the device of its own. -/
namespace Sys2Proof.Machine

/-- What the way from a shot to its point rests on. -/
structure ShotView where
  state : DevState
  seq : SeqState
  emt : EmtState
  gat : GatState
  hst : HstState
  asy : AsyState
  cny : CnyState
  cal : CalState

/-- The shot path of a device. -/
def Dev.shot (d : Dev) : ShotView := ⟨d.top.state, d.seq, d.emt, d.gat, d.hst, d.asy, d.cny, d.cal⟩

/-- Of the Canary's state, what R97 and R387 rest on, and the pairs' controls. -/
def CnyState.outputs (c : CnyState) : CnyState :=
  { lost := c.lost, clockFault := c.clockFault, heartbeat := c.heartbeat, mismatch := c.mismatch, sw := c.sw, swReset := c.swReset
    modeChanged := c.modeChanged, active := c.active, paramHold := c.paramHold, commHold := c.commHold, fns := c.fns
    ossdOn := c.ossdOn, axes := c.axes, locks := c.locks, offSets := c.offSets, mute := c.mute }

@[simp] theorem CnyState.outputs_mk (rc lost clockFault heartbeat mismatch watch sw swReset swSeen modeChanged active paramHold activate
    lastWrite commHold comm sample fns tp ossdOn wait switched rb press encs axes locks queue frames counts offSets lastProt lastWarn
    lastBlind closed set fallback overlap msgSet lastSeq lastMsg timedOut copies mute txSeq stateAt stateSent sent live) :
    CnyState.outputs ⟨rc, lost, clockFault, heartbeat, mismatch, watch, sw, swReset, swSeen, modeChanged, active, paramHold, activate,
      lastWrite, commHold, comm, sample, fns, tp, ossdOn, wait, switched, rb, press, encs, axes, locks, queue, frames, counts, offSets,
      lastProt, lastWarn, lastBlind, closed, set, fallback, overlap, msgSet, lastSeq, lastMsg, timedOut, copies, mute, txSeq, stateAt,
      stateSent, sent, live⟩ =
    { lost := lost, clockFault := clockFault, heartbeat := heartbeat, mismatch := mismatch, sw := sw, swReset := swReset,
      modeChanged := modeChanged, active := active, paramHold := paramHold, commHold := commHold, fns := fns,
      ossdOn := ossdOn, axes := axes, locks := locks, offSets := offSets, mute := mute } := rfl

@[simp] theorem CnyState.outputs_fold (c : CnyState) :
  ({ lost := c.lost, clockFault := c.clockFault, heartbeat := c.heartbeat, mismatch := c.mismatch, sw := c.sw, swReset := c.swReset
     modeChanged := c.modeChanged, active := c.active, paramHold := c.paramHold, commHold := c.commHold, fns := c.fns
     ossdOn := c.ossdOn, axes := c.axes, locks := c.locks, offSets := c.offSets, mute := c.mute } : CnyState) = c.outputs := rfl

/-- What the outputs rest on: the device state, the Canary, EMIT_EN and the skew step, and whether calibration passed. -/
structure Guards where
  state : DevState
  cny : CnyState
  emitEn : Bool
  calFire : Bool
  passed : Bool

def ShotView.guards (v : ShotView) : Guards := ⟨v.state, v.cny.outputs, v.emt.emitEn, v.emt.calFire, v.cal.passed⟩

abbrev Dev.guards (d : Dev) : Guards := d.shot.guards

@[simp] theorem Dev.shot_mk (now regs shadow freeCtr corrected top clk boot seq emt str rfe rfePorts gat hst cny cal fmn asy pnt lanes
    taps net sns cans flts hkas hoi flg mgt jtag) :
    Dev.shot ⟨now, regs, shadow, freeCtr, corrected, top, clk, boot, seq, emt, str, rfe, rfePorts, gat, hst, cny, cal, fmn, asy, pnt, lanes,
      taps, net, sns, cans, flts, hkas, hoi, flg, mgt, jtag⟩ = ⟨top.state, seq, emt, gat, hst, asy, cny, cal⟩ := rfl

@[simp] theorem Dev.shot_fold (d : Dev) : (⟨d.top.state, d.seq, d.emt, d.gat, d.hst, d.asy, d.cny, d.cal⟩ : ShotView) = d.shot := rfl

@[simp] theorem ShotView.guards_mk (state seq emt gat hst asy cny cal) :
  ShotView.guards ⟨state, seq, emt, gat, hst, asy, cny, cal⟩ = ⟨state, cny.outputs, emt.emitEn, emt.calFire, cal.passed⟩ := rfl

@[simp] theorem Dev.guards_fold (d : Dev) : (⟨d.top.state, d.cny.outputs, d.emt.emitEn, d.emt.calFire, d.cal.passed⟩ : Guards) = d.shot.guards := rfl

theorem foldl_shot {α : Type} (g : Dev → α → Dev) (h : ∀ d a, (g d a).shot = d.shot) (l : List α) (d : Dev) : (l.foldl g d).shot = d.shot := by
  induction l generalizing d with
  | nil => rfl
  | cons a l ih => rw [List.foldl_cons, ih, h]

theorem foldl_guards {α : Type} (g : Dev → α → Dev) (h : ∀ d a, (g d a).shot.guards = d.shot.guards) (l : List α) (d : Dev) :
    (l.foldl g d).shot.guards = d.shot.guards := by
  induction l generalizing d with
  | nil => rfl
  | cons a l ih => rw [List.foldl_cons, ih, h]

theorem foldl_sg {α β : Type} (g : Dev → α → Dev) (p : ShotView → β) (h : ∀ d a, p (g d a).shot = p d.shot) (l : List α) (d : Dev) :
    p (l.foldl g d).shot = p d.shot := by
  induction l generalizing d with
  | nil => rfl
  | cons a l ih => rw [List.foldl_cons, ih, h]

/-- A device with these guards and nothing else. -/
def Guards.dev (g : Guards) : Dev :=
  { top := { state := g.state }, cny := g.cny, emt := { emitEn := g.emitEn, calFire := g.calFire }, cal := { passed := g.passed } }

/-- HELD is kept; a command that can end it (`leave`) may also lead to ARMED with no calibration passed. -/
def Guards.stays (leave : Bool) (g : Guards) : Prop :=
  g.state = .held ∨ (leave = true ∧ g.state = .armed ∧ g.passed = false)

structure Keeps (leave : Bool) (v w : Guards) : Prop where
  emit : v.dev.emitSafe = true → w.dev.emitSafe = true
  ossd : v.dev.ossdSafe = true → w.dev.ossdSafe = true
  held : v.stays leave → w.stays leave

@[simp] theorem Keeps.refl (b : Bool) (v : Guards) : Keeps b v v := ⟨id, id, id⟩

theorem Keeps.trans {b : Bool} {u v w : Guards} (h : Keeps b u v) (k : Keeps b v w) : Keeps b u w :=
  ⟨k.emit ∘ h.emit, k.ossd ∘ h.ossd, k.held ∘ h.held⟩

theorem Dev.emitSafe_guards (d : Dev) : d.guards.dev.emitSafe = d.emitSafe := rfl
theorem Dev.ossdSafe_guards (d : Dev) : d.guards.dev.ossdSafe = d.ossdSafe := rfl

theorem foldl_keeps {α : Type} {b : Bool} {v : Guards} (g : Dev → α → Dev)
    (h : ∀ d a, Keeps b v d.shot.guards → Keeps b v (g d a).shot.guards) (l : List α) (d : Dev) (hd : Keeps b v d.shot.guards) :
    Keeps b v (l.foldl g d).shot.guards := by
  induction l generalizing d with
  | nil => exact hd
  | cons a l ih => exact ih _ (h d a hd)

end Sys2Proof.Machine
end

section
/-! PROOF. A parity alert that ends start-up (R318, R329): it fails the training and the device goes on to ARMED. -/
namespace Sys2Proof.Machine

/-- A device in HEADFRAME, handed over, whose Hoist is at the last step of its first training. -/
def trainingInHeadframe : State :=
  { dev := { top := { state := .headframe }, clk := { running := true }, boot := { handedOver := true }, hoi := { training := some { step := 7 } } } }

/-- The alert fails the training, Hoist is removed and start-up ends without it. -/
theorem parityAlert_arms :
    ∃ s', exec (.parityAlert 0 0 false) trainingInHeadframe = .next s' ∧ s'.dev.top.state = .armed := by
  refine ⟨_, rfl, ?_⟩
  decide +kernel

/-- Refutes O12: PARITY_ALERT is in sparesShotPath, and in HEADFRAME it can end the stage that waits for Hoist. -/
theorem not_shotPathUntouched : ¬ Obligations.ShotPathUntouched := by
  unfold Obligations.ShotPathUntouched
  intro h
  obtain ⟨s', hexec, harmed⟩ := parityAlert_arms
  obtain ⟨hstate, -⟩ := h _ _ _ (by rfl) hexec
  rw [harmed] at hstate
  cases hstate

end Sys2Proof.Machine
end

section
/-! PROOF. Two faults of one step on a full fault log (R410). A clause that claims the first of them logged asks only that it
can be logged (`faultRoom`); the second takes the oldest entry of class N, which may be the first one's. The counterexamples
are evaluated in the kernel, so their proofs are checked one after the other. -/
namespace Sys2Proof.Machine

set_option Elab.async false

/-- A full fault log in key order: `code` open in an entry of class N, every other entry open and of class D. Of these only
the entry of `code` can be taken by a further fault (R410). -/
def logWithOneN (code : Nat) : Map LogEntry :=
  (0, { code := code, cls := .n }) :: (List.range' 1 255).map (fun i => (i, { cls := .d }))

/-- A poisoned scan entry, with the audit ring full and the overflow not yet reported. -/
def poisonedEntryState : State :=
  { sramPoison := [scanBase]
    dev := { ({} : Dev).setReg R.SEQ_AUDIT_RD 1#32 with
      top := { state := .ranging }
      clk := { running := true }
      seq := { frame := some {} }
      flg := { log := logWithOneN 0x0503 } } }

/-- The audit record of the skipped entry finds its ring full and logs 0x0504 in the place of 0x0503. -/
theorem poisonedEntryState_evicts :
    ∃ s', exec (.scanEntryRead 0 0) poisonedEntryState = .next s' ∧ s'.dev.logged 0x0503 = false := by
  refine ⟨_, rfl, ?_⟩
  decide +kernel

/-- Refutes O20: clause `entryPoisoned` claims 0x0503 logged. -/
theorem not_scanReadingComplete : ¬ Obligations.ScanReadingComplete := by
  unfold Obligations.ScanReadingComplete
  rintro ⟨-, -, -, entryPoisoned, -⟩
  obtain ⟨s', hexec, hlost⟩ := poisonedEntryState_evicts
  obtain ⟨s'', hexec', -, hlogged, -⟩ := entryPoisoned poisonedEntryState 0 0 {} (by decide +kernel) rfl rfl rfl rfl (by decide) (by decide +kernel) (by decide +kernel)
  rw [hexec] at hexec'
  cases hexec'
  exact Bool.false_ne_true (hlost.symm.trans hlogged)

/-- A filter channel that a steering port takes its loop from (STR_CTRL0[31:28] is 0 at reset). -/
def filterParityState : State :=
  { dev := { top := { state := .armed }, clk := { running := true }, flg := { log := logWithOneN 0x1001 } } }

/-- The removed channel's level rises, the port stalls, and its 0x0703 takes the place of 0x1001. -/
theorem filterParityState_evicts :
    ∃ s', exec (.filterParityError 0 0) filterParityState = .next s' ∧ s'.dev.logged 0x1001 = false := by
  refine ⟨_, rfl, ?_⟩
  decide +kernel

/-- Refutes O40: clause `filterParityError` claims 0x1001 logged. -/
theorem not_filterComplete : ¬ Obligations.FilterComplete := by
  unfold Obligations.FilterComplete
  rintro ⟨-, -, -, -, -, -, -, -, -, -, -, filterParityError⟩
  obtain ⟨s', hexec, hlost⟩ := filterParityState_evicts
  obtain ⟨s'', hexec', -, -, -, -, -, -, hlogged, -⟩ := filterParityError filterParityState 0 0 (by decide +kernel) (by decide) (by decide +kernel)
  rw [hexec] at hexec'
  cases hexec'
  exact Bool.false_ne_true (hlost.symm.trans hlogged)

/-- Sensor channel 0 is on and is the one the bias follows (SNS_BIAS_CFG[4:2] = 0). -/
def openWireState : State :=
  { dev := { (({} : Dev).setReg (R.SNS_CFG 0) 1#32).setReg R.SNS_BIAS_CFG 1#32 with
      top := { state := .armed }
      clk := { running := true }
      flg := { log := logWithOneN 0x1201 } } }

/-- The open wire makes the bias result invalid, whose 0x1205 takes the place of 0x1201. -/
theorem openWireState_evicts :
    ∃ s', exec (.openWireTrip 0 0) openWireState = .next s' ∧ s'.dev.logged 0x1201 = false := by
  refine ⟨_, rfl, ?_⟩
  decide +kernel

/-- Refutes O41: clause `openWireTrip` claims 0x1201 logged. -/
theorem not_sensorComplete : ¬ Obligations.SensorComplete := by
  unfold Obligations.SensorComplete
  rintro ⟨-, -, -, openWireTrip, -⟩
  obtain ⟨s', hexec, hlost⟩ := openWireState_evicts
  obtain ⟨s'', hexec', -, -, -, hlogged, -⟩ := openWireTrip openWireState 0 0 (by decide +kernel) (by decide) (by decide +kernel) (by decide +kernel)
  rw [hexec] at hexec'
  cases hexec'
  exact Bool.false_ne_true (hlost.symm.trans hlogged)

/-- A device in RANGING whose squash on entry to HELD finds the audit ring full: one accepted cell, its only shot in ISSUED,
and `code` the one entry of the log that can be taken. Both OSSD pairs are on. -/
def squashState (code : Nat) : State :=
  { dev := { ({} : Dev).setReg R.SEQ_AUDIT_RD 1#32 with
      top := { state := .ranging }
      clk := { running := true }
      seq := { cells := [(0, { emitters := [0], dwell := 1, issued := [(0, 1)] })], tally := [(0, { dec := 100 })] }
      cny := { ossdOn := [true, true] }
      flg := { log := logWithOneN code } } }

/-- Entering HELD for the loss of VDD_CNY squashes, and 0x0504 takes the place of 0x1805. -/
theorem vddCnyLoss_evicts :
    ∃ s', exec (.vddCnyLoss 0) (squashState 0x1805) = .next s' ∧ s'.dev.logged 0x1805 = false := by
  refine ⟨_, rfl, ?_⟩
  decide +kernel

/-- Refutes O48: clause `vddCnyLoss` claims 0x1805 logged. -/
theorem not_canaryDemandComplete : ¬ Obligations.CanaryDemandComplete := by
  unfold Obligations.CanaryDemandComplete
  rintro ⟨vddCnyLoss, -⟩
  obtain ⟨s', hexec, hlost⟩ := vddCnyLoss_evicts
  obtain ⟨s'', hexec', -, hlogged, -⟩ := vddCnyLoss (squashState 0x1805) 0 (by decide +kernel) rfl (by decide +kernel)
  rw [hexec] at hexec'
  cases hexec'
  exact Bool.false_ne_true (hlost.symm.trans hlogged)

/-- Entering HELD for a failed off-test squashes, and 0x0504 takes the place of 0x1810. -/
theorem ossdOffTest_evicts :
    ∃ s', exec (.ossdOffTest 0 0 0 true) (squashState 0x1810) = .next s' ∧ s'.dev.logged 0x1810 = false := by
  refine ⟨_, rfl, ?_⟩
  decide +kernel

/-- Refutes O50: clause `ossdOffTestFails` claims 0x1810 logged. -/
theorem not_safetyInputsComplete : ¬ Obligations.SafetyInputsComplete := by
  unfold Obligations.SafetyInputsComplete
  rintro ⟨-, -, -, -, -, -, -, -, ossdOffTestFails⟩
  obtain ⟨s', hexec, hlost⟩ := ossdOffTest_evicts
  obtain ⟨s'', hexec', -, hlogged, -⟩ := ossdOffTestFails (squashState 0x1810) 0 0 0 (by decide) rfl (by decide) rfl (by decide +kernel)
  rw [hexec] at hexec'
  cases hexec'
  exact Bool.false_ne_true (hlost.symm.trans hlogged)

/-- Core 0 holds the batch of a cell whose stream is on, on a lane that is not up; its liveness request was never answered. -/
def livenessState : State :=
  { dev := { ({} : Dev).setReg (R.PNT_STREAM_CFG 0) 0x21#32 with
      top := { state := .armed }
      seq := { cells := [(0, {})] }
      asy := { cores := [(0, { batches := [{}] })] }
      cny := { rc := 960, live := [(0, (0, 0))] }
      flg := { log := logWithOneN 0x1807 } } }

/-- The removed core's batch becomes a fallback record, the lane drops it, and 0x0D05 takes the place of 0x1807. -/
theorem livenessState_evicts :
    ∃ s', exec (.livenessDeadline 0 0 0) livenessState = .next s' ∧ s'.dev.logged 0x1807 = false := by
  refine ⟨_, rfl, ?_⟩
  decide +kernel

/-- Refutes O51: clause `livenessFails` claims 0x1807 logged. -/
theorem not_motionAndFieldsComplete : ¬ Obligations.MotionAndFieldsComplete := by
  unfold Obligations.MotionAndFieldsComplete
  rintro ⟨-, -, -, -, -, -, -, livenessFails⟩
  obtain ⟨s', hexec, hlost⟩ := livenessState_evicts
  obtain ⟨s'', hexec', -, -, -, -, -, hlogged, -⟩ := livenessFails livenessState 0 0 0 0 0 (by decide) rfl rfl (by decide) (by decide) rfl rfl (by decide +kernel)
  rw [hexec] at hexec'
  cases hexec'
  exact Bool.false_ne_true (hlost.symm.trans hlogged)

/-- The only open entry of 0x1A02 stands beyond the log's 256 places, and nothing of class N stands within them. -/
def logParityState : State :=
  { dev := { top := { state := .armed }
             clk := { running := true }
             flg := { log := (List.range 256).map (fun i => (i, { cls := .d })) ++ [(256, { code := 0x1A02 })] } } }

/-- The parity error strikes that entry, and no place is left to log 0x1A02. -/
theorem logParityState_lost :
    ∃ s', exec (.logParityError 0 false 256) logParityState = .next s' ∧ s'.dev.logged 0x1A02 = false := by
  refine ⟨_, rfl, ?_⟩
  decide +kernel

/-- Refutes O54: clause `logParityError` bounds neither its index nor the keys of the log. -/
theorem not_faultLogComplete : ¬ Obligations.FaultLogComplete := by
  unfold Obligations.FaultLogComplete
  rintro ⟨-, -, -, -, -, -, -, -, logParityError, -⟩
  obtain ⟨s', hexec, hlost⟩ := logParityState_lost
  obtain ⟨s'', hexec', -, hlogged, -⟩ := logParityError logParityState 0 256 (by decide +kernel) (by decide +kernel)
  rw [hexec] at hexec'
  cases hexec'
  exact Bool.false_ne_true (hlost.symm.trans hlogged)

end Sys2Proof.Machine
end

section
/-! PROOF. What the operations shared by all units leave of the shot path. -/
namespace Sys2Proof.Machine
@[simp] theorem Dev.setReg_shot (d : Dev) (a : Nat) (v : Word) : (Dev.setReg d a v).shot = d.shot := by simp [Dev.setReg]
@[simp] theorem Dev.setFld_shot (d : Dev) (a : Nat) (msb : Nat) (lsb : Nat) (v : Nat) : (Dev.setFld d a msb lsb v).shot = d.shot := by simp [Dev.setFld]
@[simp] theorem Dev.setBit_shot (d : Dev) (a : Nat) (i : Nat) (b : Bool) : (Dev.setBit d a i b).shot = d.shot := by simp [Dev.setBit]
@[simp] theorem Dev.setReg64_shot (d : Dev) (a : Nat) (v : Nat) : (Dev.setReg64 d a v).shot = d.shot := by simp [Dev.setReg64]
@[simp] theorem Dev.storeReg_shot (d : Dev) (a : Nat) (v : Word) : (Dev.storeReg d a v).shot = d.shot := by simp [Dev.storeReg]
@[simp] theorem Dev.inc64_shot (d : Dev) (a : Nat) (n : Nat) : (Dev.inc64 d a n).shot = d.shot := by simp [Dev.inc64]
@[simp] theorem Dev.incSat_shot (d : Dev) (a : Nat) (msb : Nat) (lsb : Nat) (n : Nat) : (Dev.incSat d a msb lsb n).shot = d.shot := by simp [Dev.incSat]
@[simp] theorem Dev.drew_shot (d : Dev) : (Dev.drew d).shot = d.shot := by simp [Dev.drew]
@[simp] theorem Dev.advanceTo_shot (d : Dev) (t : Nat) : (Dev.advanceTo d t).shot = d.shot := by simp [Dev.advanceTo, apply_ite Dev.shot]
@[simp] theorem Dev.removeUnit_shot (d : Dev) (u : UnitId) : (Dev.removeUnit d u).shot = d.shot := by simp [Dev.removeUnit]
@[simp] theorem Dev.reinstateUnit_shot (d : Dev) (u : UnitId) : (Dev.reinstateUnit d u).shot = d.shot := by simp [Dev.reinstateUnit]
@[simp] theorem Dev.supplyOut_shot (d : Dev) (x : Supply) : (Dev.supplyOut d x).shot = d.shot := by simp [Dev.supplyOut]
@[simp] theorem Dev.logFault_shot (d : Dev) (code : Nat) (cls : FClass) (active : Bool) (retained : Bool) : (Dev.logFault d code cls active retained).shot = d.shot := by
  unfold Dev.logFault
  dsimp only
  repeat' split
  all_goals simp
@[simp] theorem Dev.causeGone_shot (d : Dev) (code : Nat) : (Dev.causeGone d code).shot = d.shot := by simp [Dev.causeGone]
@[simp] theorem Dev.journal_shot (d : Dev) (src : Nat) (addr : Nat) (old : Word) (new : Word) (ignored : Bool) (window : Bool) : (Dev.journal d src addr old new ignored window).shot = d.shot := by simp [Dev.journal]
@[simp] theorem Dev.onReq_shot (d : Dev) (src : Nat) (f : Requester → Requester) : (Dev.onReq d src f).shot = d.shot := by simp [Dev.onReq]
@[simp] theorem Dev.sticky_shot (d : Dev) (src : Nat) (bitNo : Nat) : (Dev.sticky d src bitNo).shot = d.shot := by simp [Dev.sticky]
@[simp] theorem Dev.respond_shot (d : Dev) (src : Nat) (status : Nat) : (Dev.respond d src status).shot = d.shot := by simp [Dev.respond, apply_ite Dev.shot]
@[simp] theorem Dev.ignoredWrite_shot (d : Dev) (src : Nat) (a : Nat) (w : Word) (window : Bool) : (Dev.ignoredWrite d src a w window).shot = d.shot := by simp [Dev.ignoredWrite, apply_ite Dev.shot]
@[simp] theorem Dev.onLane_shot (d : Dev) (n : Nat) (f : Lane → Lane) : (Dev.onLane d n f).shot = d.shot := by simp [Dev.onLane]
@[simp] theorem Dev.enqueue_shot (d : Dev) (n : Nat) (r : PntRec) : (Dev.enqueue d n r).shot = d.shot := by simp [Dev.enqueue]
@[simp] theorem Dev.gap_shot (d : Dev) (n : Nat) (count : Nat) (reason : Nat) : (Dev.gap d n count reason).shot = d.shot := by simp [Dev.gap, apply_ite Dev.shot]
@[simp] theorem Dev.bulk_shot (d : Dev) (n : Nat) (kind : Nat) (body : List Byte) : (Dev.bulk d n kind body).shot = d.shot := by simp [Dev.bulk, apply_ite Dev.shot]
@[simp] theorem Dev.bulkDrop_shot (d : Dev) (n : Nat) : (Dev.bulkDrop d n).shot = d.shot := by simp [Dev.bulkDrop, apply_ite Dev.shot]
@[simp] theorem Dev.onTap_shot (d : Dev) (t : Nat) (f : Tap → Tap) : (Dev.onTap d t f).shot = d.shot := by simp [Dev.onTap]
@[simp] theorem Dev.wavGap_shot (d : Dev) (t : Nat) (reason : Nat) : (Dev.wavGap d t reason).shot = d.shot := by simp [Dev.wavGap, apply_ite Dev.shot]
@[simp] theorem Dev.trigger_shot (d : Dev) (t : Nat) (x : Trig) : (Dev.trigger d t x).shot = d.shot := by
  unfold Dev.trigger
  dsimp only
  repeat' split
  all_goals simp
@[simp] theorem Dev.shotTrigger_shot (d : Dev) (source : Nat) (e : Nat) (tick : Nat) (shot : Nat) (cell : Nat) (chs : List Nat) : (Dev.shotTrigger d source e tick shot cell chs).shot = d.shot := by simp [Dev.shotTrigger, foldl_shot, apply_ite Dev.shot]
@[simp] theorem Dev.demandTrigger_shot (d : Dev) : (Dev.demandTrigger d).shot = d.shot := by simp [Dev.demandTrigger, foldl_shot]
@[simp] theorem Dev.tapApply_shot (d : Dev) (t : Nat) : (Dev.tapApply d t).shot = d.shot := by simp [Dev.tapApply, foldl_shot, apply_ite Dev.shot]
@[simp] theorem Dev.tapRearm_shot (d : Dev) (t : Nat) : (Dev.tapRearm d t).shot = d.shot := by simp [Dev.tapRearm]
@[simp] theorem Dev.tapIdle_shot (d : Dev) (t : Nat) : (Dev.tapIdle d t).shot = d.shot := by simp [Dev.tapIdle, apply_ite Dev.shot]
@[simp] theorem Dev.tapsDown_shot (d : Dev) : (Dev.tapsDown d).shot = d.shot := by simp [Dev.tapsDown, foldl_shot]
@[simp] theorem Dev.tapUp_shot (d : Dev) (t : Nat) : (Dev.tapUp d t).shot = d.shot := by simp [Dev.tapUp, apply_ite Dev.shot]
@[simp] theorem Dev.tapsUp_shot (d : Dev) : (Dev.tapsUp d).shot = d.shot := by simp [Dev.tapsUp, foldl_shot]
@[simp] theorem Dev.audit_guards (d : Dev) (r : List Byte) : (Dev.audit d r).shot.guards = d.shot.guards := by simp [Dev.audit, apply_ite Dev.shot, apply_ite ShotView.guards]
@[simp] theorem Dev.onCell_guards (d : Dev) (uid : Nat) (f : CellRec → CellRec) : (Dev.onCell d uid f).shot.guards = d.shot.guards := by
  unfold Dev.onCell
  dsimp only
  repeat' split
  all_goals simp
@[simp] theorem Dev.auditRuns_guards (ty n : Nat) : ∀ (d : Dev) (l : List WRec), (Dev.auditRuns ty n d l).shot.guards = d.shot.guards := by
  induction n with
  | zero => intro d l; cases l <;> rfl
  | succ n ih =>
    intro d l
    cases l with
    | nil => rfl
    | cons a r => simp only [Dev.auditRuns, ih, Dev.audit_guards]
@[simp] theorem Dev.flushRunsGo_guards (n : Nat) :
    ∀ (d : Dev) (l keep : List WRec), (Dev.flushRunsGo n d l keep).1.shot.guards = d.shot.guards := by
  induction n with
  | zero => intro d l keep; cases l <;> rfl
  | succ n ih =>
    intro d l keep
    cases l with
    | nil => rfl
    | cons a r => simp only [Dev.flushRunsGo]; split <;> simp only [ih, Dev.audit_guards]
@[simp] theorem Dev.flushRuns_guards (d : Dev) : (Dev.flushRuns d).shot.guards = d.shot.guards := by simp [Dev.flushRuns]
@[simp] theorem Dev.closeBlock_guards (d : Dev) (uid : Nat) (e : Nat) (t : Nat) : (Dev.closeBlock d uid e t).shot.guards = d.shot.guards := by
  unfold Dev.closeBlock
  dsimp only
  repeat' split
  all_goals simp
@[simp] theorem Dev.closeBlocks_guards (d : Dev) (uid : Nat) (t : Nat) : (Dev.closeBlocks d uid t).shot.guards = d.shot.guards := by
  unfold Dev.closeBlocks
  repeat' split
  all_goals simp [foldl_guards, apply_ite Dev.shot, apply_ite ShotView.guards]
@[simp] theorem Dev.freeSlot_guards (d : Dev) (i : Nat) (t : Nat) : (Dev.freeSlot d i t).shot.guards = d.shot.guards := by simp [Dev.freeSlot]
@[simp] theorem Dev.handover_guards (d : Dev) (t : Nat) : (Dev.handover d t).shot.guards = d.shot.guards := by simp [Dev.handover]
@[simp] theorem Dev.squash_guards (d : Dev) (uid e reason : Nat) : (d.squash uid e reason).shot.guards = d.shot.guards := by
  simp only [Dev.squash, Dev.flushRuns_guards, Dev.closeBlocks_guards, Dev.setFld_shot, Dev.auditRuns_guards, Dev.inc64_shot,
    Dev.onCell_guards]
  rw [foldl_guards _ (fun d p => by simp), Dev.handover_guards]
@[simp] theorem Dev.noteFree_guards (d : Dev) : (Dev.noteFree d).shot.guards = d.shot.guards := by simp [Dev.noteFree]
@[simp] theorem Dev.onWin_guards (d : Dev) (g : Nat) (w : Nat) (f : BudgetWin → BudgetWin) : (Dev.onWin d g w f).shot.guards = d.shot.guards := by simp [Dev.onWin]
@[simp] theorem Dev.addEnergy_guards (d : Dev) (g : Nat) (w : Nat) (t : Nat) (b : Nat) (e : Nat) : (Dev.addEnergy d g w t b e).shot.guards = d.shot.guards := by simp [Dev.addEnergy]
@[simp] theorem Dev.newLength_guards (d : Dev) (g : Nat) (w : Nat) (v : Word) : (Dev.newLength d g w v).shot.guards = d.shot.guards := by simp [Dev.newLength]
@[simp] theorem Dev.setInhibit_guards (d : Dev) (i : Nat) (on : Bool) : (Dev.setInhibit d i on).shot.guards = d.shot.guards := by simp [Dev.setInhibit, apply_ite Dev.shot, apply_ite ShotView.guards]
end Sys2Proof.Machine
end

section
/-! PROOF. EMIT_EN, the OSSD pairs and the changes that they follow. -/
namespace Sys2Proof.Machine

/-! EMIT_EN (R97). -/

/-- R97 lets EMIT_EN be high. -/
def Dev.emitMay (d : Dev) : Bool := (d.ranging || d.emt.calFire) && !d.demanding && !d.cny.lost

theorem Dev.emitEnLow_guards (d : Dev) : d.emitEnLow.shot.guards = { d.shot.guards with emitEn := false } := by
  rw [Dev.emitEnLow, Dev.setInhibit_guards]; rfl

theorem Dev.emitEnHigh_guards (d : Dev) : d.emitEnHigh.shot.guards = { d.shot.guards with emitEn := true } := by
  have same (h : d.emt.emitEn = true) : { d.shot.guards with emitEn := true } = d.shot.guards := by rw [← h]; rfl
  unfold Dev.emitEnHigh
  split
  · next h => exact (same h).symm
  · dsimp only
    split
    · rw [Dev.setInhibit_guards]; rfl
    · rfl

/-- EMIT_EN is high exactly while R97 lets it. -/
theorem Dev.emitEnFollow_guards (d : Dev) : d.emitEnFollow.shot.guards = { d.shot.guards with emitEn := d.emitMay } := by
  unfold Dev.emitEnFollow
  split
  · next h => rw [Dev.emitEnHigh_guards, show d.emitMay = true from h]
  · next h =>
    rw [show d.emitMay = false from Bool.eq_false_iff.mpr h]
    split
    · exact d.emitEnLow_guards
    · next hlow => rw [← Bool.eq_false_iff.mpr hlow]; rfl

/-! The OSSD pairs (R387). -/

/-- The guards with the pairs' controls changed and nothing R387 asks for. -/
def Guards.setPairs (g : Guards) (on : List Bool) : Guards := { g with cny := { g.cny with ossdOn := on } }

/-- From `v` to `w` the pairs that R387 does not allow go off, and nothing else of the guards changes. -/
def Guards.Sheds (v w : Guards) : Prop :=
  ∃ on, w = v.setPairs on ∧ ∀ p < 2, on.getD p false = (v.cny.ossdOn.getD p false && v.dev.ossdMay p false)

theorem Dev.ossdMay_of_guards (d : Dev) (p : Nat) (two : Bool) : d.guards.dev.ossdMay p two = d.ossdMay p two := rfl

theorem Guards.ossdMay_setPairs (g : Guards) (on) (p : Nat) (two : Bool) :
    (g.setPairs on).dev.ossdMay p two = g.dev.ossdMay p two := rfl

theorem Dev.ossdMay_of_setPairs {d d' : Dev} {on} (h : d'.guards = d.guards.setPairs on) (p : Nat) (two : Bool) :
    d'.ossdMay p two = d.ossdMay p two := by
  rw [← d'.ossdMay_of_guards, h, Guards.ossdMay_setPairs, Dev.ossdMay_of_guards]

theorem getD_set_self (l : List Bool) (p : Nat) : (l.set p false).getD p false = false := by
  rw [List.getD_eq_getElem?_getD]
  by_cases h : p < l.length
  · simp [h]
  · simp [h]

theorem getD_set_ne (l : List Bool) {p q : Nat} (b : Bool) (h : q ≠ p) : (l.set p b).getD q false = l.getD q false := by
  simp [List.getD_eq_getElem?_getD, List.getElem?_set_ne (Ne.symm h)]

/-- Pair `p` as R387 and R376 ask: off, and waiting for its restart, where they are not met. -/
def Dev.ossdDropPair (d : Dev) (p : Nat) : Dev :=
  let d := if d.ossdMay p false then d else d.ossdSwitch p false
  if d.ossdMay p true then d else { d with cny := { d.cny with wait := d.cny.wait.set p true } }

theorem Dev.ossdDrop_eq (d : Dev) : d.ossdDrop = (d.ossdDropPair 0).ossdDropPair 1 := (rfl)

theorem Dev.ossdSwitch_off (d : Dev) (p : Nat) :
    ∃ on, (d.ossdSwitch p false).guards = d.guards.setPairs on ∧ on.getD p false = false ∧
      ∀ q, q ≠ p → on.getD q false = d.cny.ossdOn.getD q false := by
  unfold Dev.ossdSwitch
  split
  · next h => exact ⟨_, rfl, beq_iff_eq.mp h, fun _ _ => rfl⟩
  · exact ⟨_, rfl, getD_set_self _ p, fun q h => getD_set_ne _ _ h⟩

theorem Dev.ossdDropPair_spec (d : Dev) (p : Nat) :
    ∃ on, (d.ossdDropPair p).guards = d.guards.setPairs on ∧
      on.getD p false = (d.cny.ossdOn.getD p false && d.ossdMay p false) ∧
      ∀ q, q ≠ p → on.getD q false = d.cny.ossdOn.getD q false := by
  obtain ⟨on, hg, hp, hq⟩ : ∃ on,
      (if d.ossdMay p false then d else d.ossdSwitch p false).guards = d.guards.setPairs on ∧
      on.getD p false = (d.cny.ossdOn.getD p false && d.ossdMay p false) ∧
      ∀ q, q ≠ p → on.getD q false = d.cny.ossdOn.getD q false := by
    split
    · next h => exact ⟨_, rfl, by rw [h, Bool.and_true]; rfl, fun _ _ => rfl⟩
    · next h =>
      obtain ⟨on, hg, hp, hq⟩ := d.ossdSwitch_off p
      exact ⟨on, hg, by rw [hp, Bool.eq_false_iff.mpr h, Bool.and_false], hq⟩
  unfold Dev.ossdDropPair
  dsimp only
  generalize (if d.ossdMay p false then d else d.ossdSwitch p false) = d' at hg ⊢
  split
  · exact ⟨on, hg, hp, hq⟩
  · exact ⟨on, hg, hp, hq⟩

theorem Dev.ossdDrop_sheds (d : Dev) : d.guards.Sheds d.ossdDrop.guards := by
  obtain ⟨on0, hg0, hon0, hne0⟩ := d.ossdDropPair_spec 0
  obtain ⟨on1, hg1, hon1, hne1⟩ := (d.ossdDropPair 0).ossdDropPair_spec 1
  have hcny : (d.ossdDropPair 0).cny.ossdOn = on0 := congrArg (fun g : Guards => g.cny.ossdOn) hg0
  have hmay := Dev.ossdMay_of_setPairs hg0 1 false
  refine ⟨on1, by rw [Dev.ossdDrop_eq, hg1, hg0]; rfl, fun p hp => ?_⟩
  match p, hp with
  | 0, _ => exact (hne1 0 (by decide)).trans ((congrArg (·.getD 0 false) hcny).trans hon0)
  | 1, _ => rw [hon1, hcny, hne0 1 (by decide), hmay, ← Dev.ossdMay_of_guards]; rfl

theorem Guards.Sheds.ossdSafe {v w : Guards} (h : v.Sheds w) : w.dev.ossdSafe = true := by
  obtain ⟨on, rfl, hon⟩ := h
  have pair (p : Nat) (hp : p < 2) : (!on.getD p false || v.dev.ossdMay p false) = true := by
    rw [hon p hp]; cases v.dev.ossdMay p false <;> simp
  simp only [Dev.ossdSafe, List.all_cons, List.all_nil, Guards.ossdMay_setPairs, Bool.and_true]
  exact Bool.and_eq_true_iff.mpr ⟨pair 0 (by decide), pair 1 (by decide)⟩

/-- Everything but the pairs' controls. -/
theorem Guards.Sheds.state {v w : Guards} (h : v.Sheds w) : w.state = v.state := by obtain ⟨_, rfl, _⟩ := h; rfl
theorem Guards.Sheds.passed {v w : Guards} (h : v.Sheds w) : w.passed = v.passed := by obtain ⟨_, rfl, _⟩ := h; rfl
theorem Guards.Sheds.emitEn {v w : Guards} (h : v.Sheds w) : w.emitEn = v.emitEn := by obtain ⟨_, rfl, _⟩ := h; rfl
theorem Guards.Sheds.calFire {v w : Guards} (h : v.Sheds w) : w.calFire = v.calFire := by obtain ⟨_, rfl, _⟩ := h; rfl
theorem Guards.Sheds.emitSafe {v w : Guards} (h : v.Sheds w) : w.dev.emitSafe = v.dev.emitSafe := by
  obtain ⟨_, rfl, _⟩ := h; rfl

/-! The outputs after a change. -/

@[simp] theorem Dev.demandFollow_guards (d : Dev) : d.demandFollow.shot.guards = d.shot.guards := by
  unfold Dev.demandFollow
  split
  · rw [Dev.setInhibit_guards]; rfl
  · rfl

theorem Dev.emitMay_of_guards (d : Dev) : d.guards.dev.emitMay = d.emitMay := rfl

theorem Dev.emitSafe_of_emitMay (d : Dev) : ({ d.guards with emitEn := d.emitMay } : Guards).dev.emitSafe = true := by
  show (!d.emitMay || d.emitMay) = true
  cases d.emitMay <;> rfl

/-- After a change that the outputs follow, EMIT_EN is as R97 has it and the pairs that R387 does not allow are off. -/
theorem Dev.safetyFollow_sheds (d : Dev) : Guards.Sheds { d.guards with emitEn := d.emitMay } d.safetyFollow.guards := by
  have h := d.demandFollow.emitEnFollow.ossdDrop_sheds
  have hmay : d.demandFollow.emitMay = d.emitMay := by
    rw [← Dev.emitMay_of_guards, Dev.guards, d.demandFollow_guards, ← Dev.guards, Dev.emitMay_of_guards]
  have hfollow : d.demandFollow.emitEnFollow.guards = { d.guards with emitEn := d.emitMay } := by
    rw [Dev.guards, Dev.emitEnFollow_guards, hmay, d.demandFollow_guards]
  rwa [hfollow] at h

theorem Dev.safetyFollow_emitSafe (d : Dev) : d.safetyFollow.guards.dev.emitSafe = true :=
  d.safetyFollow_sheds.emitSafe.trans d.emitSafe_of_emitMay

theorem Dev.safetyFollow_ossdSafe (d : Dev) : d.safetyFollow.guards.dev.ossdSafe = true := d.safetyFollow_sheds.ossdSafe

theorem Dev.safetyFollow_state (d : Dev) : d.safetyFollow.guards.state = d.top.state := d.safetyFollow_sheds.state
theorem Dev.safetyFollow_passed (d : Dev) : d.safetyFollow.guards.passed = d.cal.passed := d.safetyFollow_sheds.passed

theorem Guards.stays_congr {leave : Bool} {v w : Guards} (hs : w.state = v.state) (hp : w.passed = v.passed) :
    w.stays leave ↔ v.stays leave := by simp only [Guards.stays, hs, hp]

/-- A change that the outputs follow keeps what the outputs must keep; HELD is the change's own matter. -/
theorem Dev.safetyFollow_keeps {leave : Bool} {v : Guards} (d : Dev) (h : v.stays leave → d.guards.stays leave) :
    Keeps leave v d.safetyFollow.guards :=
  ⟨fun _ => d.safetyFollow_emitSafe, fun _ => d.safetyFollow_ossdSafe,
    fun hv => (Guards.stays_congr d.safetyFollow_state d.safetyFollow_passed).mpr (h hv)⟩

/-- A change of the device that the pairs alone follow, and that EMIT_EN and HELD do not rest on. -/
theorem Dev.ossdDrop_keeps {leave : Bool} {v : Guards} (d : Dev) (he : v.dev.emitSafe = true → d.emitSafe = true)
    (h : v.stays leave → d.guards.stays leave) : Keeps leave v d.ossdDrop.guards :=
  ⟨fun hv => (d.ossdDrop_sheds.emitSafe).trans (he hv), fun _ => d.ossdDrop_sheds.ossdSafe,
    fun hv => (Guards.stays_congr d.ossdDrop_sheds.state d.ossdDrop_sheds.passed).mpr (h hv)⟩

end Sys2Proof.Machine
end

section
/-! PROOF. Changes of the device state. -/
namespace Sys2Proof.Machine

@[simp] theorem Dev.cnyLeave_guards (d : Dev) : d.cnyLeave.shot.guards = d.shot.guards := by simp [Dev.cnyLeave]

@[simp] theorem Dev.cnyBoundary_guards (d : Dev) (num : Nat) : (d.cnyBoundary num).shot.guards = d.shot.guards := by
  unfold Dev.cnyBoundary
  split
  · rfl
  · simp [apply_ite Dev.shot]

@[simp] theorem Dev.startSettle_shot (d : Dev) (c t : Nat) : (d.startSettle c t).shot = d.shot := by simp [Dev.startSettle]

@[simp] theorem Dev.applyOne_guards (d : Dev) (a : Nat) (v : Word) : (d.applyOne a v).shot.guards = d.shot.guards := by
  unfold Dev.applyOne
  dsimp only
  repeat' split
  all_goals simp

@[simp] theorem Dev.applyShadow_guards (d : Dev) : d.applyShadow.shot.guards = d.shot.guards := by
  simp [Dev.applyShadow, foldl_guards]

@[simp] theorem Dev.applyStep_shot (d : Dev) (n : Int) (src : Bool) : (d.applyStep n src).shot = d.shot := by
  simp [Dev.applyStep, apply_ite Dev.shot]

@[simp] theorem Dev.rejoin_guards (d : Dev) : d.rejoin.shot.guards = d.shot.guards := by
  unfold Dev.rejoin
  refine foldl_guards _ (fun d u => ?_) _ _
  cases u with
  | emitter e => simp [apply_ite Dev.shot, apply_ite ShotView.guards]
  | channel c => simp [apply_ite Dev.shot]
  | quadrant q => simp [foldl_shot, apply_ite Dev.shot]
  | _ => exact congrArg _ (Dev.reinstateUnit_shot _ _)

@[simp] theorem Dev.calStop_guards (d : Dev) : d.calStop.shot.guards = d.shot.guards := by
  simp [Dev.calStop, apply_ite Dev.shot, apply_ite ShotView.guards]

@[simp] theorem Dev.leaveRanging_guards (d : Dev) : d.leaveRanging.shot.guards = d.shot.guards := by
  unfold Dev.leaveRanging
  dsimp only
  split <;> simp

@[simp] theorem Dev.heldGaps_guards (d : Dev) : d.heldGaps.shot.guards = d.shot.guards := by
  simp [Dev.heldGaps, foldl_guards]

@[simp] theorem Dev.headframeTimed_shot (d : Dev) : d.headframeTimed.shot = d.shot := by simp [Dev.headframeTimed]

/-! Changes of the device state. -/

theorem Guards.stays_of_held {g : Guards} (leave : Bool) (h : g.state = .held) : g.stays leave := .inl h

/-- The device in state `st`, before its outputs follow. -/
def Dev.entering (d : Dev) (st : DevState) : Dev :=
  let counted := d.top.state != .reset && d.top.state != st
  let d := { d with top := { d.top with state := st, transitions := if counted then satN 255 (d.top.transitions + 1) else d.top.transitions } }
  if st == DevState.held then { d with cny := { d.cny with watch := none } } else { d with sns := { d.sns with parking := false } }

theorem Dev.goState_eq (d : Dev) (st : DevState) :
    d.goState st = if (d.entering st).safetyFollow.inState [.armed, .ranging, .held] then (d.entering st).safetyFollow.tapsUp
      else (d.entering st).safetyFollow := rfl

theorem Dev.entering_state (d : Dev) (st : DevState) : (d.entering st).top.state = st := by
  unfold Dev.entering; dsimp only; split <;> rfl

theorem Dev.entering_passed (d : Dev) (st : DevState) : (d.entering st).cal.passed = d.cal.passed := by
  unfold Dev.entering; dsimp only; split <;> rfl

@[simp] theorem Dev.goState_guards (d : Dev) (st : DevState) : (d.goState st).shot.guards = (d.entering st).safetyFollow.shot.guards := by
  rw [Dev.goState_eq]
  split
  · rw [Dev.tapsUp_shot]
  · rfl

/-- After a change of the device state the outputs have followed it. -/
theorem Dev.goState_spec (d : Dev) (st : DevState) :
    (d.goState st).guards.dev.emitSafe = true ∧ (d.goState st).guards.dev.ossdSafe = true ∧ (d.goState st).guards.state = st ∧
      (d.goState st).guards.passed = d.cal.passed := by
  rw [Dev.guards, Dev.goState_guards]
  exact ⟨Dev.safetyFollow_emitSafe _, Dev.safetyFollow_ossdSafe _, (Dev.safetyFollow_state _).trans (d.entering_state st),
    (Dev.safetyFollow_passed _).trans (d.entering_passed st)⟩

theorem Dev.goState_keeps {leave : Bool} {v : Guards} (d : Dev) (st : DevState)
    (h : v.stays leave → st = .held ∨ (leave = true ∧ st = .armed ∧ d.cal.passed = false)) : Keeps leave v (d.goState st).guards := by
  obtain ⟨hemit, hossd, hstate, hpassed⟩ := d.goState_spec st
  exact ⟨fun _ => hemit, fun _ => hossd, fun hv => by simpa only [Guards.stays, hstate, hpassed] using h hv⟩

end Sys2Proof.Machine
end

section
/-! PROOF. Entry to HELD, ARMED and RANGING, and the Canary's part in other blocks' commands. -/
namespace Sys2Proof.Machine

/-! Entry to HELD, ARMED and RANGING. -/

/-- From a state other than RESET and HELD a class H fault leads through `goState .held` to HELD with no calibration passed. -/
theorem Dev.enterHeld_live (d : Dev) (code : Nat) (hr : d.top.state ≠ .reset) (hh : d.top.state ≠ .held) :
    ∃ x : Dev, (d.enterHeld code).guards = { (x.goState .held).guards with passed := false } := by
  unfold Dev.enterHeld
  split
  · next h => exact absurd h hr
  · next h => exact absurd h hh
  · exact ⟨_, rfl⟩

/-- In HELD already, a class H fault is one more cause (R412). -/
theorem Dev.enterHeld_held (d : Dev) (code : Nat) (hh : d.top.state = .held) : (d.enterHeld code).shot = d.shot := by
  simp [Dev.enterHeld, hh, ← Dev.shot_fold]

theorem Dev.enterHeld_reset (d : Dev) (code : Nat) (hr : d.top.state = .reset) : d.enterHeld code = d := by
  simp [Dev.enterHeld, hr]

/-- Outside RESET a class H fault leads to HELD (R11). -/
theorem Dev.enterHeld_state (d : Dev) (code : Nat) (hr : d.top.state ≠ .reset) : (d.enterHeld code).top.state = .held := by
  by_cases hh : d.top.state = .held
  · exact (congrArg ShotView.state (d.enterHeld_held code hh)).trans hh
  · obtain ⟨x, hx⟩ := d.enterHeld_live code hr hh
    obtain ⟨-, -, hstate, -⟩ := x.goState_spec .held
    exact (congrArg Guards.state hx).trans hstate

@[simp] theorem Dev.enterHeld_keeps {leave : Bool} {v : Guards} (d : Dev) (code : Nat) (h : Keeps leave v d.shot.guards) :
    Keeps leave v (d.enterHeld code).shot.guards := by
  by_cases hr : d.top.state = .reset
  · rwa [d.enterHeld_reset code hr]
  by_cases hh : d.top.state = .held
  · rwa [d.enterHeld_held code hh]
  obtain ⟨x, hx⟩ := d.enterHeld_live code hr hh
  obtain ⟨hemit, hossd, hstate, -⟩ := x.goState_spec .held
  rw [Dev.guards] at hx
  rw [hx]
  exact ⟨fun _ => hemit, fun _ => hossd, fun _ => .inl hstate⟩

@[simp] theorem Dev.raise_keeps {leave : Bool} {v : Guards} (d : Dev) (code : Nat) (cls : FClass) (act : Bool)
    (h : Keeps leave v d.shot.guards) : Keeps leave v (d.raise code cls act).shot.guards := by
  unfold Dev.raise
  dsimp only
  split
  · exact Dev.enterHeld_keeps _ code (by rwa [Dev.logFault_shot])
  · rwa [Dev.logFault_shot]

@[simp] theorem Dev.raiseD_shot (d : Dev) (code : Nat) (u : UnitId) (act : Bool) : (d.raiseD code u act).shot = d.shot := by
  simp [Dev.raiseD]

@[simp] theorem Dev.onceFault_shot (d : Dev) (a i code : Nat) : (d.onceFault a i code).shot = d.shot := by
  simp [Dev.onceFault, apply_ite Dev.shot]

/-- Entry to ARMED begins a full calibration: none counts as passed (R400). -/
theorem Dev.enterArmed_guards (d : Dev) : d.enterArmed.guards = { (d.goState .armed).guards with passed := false } := by
  rw [Dev.enterArmed, Dev.stage9, Dev.guards, Dev.setBit_shot]; rfl

theorem Dev.enterArmed_keeps {leave : Bool} {v : Guards} (d : Dev) (h : v.stays leave → leave = true) :
    Keeps leave v d.enterArmed.shot.guards := by
  obtain ⟨hemit, hossd, hstate, -⟩ := d.goState_spec .armed
  rw [← Dev.guards, Dev.enterArmed_guards]
  exact ⟨fun _ => hemit, fun _ => hossd, fun hv => .inr ⟨h hv, hstate, rfl⟩⟩

/-- HEADFRAME is not among the states a device that stays is in. -/
theorem Keeps.not_stays {leave : Bool} {v : Guards} {d : Dev} (h : Keeps leave v d.shot.guards) (hh : d.top.state ≠ .held)
    (ha : d.top.state = .armed → d.cal.passed = true) : ¬ v.stays leave := fun hv => by
  rcases h.held hv with hs | ⟨-, hs, hp⟩
  · exact hh hs
  · exact Bool.false_ne_true (hp.symm.trans (ha hs))

@[simp] theorem Dev.armIfReady_keeps {leave : Bool} {v : Guards} (d : Dev) (h : Keeps leave v d.shot.guards) :
    Keeps leave v d.armIfReady.shot.guards := by
  unfold Dev.armIfReady
  split
  · next hc =>
    simp only [Bool.and_eq_true, beq_iff_eq] at hc
    obtain ⟨⟨hstate, -⟩, -⟩ := hc
    exact Dev.enterArmed_keeps _ (fun hv => absurd hv (h.not_stays (by simp [hstate]) (by simp [hstate])))
  · exact h

/-- RANGING is entered from ARMED after a passed calibration (R16). -/
theorem Dev.enterRanging_keeps {leave : Bool} {v : Guards} (d : Dev) (h : ¬ v.stays leave) : Keeps leave v d.enterRanging.shot.guards :=
  Dev.goState_keeps _ .ranging (fun hv => absurd hv h)

/-! The Canary's part in other blocks' commands. -/

@[simp] theorem Dev.pointTap_keeps {leave : Bool} {v : Guards} (d : Dev) (frame cell : Nat) (body : List Byte)
    (h : Keeps leave v d.shot.guards) : Keeps leave v (d.pointTap frame cell body).shot.guards := by
  unfold Dev.pointTap
  repeat' split
  · exact h
  · exact h
  · have hl : Keeps leave v (d.logFault 0x180A .n).shot.guards := by rwa [Dev.logFault_shot]
    exact Dev.ossdDrop_keeps _ hl.emit hl.held
  · exact h

/-- The heartbeat arrives: its loss ends (R363). -/
def Dev.heartbeatBack (d : Dev) : Dev :=
  if d.cny.heartbeat then (({ d with cny := { d.cny with heartbeat := false } }).causeGone 0x1803).safetyFollow else d

/-- The working copy is active, before its reports and the outputs follow (R368). -/
def Dev.copyActive (d : Dev) : Dev :=
  { d with cny := { d.cny with activate := false, paramHold := false, active := some d.workWords } }

/-- CNY_RESP and CAN0's filters follow the active copy (R385, R391). -/
def Dev.reportActive (d : Dev) : Dev :=
  let d := d.setReg R.CNY_RESP (BitVec.ofInt 32 (openQuot (d.prm 7 1 * d.prm 0x0C 4 + 1000 : Nat) 100))
  [0, 1, 2, 3].foldl (fun (d : Dev) f => (d.setReg (R.CAN_FLT 0 (2 * f)) (BitVec.ofNat 32 (2 ^ 31 + d.prm 0x1A 2 % 2048))).setReg (R.CAN_FLT 0 (2 * f + 1)) 0x1FFFFFFF) d

theorem Dev.cnyRound_eq (d : Dev) : d.cnyRound = if d.cny.lost then d
    else if d.heartbeatBack.cny.activate then d.heartbeatBack.copyActive.reportActive.safetyFollow else d.heartbeatBack := rfl

theorem Dev.heartbeatBack_keeps {leave : Bool} {v : Guards} (d : Dev) (h : Keeps leave v d.shot.guards) :
    Keeps leave v d.heartbeatBack.shot.guards := by
  unfold Dev.heartbeatBack
  split
  · exact Dev.safetyFollow_keeps _ h.held
  · exact h

@[simp] theorem Dev.reportActive_shot (d : Dev) : d.reportActive.shot = d.shot := by simp [Dev.reportActive]

@[simp] theorem Dev.cnyRound_keeps {leave : Bool} {v : Guards} (d : Dev) (h : Keeps leave v d.shot.guards) :
    Keeps leave v d.cnyRound.shot.guards := by
  have hbeat := d.heartbeatBack_keeps h
  rw [Dev.cnyRound_eq]
  split
  · exact h
  · split
    · exact Dev.safetyFollow_keeps _ (by rw [Dev.guards, Dev.reportActive_shot]; exact hbeat.held)
    · exact hbeat

end Sys2Proof.Machine
end

section
/-! PROOF. Management writes and reads, whose effect is a function of its own. -/
namespace Sys2Proof.Machine

/-! Management writes: what the write itself does is `eff`. -/

theorem Dev.regWrite_shot (d : Dev) (src a : Nat) (w : Word) (eff : Dev → Dev) (he : ∀ d, (eff d).shot = d.shot) :
    (d.regWrite src a w eff).shot = d.shot := by
  unfold Dev.regWrite
  dsimp only
  repeat' split
  all_goals simp [he]

theorem Dev.regWrite_guards (d : Dev) (src a : Nat) (w : Word) (eff : Dev → Dev) (he : ∀ d, (eff d).shot.guards = d.shot.guards) :
    (d.regWrite src a w eff).shot.guards = d.shot.guards := by
  unfold Dev.regWrite
  dsimp only
  repeat' split
  all_goals simp [he]

theorem Dev.regWrite_keeps {leave : Bool} {v : Guards} (d : Dev) (src a : Nat) (w : Word) (eff : Dev → Dev)
    (he : ∀ d, Keeps leave d.shot.guards (eff d).shot.guards) (h : Keeps leave v d.shot.guards) :
    Keeps leave v (d.regWrite src a w eff).shot.guards := by
  refine h.trans ?_
  unfold Dev.regWrite
  dsimp only
  repeat' split
  · exact .refl _ _
  · simp
  · simpa using he (((d.incSat (R.MGT_CNT_WR src) 31 0 1).journal src a ((d.incSat (R.MGT_CNT_WR src) 31 0 1).shown a) w false false))

theorem Dev.cmdWrite_shot (d : Dev) (src a : Nat) (w : Word) (eff : Dev → Dev) (he : ∀ d, (eff d).shot = d.shot) :
    (d.cmdWrite src a w eff).shot = d.shot := by
  unfold Dev.cmdWrite
  split
  · simp
  · exact d.regWrite_shot src a w eff he

theorem Dev.cmdWrite_guards (d : Dev) (src a : Nat) (w : Word) (eff : Dev → Dev) (he : ∀ d, (eff d).shot.guards = d.shot.guards) :
    (d.cmdWrite src a w eff).shot.guards = d.shot.guards := by
  unfold Dev.cmdWrite
  split
  · simp
  · exact d.regWrite_guards src a w eff he

theorem Dev.cmdWrite_keeps {leave : Bool} {v : Guards} (d : Dev) (src a : Nat) (w : Word) (eff : Dev → Dev)
    (he : ∀ d, Keeps leave d.shot.guards (eff d).shot.guards) (h : Keeps leave v d.shot.guards) :
    Keeps leave v (d.cmdWrite src a w eff).shot.guards := by
  unfold Dev.cmdWrite
  split
  · simpa using h
  · exact d.regWrite_keeps src a w eff he h

theorem Dev.budgetRead_shot (d : Dev) (src act : Nat) (eff : Dev → Dev) (he : ∀ d, (eff d).shot = d.shot) :
    (d.budgetRead src act eff).shot = d.shot := by
  unfold Dev.budgetRead
  split <;> simp [he]

theorem foldl_keeps' {α : Type} {leave : Bool} {v : Guards} (g : Dev → α → Dev)
    (h : ∀ d a, Keeps leave d.shot.guards (g d a).shot.guards) (l : List α) (d : Dev) (hd : Keeps leave v d.shot.guards) :
    Keeps leave v (l.foldl g d).shot.guards := foldl_keeps g (fun d a hd => hd.trans (h d a)) l d hd

end Sys2Proof.Machine
end

section
/-! PROOF. The sequencer to the filters: what their operations leave of the shot path and of the outputs' conditions. -/
namespace Sys2Proof.Machine

@[simp] theorem Dev.calBoundary_guards (d : Dev) : (Dev.calBoundary d).shot.guards = d.shot.guards := by
  unfold Dev.calBoundary
  dsimp only
  repeat' split
  all_goals simp

@[simp] theorem Dev.csiBoundary_shot (d : Dev) (num : Nat) : (Dev.csiBoundary d num).shot = d.shot := by simp [Dev.csiBoundary, foldl_shot, apply_ite Dev.shot]

@[simp] theorem Dev.onPort_shot (d : Dev) (p : Nat) (f : StrPort → StrPort) : (Dev.onPort d p f).shot = d.shot := by simp [Dev.onPort]

@[simp] theorem Dev.setLocked_guards (d : Dev) (p : Nat) (on : Bool) : (Dev.setLocked d p on).shot.guards = d.shot.guards := by simp [Dev.setLocked, apply_ite Dev.shot]

@[simp] theorem Dev.lockUnit_guards (d : Dev) (p : Nat) (ok : Bool) : (Dev.lockUnit d p ok).shot.guards = d.shot.guards := by simp [Dev.lockUnit, apply_ite Dev.shot, apply_ite ShotView.guards]

@[simp] theorem Dev.park_shot (d : Dev) (p : Nat) : (Dev.park d p).shot = d.shot := by simp [Dev.park]

@[simp] theorem Dev.removePort_guards (d : Dev) (p : Nat) (code : Nat) (active : Bool) : (Dev.removePort d p code active).shot.guards = d.shot.guards := by simp [Dev.removePort]

@[simp] theorem Dev.verdictLog_guards (d : Dev) (r : List Byte) : (Dev.verdictLog d r).shot.guards = d.shot.guards := by simp [Dev.verdictLog, apply_ite Dev.shot, apply_ite ShotView.guards]

@[simp] theorem Dev.tailing_guards (d : Dev) (c : Nat) (r : Nat) : (Dev.tailing d c r).shot.guards = d.shot.guards := by simp [Dev.tailing]

@[simp] theorem Dev.onBlock_guards (d : Dev) (e : Nat) (sq : Nat) (f : Block → Block) : (Dev.onBlock d e sq f).shot.guards = d.shot.guards := by simp [Dev.onBlock]

@[simp] theorem Dev.openBlock_guards (d : Dev) (e : Nat) (sq : Nat) (uid : Nat) (cell : Nat) (frame : Nat) : (Dev.openBlock d e sq uid cell frame).shot.guards = d.shot.guards := by simp [Dev.openBlock, apply_ite Dev.shot, apply_ite ShotView.guards]

@[simp] theorem Dev.releaseShadows_guards (d : Dev) (e : Nat) (sq : Nat) : (Dev.releaseShadows d e sq).shot.guards = d.shot.guards := by simp [Dev.releaseShadows]

@[simp] theorem Dev.onWindow_guards (d : Dev) (id : Nat) (f : Win → Win) : (Dev.onWindow d id f).shot.guards = d.shot.guards := by simp [Dev.onWindow]

@[simp] theorem Dev.meterEvent_guards (d : Dev) (c : Nat) (t : Nat) (g : Nat) (id : Nat) : (Dev.meterEvent d c t g id).shot.guards = d.shot.guards := by simp [Dev.meterEvent, apply_ite Dev.shot, apply_ite ShotView.guards]

@[simp] theorem Dev.gateIn_guards (d : Dev) (c : Nat) (e : TdcEvent) : (Dev.gateIn d c e).shot.guards = d.shot.guards := by
  unfold Dev.gateIn
  dsimp only
  repeat' split
  all_goals simp

@[simp] theorem Dev.shadowIn_guards (d : Dev) (g : GatEvent) (w : Win) : (Dev.shadowIn d g w).shot.guards = d.shot.guards := by
  unfold Dev.shadowIn
  dsimp only
  repeat' split
  all_goals simp

@[simp] theorem Dev.selectOne_guards (d : Dev) (g : GatEvent) : (Dev.selectOne d g).shot.guards = d.shot.guards := by
  unfold Dev.selectOne
  dsimp only
  repeat' split
  all_goals simp

@[simp] theorem Dev.gateSettle_guards (d : Dev) (t : Nat) : (Dev.gateSettle d t).shot.guards = d.shot.guards := by simp [Dev.gateSettle, foldl_guards]

@[simp] theorem Dev.pruneWins_guards (d : Dev) : (Dev.pruneWins d).shot.guards = d.shot.guards := by simp [Dev.pruneWins]

@[simp] theorem Dev.countCorr_shot (d : Dev) (m : Nat) : (Dev.countCorr d m).shot = d.shot := by simp [Dev.countCorr]

@[simp] theorem Dev.notAccepted_guards (d : Dev) (reason : Nat) (count : Nat) (cell : Nat) (frame : Nat) : (Dev.notAccepted d reason count cell frame).shot.guards = d.shot.guards := by simp [Dev.notAccepted]

@[simp] theorem Dev.takeEntry_guards (d : Dev) (f : FrameRec) (i : Nat) (v : Nat) : (Dev.takeEntry d f i v).shot.guards = d.shot.guards := by simp [Dev.takeEntry, foldl_guards, apply_ite Dev.shot, apply_ite ShotView.guards]

@[simp] theorem Dev.poisonEntry_guards (d : Dev) (f : FrameRec) (i : Nat) : (Dev.poisonEntry d f i).shot.guards = d.shot.guards := by simp [Dev.poisonEntry, apply_ite Dev.shot]

@[simp] theorem Dev.issueShot_guards (d : Dev) (f : FrameRec) (uid : Nat) (e : Nat) (n : Nat) (i : Nat) : (Dev.issueShot d f uid e n i).shot.guards = d.shot.guards := by
  unfold Dev.issueShot
  dsimp only
  repeat' split
  all_goals simp

@[simp] theorem Dev.startCell_guards (d : Dev) (f : FrameRec) (e : Entry) (i : Nat) (c : Nat) (emitters : List Nat) : (Dev.startCell d f e i c emitters).1.shot.guards = d.shot.guards := by simp [Dev.startCell]

@[simp] theorem Dev.shotIssue_guards (d : Dev) (predicted : Nat) : (Dev.shotIssue d predicted).shot.guards = d.shot.guards := by
  unfold Dev.shotIssue
  dsimp only
  repeat' split
  all_goals simp

@[simp] theorem Dev.commandSettle_guards (d : Dev) (m : List Host.Cell) : (Dev.commandSettle d m).shot.guards = d.shot.guards := by
  unfold Dev.commandSettle
  dsimp only
  repeat' split
  all_goals simp [foldl_guards, apply_ite Dev.shot]

@[simp] theorem Dev.settledNow_guards (d : Dev) : (Dev.settledNow d).shot.guards = d.shot.guards := by simp [Dev.settledNow, apply_ite Dev.shot, apply_ite ShotView.guards]

@[simp] theorem Dev.squashCmd_guards (d : Dev) (w : Word) : (Dev.squashCmd d w).shot.guards = d.shot.guards := by simp [Dev.squashCmd, foldl_guards, apply_ite Dev.shot, apply_ite ShotView.guards]

@[simp] theorem Dev.checkInOne_guards (d : Dev) (i : Nat) (sl : Slot) : (Dev.checkInOne d i sl).shot.guards = d.shot.guards := by simp [Dev.checkInOne]

@[simp] theorem Dev.tallyRead_shot (d : Dev) (src : Nat) (slot : Nat) (word : Nat) : (Dev.tallyRead d src slot word).shot = d.shot := by simp [Dev.tallyRead, apply_ite Dev.shot]

@[simp] theorem Dev.switchReserve_guards (d : Dev) : (Dev.switchReserve d).shot.guards = d.shot.guards := by simp [Dev.switchReserve, apply_ite Dev.shot]

@[simp] theorem Dev.lodeStart_guards (d : Dev) (bank : Nat) : (d.lodeStart bank).shot.guards = d.shot.guards := by
  simp only [Dev.lodeStart, apply_ite Dev.shot, Dev.logFault_shot, ite_self]
  simp
  split
  · split <;> simp
  · rfl

@[simp] theorem Dev.lodeBoundary_guards (d : Dev) : (Dev.lodeBoundary d).shot.guards = d.shot.guards := by simp [Dev.lodeBoundary, apply_ite Dev.shot, apply_ite ShotView.guards]

@[simp] theorem Dev.frameBoundary_guards (d : Dev) (m : List Host.Cell) (edgePoisoned : Bool) (f : FrameRec) : (Dev.frameBoundary d m edgePoisoned f).shot.guards = d.shot.guards := by
  unfold Dev.frameBoundary
  dsimp only
  repeat' split
  all_goals simp

@[simp] theorem Dev.withhold_guards (d : Dev) (i : Nat) (sl : Slot) (r : Nat) : (Dev.withhold d i sl r).shot.guards = d.shot.guards := by simp [Dev.withhold, apply_ite Dev.shot, apply_ite ShotView.guards]

@[simp] theorem Dev.admitOne_guards (d : Dev) (m : List Host.Cell) (i : Nat) (sl : Slot) : (Dev.admitOne d m i sl).shot.guards = d.shot.guards := by simp [Dev.admitOne, apply_ite Dev.shot, apply_ite ShotView.guards]

@[simp] theorem Dev.assignBlock_guards (d : Dev) (sl : Slot) : (Dev.assignBlock d sl).1.shot.guards = d.shot.guards := by
  unfold Dev.assignBlock
  dsimp only
  repeat' split
  all_goals simp

@[simp] theorem Dev.openHists_guards (d : Dev) (uid : Nat) (chs : List Nat) : (Dev.openHists d uid chs).shot.guards = d.shot.guards := by
  unfold Dev.openHists; repeat' first | split | refine foldl_guards _ (fun _ _ => ?_) _ _ | simp only []
  all_goals simp

@[simp] theorem Dev.fireSample_shot (d : Dev) (m : List Host.Cell) (sl : Slot) : (Dev.fireSample d m sl).1.shot = d.shot := by
  unfold Dev.fireSample
  extract_lets mapBad t d1 mc d2 d3
  have h1 : d1.shot = d.shot := foldl_shot _ (fun _ _ => by simp) _ _
  have h2 : d2.shot = d1.shot := by simp [d2]
  have h3 : d3.shot = d2.shot := by simp [d3, apply_ite Dev.shot]
  split
  · exact h1
  · exact h3.trans (h2.trans h1)

@[simp] theorem Dev.debit_guards (d : Dev) (sl : Slot) (ok : Bool) : (d.debit sl ok).shot.guards = d.shot.guards := by
  unfold Dev.debit
  dsimp only
  rw [Dev.shot_mk, ShotView.guards_mk, Dev.guards_fold]
  exact foldl_guards _ (fun _ _ => by simp) _ _

@[simp] theorem Dev.fireOne_guards (d : Dev) (m : List Host.Cell) (i : Nat) (sl : Slot) : (d.fireOne m i sl).shot.guards = d.shot.guards := by
  rw [Dev.fireOne]
  split
  rename_i d1 sl1 hsample
  split
  rename_i d2 sq pl hblock
  have h2 : d2.shot.guards = d.shot.guards := by
    rw [← d.fireSample_shot m sl, hsample, ← d1.assignBlock_guards sl1, hblock]
  simp [apply_ite Dev.shot, apply_ite ShotView.guards, h2]

@[simp] theorem Dev.removeEmitter_guards (d : Dev) (e : Nat) : (Dev.removeEmitter d e).shot.guards = d.shot.guards := by simp [Dev.removeEmitter]

@[simp] theorem Dev.monResult_keeps {leave : Bool} {v : Guards} (d : Dev) (r : MonRec) (result : Nat) (h : Keeps leave v d.shot.guards) :
    Keeps leave v (d.monResult r result).shot.guards := by
  have hlast : ∀ (x : Dev) (c : Prop) [Decidable c], x.shot.guards = d.shot.guards →
      Keeps leave v (if c then x.raise 0x0603 .h else x).shot.guards := by
    intro x c _ hx
    split <;> simp [hx, h]
  unfold Dev.monResult
  dsimp only
  split
  · simp [h]
  · exact hlast _ _ (by simp [apply_ite Dev.shot, apply_ite ShotView.guards])

@[simp] theorem Dev.correct_guards (d : Dev) (r : MonRec) (result : Nat) (w : Nat) : (Dev.correct d r result w).shot.guards = d.shot.guards := by simp [Dev.correct, apply_ite Dev.shot, apply_ite ShotView.guards]

@[simp] theorem Dev.emtCmd_shot (d : Dev) (w : Word) : (Dev.emtCmd d w).shot = d.shot := by simp [Dev.emtCmd, apply_ite Dev.shot]

@[simp] theorem Dev.onCh_shot (d : Dev) (c : Nat) (f : RfeCh → RfeCh) : (Dev.onCh d c f).shot = d.shot := by simp [Dev.onCh]

@[simp] theorem Dev.chReport_shot (d : Dev) (c : Nat) : (Dev.chReport d c).shot = d.shot := by simp [Dev.chReport]

@[simp] theorem Dev.captureEdge_shot (d : Dev) (c : Nat) (t : Nat) (fine : Nat) : (Dev.captureEdge d c t fine).shot = d.shot := by simp [Dev.captureEdge]

@[simp] theorem Dev.leadingEdge_shot (d : Dev) (c : Nat) (fine : Nat) : (Dev.leadingEdge d c fine).shot = d.shot := by
  unfold Dev.leadingEdge
  dsimp only
  repeat' split
  all_goals simp

@[simp] theorem Dev.applyNotch_shot (d : Dev) (c : Nat) : (Dev.applyNotch d c).shot = d.shot := by simp [Dev.applyNotch, apply_ite Dev.shot]

@[simp] theorem Dev.applyCh_guards (d : Dev) (c : Nat) : (Dev.applyCh d c).shot.guards = d.shot.guards := by simp [Dev.applyCh, foldl_guards, apply_ite Dev.shot]

@[simp] theorem Dev.rfeWrite_guards (d : Dev) (c : Nat) (a : Nat) (v : Word) : (Dev.rfeWrite d c a v).shot.guards = d.shot.guards := by simp [Dev.rfeWrite, apply_ite Dev.shot, apply_ite ShotView.guards]

@[simp] theorem Dev.portCfgWrite_guards (d : Dev) (q : Nat) (v : Word) : (Dev.portCfgWrite d q v).shot.guards = d.shot.guards := by
  have happly : ∀ (x : Dev) (l : List Nat), (l.foldl (fun d c => if d.ranging && d.scheduled c then d else d.applyCh c) x).shot.guards = x.shot.guards := by
    refine fun x l => foldl_guards _ (fun y c => ?_) _ _
    split <;> simp
  unfold Dev.portCfgWrite
  extract_lets chs d1 d2
  have h1 : d1.shot.guards = d.shot.guards := foldl_guards _ (fun _ _ => by simp) _ _
  have h2 : d2.shot.guards = d1.shot.guards := by simp [d2]
  exact (happly _ _).trans (h2.trans h1)

@[simp] theorem Dev.evalCh_shot (d : Dev) (c : Nat) : (Dev.evalCh d c).shot = d.shot := by simp [Dev.evalCh, apply_ite Dev.shot]

@[simp] theorem Dev.evalPort_shot (d : Dev) (q : Nat) (evaluated : List Nat) : (Dev.evalPort d q evaluated).shot = d.shot := by simp [Dev.evalPort, apply_ite Dev.shot]

@[simp] theorem Dev.quadrantTrip_shot (d : Dev) (q : Nat) : (Dev.quadrantTrip d q).shot = d.shot := by simp [Dev.quadrantTrip, foldl_shot]

@[simp] theorem Dev.removeCh_shot (d : Dev) (c : Nat) (code : Nat) (active : Bool) : (Dev.removeCh d c code active).shot = d.shot := by simp [Dev.removeCh]

@[simp] theorem Dev.rfeCmd_shot (d : Dev) (w : Word) (compLow : Bool) : (Dev.rfeCmd d w compLow).shot = d.shot := by
  unfold Dev.rfeCmd
  dsimp only
  repeat' split
  all_goals simp

@[simp] theorem Dev.dropWindow_guards (d : Dev) (w : Win) (c : Nat) : (Dev.dropWindow d w c).shot.guards = d.shot.guards := by simp [Dev.dropWindow]

@[simp] theorem Dev.openWindow_guards (d : Dev) (w : Win) : (Dev.openWindow d w).shot.guards = d.shot.guards := by simp [Dev.openWindow, foldl_guards, apply_ite Dev.shot, apply_ite ShotView.guards]

@[simp] theorem Dev.onHist_guards (d : Dev) (k : Nat) (f : Hist → Hist) : (Dev.onHist d k f).shot.guards = d.shot.guards := by
  unfold Dev.onHist
  dsimp only
  repeat' split
  all_goals simp

@[simp] theorem Dev.handWindow_guards (d : Dev) (b : Block) (w : Win) : (Dev.handWindow d b w).shot.guards = d.shot.guards := by
  unfold Dev.handWindow; repeat' first | split | refine foldl_guards _ (fun _ _ => ?_) _ _ | simp only []
  all_goals simp

@[simp] theorem Dev.reattrLost_shot (d : Dev) (w : Win) : (Dev.reattrLost d w).shot = d.shot := by
  unfold Dev.reattrLost
  repeat' split
  all_goals simp

@[simp] theorem Dev.evaluate_guards (d : Dev) (uid : Nat) : (Dev.evaluate d uid).shot.guards = d.shot.guards := by
  unfold Dev.evaluate
  dsimp only
  repeat' split
  all_goals simp

@[simp] theorem Dev.retireBlocks_guards (d : Dev) : (Dev.retireBlocks d).shot.guards = d.shot.guards := by simp [Dev.retireBlocks, foldl_guards, apply_ite Dev.shot, apply_ite ShotView.guards]

@[simp] theorem Dev.commitDone_keeps {leave : Bool} {v : Guards} (d : Dev) (b : Block) (h : Keeps leave v d.shot.guards) : Keeps leave v (Dev.commitDone d b).shot.guards := by
  unfold Dev.commitDone
  dsimp only
  repeat' split
  all_goals simp [h]

@[simp] theorem Dev.judge_keeps {leave : Bool} {v : Guards} (d : Dev) (b : Block) (h : Keeps leave v d.shot.guards) : Keeps leave v (d.judge b).shot.guards := by
  have hlast : ∀ (x : Dev) (c : Bool), x.shot.guards = d.shot.guards → Keeps leave v ((if c then x.commitDone b else x).retireBlocks).shot.guards := by
    intro x c hx
    cases c <;> simp [hx, h]
  unfold Dev.judge
  exact hlast _ _ (by simp [apply_ite Dev.shot, apply_ite ShotView.guards, foldl_guards, foldl_shot])

@[simp] theorem Dev.judgeAll_keeps {leave : Bool} {v : Guards} (n : Nat) (d : Dev) (h : Keeps leave v d.shot.guards) : Keeps leave v (Dev.judgeAll n d).shot.guards := by
  induction n generalizing d with
  | zero => exact h
  | succ n ih =>
    unfold Dev.judgeAll
    split
    · exact h
    · exact ih _ (Dev.judge_keeps _ _ h)

@[simp] theorem Dev.commitOne_keeps {leave : Bool} {v : Guards} (d : Dev) (e : ProvEntry) (err : Nat) (h : Keeps leave v d.shot.guards) : Keeps leave v (Dev.commitOne d e err).shot.guards := by
  unfold Dev.commitOne
  dsimp only
  repeat' split
  all_goals simp [h, foldl_guards]

@[simp] theorem Dev.onCore_guards (d : Dev) (k : Nat) (f : Core → Core) : (Dev.onCore d k f).shot.guards = d.shot.guards := by simp [Dev.onCore]

@[simp] theorem Dev.dispatch_guards (d : Dev) (s : CandSet) : (Dev.dispatch d s).shot.guards = d.shot.guards := by
  unfold Dev.dispatch
  repeat' split
  all_goals simp

@[simp] theorem Dev.noteHandoff_guards (d : Dev) (uid : Nat) : (Dev.noteHandoff d uid).shot.guards = d.shot.guards := by
  unfold Dev.noteHandoff
  dsimp only
  repeat' split
  all_goals simp

@[simp] theorem Dev.setBusy_guards (d : Dev) (k : Nat) (on : Bool) : (Dev.setBusy d k on).shot.guards = d.shot.guards := by
  unfold Dev.setBusy
  dsimp only
  repeat' split
  all_goals simp

@[simp] theorem Dev.coreReport_shot (d : Dev) (k : Nat) : (Dev.coreReport d k).shot = d.shot := by simp [Dev.coreReport]

@[simp] theorem Dev.coreFault_keeps {leave : Bool} {v : Guards} (d : Dev) (k : Nat) (code : Nat) (cls : FClass) (h : Keeps leave v d.shot.guards) : Keeps leave v (Dev.coreFault d k code cls).shot.guards := by simp [Dev.coreFault, h]

@[simp] theorem Dev.acceptRecord_keeps {leave : Bool} {v : Guards} (d : Dev) (c : CellRec) (body : List Byte) (fallback : List Byte) (x : Nat) (h : Keeps leave v d.shot.guards) : Keeps leave v (Dev.acceptRecord d c body fallback x).shot.guards := by
  unfold Dev.acceptRecord
  dsimp only
  repeat' split
  all_goals simp [h]

@[simp] theorem Dev.fallback_keeps {leave : Bool} {v : Guards} (d : Dev) (c : CellRec) (noBatch : Bool) (degraded : Bool) (x : Nat) (h : Keeps leave v d.shot.guards) : Keeps leave v (Dev.fallback d c noBatch degraded x).shot.guards := by simp [Dev.fallback, h]

@[simp] theorem Dev.retireCells_guards (d : Dev) : (Dev.retireCells d).shot.guards = d.shot.guards := by simp [Dev.retireCells]

@[simp] theorem Dev.removeCore_keeps {leave : Bool} {v : Guards} (d : Dev) (k code : Nat) (h : Keeps leave v d.shot.guards) : Keeps leave v (d.removeCore k code).shot.guards := by
  unfold Dev.removeCore
  simp only [Dev.coreReport_shot, Dev.retireCells_guards]
  refine foldl_keeps _ (fun d b h => ?_) _ _ (by simp [h])
  split
  · split
    · exact h
    · exact Dev.fallback_keeps _ _ _ _ _ h
  · exact h

@[simp] theorem Dev.endBatch_keeps {leave : Bool} {v : Guards} (d : Dev) (k : Nat) (b : Batch) (h : Keeps leave v d.shot.guards) : Keeps leave v (Dev.endBatch d k b).shot.guards := by
  unfold Dev.endBatch
  dsimp only
  repeat' split
  all_goals simp [h]

@[simp] theorem Dev.onHoiCh_shot (d : Dev) (n : Nat) (f : HoiCh → HoiCh) : (Dev.onHoiCh d n f).shot = d.shot := by simp [Dev.onHoiCh]

@[simp] theorem Dev.putTag_shot (d : Dev) (t : DTag) : (Dev.putTag d t).shot = d.shot := by simp [Dev.putTag]

@[simp] theorem Dev.failHoist_keeps {leave : Bool} {v : Guards} (d : Dev) (code : Nat) (h : Keeps leave v d.shot.guards) :
    Keeps leave v (Dev.failHoist d code).shot.guards := by
  unfold Dev.failHoist
  extract_lets d1 d2 d3 d4
  have h1 : d1.shot = d.shot := by simp [d1]
  have h2 : d2.shot = d1.shot := by simp [d2]
  have h3 : d3.shot = d2.shot := by
    simp only [d3]
    split <;> simp
  have h4 : (d4.setReg R.FMN_DRAM_CAP 0).shot = d3.shot := by simp [d4]
  have h0 : Keeps leave v (d4.setReg R.FMN_DRAM_CAP 0).shot.guards := by
    rw [h4, h3, h2, h1]
    exact h
  clear_value d4
  exact Dev.armIfReady_keeps _ h0

@[simp] theorem Dev.showTraining_shot (d : Dev) : (Dev.showTraining d).shot = d.shot := by
  unfold Dev.showTraining
  repeat' split
  all_goals simp

@[simp] theorem Dev.startTraining_shot (d : Dev) (target : Nat) (retrain : Bool) : (Dev.startTraining d target retrain).shot = d.shot := by
  have hbegun : ∀ x : Dev, x.shot = d.shot → (({ x with hoi := { x.hoi with
      training := some { target := target, rate := firstRate target, start := x.now, retrain := retrain }
      ratePend := none, laneTest := none } } : Dev).showTraining).shot = d.shot := by
    intro x hx
    rw [Dev.showTraining_shot]
    exact hx
  exact hbegun _ ((foldl_shot _ (fun _ _ => by simp) _ _).trans (by simp))

@[simp] theorem Dev.closeCell_guards (d : Dev) (c : CellRec) : (Dev.closeCell d c).shot.guards = d.shot.guards := by simp [Dev.closeCell, foldl_guards]

@[simp] theorem Dev.freeY_shot (d : Dev) (s : CandSet) : (Dev.freeY d s).1.shot = d.shot := by
  unfold Dev.freeY
  repeat' split
  all_goals simp

@[simp] theorem Dev.lodePanic_shot (d : Dev) : (Dev.lodePanic d).shot = d.shot := by simp [Dev.lodePanic, apply_ite Dev.shot]

@[simp] theorem Dev.lodePut_guards (d : Dev) (s : CandSet) (c : Cand) : (Dev.lodePut d s c).shot.guards = d.shot.guards := by simp [Dev.lodePut, apply_ite Dev.shot, apply_ite ShotView.guards]

@[simp] theorem Dev.reserveAppend_guards (d : Dev) (cell : Nat) : (Dev.reserveAppend d cell).shot.guards = d.shot.guards := by simp [Dev.reserveAppend, apply_ite Dev.shot, apply_ite ShotView.guards]

@[simp] theorem Dev.lodeReceive_guards (d : Dev) (s : CandSet) : (Dev.lodeReceive d s).1.shot.guards = d.shot.guards := by
  unfold Dev.lodeReceive
  dsimp only
  repeat' split
  all_goals simp [foldl_guards]

@[simp] theorem Dev.handOff_keeps {leave : Bool} {v : Guards} (d : Dev) (s : CandSet) (cut : Nat) (h : Keeps leave v d.shot.guards) : Keeps leave v (Dev.handOff d s cut).1.shot.guards := by
  unfold Dev.handOff
  dsimp only
  repeat' split
  all_goals simp [h]

@[simp] theorem Dev.exportRaw_guards (d : Dev) (lane : Nat) (s : CandSet) (words : List Word) : (Dev.exportRaw d lane s words).shot.guards = d.shot.guards := by simp [Dev.exportRaw, apply_ite Dev.shot, apply_ite ShotView.guards]

@[simp] theorem Dev.hstWinWrite_shot (d : Dev) (m : List Host.Cell) (src : Nat) (addr : Nat) (value : Word) : (Dev.hstWinWrite d m src addr value).shot = d.shot := by simp [Dev.hstWinWrite, apply_ite Dev.shot]

@[simp] theorem Dev.hstRead_shot (d : Dev) (src : Nat) (k : Nat) (word : Nat) : (Dev.hstRead d src k word).shot = d.shot := by simp [Dev.hstRead, apply_ite Dev.shot]

@[simp] theorem Dev.reportCheck_shot (d : Dev) (r : Admit) : (Dev.reportCheck d r).shot = d.shot := by simp [Dev.reportCheck, foldl_shot]

@[simp] theorem Dev.runCheck_shot (d : Dev) (m : List Host.Cell) : (Dev.runCheck d m).1.shot = d.shot := by
  unfold Dev.runCheck
  dsimp only
  repeat' split
  all_goals simp

@[simp] theorem Dev.recheck_shot (d : Dev) (m : List Host.Cell) : (Dev.recheck d m).shot = d.shot := by simp [Dev.recheck, apply_ite Dev.shot]

@[simp] theorem Dev.fmnCmd_shot (d : Dev) (w : Word) : (Dev.fmnCmd d w).shot = d.shot := by simp [Dev.fmnCmd, apply_ite Dev.shot]

@[simp] theorem Dev.allocWrite_shot (d : Dev) (a : Nat) (v : Word) : (Dev.allocWrite d a v).shot = d.shot := by simp [Dev.allocWrite]

@[simp] theorem Dev.charge_shot (d : Dev) (a : Nat) (n : Nat) : (Dev.charge d a n).shot = d.shot := by simp [Dev.charge]

@[simp] theorem Dev.borrow_shot (d : Dev) (n : Nat) : (Dev.borrow d n).shot = d.shot := by simp [Dev.borrow]

theorem Dev.tryServe_shot {d d' : Dev} {a n : Nat} {panic : Bool} (h : d.tryServe a n panic = some d') : d'.shot = d.shot := by
  unfold Dev.tryServe at h
  dsimp only at h
  split at h
  · cases h; simp
  split at h
  · cases h; simp
  · cases h

@[simp] theorem Dev.request_shot (d : Dev) (a n : Nat) (panic : Bool) : (d.request a n panic).1.shot = d.shot := by
  unfold Dev.request
  dsimp only
  split
  · split <;> simp
  split
  · rename_i h
    exact Dev.tryServe_shot h
  · simp

@[simp] theorem Dev.applyAlloc_shot (d : Dev) : (Dev.applyAlloc d).shot = d.shot := by simp [Dev.applyAlloc, foldl_shot]

@[simp] theorem Dev.closeRound_shot (d : Dev) : (Dev.closeRound d).shot = d.shot := by simp [Dev.closeRound, foldl_shot, apply_ite Dev.shot]

@[simp] theorem Dev.serveWaiting_shot (d : Dev) : (d.serveWaiting).shot = d.shot := by simp [Dev.serveWaiting, foldl_shot]

@[simp] theorem Dev.roundCore_guards (d : Dev) (k : Nat) : (Dev.roundCore d k).shot.guards = d.shot.guards := by simp [Dev.roundCore]

@[simp] theorem Dev.takeEvent_guards (d : Dev) (k : Nat) (e : Nat) : (Dev.takeEvent d k e).shot.guards = d.shot.guards := by simp [Dev.takeEvent, apply_ite Dev.shot, apply_ite ShotView.guards]

@[simp] theorem Dev.haltCore_guards (d : Dev) (k : Nat) : (Dev.haltCore d k).shot.guards = d.shot.guards := by simp [Dev.haltCore]

@[simp] theorem Dev.resumeCore_guards (d : Dev) (k : Nat) : (Dev.resumeCore d k).shot.guards = d.shot.guards := by simp [Dev.resumeCore, apply_ite Dev.shot, apply_ite ShotView.guards]

@[simp] theorem Dev.dispatchWrite_shot (d : Dev) (m : List Host.Cell) (k : Nat) (on : Bool) : (Dev.dispatchWrite d m k on).1.shot = d.shot := by
  unfold Dev.dispatchWrite
  repeat' split
  all_goals simp

@[simp] theorem Dev.haltWrite_guards (d : Dev) (k : Nat) (on : Bool) : (Dev.haltWrite d k on).shot.guards = d.shot.guards := by simp [Dev.haltWrite, apply_ite Dev.shot, apply_ite ShotView.guards]

@[simp] theorem Dev.asyCtrl_guards (d : Dev) (m : List Host.Cell) (k : Nat) (w : Word) : (Dev.asyCtrl d m k w).shot.guards = d.shot.guards := by simp [Dev.asyCtrl, apply_ite Dev.shot, apply_ite ShotView.guards]

@[simp] theorem Dev.onFlt_shot (d : Dev) (n : Nat) (f : FltCh → FltCh) : (Dev.onFlt d n f).shot = d.shot := by simp [Dev.onFlt]

@[simp] theorem Dev.fltDelay_shot (d : Dev) (n : Nat) (fir : Nat) : (Dev.fltDelay d n fir).shot = d.shot := by simp [Dev.fltDelay, apply_ite Dev.shot]

@[simp] theorem Dev.fltReset_shot (d : Dev) (n : Nat) : (Dev.fltReset d n).shot = d.shot := by simp [Dev.fltReset]

@[simp] theorem Dev.fltClear_shot (d : Dev) (n : Nat) : (Dev.fltClear d n).shot = d.shot := by simp [Dev.fltClear]

@[simp] theorem Dev.fltFeed_shot (d : Dev) (n : Nat) (x : Int) : (Dev.fltFeed d n x).shot = d.shot := by simp [Dev.fltFeed, apply_ite Dev.shot]

@[simp] theorem Dev.fltSource_shot (d : Dev) (src : Nat) (x : Int) : (Dev.fltSource d src x).shot = d.shot := by simp [Dev.fltSource, foldl_shot, apply_ite Dev.shot]

@[simp] theorem Dev.fltConverter_shot (d : Dev) (u : Nat) (e : Nat) (x : Int) : (Dev.fltConverter d u e x).shot = d.shot := by simp [Dev.fltConverter, foldl_shot, apply_ite Dev.shot]

@[simp] theorem Dev.settleSample_shot (d : Dev) (p : Nat) : (Dev.settleSample d p).shot = d.shot := by simp [Dev.settleSample, apply_ite Dev.shot]

@[simp] theorem Dev.positionSample_guards (d : Dev) (p : Nat) (a : Int) (b : Int) (unitDone : Bool) (unitOk : Bool) : (Dev.positionSample d p a b unitDone unitOk).shot.guards = d.shot.guards := by simp [Dev.positionSample, apply_ite Dev.shot, apply_ite ShotView.guards]

@[simp] theorem Dev.strCmd_shot (d : Dev) (p : Nat) (w : Word) : (Dev.strCmd d p w).shot = d.shot := by simp [Dev.strCmd, apply_ite Dev.shot]

@[simp] theorem Dev.stallLevel_guards (d : Dev) (p : Nat) (on : Bool) : (Dev.stallLevel d p on).shot.guards = d.shot.guards := by simp [Dev.stallLevel, apply_ite Dev.shot]

@[simp] theorem Dev.strCtrlWrite_guards (d : Dev) (p : Nat) (v : Word) : (Dev.strCtrlWrite d p v).shot.guards = d.shot.guards := by simp [Dev.strCtrlWrite, apply_ite Dev.shot, apply_ite ShotView.guards]

@[simp] theorem Dev.strSetpointWrite_shot (d : Dev) (p : Nat) (v : Word) : (Dev.strSetpointWrite d p v).shot = d.shot := by simp [Dev.strSetpointWrite, apply_ite Dev.shot]

@[simp] theorem Dev.tapHold_shot (d : Dev) (t : Nat) (a : Nat) (v : Word) : (Dev.tapHold d t a v).shot = d.shot := by simp [Dev.tapHold, apply_ite Dev.shot]

@[simp] theorem Dev.tapCfgWrite_shot (d : Dev) (t : Nat) (v : Word) : (Dev.tapCfgWrite d t v).shot = d.shot := by simp [Dev.tapCfgWrite, apply_ite Dev.shot]

@[simp] theorem Dev.wavSeq_shot (d : Dev) (t : Nat) : (Dev.wavSeq d t).1.shot = d.shot := by simp [Dev.wavSeq]

@[simp] theorem Dev.lateTrigger_shot (d : Dev) (t : Nat) (x : Trig) : (Dev.lateTrigger d t x).shot = d.shot := by
  unfold Dev.lateTrigger
  repeat' split
  all_goals simp

@[simp] theorem Dev.endCapture_shot (d : Dev) (t : Nat) (post : Nat) (truncated : Bool) (samples : List Nat) : (Dev.endCapture d t post truncated samples).shot = d.shot := by
  unfold Dev.endCapture
  dsimp only
  repeat' split
  all_goals simp

@[simp] theorem Dev.ringRestart_shot (d : Dev) (t : Nat) : (Dev.ringRestart d t).shot = d.shot := by simp [Dev.ringRestart, foldl_shot]

@[simp] theorem Dev.wavCmd_shot (d : Dev) (w : Word) : (Dev.wavCmd d w).shot = d.shot := by simp [Dev.wavCmd, apply_ite Dev.shot]

@[simp] theorem Dev.ringMove_shot (d : Dev) (t : Nat) (rd : Nat) : (Dev.ringMove d t rd).shot = d.shot := by simp [Dev.ringMove]

@[simp] theorem Dev.ringRdWrite_shot (d : Dev) (t : Nat) (v : Word) : (Dev.ringRdWrite d t v).shot = d.shot := by simp [Dev.ringRdWrite, apply_ite Dev.shot]

@[simp] theorem Dev.fltActivate_shot (d : Dev) (n : Nat) : (Dev.fltActivate d n).shot = d.shot := by simp [Dev.fltActivate]

@[simp] theorem Dev.fltShow_shot (d : Dev) (n : Nat) : (Dev.fltShow d n).shot = d.shot := by simp [Dev.fltShow]

@[simp] theorem Dev.fltLevel_guards (d : Dev) (n : Nat) (on : Bool) : (Dev.fltLevel d n on).shot.guards = d.shot.guards := by simp [Dev.fltLevel, foldl_guards, apply_ite Dev.shot, apply_ite ShotView.guards]

@[simp] theorem Dev.fltRise_guards (d : Dev) (n : Nat) : (Dev.fltRise d n).shot.guards = d.shot.guards := by simp [Dev.fltRise, apply_ite Dev.shot]

@[simp] theorem Dev.fltEvent_guards (d : Dev) (n : Nat) (y : Int) : (Dev.fltEvent d n y).shot.guards = d.shot.guards := by simp [Dev.fltEvent, apply_ite Dev.shot, apply_ite ShotView.guards]

@[simp] theorem Dev.fadeEnd_shot (d : Dev) (n : Nat) : (Dev.fadeEnd d n).shot = d.shot := by
  unfold Dev.fadeEnd
  dsimp only
  repeat' split
  all_goals simp

@[simp] theorem Dev.swapDue_shot (d : Dev) (n : Nat) : (Dev.swapDue d n).shot = d.shot := by simp [Dev.swapDue, apply_ite Dev.shot]

@[simp] theorem Dev.fltOutput_guards (d : Dev) (n : Nat) : (Dev.fltOutput d n).shot.guards = d.shot.guards := by
  unfold Dev.fltOutput
  dsimp only
  repeat' split
  all_goals simp

@[simp] theorem Dev.fltSwap_shot (d : Dev) (n : Nat) : (Dev.fltSwap d n).1.shot = d.shot := by
  unfold Dev.fltSwap
  dsimp only
  repeat' split
  all_goals simp

@[simp] theorem Dev.fltReinstate_shot (d : Dev) (n : Nat) : (Dev.fltReinstate d n).1.shot = d.shot := by
  unfold Dev.fltReinstate
  dsimp only
  repeat' split
  all_goals simp

@[simp] theorem Dev.fltCmd_shot (d : Dev) (w : Word) : (Dev.fltCmd d w).shot = d.shot := by
  unfold Dev.fltCmd
  dsimp only
  repeat' split
  all_goals simp

@[simp] theorem Dev.bankOpen_shot (d : Dev) (n : Nat) (b : Nat) : (Dev.bankOpen d n b).1.shot = d.shot := by
  unfold Dev.bankOpen
  repeat' split
  all_goals simp

@[simp] theorem Dev.coefWrite_shot (d : Dev) (a : Nat) (v : Word) : (Dev.coefWrite d a v).shot = d.shot := by simp [Dev.coefWrite, apply_ite Dev.shot]

@[simp] theorem Dev.bankWrite_shot (d : Dev) (n : Nat) (v : Word) : (Dev.bankWrite d n v).shot = d.shot := by
  unfold Dev.bankWrite
  extract_lets a d1 one
  have hone : ∀ (x : Dev) (b lo hi : Nat), (one x b lo hi).shot = x.shot := by
    intro x b lo hi
    simp only [one]
    split
    · rfl
    · simp [apply_ite Dev.shot]
  rw [hone, hone]
  simp [d1]

@[simp] theorem Dev.fltCfgWrite_shot (d : Dev) (n : Nat) (v : Word) : (Dev.fltCfgWrite d n v).shot = d.shot := by simp [Dev.fltCfgWrite]

@[simp] theorem Dev.onHka_shot (d : Dev) (u : Nat) (f : HkaU → HkaU) : (Dev.onHka d u f).shot = d.shot := by simp [Dev.onHka]

@[simp] theorem Dev.hkaReport_shot (d : Dev) (u : Nat) : (Dev.hkaReport d u).shot = d.shot := by simp [Dev.hkaReport]

@[simp] theorem Dev.hkaBegin_shot (d : Dev) (u : Nat) : (Dev.hkaBegin d u).shot = d.shot := by simp [Dev.hkaBegin]

@[simp] theorem Dev.hkaRelease_shot (d : Dev) (u : Nat) : (Dev.hkaRelease d u).shot = d.shot := by simp [Dev.hkaRelease, apply_ite Dev.shot]

@[simp] theorem Dev.hkaStart_shot (d : Dev) (u : Nat) : (Dev.hkaStart d u).1.shot = d.shot := by
  unfold Dev.hkaStart
  dsimp only
  repeat' split
  all_goals simp

@[simp] theorem Dev.hkaSource_shot (d : Dev) (x : Nat) : (Dev.hkaSource d x).shot = d.shot := by simp [Dev.hkaSource, foldl_shot, apply_ite Dev.shot]

@[simp] theorem Dev.calBegin_shot (d : Dev) (u : Nat) : (Dev.calBegin d u).shot = d.shot := by simp [Dev.calBegin, apply_ite Dev.shot]

@[simp] theorem Dev.hkaConversion_shot (d : Dev) (u : Nat) (value : Int) (overload : Bool) : (d.hkaConversion u value overload).shot = d.shot := by
  unfold Dev.hkaConversion
  split
  · rfl
  split
  · rfl
  dsimp only
  split <;> simp [apply_ite Dev.shot]

@[simp] theorem Dev.hkaInject_shot (d : Dev) (u : Nat) (a : Nat) (code : Nat) : (Dev.hkaInject d u a code).1.shot = d.shot := by
  unfold Dev.hkaInject
  dsimp only
  repeat' split
  all_goals simp

@[simp] theorem Dev.hkaCal_shot (d : Dev) (u : Nat) : (Dev.hkaCal d u).1.shot = d.shot := by
  unfold Dev.hkaCal
  dsimp only
  repeat' split
  all_goals simp

@[simp] theorem Dev.hkaCmdStart_shot (d : Dev) (u : Nat) : (Dev.hkaCmdStart d u).1.shot = d.shot := by
  unfold Dev.hkaCmdStart
  dsimp only
  repeat' split
  all_goals simp

@[simp] theorem Dev.hkaCmd_shot (d : Dev) (w : Word) : (Dev.hkaCmd d w).shot = d.shot := by
  unfold Dev.hkaCmd
  dsimp only
  repeat' split
  all_goals simp

@[simp] theorem Dev.calResult_shot (d : Dev) (u : Nat) (offset : Int) (gainPpm : Int) (offCode : Nat) (gainCode : Nat) : (Dev.calResult d u offset gainPpm offCode gainCode).shot = d.shot := by simp [Dev.calResult, apply_ite Dev.shot]

@[simp] theorem Dev.hkaSeqWrite_shot (d : Dev) (u : Nat) (e : Nat) (v : Word) : (Dev.hkaSeqWrite d u e v).shot = d.shot := by simp [Dev.hkaSeqWrite, apply_ite Dev.shot]

@[simp] theorem Dev.hkaCfgWrite_shot (d : Dev) (u : Nat) (v : Word) : (Dev.hkaCfgWrite d u v).shot = d.shot := by simp [Dev.hkaCfgWrite]

@[simp] theorem Dev.onSns_shot (d : Dev) (n : Nat) (f : SnsCh → SnsCh) : (Dev.onSns d n f).shot = d.shot := by simp [Dev.onSns]

@[simp] theorem Dev.onSnsAll_shot (d : Dev) (f : SnsState → SnsState) : (Dev.onSnsAll d f).shot = d.shot := by simp [Dev.onSnsAll]

@[simp] theorem Dev.biasBaseWrite_shot (d : Dev) (v : Word) : (Dev.biasBaseWrite d v).shot = d.shot := by simp [Dev.biasBaseWrite, apply_ite Dev.shot]

@[simp] theorem Dev.biasResult_shot (d : Dev) (c : Nat) (valid : Bool) (v : Int) : (Dev.biasResult d c valid v).shot = d.shot := by simp [Dev.biasResult, apply_ite Dev.shot]

@[simp] theorem Dev.putVal_shot (d : Dev) (c : Nat) (v : Int) (valid : Bool) : (Dev.putVal d c v valid).shot = d.shot := by simp [Dev.putVal]

@[simp] theorem Dev.snsResult_shot (d : Dev) (c : Nat) (sum : Int) (n : Nat) (bad : Bool) : (Dev.snsResult d c sum n bad).shot = d.shot := by simp [Dev.snsResult, apply_ite Dev.shot]

@[simp] theorem Dev.slotEnd_shot (d : Dev) (i : Nat) (value : Int) (lead : Int) (tripped : Bool) : (Dev.slotEnd d i value lead tripped).shot = d.shot := by
  unfold Dev.slotEnd
  dsimp only
  repeat' split
  all_goals simp [foldl_shot]

@[simp] theorem Dev.snsCfgWrite_shot (d : Dev) (c : Nat) (v : Word) : (Dev.snsCfgWrite d c v).shot = d.shot := by simp [Dev.snsCfgWrite, apply_ite Dev.shot]

@[simp] theorem Dev.heaterOut_shot (d : Dev) (k : Nat) (on : Bool) : (Dev.heaterOut d k on).shot = d.shot := by simp [Dev.heaterOut, apply_ite Dev.shot]

@[simp] theorem Dev.imuDrop_shot (d : Dev) : (Dev.imuDrop d).shot = d.shot := by simp [Dev.imuDrop, apply_ite Dev.shot]

@[simp] theorem Dev.imuCmd_shot (d : Dev) (w : Word) : (Dev.imuCmd d w).shot = d.shot := by simp [Dev.imuCmd, apply_ite Dev.shot]

end Sys2Proof.Machine
end

section
/-! PROOF. Calibration to management: what their operations leave of the shot path and of the outputs' conditions. -/
namespace Sys2Proof.Machine

@[simp] theorem Dev.putTraining_shot (d : Dev) (x : Training) : (Dev.putTraining d x).shot = d.shot := by simp [Dev.putTraining]

@[simp] theorem Dev.applyRate_shot (d : Dev) (x : Training) (ok : Bool) (r : Nat) : (Dev.applyRate d x ok r).shot = d.shot := by simp [Dev.applyRate, apply_ite Dev.shot]

@[simp] theorem Dev.gatherEnd_keeps {leave : Bool} {v : Guards} (d : Dev) (x : Training) (ok : Bool) (h : Keeps leave v d.shot.guards) : Keeps leave v (Dev.gatherEnd d x ok).shot.guards := by
  unfold Dev.gatherEnd
  repeat' split
  all_goals simp [h]

@[simp] theorem Dev.trainStep_keeps {leave : Bool} {v : Guards} (d : Dev) (ok : Bool) (h : Keeps leave v d.shot.guards) : Keeps leave v (Dev.trainStep d ok).shot.guards := by
  unfold Dev.trainStep
  repeat' split
  all_goals simp [h]

@[simp] theorem Dev.trained_keeps {leave : Bool} {v : Guards} (d : Dev) (x : Training) (baseline : Bool) (h : Keeps leave v d.shot.guards) :
    Keeps leave v (Dev.trained d x baseline).shot.guards := by
  have hserving : ∀ y : Dev, y.shot = d.shot → Keeps leave v ((({ (y.reinstateUnit .hoist) with
      hoi := { (y.reinstateUnit .hoist).hoi with training := none }
      boot := { (y.reinstateUnit .hoist).boot with dramDone := true } } : Dev).setBit R.WAV_STATUS 8 false).tapsUp.armIfReady).shot.guards := by
    intro y hy
    simp [hy, h]
  have hbaseline : ∀ (y : Dev) (c : Bool) (l : List Nat) (p : UnitId → Bool), (if c then
      ({ (l.foldl (fun (d : Dev) a => d.setReg a 0) y).setFld R.HOI_STATUS 17 16 0 with
        top := { (l.foldl (fun (d : Dev) a => d.setReg a 0) y).top with removed := (l.foldl (fun (d : Dev) a => d.setReg a 0) y).top.removed.filter p } } : Dev)
      else y).shot = y.shot := by
    intro y c l p
    cases c
    · rfl
    · rw [if_pos rfl, ← foldl_shot (fun (d : Dev) a => d.setReg a 0) (fun _ _ => by simp) l y]
      exact Dev.setFld_shot (l.foldl (fun (d : Dev) a => d.setReg a 0) y) R.HOI_STATUS 17 16 0
  unfold Dev.trained
  exact hserving _ ((hbaseline _ _ _ _).trans ((foldl_shot _ (fun _ _ => by simp) _ _).trans (by simp)))


@[simp] theorem Dev.hoiCmd_shot (d : Dev) (w : Word) : (Dev.hoiCmd d w).shot = d.shot := by
  unfold Dev.hoiCmd
  dsimp only
  repeat' split
  all_goals simp

@[simp] theorem Dev.hoiCtrlWrite_shot (d : Dev) (v : Word) : (Dev.hoiCtrlWrite d v).shot = d.shot := by
  unfold Dev.hoiCtrlWrite
  dsimp only
  repeat' split
  all_goals simp

@[simp] theorem Dev.retryPut_shot (d : Dev) (n : Nat) (sub : Nat) (rank : Nat) : (Dev.retryPut d n sub rank).shot = d.shot := by simp [Dev.retryPut]

@[simp] theorem Dev.rhActivate_shot (d : Dev) (n : Nat) (bank : Nat) (row : Nat) : (Dev.rhActivate d n bank row).shot = d.shot := by simp [Dev.rhActivate, apply_ite Dev.shot]

@[simp] theorem Dev.tagTouch_shot (d : Dev) (n : Nat) (b : Nat) (write : Bool) : (Dev.tagTouch d n b write).shot = d.shot := by simp [Dev.tagTouch, apply_ite Dev.shot]

@[simp] theorem Dev.srExit_shot (d : Dev) (n : Nat) : (Dev.srExit d n).shot = d.shot := by simp [Dev.srExit]

@[simp] theorem Dev.noteStall_shot (d : Dev) (a : Nat) : (Dev.noteStall d a).shot = d.shot := by simp [Dev.noteStall, apply_ite Dev.shot]

@[simp] theorem Dev.burstFault_shot (d : Dev) (n : Nat) : (Dev.burstFault d n).shot = d.shot := by simp [Dev.burstFault, apply_ite Dev.shot]

@[simp] theorem Dev.rankUncorr_shot (d : Dev) (n : Nat) (rank : Nat) : (Dev.rankUncorr d n rank).shot = d.shot := by simp [Dev.rankUncorr, apply_ite Dev.shot]

@[simp] theorem Dev.judgeBurst_shot (d : Dev) (a : Nat) (e0 : Nat) (e1 : Nat) (tagBad : Bool) (window : Bool) : (Dev.judgeBurst d a e0 e1 tagBad window).1.shot = d.shot := by
  unfold Dev.judgeBurst
  dsimp only
  repeat' split
  all_goals simp

@[simp] theorem Dev.closeRank_shot (d : Dev) (n : Nat) (rank : Nat) (ba : Option Nat) : (Dev.closeRank d n rank ba).shot = d.shot := by simp [Dev.closeRank]

@[simp] theorem Dev.recoverEnd_shot (d : Dev) (n : Nat) : (Dev.recoverEnd d n).shot = d.shot := by simp [Dev.recoverEnd]

@[simp] theorem Dev.fallBack_keeps {leave : Bool} {v : Guards} (d : Dev) (n : Nat) (h : Keeps leave v d.shot.guards) : Keeps leave v (Dev.fallBack d n).shot.guards := by
  unfold Dev.fallBack
  dsimp only
  repeat' split
  all_goals simp [h]

@[simp] theorem Dev.markDead_shot (d : Dev) (n : Nat) (rank : Nat) (pos : Nat) : (Dev.markDead d n rank pos).shot = d.shot := by simp [Dev.markDead, apply_ite Dev.shot]

@[simp] theorem Dev.takeCommit_keeps {leave : Bool} {v : Guards} (d : Dev) (k : Nat) (h : Keeps leave v d.shot.guards) : Keeps leave v (Dev.takeCommit d k).shot.guards := by
  unfold Dev.takeCommit
  dsimp only
  repeat' split
  all_goals simp [h]

@[simp] theorem Dev.copyDrop_shot (d : Dev) : (Dev.copyDrop d).shot = d.shot := by simp [Dev.copyDrop]

@[simp] theorem Dev.csiCopy_shot (d : Dev) (n : Nat) (bytes : List Byte) (room : Bool) : (Dev.csiCopy d n bytes room).shot = d.shot := by simp [Dev.csiCopy, apply_ite Dev.shot]

@[simp] theorem Dev.ethSend_shot (d : Dev) (cls : Nat) (src : Nat) (dst : Nat) (payload : List Byte) : (Dev.ethSend d cls src dst payload).shot = d.shot := by simp [Dev.ethSend]

@[simp] theorem Dev.ethCopy_shot (d : Dev) (n : Nat) (bytes : List Byte) (room : Bool) : (Dev.ethCopy d n bytes room).shot = d.shot := by simp [Dev.ethCopy, apply_ite Dev.shot]

@[simp] theorem Dev.streamApply_shot (d : Dev) (n : Nat) : (Dev.streamApply d n).shot = d.shot := by simp [Dev.streamApply, foldl_shot]

@[simp] theorem Dev.closePacket_shot (d : Dev) (n : Nat) (errs : List Nat) (csiRoom : Bool) (ethRoom : Bool) : (Dev.closePacket d n errs csiRoom ethRoom).shot = d.shot := by
  unfold Dev.closePacket
  dsimp only
  repeat' split
  all_goals simp [foldl_shot, apply_ite Dev.shot]

@[simp] theorem Dev.pntCmd_shot (d : Dev) (w : Word) : (Dev.pntCmd d w).shot = d.shot := by
  unfold Dev.pntCmd
  dsimp only
  repeat' split
  all_goals simp [foldl_shot]

@[simp] theorem Dev.clearWhere_shot (d : Dev) (f : Nat → LogEntry → Bool) : (Dev.clearWhere d f).shot = d.shot := by simp [Dev.clearWhere]

@[simp] theorem Dev.clearJournal_shot (d : Dev) (w : Word) : (Dev.clearJournal d w).shot = d.shot := by simp [Dev.clearJournal]

@[simp] theorem Dev.flgCmd_shot (d : Dev) (w : Word) : (Dev.flgCmd d w).shot = d.shot := by
  unfold Dev.flgCmd
  dsimp only
  repeat' split
  all_goals simp

@[simp] theorem Dev.copyApply_shot (d : Dev) : (Dev.copyApply d).shot = d.shot := by simp [Dev.copyApply, foldl_shot, apply_ite Dev.shot]

@[simp] theorem Dev.copyHold_shot (d : Dev) (a : Nat) (v : Word) : (Dev.copyHold d a v).shot = d.shot := by simp [Dev.copyHold]

@[simp] theorem Dev.copyRead_shot (d : Dev) (v : Word) : (Dev.copyRead d v).shot = d.shot := by simp [Dev.copyRead]

@[simp] theorem Dev.copyLost_shot (d : Dev) : (Dev.copyLost d).shot = d.shot := by simp [Dev.copyLost]

@[simp] theorem Dev.trimWrite_guards (d : Dev) (a : Nat) (v : Word) : (Dev.trimWrite d a v).shot.guards = d.shot.guards := by simp [Dev.trimWrite, apply_ite Dev.shot, apply_ite ShotView.guards]

@[simp] theorem Dev.calCmd_guards (d : Dev) (w : Word) : (Dev.calCmd d w).shot.guards = d.shot.guards := by
  unfold Dev.calCmd
  dsimp only
  repeat' split
  all_goals simp

@[simp] theorem Dev.skewShot_guards (d : Dev) (dec : Nat) (e : Nat) : (Dev.skewShot d dec e).1.shot.guards = d.shot.guards := by
  unfold Dev.skewShot
  dsimp only
  repeat' split
  all_goals simp

@[simp] theorem Dev.blindEnd_guards (d : Dev) (q : Nat) (ok : Bool) (codes : List (Nat × Word)) : (Dev.blindEnd d q ok codes).shot.guards = d.shot.guards := by simp [Dev.blindEnd, foldl_guards, apply_ite Dev.shot, apply_ite ShotView.guards]

@[simp] theorem Dev.canPut_shot (d : Dev) (n : Nat) (b : Nat) (id : Nat) (data : List Byte) : (Dev.canPut d n b id data).shot = d.shot := by simp [Dev.canPut, foldl_shot]

@[simp] theorem Dev.safeRecord_shot (d : Dev) (msg : List Byte) : (Dev.safeRecord d msg).shot = d.shot := by simp [Dev.safeRecord, apply_ite Dev.shot]

@[simp] theorem Dev.copyDiscard_shot (d : Dev) : (Dev.copyDiscard d).shot = d.shot := by simp [Dev.copyDiscard]

@[simp] theorem Dev.offCheck_keeps {leave : Bool} {v : Guards} (d : Dev) (h : Keeps leave v d.shot.guards) : Keeps leave v (Dev.offCheck d).shot.guards := by
  unfold Dev.offCheck
  dsimp only
  repeat' split
  all_goals simp [h]

@[simp] theorem Dev.cnyDone_shot (d : Dev) (w : Word) (status : Nat) (reason : Nat) : (Dev.cnyDone d w status reason).shot = d.shot := by simp [Dev.cnyDone]

@[simp] theorem Dev.inContour_shot (d : Dev) (f : Nat) (az : Nat) (dist : Int) : (Dev.inContour d f az dist).2.shot = d.shot := by
  unfold Dev.inContour
  dsimp only
  repeat' split
  all_goals simp

@[simp] theorem Dev.laneTo_shot (d : Dev) (n : Nat) (st : LaneSt) : (Dev.laneTo d n st).shot = d.shot := by simp [Dev.laneTo, apply_ite Dev.shot]

@[simp] theorem Dev.laneRise_shot (d : Dev) (n : Nat) : (Dev.laneRise d n).shot = d.shot := by simp [Dev.laneRise, foldl_shot, apply_ite Dev.shot]

@[simp] theorem Dev.laneEnterUp_shot (d : Dev) (n : Nat) (gen : Nat) : (Dev.laneEnterUp d n gen).shot = d.shot := by simp [Dev.laneEnterUp, apply_ite Dev.shot]

@[simp] theorem Dev.laneStep_shot (d : Dev) (n : Nat) : (Dev.laneStep d n).shot = d.shot := by simp [Dev.laneStep]

@[simp] theorem Dev.laneAgree_shot (d : Dev) (n : Nat) : (Dev.laneAgree d n).shot = d.shot := by simp [Dev.laneAgree, apply_ite Dev.shot]

@[simp] theorem Dev.laneConclude_shot (d : Dev) (n : Nat) (pass : Bool) : (Dev.laneConclude d n pass).shot = d.shot := by simp [Dev.laneConclude, apply_ite Dev.shot]

@[simp] theorem Dev.laneJudge_shot (d : Dev) (n : Nat) : (Dev.laneJudge d n).shot = d.shot := by
  unfold Dev.laneJudge
  repeat' split
  all_goals simp

@[simp] theorem Dev.laneStart_shot (d : Dev) (n : Nat) : (Dev.laneStart d n).shot = d.shot := by simp [Dev.laneStart, apply_ite Dev.shot]

@[simp] theorem Dev.lnkCfgWrite_shot (d : Dev) (n : Nat) (v : Word) : (Dev.lnkCfgWrite d n v).shot = d.shot := by simp [Dev.lnkCfgWrite, apply_ite Dev.shot]

@[simp] theorem Dev.lnkCmd_shot (d : Dev) (n : Nat) (w : Word) : (Dev.lnkCmd d n w).shot = d.shot := by
  unfold Dev.lnkCmd
  dsimp only
  repeat' split
  all_goals simp

@[simp] theorem Dev.retrainDone_shot (d : Dev) (n : Nat) : (Dev.retrainDone d n).shot = d.shot := by simp [Dev.retrainDone, apply_ite Dev.shot]

@[simp] theorem Dev.laneUnlock_shot (d : Dev) (n : Nat) : (Dev.laneUnlock d n).shot = d.shot := by simp [Dev.laneUnlock]

@[simp] theorem Dev.rxDiscard_shot (d : Dev) (n : Nat) : (Dev.rxDiscard d n).shot = d.shot := by simp [Dev.rxDiscard]

@[simp] theorem Dev.packetSent_keeps {leave : Bool} {v : Guards} (d : Dev) (p : Packet) (tEnd : Nat) (lane : Nat) (h : Keeps leave v d.shot.guards) : Keeps leave v (Dev.packetSent d p tEnd lane).shot.guards := by
  unfold Dev.packetSent; repeat' first | split | refine foldl_keeps' _ (fun _ _ => ?_) _ _ ?_ | simp only []
  all_goals simp [*]

@[simp] theorem Dev.takePacket_shot (d : Dev) (n : Nat) (p : Packet) : (Dev.takePacket d n p).shot = d.shot := by simp [Dev.takePacket]

@[simp] theorem Dev.sendData_keeps {leave : Bool} {v : Guards} (d : Dev) (n : Nat) (tEnd : Nat) (p : Packet) (off : Nat) (keep : Option (Packet × Nat) → Lane → Lane) (h : Keeps leave v d.shot.guards) : Keeps leave v (Dev.sendData d n tEnd p off keep).shot.guards := by
  unfold Dev.sendData
  dsimp only
  repeat' split
  all_goals simp [h]

@[simp] theorem Dev.slotUp_keeps {leave : Bool} {v : Guards} (d : Dev) (n : Nat) (tEnd : Nat) (h : Keeps leave v d.shot.guards) : Keeps leave v (Dev.slotUp d n tEnd).shot.guards := by
  unfold Dev.slotUp
  dsimp only
  repeat' split
  all_goals simp [h]

@[simp] theorem Dev.slotStep_shot (d : Dev) (n : Nat) : (Dev.slotStep d n).shot = d.shot := by
  unfold Dev.slotStep
  dsimp only
  repeat' split
  all_goals simp

@[simp] theorem Dev.slotCap_shot (d : Dev) (n : Nat) : (Dev.slotCap d n).shot = d.shot := by simp [Dev.slotCap]

@[simp] theorem Dev.slotCount_shot (d : Dev) (n : Nat) : (Dev.slotCount d n).shot = d.shot := by simp [Dev.slotCount]

@[simp] theorem Dev.commitStep_shot (d : Dev) (n : Int) (fromSource : Bool) : (Dev.commitStep d n fromSource).shot = d.shot := by simp [Dev.commitStep, apply_ite Dev.shot]

@[simp] theorem Dev.servo_shot (d : Dev) : (Dev.servo d).shot = d.shot := by simp [Dev.servo]

@[simp] theorem Dev.applyOffset_shot (d : Dev) (fine : Int) : (Dev.applyOffset d fine).shot = d.shot := by simp [Dev.applyOffset, apply_ite Dev.shot]

@[simp] theorem Dev.sourceHeard_shot (d : Dev) : (Dev.sourceHeard d).shot = d.shot := by simp [Dev.sourceHeard]

@[simp] theorem Dev.capture_shot (d : Dev) (phase : Nat) : (Dev.capture d phase).shot = d.shot := by simp [Dev.capture]

@[simp] theorem Dev.syncBad_shot (d : Dev) : (Dev.syncBad d).shot = d.shot := by simp [Dev.syncBad]

@[simp] theorem Dev.frameAtWrite_shot (d : Dev) (v : Word) : (Dev.frameAtWrite d v).shot = d.shot := by simp [Dev.frameAtWrite, apply_ite Dev.shot]

@[simp] theorem Dev.pairCommit_shot (d : Dev) (base : Nat) : (Dev.pairCommit d base).shot = d.shot := by simp [Dev.pairCommit, apply_ite Dev.shot]

@[simp] theorem Dev.pairHigh_shot (d : Dev) (src : Nat) (base : Nat) (v : Word) : (Dev.pairHigh d src base v).shot = d.shot := by
  unfold Dev.pairHigh
  dsimp only
  repeat' split
  all_goals simp

@[simp] theorem Dev.csiCtrlWrite_shot (d : Dev) (v : Word) : (Dev.csiCtrlWrite d v).shot = d.shot := by simp [Dev.csiCtrlWrite, apply_ite Dev.shot]

@[simp] theorem Dev.ethDiscard_shot (d : Dev) : (Dev.ethDiscard d).shot = d.shot := by simp [Dev.ethDiscard]

@[simp] theorem Dev.mdioCmd_shot (d : Dev) (w : Word) (turn : Bool) (data : Nat) : (Dev.mdioCmd d w turn data).shot = d.shot := by simp [Dev.mdioCmd, apply_ite Dev.shot]

@[simp] theorem Dev.replaceStop_guards (d : Dev) : (Dev.replaceStop d).shot.guards = d.shot.guards := by simp [Dev.replaceStop, apply_ite Dev.shot, apply_ite ShotView.guards]

@[simp] theorem Dev.topDone_shot (d : Dev) (w : Word) (status : Nat) (reason : Nat) : (Dev.topDone d w status reason).shot = d.shot := by simp [Dev.topDone]

@[simp] theorem Dev.topStop_guards (d : Dev) (w : Word) : (Dev.topStop d w).shot.guards = d.shot.guards := by simp [Dev.topStop, apply_ite Dev.shot, apply_ite ShotView.guards]

@[simp] theorem Dev.topHold_keeps {leave : Bool} {v : Guards} (d : Dev) (w : Word) (h : Keeps leave v d.shot.guards) : Keeps leave v (Dev.topHold d w).shot.guards := by
  unfold Dev.topHold
  repeat' split
  all_goals simp [h]

@[simp] theorem Dev.fuseAnswer_shot (d : Dev) (w : Word) (status : Nat) (reason : Nat) : (Dev.fuseAnswer d w status reason).shot = d.shot := by simp [Dev.fuseAnswer]

@[simp] theorem Dev.fuseShow_shot (d : Dev) : (Dev.fuseShow d).shot = d.shot := by simp [Dev.fuseShow]

@[simp] theorem Dev.fuseCmd_shot (d : Dev) (w : Word) : (Dev.fuseCmd d w).shot = d.shot := by simp [Dev.fuseCmd, apply_ite Dev.shot]

@[simp] theorem Dev.fuseDone_shot (d : Dev) (hash : List Word) : (Dev.fuseDone d hash).shot = d.shot := by
  unfold Dev.fuseDone
  dsimp only
  repeat' split
  all_goals simp [foldl_shot]

@[simp] theorem Dev.attestCmd_shot (d : Dev) (w : Word) : (Dev.attestCmd d w).shot = d.shot := by simp [Dev.attestCmd, apply_ite Dev.shot]

@[simp] theorem Dev.attestDone_shot (d : Dev) (nonce : List Word) : (Dev.attestDone d nonce).shot = d.shot := by simp [Dev.attestDone, foldl_shot]

@[simp] theorem Dev.onCan_shot (d : Dev) (n : Nat) (f : CanSt → CanSt) : (Dev.onCan d n f).shot = d.shot := by simp [Dev.onCan]

@[simp] theorem Dev.canStore_shot (d : Dev) (n : Nat) (e : List Byte) : (Dev.canStore d n e).shot = d.shot := by simp [Dev.canStore, apply_ite Dev.shot]

@[simp] theorem Dev.canAnswerSent_shot (d : Dev) (n : Nat) : (Dev.canAnswerSent d n).shot = d.shot := by
  unfold Dev.canAnswerSent
  dsimp only
  repeat' split
  all_goals simp

@[simp] theorem Dev.canSend_shot (d : Dev) (n : Nat) : (Dev.canSend d n).shot = d.shot := by
  unfold Dev.canSend
  dsimp only
  repeat' split
  all_goals simp

@[simp] theorem Dev.canBusOff_shot (d : Dev) (n : Nat) : (Dev.canBusOff d n).shot = d.shot := by simp [Dev.canBusOff]

@[simp] theorem Dev.canCmd_shot (d : Dev) (n : Nat) (w : Word) : (Dev.canCmd d n w).shot = d.shot := by simp [Dev.canCmd, apply_ite Dev.shot]

@[simp] theorem Dev.canaryWrite_shot (d : Dev) (src : Nat) (a : Nat) (w : Word) : (Dev.canaryWrite d src a w).shot = d.shot := by simp [Dev.canaryWrite, apply_ite Dev.shot]

@[simp] theorem Dev.canWord_shot (d : Dev) (a : Nat) (v : Word) : (Dev.canWord d a v).shot = d.shot := by simp [Dev.canWord, apply_ite Dev.shot]

@[simp] theorem Dev.reload_guards (d : Dev) (a : Nat) : (Dev.reload d a).shot.guards = d.shot.guards := by simp [Dev.reload, apply_ite Dev.shot, apply_ite ShotView.guards]

@[simp] theorem Dev.pairRead_shot (d : Dev) (src : Nat) (b : Nat) (high : Bool) : (Dev.pairRead d src b high).1.shot = d.shot := by
  unfold Dev.pairRead
  dsimp only
  repeat' split
  all_goals simp

@[simp] theorem Dev.registerRead_guards (d : Dev) (src : Nat) (a : Nat) : (Dev.registerRead d src a).1.shot.guards = d.shot.guards := by
  unfold Dev.registerRead
  dsimp only
  repeat' split
  all_goals simp

@[simp] theorem Dev.shadowPut_guards (d : Dev) (a : Nat) (v : Word) : (Dev.shadowPut d a v).shot.guards = d.shot.guards := by simp [Dev.shadowPut, apply_ite Dev.shot, apply_ite ShotView.guards]

@[simp] theorem Dev.noteTrim_guards (d : Dev) (a : Nat) : (Dev.noteTrim d a).shot.guards = d.shot.guards := by simp [Dev.noteTrim, apply_ite Dev.shot, apply_ite ShotView.guards]

@[simp] theorem Dev.shadowWrite_guards (d : Dev) (a : Nat) (w : Word) : (Dev.shadowWrite d a w).shot.guards = d.shot.guards := by simp [Dev.shadowWrite]

@[simp] theorem Dev.limitWrite_guards (d : Dev) (src : Nat) (a : Nat) (w : Word) : (Dev.limitWrite d src a w).shot.guards = d.shot.guards := by
  unfold Dev.limitWrite
  dsimp only
  repeat' split
  all_goals simp

@[simp] theorem Dev.clkWrite_shot (d : Dev) (src : Nat) (a : Nat) (w : Word) : (Dev.clkWrite d src a w).shot = d.shot := by
  unfold Dev.clkWrite
  repeat' split
  all_goals simp

@[simp] theorem Dev.shotWrite_guards (d : Dev) (src : Nat) (a : Nat) (w : Word) (o : Outside) : (Dev.shotWrite d src a w o).shot.guards = d.shot.guards := by simp [Dev.shotWrite, apply_ite Dev.shot, apply_ite ShotView.guards]

@[simp] theorem Dev.dataWrite_shot (d : Dev) (src : Nat) (a : Nat) (w : Word) : (Dev.dataWrite d src a w).shot = d.shot := by simp [Dev.dataWrite, apply_ite Dev.shot]

@[simp] theorem Dev.senseWrite_shot (d : Dev) (a : Nat) (w : Word) : (Dev.senseWrite d a w).shot = d.shot := by simp [Dev.senseWrite, apply_ite Dev.shot]

@[simp] theorem Dev.linkWrite_shot (d : Dev) (src : Nat) (a : Nat) (w : Word) (o : Outside) : (Dev.linkWrite d src a w o).shot = d.shot := by simp [Dev.linkWrite, apply_ite Dev.shot]

@[simp] theorem Dev.waits_shot (d : Dev) (src : Nat) : (Dev.waits d src).shot = d.shot := by simp [Dev.waits]

@[simp] theorem Dev.answer_shot (d : Dev) (src : Nat) (v : Word) (status : Nat) : (Dev.answer d src v status).shot = d.shot := by simp [Dev.answer]

@[simp] theorem Dev.readAnswer_guards (d : Dev) (src : Nat) (a : Nat) : (Dev.readAnswer d src a).shot.guards = d.shot.guards := by simp [Dev.readAnswer, apply_ite Dev.shot, apply_ite ShotView.guards]

@[simp] theorem Dev.frameEnds_shot (d : Dev) (src : Nat) (status : Nat) (written : Nat) : (Dev.frameEnds d src status written).shot = d.shot := by simp [Dev.frameEnds]

@[simp] theorem Dev.phase_shot (d : Dev) (p : Nat) : (Dev.phase d p).shot = d.shot := by simp [Dev.phase]

@[simp] theorem Dev.resetWatched_shot (d : Dev) (c : Nat) : (Dev.resetWatched d c).shot = d.shot := by simp [Dev.resetWatched]

@[simp] theorem Dev.pllLock_shot (d : Dev) : (Dev.pllLock d).shot = d.shot := by simp [Dev.pllLock]

@[simp] theorem Dev.identify_keeps {leave : Bool} {v : Guards} (d : Dev) (h : Keeps leave v d.shot.guards) : Keeps leave v (Dev.identify d).shot.guards := by
  unfold Dev.identify
  dsimp only
  repeat' split
  all_goals simp [h, foldl_shot]

@[simp] theorem Dev.flashCfg_shot (d : Dev) (mode : Nat) (mhz : Nat) (sfdp : Nat) (log2 : Nat) : (Dev.flashCfg d mode mhz sfdp log2).shot = d.shot := by simp [Dev.flashCfg]

@[simp] theorem Dev.startRead_shot (d : Dev) : (Dev.startRead d).shot = d.shot := by simp [Dev.startRead]

@[simp] theorem Dev.discover_keeps {leave : Bool} {v : Guards} (d : Dev) (jedec : List Byte) (sfdpOk : Bool) (modes : List (Nat × Nat)) (log2 : Nat) (h : Keeps leave v d.shot.guards) : Keeps leave v (Dev.discover d jedec sfdpOk modes log2).shot.guards := by
  unfold Dev.discover
  dsimp only
  repeat' split
  all_goals simp [h]

@[simp] theorem Dev.reject_keeps {leave : Bool} {v : Guards} (d : Dev) (code : Nat) (idx : Option Nat) (h : Keeps leave v d.shot.guards) : Keeps leave v (Dev.reject d code idx).shot.guards := by
  unfold Dev.reject
  dsimp only
  repeat' split
  all_goals simp [h]

@[simp] theorem Dev.burstFailed_keeps {leave : Bool} {v : Guards} (d : Dev) (h : Keeps leave v d.shot.guards) : Keeps leave v (Dev.burstFailed d).shot.guards := by
  unfold Dev.burstFailed
  dsimp only
  repeat' split
  all_goals simp [h]

@[simp] theorem Dev.accept_shot (d : Dev) (l : List Byte) : (Dev.accept d l).shot = d.shot := by simp [Dev.accept, foldl_shot, apply_ite Dev.shot]

@[simp] theorem Dev.verifyImage_keeps {leave : Bool} {v : Guards} (d : Dev) (h : Keeps leave v d.shot.guards) : Keeps leave v (Dev.verifyImage d).shot.guards := by
  unfold Dev.verifyImage
  dsimp only
  repeat' split
  all_goals simp [h, foldl_shot]

@[simp] theorem Dev.coefLoad_shot (d : Dev) (b : List Byte) : (Dev.coefLoad d b).shot = d.shot := by simp [Dev.coefLoad, foldl_shot]

@[simp] theorem Dev.budgLoad_shot (d : Dev) (b : List Byte) : (Dev.budgLoad d b).shot = d.shot := by simp [Dev.budgLoad, foldl_shot]

@[simp] theorem Dev.asyfLoad_shot (d : Dev) (b : List Byte) : (Dev.asyfLoad d b).shot = d.shot := by simp [Dev.asyfLoad]

@[simp] theorem Dev.startCore_guards (d : Dev) (b : List Byte) (k : Nat) : (Dev.startCore d b k).shot.guards = d.shot.guards := by simp [Dev.startCore, apply_ite Dev.shot, apply_ite ShotView.guards]

@[simp] theorem Dev.recordIn_shot (d : Dev) (r : List Byte) : (Dev.recordIn d r).shot = d.shot := by simp [Dev.recordIn, apply_ite Dev.shot]

@[simp] theorem Dev.serialLoss_shot (d : Dev) : (Dev.serialLoss d).shot = d.shot := by simp [Dev.serialLoss, foldl_shot, apply_ite Dev.shot]

@[simp] theorem Dev.io33Loss_keeps {leave : Bool} {v : Guards} (d : Dev) (h : Keeps leave v d.shot.guards) : Keeps leave v (Dev.io33Loss d).shot.guards := by simp [Dev.io33Loss, h]

@[simp] theorem Dev.tapSet_shot (d : Dev) (instr : Nat) (data : Word) : (Dev.tapSet d instr data).shot = d.shot := by simp [Dev.tapSet]

end Sys2Proof.Machine
end

section
/-! PROOF. The Canary and the commands that write through it: what they keep of the outputs' conditions. -/
namespace Sys2Proof.Machine

@[simp] theorem Dev.admitWords_shot (d : Dev) (act n : Nat) : (d.admitWords act n).1.shot = d.shot := by
  unfold Dev.admitWords
  split
  · next h => exact Dev.tryServe_shot h
  · simp

/-- The skew shots at the end of a calibration leave the outputs' conditions. -/
theorem skewShots_guards (l : List (Nat × Nat)) (q : Dev × List Nat) :
    (l.foldl (fun (q : Dev × List Nat) p =>
      let (d, r) := q.1.skewShot p.1 p.2
      (d, if r then p.2 :: q.2 else q.2)) q).1.shot.guards = q.1.shot.guards := by
  induction l generalizing q with
  | nil => rfl
  | cons p l ih => rw [List.foldl_cons, ih, Dev.skewShot_guards]

theorem Dev.guards_state (d : Dev) : d.shot.guards.state = d.top.state := rfl

/-- The skew step ends with the outputs following: the state of the device is as it was. -/
theorem Dev.calDone_keeps {v : Guards} (d : Dev) (codes : List (Nat × Word)) (badPorts badEmit badTaps : Nat) (times shots : List (Nat × Nat))
    (h : Keeps false v d.shot.guards) : Keeps false v (d.calDone codes badPorts badEmit badTaps times shots).shot.guards := by
  have hlast : ∀ (x : Dev) (c : Bool), x.top.state = d.top.state →
      Keeps false v (if c then x.safetyFollow else { x.safetyFollow with top := { x.safetyFollow.top with stage10 := true } }).shot.guards := by
    intro x c hx
    have hx : Keeps false v x.safetyFollow.shot.guards :=
      x.safetyFollow_keeps fun hv => .inl (hx.trans ((h.held hv).resolve_right (by simp)))
    cases c
    · exact hx
    · exact hx
  unfold Dev.calDone
  split
  · exact h
  extract_lets en emt d1
  have h1 : d1.shot.guards.state = d.top.state := by
    simp only [d1]
    split
    · rfl
    · simp [Dev.emitEnFollow_guards]
  clear_value d1
  split
  next d2 refused hshots =>
  split
  refine hlast _ _ ?_
  have h2 : d2.shot.guards.state = d.top.state := by
    have hall := skewShots_guards (shots.filter (fun p => en.testBit p.2)) (d1, [])
    rw [hshots] at hall
    rw [hall, h1]
  rw [Dev.guards_state] at h2
  rw [← Dev.guards_state]
  simp [apply_ite Dev.shot, apply_ite ShotView.guards, foldl_guards, h2]

theorem Dev.onCny_guards (d : Dev) (f : CnyState → CnyState) : (d.onCny f).shot.guards = { d.shot.guards with cny := (f d.cny).outputs } := rfl

theorem Dev.onCny_same (d : Dev) (f : CnyState → CnyState) (h : (f d.cny).outputs = d.cny.outputs) : (d.onCny f).shot.guards = d.shot.guards := by
  rw [Dev.onCny_guards, h]
  rfl

@[simp] theorem Dev.cnySend_guards (d : Dev) (ty : Nat) (payload : List Byte) : (d.cnySend ty payload).shot.guards = d.shot.guards := by
  have hlast : ∀ (x : Dev) (m : List Byte), (if x.netB then x.safeRecord m
      else if x.ethUp then x.ethSend 1 (x.fld R.ETH_UDP 15 0) (x.prm 0x1C 2) m else x).shot.guards = x.shot.guards := by
    intro x m
    split
    · simp
    · split <;> simp
  have hcan : ∀ (x : Dev) (c : Prop) [Decidable c] (i : Nat) (m : List Byte), (if c then x.canPut 0 0 i m else x).shot.guards = x.shot.guards := by
    intro x c _ i m
    split <;> simp
  unfold Dev.cnySend
  split
  · rfl
  · rw [hlast, hcan, Dev.onCny_same _ _ rfl]

@[simp] theorem Dev.muteEnd_keeps {leave : Bool} {v : Guards} (d : Dev) (h : Keeps leave v d.shot.guards) : Keeps leave v d.muteEnd.shot.guards :=
  Dev.ossdDrop_keeps _ h.emit h.held

@[simp] theorem Dev.message_keeps {leave : Bool} {v : Guards} (d : Dev) (m : List Byte) (h : Keeps leave v d.shot.guards) :
    Keeps leave v (d.message m).shot.guards := by
  have hok : ∀ f : CnyState → CnyState, (∀ c, (f c).outputs = c.outputs) → Keeps leave v ((d.inc64 R.CNY_CNT_RX 1).onCny f).shot.guards := by
    intro f hf
    rw [Dev.onCny_same _ _ (hf _)]
    simpa using h
  unfold Dev.message
  dsimp only
  split
  · rw [Dev.onCny_same _ _ rfl]
    exact hok _ fun _ => rfl
  split
  · split
    · simpa using h
    split
    · exact Dev.muteEnd_keeps _ (hok _ fun _ => rfl)
    · have hk := hok _ fun _ => rfl
      exact Dev.ossdDrop_keeps _ hk.emit hk.held
  · exact h

@[simp] theorem Dev.copyIn_keeps {leave : Bool} {v : Guards} (d : Dev) (net : Nat) (m : List Byte) (h : Keeps leave v d.shot.guards) :
    Keeps leave v (d.copyIn net m).shot.guards := by
  have hcny : ∀ f : CnyState → CnyState, (f d.cny).outputs = d.cny.outputs → Keeps leave v (d.onCny f).shot.guards := by
    intro f hf
    rwa [Dev.onCny_same d f hf]
  unfold Dev.copyIn
  split
  · exact h
  split
  · exact hcny _ rfl
  · dsimp only
    split
    · exact Dev.message_keeps _ _ (hcny _ rfl)
    · exact hcny _ rfl

/-- A change of the Canary that EMIT_EN and the pairs follow. -/
theorem Dev.onCny_follow_keeps {leave : Bool} {v : Guards} (d : Dev) (f : CnyState → CnyState) (h : Keeps leave v d.shot.guards) :
    Keeps leave v (d.onCny f).safetyFollow.shot.guards := Dev.safetyFollow_keeps _ h.held

theorem Dev.keeps_follow {leave : Bool} {v : Guards} (d : Dev) (h : Keeps leave v d.shot.guards) :
    Keeps leave v d.safetyFollow.shot.guards := Dev.safetyFollow_keeps _ h.held

@[simp] theorem Dev.clockLoss_keeps {leave : Bool} {v : Guards} (d : Dev) (code : Nat) (h : Keeps leave v d.shot.guards) :
    Keeps leave v (d.clockLoss code).shot.guards :=
  Dev.onCny_follow_keeps _ _ (by simp [h])

@[simp] theorem Dev.clockGate_keeps {leave : Bool} {v : Guards} (d : Dev) (ref per : Nat) (h : Keeps leave v d.shot.guards) :
    Keeps leave v (d.clockGate ref per).shot.guards := by
  unfold Dev.clockGate
  dsimp only
  split
  · exact h
  split
  · split
    · split
      · exact Dev.clockLoss_keeps _ _ h
      · exact Dev.onCny_follow_keeps _ _ h
    split
    · exact h
    · exact Dev.safetyFollow_keeps _ fun hv => (Dev.raise_keeps _ _ _ _ (.refl _ _)).held (h.held hv)
  split
  · exact h
  split
  · refine Dev.safetyFollow_keeps _ fun hv => ?_
    rw [Dev.guards, Dev.causeGone_shot]
    exact h.held hv
  split
  · rwa [Dev.onCny_same _ _ rfl]
  · exact h

theorem Dev.toReset_guards (d : Dev) (cause : Nat) :
    (d.toReset cause).shot.guards = ⟨.reset, CnyState.outputs { lost := d.cny.lost }, false, false, false⟩ := rfl

@[simp] theorem Dev.paramJudge_keeps {leave : Bool} {v : Guards} (d : Dev) (log : Bool) (h : Keeps leave v d.shot.guards) :
    Keeps leave v (d.paramJudge log).shot.guards := by
  have hcheck : ∀ w, Keeps leave v ((d.setReg R.CNY_CHECK_COMPUTED w).onCny (fun c => { c with lastWrite := none })).shot.guards := by
    intro w
    rw [Dev.onCny_same _ _ rfl]
    simpa using h
  unfold Dev.paramJudge
  dsimp only
  split
  · exact hcheck _
  split
  · rw [Dev.onCny_same _ _ rfl]
    exact hcheck _
  split
  · rw [Dev.logFault_shot]
    exact Dev.onCny_follow_keeps _ _ (hcheck _)
  · exact Dev.onCny_follow_keeps _ _ (hcheck _)

@[simp] theorem Dev.paramWrite_keeps {leave : Bool} {v : Guards} (d : Dev) (src addr : Nat) (value : Word) (h : Keeps leave v d.shot.guards) :
    Keeps leave v (d.paramWrite src addr value).shot.guards := by
  unfold Dev.paramWrite
  dsimp only
  split
  · simpa using h
  · exact Dev.regWrite_keeps _ _ _ _ _ (fun d => Dev.onCny_follow_keeps _ _ (by simp)) h

@[simp] theorem Dev.commission_guards (d : Dev) (w : Word) : (d.commission w).shot.guards = d.shot.guards := by
  unfold Dev.commission
  repeat' split
  all_goals rw [Dev.cnyDone_shot]
  exact Dev.onCny_same _ _ rfl

@[simp] theorem Dev.cnyClear_keeps {leave : Bool} {v : Guards} (d : Dev) (w : Word) (h : Keeps leave v d.shot.guards) :
    Keeps leave v (d.cnyClear w).shot.guards := by
  unfold Dev.cnyClear
  dsimp only
  split
  · simpa using h
  · rw [Dev.cnyDone_shot]
    exact Dev.onCny_follow_keeps _ _ h

@[simp] theorem Dev.cnyCmd_keeps {leave : Bool} {v : Guards} (d : Dev) (w : Word) (h : Keeps leave v d.shot.guards) :
    Keeps leave v (d.cnyCmd w).shot.guards := by
  unfold Dev.cnyCmd
  split <;> simp [h]

@[simp] theorem Dev.cnyLoss_keeps {leave : Bool} {v : Guards} (d : Dev) (h : Keeps leave v d.shot.guards) :
    Keeps leave v d.cnyLoss.shot.guards := by
  unfold Dev.cnyLoss
  split
  · exact h
  · exact Dev.safetyFollow_keeps _ fun hv => (Dev.raise_keeps _ _ _ _ (.refl _ _)).held (h.held hv)

@[simp] theorem Dev.cnyLock_keeps {leave : Bool} {v : Guards} (d : Dev) (code : Nat) (h : Keeps leave v d.shot.guards) :
    Keeps leave v (d.cnyLock code).shot.guards := Dev.onCny_follow_keeps _ _ h

/-- LEAVE_HELD leads to ARMED, with no calibration passed. -/
theorem Dev.topLeave_keeps {v : Guards} (d : Dev) (w : Word) (h : Keeps true v d.shot.guards) : Keeps true v (d.topLeave w).shot.guards := by
  unfold Dev.topLeave
  split
  · exact Dev.enterArmed_keeps _ fun _ => rfl
  · simpa [Dev.topDone] using h

@[simp] theorem Dev.guardWrite_keeps {leave : Bool} {v : Guards} (d : Dev) (src a : Nat) (w : Word) (h : Keeps leave v d.shot.guards) :
    Keeps leave v (d.guardWrite src a w).shot.guards := by
  unfold Dev.guardWrite
  repeat' split
  all_goals simp [h]

@[simp] theorem Dev.applyWrite_keeps {leave : Bool} {v : Guards} (d : Dev) (src a : Nat) (w : Word) (o : Outside)
    (h : Keeps leave v d.shot.guards) : Keeps leave v (d.applyWrite src a w o).shot.guards := by
  unfold Dev.applyWrite
  repeat' split
  all_goals simp [h]

@[simp] theorem Dev.plainWrite_keeps {leave : Bool} {v : Guards} (d : Dev) (src a : Nat) (w : Word) (o : Outside)
    (h : Keeps leave v d.shot.guards) : Keeps leave v (d.plainWrite src a w o).shot.guards := by
  unfold Dev.plainWrite
  extract_lets d1 old d2
  have h2 : d2.shot = d.shot := by
    simp only [d2]
    split <;> simp [d1]
  split
  · simpa [h2] using h
  split
  · simpa [h2] using h
  · rw [Dev.respond_shot]
    exact Dev.applyWrite_keeps _ _ _ _ _ (by simpa [h2] using h)

@[simp] theorem Dev.release_keeps {leave : Bool} {v : Guards} (d : Dev) (straps safeSw c : Nat) (h : Keeps leave v d.shot.guards)
    (hr : d.top.state = .reset) : Keeps leave v (d.release straps safeSw c).shot.guards :=
  Dev.safetyFollow_keeps _ fun hv => absurd hv (h.not_stays (by simp [hr]) (by simp [hr]))

@[simp] theorem Dev.softReset_guards (d : Dev) :
    d.softReset.shot.guards = { d.shot.guards with emitEn := false, calFire := false, passed := false } := by
  rw [Dev.softReset, Dev.startRead_shot]
  rfl

theorem Dev.softReset_keeps {leave : Bool} {v : Guards} (d : Dev) (h : Keeps leave v d.shot.guards) :
    Keeps leave v d.softReset.shot.guards := by
  rw [Dev.softReset_guards]
  exact ⟨fun _ => rfl, h.ossd, fun hv => (h.held hv).imp id fun ⟨hl, ha, _⟩ => ⟨hl, ha, rfl⟩⟩

@[simp] theorem Dev.cfgWrite_keeps {leave : Bool} {v : Guards} (d : Dev) (a : Nat) (w : Word) (h : Keeps leave v d.shot.guards) :
    Keeps leave v (d.cfgWrite a w).shot.guards := by
  unfold Dev.cfgWrite
  repeat' split
  all_goals simp [h]

@[simp] theorem Dev.activateSection_keeps {leave : Bool} {v : Guards} (d : Dev) (l : List Byte) (x : Sec) (h : Keeps leave v d.shot.guards) :
    Keeps leave v (d.activateSection l x).shot.guards := by
  unfold Dev.activateSection
  dsimp only
  split
  · exact foldl_keeps _ (fun d p h => Dev.cfgWrite_keeps _ _ _ h) _ _ h
  all_goals simp [h]

@[simp] theorem Dev.activate_keeps {leave : Bool} {v : Guards} (d : Dev) (cals : List (Int × Int × Nat × Nat)) (h : Keeps leave v d.shot.guards) :
    Keeps leave v (d.activate cals).shot.guards := by
  have hlast : ∀ x : Dev, Keeps leave v x.shot.guards → Keeps leave v ((List.range 8).foldl (fun d n => d.laneStart n)
      ({ x with boot := { x.boot with stage := 6, activated := true } } : Dev)).shot.guards := by
    intro x hx
    rw [foldl_shot _ (fun d n => Dev.laneStart_shot d n)]
    simpa using hx
  have hcores : ∀ (x : Dev) (o : Option Sec), (match o with
      | some s => (List.range 16).foldl (fun (y : Dev) k => y.startCore (s.bytes d.boot.image) k) x
      | none => x).shot.guards = x.shot.guards := by
    intro x o
    cases o with
    | none => rfl
    | some s => exact foldl_guards _ (fun _ _ => Dev.startCore_guards ..) _ _
  unfold Dev.activate
  refine hlast _ ?_
  rw [foldl_shot _ (fun d n => by simp)]
  have hsections : Keeps leave v ((sectionsOf d.boot.image).foldl (fun (y : Dev) x => y.activateSection d.boot.image x)
      ((List.range 6).foldl (fun (d : Dev) u => let (o, g, a, b) := cals.getD u (0, 0, 0, 0); d.calResult u o g a b) d)).shot.guards :=
    foldl_keeps _ (fun d x h => Dev.activateSection_keeps _ _ _ h) _ _ (by rwa [foldl_shot _ (fun d u => by simp)])
  exact (congrArg (Keeps leave v) (hcores _ _)).mpr hsections

@[simp] theorem Dev.cnyHandover_keeps {leave : Bool} {v : Guards} (d : Dev) (r : List Byte) (h : Keeps leave v d.shot.guards) :
    Keeps leave v (d.cnyHandover r).shot.guards := by
  have hlast : ∀ x : Dev, x.shot.guards = d.shot.guards → Keeps leave v ((({ (x.paramJudge true).safetyFollow with
      boot := { (x.paramJudge true).safetyFollow.boot with stage := 7, handedOver := true } } : Dev).phase 6).startTraining
      (({ (x.paramJudge true).safetyFollow with
      boot := { (x.paramJudge true).safetyFollow.boot with stage := 7, handedOver := true } } : Dev).fld R.HOI_CTRL 1 0) false).shot.guards := by
    intro x hx
    have hj : Keeps leave v (x.paramJudge true).safetyFollow.shot.guards := Dev.keeps_follow _ (by simp [hx, h])
    simpa using hj
  unfold Dev.cnyHandover
  refine hlast _ ?_
  split
  · rw [foldl_shot _ (fun d p => by simp), Dev.recordIn_shot]
  · rw [Dev.recordIn_shot]

@[simp] theorem Dev.supplyLoss_keeps {leave : Bool} {v : Guards} (d : Dev) (x : Supply) (h : Keeps leave v d.shot.guards) :
    Keeps leave v (d.supplyLoss x).shot.guards := by
  unfold Dev.supplyLoss
  split
  case h_3 | h_4 => split <;> simp [h]
  all_goals simp [h]

@[simp] theorem Dev.supplyReturn_keeps {leave : Bool} {v : Guards} (d : Dev) (x : Supply) (h : Keeps leave v d.shot.guards) :
    Keeps leave v (d.supplyReturn x).shot.guards := by
  have hcny : Keeps leave v (((d.onCny (fun c => { c with lost := false })).causeGone 0x1805).safetyFollow).shot.guards :=
    Dev.safetyFollow_keeps _ fun hv => by
      rw [Dev.guards, Dev.causeGone_shot]
      exact h.held hv
  unfold Dev.supplyReturn
  split
  case h_1 | h_2 =>
    split
    · exact h
    · exact hcny
  case h_6 | h_7 =>
    split
    · rw [foldl_shot _ (fun d n => Dev.laneStart_shot d n)]
      simpa using h
    · exact h
  case h_8 | h_9 | h_10 | h_11 => simp [h]
  all_goals split <;> simp [h]

end Sys2Proof.Machine
end

section
/-! PROOF. Operations on the whole state: what they keep of the outputs' conditions and of the memories' canonical form. -/
namespace Sys2Proof.Machine

/-- What a step keeps: the outputs' conditions `v` it started with, and the memories' canonical form where it had it (`w`). -/
structure State.Sound (leave : Bool) (v : Guards) (w : Bool) (s : State) : Prop where
  guards : Keeps leave v s.dev.shot.guards
  wf : w = true → Memory.wf s = true

section
variable {leave w : Bool} {v : Guards} {s : State}

theorem State.sound_self (leave : Bool) (s : State) : s.Sound leave s.dev.shot.guards (Memory.wf s) := ⟨.refl _ _, id⟩

/-- A change of the device, and of the state outside both memories. -/
theorem State.Sound.dev (h : s.Sound leave v w) (s' : State) (hd : Keeps leave v s'.dev.shot.guards) (hs : s'.sram = s.sram)
    (hm : s'.dram = s.dram) : s'.Sound leave v w :=
  ⟨hd, fun hw => by simpa only [Memory.wf, hs, hm] using h.wf hw⟩

theorem State.Sound.onDev (h : s.Sound leave v w) (f : Dev → Dev) (hf : Keeps leave v s.dev.shot.guards → Keeps leave v (f s.dev).shot.guards) :
    (s.onDev f).Sound leave v w := h.dev _ (hf h.guards) rfl rfl

theorem State.Sound.ite {b : Prop} [Decidable b] {x y : State} (hx : x.Sound leave v w) (hy : y.Sound leave v w) :
    (if b then x else y).Sound leave v w := by
  split
  · exact hx
  · exact hy

theorem State.Sound.sram (h : s.Sound leave v w) (s' : State) (hd : Keeps leave v s'.dev.shot.guards)
    (hs : spWf memDflt s.sram = true → spWf memDflt s'.sram = true) (hm : s'.dram = s.dram) : s'.Sound leave v w :=
  ⟨hd, fun hw => by
    have h := h.wf hw
    simp only [Memory.wf, Bool.and_eq_true, hm] at h ⊢
    exact h.imp hs id⟩

theorem State.Sound.dram (h : s.Sound leave v w) (s' : State) (hd : Keeps leave v s'.dev.shot.guards)
    (hm : spWf dramDflt s.dram = true → spWf dramDflt s'.dram = true) (hs : s'.sram = s.sram) : s'.Sound leave v w :=
  ⟨hd, fun hw => by
    have h := h.wf hw
    simp only [Memory.wf, Bool.and_eq_true, hs] at h ⊢
    exact h.imp id hm⟩

/-! On-chip memories. -/

@[simp] theorem State.noteErr_shot (s : State) (word err : Nat) : (s.noteErr word err).dev.shot = s.dev.shot := by
  unfold State.noteErr
  split
  · simp
  · split <;> rfl

theorem State.Sound.noteErr (h : s.Sound leave v w) (word err : Nat) : (s.noteErr word err).Sound leave v w := by
  refine h.dev _ (by simpa using h.guards) ?_ ?_ <;> unfold State.noteErr <;> split_ifs <;> rfl

theorem State.Sound.readEntry (h : s.Sound leave v w) (f : FrameRec) (i err : Nat) : (s.readEntry f i err).Sound leave v w := by
  unfold State.readEntry
  have hn := h.noteErr ((scanBase + 16 * i) / 32 * 32) err
  dsimp only
  split
  · exact hn.onDev _ (by simp)
  split
  · exact hn.onDev _ (by simp)
  · exact hn.onDev _ (by simp)

theorem State.Sound.winRead (h : s.Sound leave v w) (a err : Nat) : (s.winRead a err).1.Sound leave v w := by
  unfold State.winRead
  have hn := h.noteErr (a / 32 * 32) err
  dsimp only
  split
  · exact hn
  split
  · exact hn.dev _ (by simpa using hn.guards) rfl rfl
  · exact hn

/-! DRAM. -/

@[simp] theorem State.dramPutWord_shot (s : State) (word : Nat) (bytes : List Byte) (poison : Bool) :
    (s.dramPutWord word bytes poison).dev.shot = s.dev.shot := by
  unfold State.dramPutWord
  dsimp only
  split
  · rfl
  · exact Dev.putTag_shot _ _

theorem State.Sound.dramPutWord (h : s.Sound leave v w) (word : Nat) (bytes : List Byte) (poison : Bool) :
    (s.dramPutWord word bytes poison).Sound leave v w := by
  have hg : Keeps leave v (s.dramPutWord word bytes poison).dev.shot.guards := by simpa using h.guards
  revert hg
  unfold State.dramPutWord
  dsimp only
  split
  · exact fun _ => h
  · generalize (if word % 2 = 0 then word + 1 else word - 1) = other
    refine fun hg => h.dram _ hg (fun hm => ?_) rfl
    dsimp only
    split
    · exact spWf_dramSetBytes _ _ _ (spWf_dramSetBytes _ _ _ hm)
    · exact spWf_dramSetBytes _ _ _ hm

/-- A property of the state that every step of a fold keeps. -/
theorem foldl_fst {α β : Type} (P : State → Prop) (g : State × β → α → State × β) (hg : ∀ p a, P p.1 → P (g p a).1) (l : List α)
    (p : State × β) (h : P p.1) : P (l.foldl g p).1 := by
  induction l generalizing p with
  | nil => exact h
  | cons a l ih => exact ih _ (hg p a h)

theorem State.Sound.dramWrite (h : s.Sound leave v w) (a : Nat) (bytes : List Byte) : (s.dramWrite a bytes).Sound leave v w :=
  foldl_fst (State.Sound leave v w) _ (fun _ _ h => h.dramPutWord _ _ _) _ _ h

theorem State.Sound.dramMerge (h : s.Sound leave v w) (a : Nat) (bytes : List Byte) : (s.dramMerge a bytes).Sound leave v w := by
  unfold State.dramMerge
  dsimp only
  refine State.Sound.dramPutWord ?_ _ _ _
  split
  · exact h.dev _ (by simpa using h.guards) rfl rfl
  · exact h

theorem State.Sound.dramClear (h : s.Sound leave v w) (lo hi : Nat) : (s.dramClear lo hi).Sound leave v w :=
  h.dram _ (by simpa [State.dramClear] using h.guards) (spWf_spClear _ _ _ _) rfl

@[simp] theorem State.ringPut_shot (s : State) (base len off : Nat) (bytes : List Byte) : (s.ringPut base len off bytes).dev.shot = s.dev.shot :=
  foldl_fst (fun x => x.dev.shot = s.dev.shot) _ (fun _ _ h => by simpa using h) _ _ rfl

theorem State.Sound.ringPut (h : s.Sound leave v w) (base len off : Nat) (bytes : List Byte) : (s.ringPut base len off bytes).Sound leave v w :=
  foldl_fst (State.Sound leave v w) _ (fun _ _ h => h.dramPutWord _ _ _) _ _ h

@[simp] theorem State.ringAppend_shot (s : State) (t : Nat) (bytes : List Byte) : (s.ringAppend t bytes).dev.shot = s.dev.shot := by
  simp [State.ringAppend, State.onDev]

theorem State.Sound.ringAppend (h : s.Sound leave v w) (t : Nat) (bytes : List Byte) : (s.ringAppend t bytes).Sound leave v w := by
  unfold State.ringAppend
  exact (h.ringPut _ _ _ bytes).onDev _ (by simp)

@[simp] theorem State.writeGaps_shot (s : State) (t room : Nat) : (s.writeGaps t room).dev.shot = s.dev.shot := by
  refine foldl_fst (fun x => x.dev.shot = s.dev.shot) _ (fun p g h => ?_) _ _ rfl
  split
  · exact h
  · simpa using h

theorem State.Sound.writeGaps (h : s.Sound leave v w) (t room : Nat) : (s.writeGaps t room).Sound leave v w := by
  refine foldl_fst (State.Sound leave v w) _ (fun p g h => ?_) _ _ h
  split
  · exact h
  · exact State.Sound.ringAppend (h.dev _ (by simpa using h.guards) (by rfl) (by rfl)) _ _

@[simp] theorem State.triggerDecision_shot (s : State) (t : Nat) : (s.triggerDecision t).dev.shot = s.dev.shot := by
  unfold State.triggerDecision
  dsimp only
  split
  · rfl
  split
  · rfl
  split <;> simp [foldl_shot]

theorem State.Sound.triggerDecision (h : s.Sound leave v w) (t : Nat) : (s.triggerDecision t).Sound leave v w := by
  have hg : Keeps leave v (s.triggerDecision t).dev.shot.guards := by simpa using h.guards
  revert hg
  unfold State.triggerDecision
  dsimp only
  split
  · exact fun _ => h
  split
  · exact fun _ => h
  split
  · exact fun hg => h.dev _ hg rfl rfl
  · exact fun hg => (h.writeGaps t _).dev _ hg rfl rfl

theorem State.Sound.streamRead (h : s.Sound leave v w) (t : Nat) (errWords : List Nat) : (s.streamRead t errWords).Sound leave v w := by
  unfold State.streamRead
  dsimp only
  split
  · exact h
  split
  · exact h
  · refine h.dev _ ?_ rfl rfl
    simp only [Dev.ringMove_shot, Dev.bulk_shot]
    split
    · exact h.guards
    · simpa using h.guards

theorem Dev.burstIssue_shot {d d' : Dev} {a : Nat} {write : Bool} (h : d.burstIssue a write = some d') : d'.shot = d.shot := by
  unfold Dev.burstIssue at h
  dsimp only at h
  split at h
  · cases h
  split at h
  · cases h
  · cases h
    simp only [Dev.onHoiCh_shot, Dev.tagTouch_shot, Dev.retryPut_shot]
    split
    · simp
    · split <;> simp

theorem State.Sound.burstRead (h : s.Sound leave v w) (act a e0 e1 : Nat) (tagBad : Bool) : (s.burstRead act a e0 e1 tagBad).1.Sound leave v w := by
  unfold State.burstRead
  dsimp only
  split
  · exact h.dev _ (by simpa using h.guards) rfl rfl
  split
  · exact h
  split
  · exact h.dev _ (by simpa using h.guards) rfl rfl
  have ha : Keeps leave v (s.dev.admitWords act 2).1.shot.guards := by simpa using h.guards
  split
  · exact h.dev _ ha rfl rfl
  split
  · exact h.dev _ (by simpa using h.guards) rfl rfl
  · next d hd =>
    exact h.dev _ (by simpa [Dev.burstIssue_shot hd] using h.guards) rfl rfl

theorem State.Sound.tagged (h : s.Sound leave v w) (b : Bool) (t : DTag) : (if b then s.onDev (fun d => d.putTag t) else s).Sound leave v w := by
  split
  · exact h.onDev _ (by simp)
  · exact h

theorem State.Sound.burstWrite (h : s.Sound leave v w) (act a : Nat) (data : List Byte) (poison : Bool) (e0 e1 : Nat) :
    (s.burstWrite act a data poison e0 e1).1.Sound leave v w := by
  unfold State.burstWrite
  dsimp only
  generalize (decide (64 ≤ data.length) && a % 64 == 0) = whole
  split
  · exact h
  split
  · exact h
  split
  · exact h
  have ha (n : Nat) : Keeps leave v (s.dev.admitWords act n).1.shot.guards := by simpa using h.guards
  generalize (if whole = true then 2 else 4) = n
  split
  · exact h.dev _ (ha _) rfl rfl
  split
  · exact h.dev _ (by simpa using h.guards) rfl rfl
  · next d hd =>
    have hd' : Keeps leave v d.shot.guards := by simpa [Dev.burstIssue_shot hd] using h.guards
    cases whole
    · exact State.Sound.dramPutWord (State.Sound.tagged (h.dev _ (by simpa using hd') (by rfl) (by rfl)) _ _) _ _ _
    · exact State.Sound.dramPutWord (State.Sound.dramPutWord (h.dev _ (by simpa using hd') (by rfl) (by rfl)) _ _ _) _ _ _

/-- A reset ends in RESET, with the outputs off and the memories empty. -/
structure State.AtReset (s : State) : Prop where
  state : s.dev.top.state = .reset
  emit : s.dev.emitSafe = true
  ossd : s.dev.ossdSafe = true
  wf : Memory.wf s = true

/-! Histograms, sieve lanes, the lode and the journal. -/

theorem State.Sound.histUpdate (h : s.Sound leave v w) (half err : Nat) : (s.histUpdate half err).Sound leave v w := by
  unfold State.histUpdate
  split
  · exact h
  next u hu =>
  have hn := h.noteErr (binAddr (2 * u.ch + u.slot) (u.bin / 8 * 8)) err
  have hbad : ∀ (x : State) (b : Prop) [Decidable b], x.Sound leave v w → (if b then
      { x with sram := memSetBytes x.sram (binAddr (2 * u.ch + u.slot) (u.bin / 8 * 8)) ((List.replicate 8 (leBytes 4 binBad.toNat)).flatten)
               sramPoison := x.sramPoison.erase (binAddr (2 * u.ch + u.slot) (u.bin / 8 * 8))
               dev := (x.dev.onHist (2 * u.ch + u.slot) (fun h => { h with poisoned := true })).logFault 0x0A01 .n }
      else x).Sound leave v w := by
    intro x b _ hx
    split
    · exact hx.sram _ (by simpa using hx.guards) (spWf_memSetBytes _ _ _) rfl
    · exact hx
  have hlast : ∀ (x : State) (b : Prop) [Decidable b] (d : Dev) (a : Nat) (l : List Byte), d.shot.guards = x.dev.shot.guards →
      x.Sound leave v w → ({ x with sram := memSetBytes x.sram a l, dev := (if b then d.inc64 R.HST_CNT_POISON_FINE 1 else d).retireBlocks }
        : State).Sound leave v w := by
    intro x b _ d a l hd hx
    refine hx.sram _ ?_ (spWf_memSetBytes _ _ _) rfl
    have hg : Keeps leave v d.shot.guards := hd ▸ hx.guards
    dsimp only
    split <;> simpa using hg
  exact hlast _ _ _ _ _ (by simp) (hbad _ _ hn)

theorem State.Sound.laneTake (h : s.Sound leave v w) (lane : Nat) (errWords : List Nat) (exportRoom : Bool) :
    (s.laneTake lane errWords exportRoom).Sound leave v w := by
  unfold State.laneTake
  split
  · exact h
  split
  · exact h
  split
  · exact h.dev _ (by simpa using h.guards) rfl rfl
  split
  · exact h
  · refine h.sram _ ?_ (spWf_spClear _ _ _ _) rfl
    dsimp only
    split
    · simpa [foldl_shot] using h.guards
    split <;> simpa [foldl_shot] using h.guards

theorem State.Sound.lodeWriteBack (h : s.Sound leave v w) (errSlots : List Nat) : (s.lodeWriteBack errSlots).Sound leave v w := by
  have hpanic : ∀ l, Keeps leave v ({ s.dev with hst := { s.dev.hst with lodeQueue := l } } : Dev).lodePanic.shot.guards := fun l => by
    simpa using h.guards
  have hpoison : ∀ x : Dev, Keeps leave v x.shot.guards → ∀ a l, (({ s with dev := x.logFault 0x0A04 .n } : State).dramMerge a l).Sound leave v w :=
    fun x hx _ _ => State.Sound.dramMerge (h.dev _ (by simpa using hx) (by rfl) (by rfl)) _ _
  have hadded : ∀ x : Dev, Keeps leave v x.shot.guards → ∀ seen a l a' l', ((({ s with
      dev := { x.inc64 R.HST_CNT_LODE_ADDED 1 with hst := { (x.inc64 R.HST_CNT_LODE_ADDED 1).hst with lodeAddedFrame := seen } } } : State).dramWrite
      a l).dramMerge a' l').Sound leave v w := fun x hx seen a l a' l' =>
    State.Sound.dramMerge (State.Sound.dramWrite (h.dev _ (by simpa using hx) (by rfl) (by rfl)) _ _) _ _
  have hcounted : ∀ x : Dev, Keeps leave v x.shot.guards → ∀ a n, Keeps leave v (x.inc64 a n).shot.guards := fun x hx a n => by
    simp [hx]
  fun_cases State.lodeWriteBack s errSlots with
  | case1 | case3 => exact h
  | case2 | case6 => exact h.dev _ (hpanic _) rfl rfl
  | case4 | case7 => exact hpoison _ (hpanic _) _ _
  | case5 => exact h.dev _ (hcounted _ (hpanic _) _ _) rfl rfl
  | case8 => exact hadded _ (hpanic _) _ _ _ _ _

theorem State.Sound.exportStep (h : s.Sound leave v w) : s.exportStep.Sound leave v w := by
  unfold State.exportStep
  split
  · exact h
  next x hx =>
  have hb : ∀ (b : Prop) [Decidable b] (l : List Byte), (if b then s.dev.bulk 9 4 l else s.dev).shot = s.dev.shot := by
    intro b _ l
    split <;> simp
  dsimp only
  split
  · exact h.dev _ (by simpa [hb] using h.guards) rfl rfl
  · exact h.dev _ (by simpa [hb] using h.guards) rfl rfl

theorem State.Sound.journalCopy (h : s.Sound leave v w) : s.journalCopy.Sound leave v w := by
  unfold State.journalCopy
  dsimp only
  split
  · exact h
  split
  · exact h.dev _ (by simpa using h.guards) rfl rfl
  split
  · exact h.dev _ (by simpa using h.guards) rfl rfl
  split
  · split
    · exact h.dev _ (by simpa using h.guards) rfl rfl
    · split
      · exact h.dev _ (by simpa using h.guards) rfl rfl
      · exact h.dev _ (by simpa using h.guards) rfl rfl
  · have hlast : ∀ (x : State) (a : Nat) (l : List Byte) (n : Word), x.Sound leave v w →
        ({ x.dramMerge a l with dev := (x.dramMerge a l).dev.setReg R.FLG_JCOPY_WR n } : State).Sound leave v w := by
      intro x a l n hx
      exact (hx.dramMerge a l).dev _ (by simpa using (hx.dramMerge a l).guards) rfl rfl
    exact hlast _ _ _ _ (h.dev _ (by simpa using h.guards) rfl rfl)

/-! The loading of an image. -/

theorem State.Sound.memClear (h : s.Sound leave v w) (lo hi : Nat) : (s.memClear lo hi).Sound leave v w :=
  h.sram _ h.guards (spWf_spClear _ _ _ _) rfl

theorem State.Sound.memSet (h : s.Sound leave v w) (a : Nat) (l : List Byte) : ({ s with sram := memSetBytes s.sram a l }).Sound leave v w :=
  h.sram _ h.guards (spWf_memSetBytes _ _ _) rfl

theorem foldl_sound {α : Type} (g : State → α → State) (hg : ∀ s a, s.Sound leave v w → (g s a).Sound leave v w) (l : List α) (s : State)
    (h : s.Sound leave v w) : (l.foldl g s).Sound leave v w := by
  induction l generalizing s with
  | nil => exact h
  | cons a l ih => exact ih _ (hg s a h)

theorem State.Sound.loadSegment (h : s.Sound leave v w) (b : List Byte) (g : Seg) : (s.loadSegment b g).Sound leave v w := by
  unfold State.loadSegment
  dsimp only
  split
  iterate 3 exact foldl_sound _ (fun _ _ h => h.memSet _ _) _ _ h
  exact h.memSet _ _

theorem State.Sound.loadSection (h : s.Sound leave v w) (l : List Byte) (x : Sec) : (s.loadSection l x).Sound leave v w := by
  unfold State.loadSection
  dsimp only
  split
  · exact h.memSet _ _
  split
  · exact foldl_sound _ (fun _ _ h => h.loadSegment _ _) _ _ ((h.memClear _ _).memClear _ _)
  · exact h

theorem State.Sound.burstIn (h : s.Sound leave v w) (data : List Byte) : (s.burstIn data).Sound leave v w := by
  unfold State.burstIn
  dsimp only
  refine State.Sound.onDev (foldl_sound _ (fun _ _ h => h.loadSection _ _) _ _ h) _ fun hd => ?_
  split <;> simpa using hd

end

end Sys2Proof.Machine
end

section
/-! PROOF. Instructions of the assay cores and their windows: what they keep of the outputs' conditions and of the memories. -/
namespace Sys2Proof.Machine

namespace Issue
section
variable {leave w : Bool} {v : Guards} {x : Issue}

/-- A change of the device that may touch the core. -/
theorem sync_sound (hx : x.s.Sound leave v w) (f : Dev → Dev) (hf : ∀ d, Keeps leave v d.shot.guards → Keeps leave v (f d).shot.guards) :
    (x.sync f).s.Sound leave v w :=
  hx.dev _ (hf _ (by simpa using hx.guards)) rfl rfl

theorem bus_sound (hx : x.s.Sound leave v w) : x.bus.s.Sound leave v w := by
  unfold bus
  dsimp only
  split
  · exact sync_sound (by simpa using hx) _ (fun _ hd => Dev.coreFault_keeps _ _ _ _ hd)
  · simpa using hx

@[simp] theorem timeRead_s (x : Issue) (hi : Bool) : (x.timeRead hi).1.s = x.s := by
  unfold timeRead
  dsimp only
  split
  · rfl
  · split <;> rfl

theorem ioRead_sound (hx : x.s.Sound leave v w) (a : Nat) : (x.ioRead a).1.s.Sound leave v w := by
  unfold ioRead
  split_ifs
  case pos => exact hx
  case pos => exact hx
  case pos => exact hx
  case pos => simpa using hx
  case pos => simpa using hx
  case pos => exact hx
  case pos =>
    split
    · exact hx
    · exact hx.dev _ (by simpa using hx.guards) rfl rfl
  case neg => exact hx

theorem conf_sound (hx : x.s.Sound leave v w) (cell : Nat) : (x.conf cell).s.Sound leave v w := by
  unfold conf
  split
  · exact sync_sound hx _ (fun _ hd => Dev.coreFault_keeps _ _ _ _ hd)
  · refine sync_sound hx _ fun d hd => ?_
    split
    · split
      · simpa using hd
      · exact hd
    · exact hd

theorem ioWrite_sound (hx : x.s.Sound leave v w) (a : Nat) (val : Word) : (x.ioWrite a val).s.Sound leave v w := by
  unfold ioWrite
  dsimp only
  split
  · exact hx
  split
  · exact hx
  split
  · exact hx
  split
  · exact hx
  split
  · exact conf_sound hx _
  split
  · split
    · exact sync_sound hx _ (fun _ hd => Dev.coreFault_keeps _ _ _ _ hd)
    · exact sync_sound hx _ (fun d hd => Dev.endBatch_keeps _ _ _ hd)
  split
  · exact hx
  split
  · split
    · exact hx.dev _ (by simpa using hx.guards) rfl rfl
    · exact hx
  · exact hx

theorem stalled_sound (hx : x.s.Sound leave v w) (a : Nat) : (x.stalled a).s.Sound leave v w := by
  unfold stalled
  split
  · exact hx.dev _ (by simpa using hx.guards) rfl rfl
  · exact hx

theorem load_sound (hx : x.s.Sound leave v w) (onV : Bool) (a : Nat) : (x.load onV a).1.s.Sound leave v w := by
  unfold load
  split
  · next m hm =>
    have read : ∀ y : Issue, y.s.Sound leave v w → ∀ (e : Nat) (b : Bool),
        (if b then (({ y with s := y.s.noteErr (m / 32 * 32) e } : Issue), y.free)
          else if (y.s.noteErr (m / 32 * 32) e).sramPoison.contains (m / 32 * 32) then
            ((({ y with s := y.s.noteErr (m / 32 * 32) e } : Issue).sticky 4).sync (fun d => d.coreFault y.k 0x0C03 .n), 0#32)
          else (({ y with s := y.s.noteErr (m / 32 * 32) e } : Issue),
            BitVec.ofNat 32 (memLe (y.s.noteErr (m / 32 * 32) e).sram m 4))).1.s.Sound leave v w := by
      intro y hy e b
      split
      · exact hy.noteErr _ e
      split
      · exact sync_sound (x := Issue.sticky { y with s := _ } 4) (hy.noteErr _ e) _ (fun _ hd => Dev.coreFault_keeps _ _ _ _ hd)
      · exact hy.noteErr _ e
    cases onV
    · exact read _ (stalled_sound hx a) _ _
    · exact read _ hx _ _
  · split
    · exact ioRead_sound hx _
    · exact bus_sound hx

theorem store_sound (hx : x.s.Sound leave v w) (onV : Bool) (a : Nat) (val : Word) : (x.store onV a val).s.Sound leave v w := by
  unfold store
  split
  · have hs : (if onV then x else x.stalled a).s.Sound leave v w := by
      split
      · exact hx
      · exact stalled_sound hx a
    exact hs.memSet _ _
  · split
    · exact ioWrite_sound hx _ _
    · exact bus_sound hx

/-- One of the parallel loads. -/
theorem parallelLoad_sound (hx : x.s.Sound leave v w) (onV : Bool) (i mode dst a : Nat) :
    ((((x.load onV a).1.onC (fun c => c.onCur (fun r => r.postMod i (r.modStep i mode)))).putLate dst (x.load onV a).2)).s.Sound leave v w := by
  simpa using load_sound hx onV a

theorem parallel_sound (hx : x.s.Sound leave v w) : x.parallel.s.Sound leave v w := by
  have step : ∀ (y : Issue) (c : Prop) [Decidable c] (onV : Bool) (i mode dst a : Nat), y.s.Sound leave v w →
      (if c then (((y.load onV a).1.onC (fun c => c.onCur (fun r => r.postMod i (r.modStep i mode)))).putLate dst (y.load onV a).2)
        else y).s.Sound leave v w := by
    intro y c _ onV i mode dst a hy
    split
    · exact parallelLoad_sound hy ..
    · exact hy
  unfold parallel
  exact step _ _ _ _ _ _ _ (step _ _ _ _ _ _ _ hx)

@[simp] theorem memOperand_s (x : Issue) (onV : Bool) : (x.memOperand onV).2.s = x.s := by
  unfold memOperand
  dsimp only
  split <;> rfl

theorem loadOp_sound (hx : x.s.Sound leave v w) (onV : Bool) : (x.loadOp onV).s.Sound leave v w := by
  simpa [loadOp] using load_sound (x := (x.memOperand onV).2) (by simpa using hx) onV _

theorem storeOp_sound (hx : x.s.Sound leave v w) (onV : Bool) : (x.storeOp onV).s.Sound leave v w :=
  store_sound (x := (x.memOperand onV).2) (by simpa using hx) onV _ _

theorem doLoop_sound (hx : x.s.Sound leave v w) : x.doLoop.s.Sound leave v w := by
  unfold doLoop
  extract_lets len n pc
  split
  · exact hx
  split
  · exact sync_sound hx _ (fun _ hd => Dev.removeCore_keeps _ _ _ hd)
  · exact hx

theorem single_sound (hx : x.s.Sound leave v w) (k sg : Int) : (x.single k sg).s.Sound leave v w :=
  parallel_sound (by simpa using hx)

theorem dual_sound (hx : x.s.Sound leave v w) (k sg : Int) : (x.dual k sg).s.Sound leave v w :=
  parallel_sound (by simpa using hx)

theorem run_sound (hx : x.s.Sound leave v w) (op : AsyOp) : (x.run op).s.Sound leave v w := by
  by_cases hlocal : op.local = true
  · by_cases hdo : op = .doLoop
    · subst hdo
      exact doLoop_sound hx
    · rwa [x.run_s op hlocal hdo]
  · cases op with
    | mpy | mac | msu => exact single_sound hx _ _
    | dmpy | dmac | dmsu => exact dual_sound hx _ _
    | pld => exact parallel_sound hx
    | ldu | ldv => exact loadOp_sound hx _
    | stu | stv => exact storeOp_sound hx _
    | _ => exact absurd rfl hlocal

end
end Issue

section
variable {leave w : Bool} {v : Guards} {s : State}

theorem State.Sound.issue (h : s.Sound leave v w) (e : IssueEnv) (op : AsyOp) (step : Bool) : (s.issue e op step).Sound leave v w := by
  have hx : ∀ x : Issue, x.s.Sound leave v w → ∀ (c : Core) (b : Prop) [Decidable b] (n : Word),
      ({ x.s with dev := (if b then (x.s.dev.onCore e.core (fun _ => c)).setReg (R.ASY_BG_USED e.core) n
        else x.s.dev.onCore e.core (fun _ => c)).coreReport e.core } : State).Sound leave v w := by
    intro x hx c b _ n
    refine hx.dev _ ?_ rfl rfl
    have hg := hx.guards
    dsimp only
    split <;> simpa using hg
  unfold State.issue
  extract_lets k word c c0 out d x
  split
  · exact h
  split
  · exact h
  split
  · split
    · exact h.dev _ (by simpa using h.guards) rfl rfl
    · have hb : ∀ b : Prop, ∀ [Decidable b], ∀ n, Keeps leave v ((if b then s.dev else s.dev.setBusy n false).shot.guards) := by
        intro b _ n
        split
        · exact h.guards
        · simpa using h.guards
      refine h.dev _ ?_ rfl rfl
      rw [Dev.coreReport_shot, Dev.onCore_guards]
      exact hb _ _
  split
  · exact h
  · exact hx ((x.run op).finish c0) (Issue.run_sound (x := x) (h.dev _ (by simpa [x] using h.guards) rfl rfl) op) _ _ _

theorem State.Sound.illegal (h : s.Sound leave v w) (k : Nat) (step : Bool) : (s.illegal k step).Sound leave v w := by
  unfold State.illegal
  split
  · exact h.onDev _ (fun hd => Dev.removeCore_keeps _ _ _ hd)
  · exact h

theorem State.Sound.stepCore (h : s.Sound leave v w) (e : IssueEnv) : (s.stepCore e).Sound leave v w := by
  unfold State.stepCore
  split
  · exact h
  split
  · exact h.onDev _ (fun hd => Dev.removeCore_keeps _ _ _ hd)
  split
  · exact h.illegal _ _
  · split
    · exact h.illegal _ _
    · exact h.issue _ _ _

theorem State.Sound.asyCtrlWrite (h : s.Sound leave v w) (src : Nat) (e : IssueEnv) (word : Word) :
    (s.asyCtrlWrite src e word).Sound leave v w := by
  have hw := h.onDev (fun d => d.regWrite src (R.ASY_CTRL e.core) word (fun d => d.asyCtrl s.sram e.core word))
    fun hd => Dev.regWrite_keeps _ _ _ _ _ (fun d => by simp) hd
  unfold State.asyCtrlWrite
  dsimp only
  split
  · exact hw.stepCore e
  · exact hw

theorem State.Sound.copySet (h : s.Sound leave v w) (k n : Nat) (x : CandSet) (b : Batch) : (s.copySet k n x b).Sound leave v w := by
  unfold State.copySet
  extract_lets d c r wait mem
  have hm : spWf memDflt s.sram = true → spWf memDflt mem = true := spWf_memSetBytes _ _ _
  clear_value mem
  exact h.sram _ (by simpa +zetaDelta using h.guards) hm rfl

theorem State.Sound.setCopy (h : s.Sound leave v w) (k : Nat) : (s.setCopy k).Sound leave v w := by
  unfold State.setCopy
  extract_lets d dead d1 d2
  have h2 : State.Sound leave v w { s with dev := d2 } := by
    refine h.dev _ ?_ rfl rfl
    simp only [d2, d1, d, Dev.retireCells_guards]
    rw [foldl_guards _ (fun d p => by simp), foldl_guards _ (fun d p => by simp)]
    exact h.guards
  split
  · exact h2
  split
  · exact h2
  split
  · exact h2
  · exact h2.copySet _ _ _ _

theorem State.Sound.asyWinRead (h : s.Sound leave v w) (src k off err : Nat) : (s.asyWinRead src k off err).1.Sound leave v w := by
  unfold State.asyWinRead
  split
  · split
    · exact h.onDev (fun d => d.setBit (R.ASY_STATUS k) 15 true) (by simp)
    · exact h
  split
  · exact h
  · exact h.winRead _ _

theorem State.Sound.asyWinPut (h : s.Sound leave v w) (src k off : Nat) (word : Word) : (s.asyWinPut src k off word).Sound leave v w := by
  unfold State.asyWinPut
  split
  · split
    · exact h
    · exact h.onDev _ (by simp)
  split
  · exact h
  split
  · exact h.onDev _ (by simp)
  · exact h.memSet _ _

theorem State.Sound.asyWinWrite (h : s.Sound leave v w) (src k off : Nat) (word : Word) : (s.asyWinWrite src k off word).Sound leave v w := by
  unfold State.asyWinWrite
  dsimp only
  have hj : ∀ (a : Nat) (old : Word) (ign : Dev → Bool) (win : Bool),
      (s.onDev (fun d => (d.incSat (R.MGT_CNT_WR src) 31 0 1).journal src a old word (ign d) win)).Sound leave v w :=
    fun a old ign win => h.onDev _ (by simp)
  split
  · exact (hj _ _ _ _).onDev _ (by simp)
  · exact ((hj _ _ _ _).asyWinPut _ _ _ _).onDev _ (by simp)

theorem State.Sound.asyWinAnswer (h : s.Sound leave v w) (src k off err : Nat) : (s.asyWinAnswer src k off err).Sound leave v w := by
  unfold State.asyWinAnswer
  split
  · exact h.onDev _ (fun hd => by rwa [Dev.budgetRead_shot _ _ _ id (fun _ => rfl)])
  · exact (h.asyWinRead _ _ _ _).onDev _ (by simp)

end

end Sys2Proof.Machine
end

section
/-! PROOF. TOP_CMD, management accesses, resets and supplies: what they keep of the outputs' conditions and of the memories. -/
namespace Sys2Proof.Machine

section
variable {leave w : Bool} {v : Guards} {s : State}

/-! TOP_CMD. -/

theorem State.Sound.topStart (h : s.Sound leave v w) (word : Word) : (s.topStart word).Sound leave v w := by
  unfold State.topStart
  dsimp only
  split
  · exact h.dev _ (by simpa using h.guards) rfl rfl
  · next hc =>
    simp only [Bool.or_eq_true, bne_iff_ne, ne_eq, Bool.not_eq_true', not_or, Decidable.not_not, Bool.not_eq_false] at hc
    obtain ⟨harmed, hpassed⟩ := hc
    refine h.dev _ ?_ rfl rfl
    dsimp only
    split
    · exact Dev.enterRanging_keeps _ (h.guards.not_stays (by simp [harmed]) fun _ => hpassed)
    · simpa using h.guards

theorem State.Sound.topStop (h : s.Sound leave v w) (word : Word) : (s.onDev (fun d => d.topStop word)).Sound leave v w :=
  h.onDev _ (by simp)

theorem State.Sound.topHold (h : s.Sound leave v w) (word : Word) : (s.onDev (fun d => d.topHold word)).Sound leave v w :=
  h.onDev _ (fun hd => Dev.topHold_keeps _ _ hd)

theorem State.Sound.topCmd (h : s.Sound leave v w) (word : Word) (hleave : bits word 7 0 = 3 → leave = true) :
    (s.topCmd word).Sound leave v w := by
  unfold State.topCmd
  split
  · exact h.topStart _
  · exact h.topStop _
  · next hw =>
    obtain rfl := hleave hw
    exact h.onDev _ (fun hd => Dev.topLeave_keeps _ _ hd)
  · exact h.topHold _
  · exact h.onDev _ (by simp)

theorem State.Sound.topWrite (h : s.Sound leave v w) (src : Nat) (word : Word) (hleave : bits word 7 0 = 3 → leave = true) :
    (s.topWrite src word).Sound leave v w := by
  have hw : (s.onDev (fun d => d.regWrite src R.TOP_CMD word Dev.replaceStop)).Sound leave v w :=
    h.onDev _ (fun hd => Dev.regWrite_keeps _ _ _ _ _ (fun d => by simp) hd)
  unfold State.topWrite
  dsimp only
  split
  · exact hw.topCmd _ hleave
  · exact hw

/-! Management writes and reads. -/

theorem State.Sound.sramWrite (h : s.Sound leave v w) (src a : Nat) (word : Word) : (s.sramWrite src a word).Sound leave v w := by
  unfold State.sramWrite
  have hn : ∀ old b st, (s.onDev (fun d => ((d.incSat (R.MGT_CNT_WR src) 31 0 1).journal src a old word b true).respond src st)).Sound leave v w :=
    fun old b st => h.onDev _ (by simp)
  dsimp only
  split
  · exact hn _ _ _
  · exact (hn _ _ _).memSet _ _

theorem State.Sound.dramWindowWrite (h : s.Sound leave v w) (src a : Nat) (word : Word) (o : Outside) :
    (s.dramWindowWrite src a word o).Sound leave v w := by
  unfold State.dramWindowWrite
  extract_lets x bytes old note
  have hnote : ∀ s' : State, s'.Sound leave v w → ∀ b st, (note s' b st).Sound leave v w := fun s' h b st => h.onDev _ (by simp)
  clear_value note
  split
  · exact hnote _ h _ _
  split
  · exact hnote _ h _ _
  split
  · exact hnote _ h _ _
  split
  · exact hnote _ h _ _
  · have hb := h.burstWrite 18 (x / 32 * 32)
    dsimp only
    split
    · refine hnote _ ?_ _ _
      split
      · exact (hb _ _ _ _).onDev _ (by simp)
      · exact hb _ _ _ _
    · exact (hb _ _ _ _).onDev _ (by simp)

theorem State.Sound.mgtWrite (h : s.Sound leave v w) (src a : Nat) (word : Word) (o : Outside) (hleave : a = R.TOP_CMD → leave = true) :
    (s.mgtWrite src a word o).Sound leave v w := by
  unfold State.mgtWrite
  refine .ite h ?misaligned
  refine .ite (h.onDev _ (by simp)) ?top
  split
  · next ha => exact h.topWrite _ _ fun _ => hleave ha
  refine .ite (h.asyCtrlWrite _ _ _) ?asyWindow
  refine .ite (h.asyWinWrite _ _ _ _) ?hstWindow
  refine .ite (h.onDev _ (by simp)) ?sram
  refine .ite (h.sramWrite _ _ _) ?dram
  refine .ite (h.dramWindowWrite _ _ _ _) ?params
  refine .ite (h.onDev _ (fun hd => Dev.paramWrite_keeps _ _ _ _ hd)) ?canary
  refine .ite (h.onDev _ (by simp)) ?registers
  exact .ite (h.onDev _ (fun hd => Dev.cmdWrite_keeps _ _ _ _ _ (fun d => by simp) hd)) (h.onDev _ (fun hd => Dev.plainWrite_keeps _ _ _ _ _ hd))

theorem State.Sound.sramRead (h : s.Sound leave v w) (src a err : Nat) : (s.sramRead src a err).Sound leave v w := by
  unfold State.sramRead
  dsimp only
  refine (h.winRead _ _).onDev _ fun hd => ?_
  split <;> simpa using hd

theorem State.Sound.dramWindowRead (h : s.Sound leave v w) (src a : Nat) (o : Outside) : (s.dramWindowRead src a o).Sound leave v w := by
  unfold State.dramWindowRead
  dsimp only
  split
  · exact h.onDev _ (by simp)
  split
  · exact h.onDev _ (by simp)
  split
  · exact h.onDev _ (by simp)
  · have hb := h.burstRead 18 (s.dev.dramAddr src a) o.err0 o.err1 o.tagBad
    split
    · exact hb.onDev _ (by simp)
    · refine hb.onDev _ fun hd => ?_
      split <;> split <;> simpa using hd

theorem State.Sound.mgtRead (h : s.Sound leave v w) (src a : Nat) (o : Outside) : (s.mgtRead src a o).Sound leave v w := by
  unfold State.mgtRead
  split
  · exact h
  split
  · exact h.onDev _ (by simp)
  split
  · exact h.asyWinAnswer _ _ _ _
  split
  · exact h.dramWindowRead _ _ _
  split
  · exact h.onDev _ (by simp)
  split
  · exact h.onDev _ (fun hd => by rwa [Dev.budgetRead_shot _ _ _ id (fun _ => rfl)])
  split
  · exact h.onDev _ (by simp)
  · exact h.sramRead _ _ _

theorem State.Sound.mgtWrites (l : List Word) : ∀ {s : State} (_ : s.Sound true v w) (src a : Nat) (os : List Outside),
    (s.mgtWrites src a l os).1.Sound true v w := by
  induction l with
  | nil => exact fun h _ _ _ => h
  | cons x xs ih =>
    intro s h src a os
    have hw := h.mgtWrite src a x (os.headD {}) fun _ => rfl
    unfold State.mgtWrites
    dsimp only
    split
    · exact hw
    · exact ih hw _ _ _

theorem State.Sound.mgtReads (ends : Nat → Bool) (n : Nat) : ∀ {s : State} (_ : s.Sound leave v w) (src a : Nat) (os : List Outside),
    (s.mgtReads src ends a n os).1.Sound leave v w := by
  induction n with
  | zero => exact fun h _ _ _ => h
  | succ n ih =>
    intro s h src a os
    have hr := h.mgtRead src a (os.headD {})
    unfold State.mgtReads
    dsimp only
    split
    · exact hr
    · exact ih hr _ _ _

theorem State.Sound.writeFrame (h : s.Sound true v w) (src addr room : Nat) (words : List Word) (outs : List Outside) :
    (s.writeFrame src addr room words outs).Sound true v w := by
  have hw := State.Sound.mgtWrites (words.take room) h src addr outs
  unfold State.writeFrame
  exact State.Sound.onDev (.ite (hw.onDev _ (by simp)) hw) _ (by simp)

theorem State.Sound.mgtRequest (h : s.Sound leave v w) (src : Nat) (req : List Byte) (outs : List Outside)
    (hleave : leAt req 2 1 = 2 → leave = true) : (s.mgtRequest src req outs).1.Sound leave v w := by
  unfold State.mgtRequest
  dsimp only
  split
  · exact h.onDev (fun d => d.respond src 4) (by simp)
  next hop =>
  split
  · exact State.Sound.mgtReads _ _ h _ _ _
  · have hw : leAt req 2 1 = 2 := by omega
    obtain rfl := hleave hw
    exact State.Sound.mgtWrites _ h _ _ _

theorem State.Sound.laneRequest (h : s.Sound leave v w) (n : Nat) (req : List Byte) (outs : List Outside)
    (hleave : leAt req 2 1 = 2 → leave = true) : (s.laneRequest n req outs).Sound leave v w := by
  have hi : (s.onDev (fun d => d.inc64 (R.LNK_CNT_MGT n) 1)).Sound leave v w := h.onDev _ (by simp)
  unfold State.laneRequest
  dsimp only
  split
  · exact hi.onDev _ (by simp)
  have hq := hi.mgtRequest (2 + n) req outs hleave
  split
  · next hr =>
    rw [hr] at hq
    exact hq.onDev _ (by simp)
  · next hr =>
    rw [hr] at hq
    exact hq

theorem State.Sound.laneMgt (h : s.Sound leave v w) (n err : Nat) (req : List Byte) (outs : List Outside)
    (hleave : leAt req 2 1 = 2 → leave = true) : (s.laneMgt n err req outs).Sound leave v w := by
  unfold State.laneMgt
  dsimp only
  split
  · exact h
  split
  · exact h.onDev _ (by simp)
  have hc : (if err = 1 then s.onDev (fun d => d.inc64 (R.LNK_CNT_CORR n) 1) else s).Sound leave v w := by
    split
    · exact h.onDev _ (by simp)
    · exact h
  split
  · exact hc.onDev _ (by simp)
  · exact hc.laneRequest _ _ _ hleave

theorem State.Sound.canRequest (h : s.Sound leave v w) (n : Nat) (outs : List Outside) (req : List Byte)
    (hleave : leAt req 2 1 = 2 → leave = true) : (s.canRequest n outs req).Sound leave v w := by
  unfold State.canRequest
  dsimp only
  split
  · exact h.onDev _ (by simp)
  have hq := h.mgtRequest (0x0B + n) req outs hleave
  split
  · next hr =>
    rw [hr] at hq
    refine hq.onDev _ fun hd => ?_
    split <;> simpa using hd
  · next hr =>
    rw [hr] at hq
    exact hq

theorem State.Sound.canReceive (h : s.Sound leave v w) (n id dlc : Nat) (ide fd brs esi : Bool) (data : List Byte) (sof : Nat)
    (mgt : State → List Byte → State) (hm : ∀ l, (mgt s l).Sound leave v w) : (s.canReceive n id dlc ide fd brs esi data sof mgt).Sound leave v w := by
  unfold State.canReceive
  dsimp only
  split
  · exact h
  split
  · exact h
  split
  · refine h.onDev _ fun hd => ?_
    split
    · exact hd
    · exact Dev.copyIn_keeps _ _ _ hd
  split
  · split
    · exact hm _
    · exact h
  · exact h.onDev _ (by simp)

end

/-! Resets and supplies. -/

/-- What a command leads to: it keeps what the outputs rest on and HELD, or, where it may leave HELD, it resets. -/
inductive State.Goes (leave : Bool) (s s' : State) : Prop
  | sound (h : s'.Sound leave s.dev.shot.guards (Memory.wf s))
  | reset (hleave : leave = true) (h : s'.AtReset)

/-- The state after a reset: nothing of the memories is listed, EMIT_EN and the pairs are off. -/
theorem State.toReset_sound {v : Guards} {w : Bool} (s : State) (cause : Nat) (leave : Bool) (hv : ¬ v.stays leave) :
    (s.toReset cause).Sound leave v w :=
  ⟨⟨fun _ => rfl, fun _ => rfl, fun h => absurd h hv⟩, fun _ => rfl⟩

end Sys2Proof.Machine
end

section
/-! PROOF. What every command keeps of the outputs' conditions: the ways of acting, before the commands themselves. -/
namespace Sys2Proof.Machine

section
variable {leave : Bool} {s s' : State}

theorem State.atTick_keeps {t : Nat} {f : Dev → Dev} (h : s.atTick t f = .next s')
    (hf : ∀ d, Keeps leave d.shot.guards (f d).shot.guards) : s'.Sound leave s.dev.shot.guards (Memory.wf s) := by
  cases h
  refine (s.sound_self leave).dev _ ?_ rfl rfl
  dsimp only
  split
  · simpa using hf (s.dev.advanceTo t)
  · exact .refl _ _

theorem State.atLane_keeps {t n : Nat} {f : Dev → Dev} (h : s.atLane t n f = .next s')
    (hf : ∀ d, Keeps leave d.shot.guards (f d).shot.guards) : s'.Sound leave s.dev.shot.guards (Memory.wf s) :=
  State.atTick_keeps h fun d => by
    split
    · exact .refl _ _
    · exact hf d

theorem State.atCny_keeps {t c : Nat} {f : Dev → Dev} (h : s.atCny t c f = .next s')
    (hf : ∀ d, Keeps leave d.shot.guards (f d).shot.guards) : s'.Sound leave s.dev.shot.guards (Memory.wf s) := by
  cases h
  refine (s.sound_self leave).dev _ ?_ rfl rfl
  dsimp only
  split
  · exact .refl _ _
  · have h := hf { s.dev.advanceTo t with cny := { (s.dev.advanceTo t).cny with rc := Nat.max (s.dev.advanceTo t).cny.rc c } }
    simpa using h

theorem State.mapDev_keeps {f : Dev → Dev} (h : s.mapDev f = .next s') (hf : ∀ d, Keeps leave d.shot.guards (f d).shot.guards) :
    s'.Sound leave s.dev.shot.guards (Memory.wf s) := by
  cases h
  exact (s.sound_self leave).dev _ (hf _) rfl rfl

theorem State.atTickMem_sound {t : Nat} {f : State → State} (h : s.atTickMem t f = .next s')
    (hf : ∀ x : State, x.Sound leave s.dev.shot.guards (Memory.wf s) → (f x).Sound leave s.dev.shot.guards (Memory.wf s)) :
    s'.Sound leave s.dev.shot.guards (Memory.wf s) := by
  unfold State.atTickMem at h
  split at h
  · cases h
    have hx := hf _ ((s.sound_self leave).dev { s with dev := s.dev.advanceTo t } (by simp) rfl rfl)
    exact hx.dev _ hx.guards rfl rfl
  · cases h
    exact s.sound_self leave

theorem State.atBoot_sound {t n : Nat} {f : State → State} (h : s.atBoot t n f = .next s')
    (hf : ∀ x : State, x.Sound leave s.dev.shot.guards (Memory.wf s) → (f x).Sound leave s.dev.shot.guards (Memory.wf s)) :
    s'.Sound leave s.dev.shot.guards (Memory.wf s) :=
  State.atTickMem_sound h fun x hx => .ite (hf x hx) hx

theorem State.issueAt_sound {t : Nat} {e : IssueEnv} {op : AsyOp} (h : s.issueAt t e op = .next s') :
    s'.Sound leave s.dev.shot.guards (Memory.wf s) :=
  State.atTickMem_sound h fun _ hx => hx.issue _ _ _

theorem State.mdio_keeps {src t op phy r data : Nat} {turn : Bool} (h : s.mdio src t op phy r turn data = .next s') :
    s'.Sound leave s.dev.shot.guards (Memory.wf s) :=
  State.atTick_keeps h fun _ => Dev.cmdWrite_keeps _ _ _ _ _ (fun d => by simp) (.refl _ _)

end

end Sys2Proof.Machine
end

section
/-! PROOF. The Canary's inputs, fields and pairs: what their steps keep of the outputs' conditions. -/
namespace Sys2Proof.Machine

/-! Steps of the Canary's inputs and fields: the pairs follow only after the last of them, so each keeps what EMIT_EN and HELD
rest on. -/

/-- What a step keeps before the pairs follow it. -/
structure KeepsEmit (leave : Bool) (v w : Guards) : Prop where
  emit : v.dev.emitSafe = true → w.dev.emitSafe = true
  held : v.stays leave → w.stays leave

theorem Keeps.toEmit {leave : Bool} {v w : Guards} (h : Keeps leave v w) : KeepsEmit leave v w := ⟨h.emit, h.held⟩

theorem Dev.ossdDrop_of_keepsEmit {leave : Bool} {v : Guards} (d : Dev) (h : KeepsEmit leave v d.shot.guards) :
    Keeps leave v d.ossdDrop.shot.guards := Dev.ossdDrop_keeps _ h.emit h.held

theorem foldl_keepsEmit {α : Type} {leave : Bool} {v : Guards} (g : Dev → α → Dev)
    (h : ∀ d a, KeepsEmit leave v d.shot.guards → KeepsEmit leave v (g d a).shot.guards) (l : List α) (d : Dev)
    (hd : KeepsEmit leave v d.shot.guards) : KeepsEmit leave v (l.foldl g d).shot.guards := by
  induction l generalizing d with
  | nil => exact hd
  | cons a l ih => exact ih _ (h d a hd)

section
variable {leave : Bool} {v : Guards}

theorem Dev.onFn_keepsEmit (d : Dev) (k : Nat) (f : CnyFn → CnyFn) (h : KeepsEmit leave v d.shot.guards) :
    KeepsEmit leave v (d.onFn k f).shot.guards := ⟨h.emit, h.held⟩

theorem Dev.logFault_keepsEmit (d : Dev) (code : Nat) (cls : FClass) (a r : Bool) (h : KeepsEmit leave v d.shot.guards) :
    KeepsEmit leave v (d.logFault code cls a r).shot.guards := by rwa [Dev.logFault_shot]

theorem Dev.pulseBad_keepsEmit (d : Dev) (ch : Nat) (cross : Bool) (h : KeepsEmit leave v d.shot.guards) :
    KeepsEmit leave v (d.pulseBad ch cross).shot.guards := by
  unfold Dev.pulseBad
  extract_lets k cyc q last d1
  have h1 : KeepsEmit leave v d1.shot.guards := Dev.onFn_keepsEmit _ _ _ h
  split
  · exact Dev.logFault_keepsEmit _ _ _ _ _ (Dev.onFn_keepsEmit _ _ _ h1)
  · exact h1

theorem Dev.evalFn_keepsEmit (d : Dev) (k : Nat) (old : Map CnyFn) (h : KeepsEmit leave v d.shot.guards) :
    KeepsEmit leave v (d.evalFn k old).shot.guards := by
  have hlast : ∀ (q : CnyFn) (c : Bool), KeepsEmit leave v
      (if c then (d.onFn k (fun _ => q)).logFault 0x180D .n else d.onFn k (fun _ => q)).shot.guards := by
    intro q c
    split
    · exact Dev.logFault_keepsEmit _ _ _ _ _ (Dev.onFn_keepsEmit _ _ _ h)
    · exact Dev.onFn_keepsEmit _ _ _ h
  unfold Dev.evalFn
  extract_lets
  split
  split
  exact hlast _ _

theorem Dev.sampleCh_keepsEmit (d : Dev) (ch : Nat) (level : Bool) (h : KeepsEmit leave v d.shot.guards) :
    KeepsEmit leave v (d.sampleCh ch level).shot.guards := by
  unfold Dev.sampleCh
  extract_lets lv k d1 sus d2
  have h2 : KeepsEmit leave v d2.shot.guards := Dev.onFn_keepsEmit _ _ _ (Dev.onFn_keepsEmit _ _ _ h)
  split
  · exact Dev.pulseBad_keepsEmit _ _ _ h2
  · exact h2

end

@[simp] theorem Dev.restartButton_guards (d : Dev) (was : Bool) : (d.restartButton was).shot.guards = d.shot.guards := by
  unfold Dev.restartButton
  dsimp only
  split
  · rfl
  split
  · split
    · exact Dev.onCny_same _ _ rfl
    · rfl
  split
  · rfl
  split
  · refine foldl_guards _ (fun d p => ?_) _ _ |>.trans (Dev.onCny_same _ _ rfl)
    split
    · exact Dev.onCny_same _ _ rfl
    · rfl
  · exact Dev.onCny_same _ _ rfl

/-- A pair that R387 allows may be switched on. -/
theorem Dev.ossdSwitch_on_keeps {leave : Bool} (d : Dev) (p : Nat) (hmay : d.ossdMay p false = true) :
    Keeps leave d.shot.guards (d.ossdSwitch p true).shot.guards := by
  unfold Dev.ossdSwitch
  split
  · exact .refl _ _
  · refine ⟨id, fun hv => ?_, id⟩
    have hpair : ∀ q ∈ [0, 1], (!(d.cny.ossdOn.set p true).getD q false || d.ossdMay q false) = true := by
      intro q hq
      by_cases hqp : q = p
      · simp [hqp, hmay]
      · rw [getD_set_ne _ _ hqp]
        exact List.all_eq_true.mp hv q hq
    exact List.all_eq_true.mpr hpair

@[simp] theorem Dev.ossdRise_keeps {leave : Bool} {v : Guards} (d : Dev) (h : Keeps leave v d.shot.guards) :
    Keeps leave v d.ossdRise.shot.guards := by
  refine foldl_keeps _ (fun d p h => ?_) _ _ h
  split
  · next hc =>
    exact h.trans (Dev.ossdSwitch_on_keeps d p (by simp only [Bool.and_eq_true] at hc; exact hc.1))
  · exact h

@[simp] theorem Dev.onFrame_guards (d : Dev) (n : Nat) (f : FieldFrame → FieldFrame) : (d.onFrame n f).shot.guards = d.shot.guards :=
  Dev.onCny_same _ _ rfl

@[simp] theorem Dev.violation_guards (d : Dev) (num s i : Nat) (echo : Option (Nat × Nat)) :
    (d.violation num s i echo).shot.guards = d.shot.guards := by
  unfold Dev.violation
  dsimp only
  split
  · rfl
  · cases echo <;> simp

@[simp] theorem Dev.judgeEcho_keeps {leave : Bool} {v : Guards} (d : Dev) (fr : FieldFrame) (beam az cosE range : Nat)
    (h : Keeps leave v d.shot.guards) : Keeps leave v (d.judgeEcho fr beam az cosE range).shot.guards := by
  unfold Dev.judgeEcho
  refine foldl_keeps _ (fun d p h => ?_) _ _ (by simpa using h)
  dsimp only
  split
  · exact h
  have hlock : ∀ (x : Dev) (c : Bool), Keeps leave v x.shot.guards →
      Keeps leave v (if c then (x.logFault 0x1809 .n).cnyLock 0x1809 else x).shot.guards := by
    intro x c hx
    cases c <;> simp [hx]
  split
  · exact hlock _ _ (by simpa using h)
  · rw [Dev.violation_guards, Dev.onFrame_guards]
    exact hlock _ _ (by simpa using h)

@[simp] theorem Dev.evalRecord_keeps {leave : Bool} {v : Guards} (d : Dev) (r : CnyRec) (h : Keeps leave v d.shot.guards) :
    Keeps leave v (d.evalRecord r).shot.guards := by
  unfold Dev.evalRecord
  split
  · exact h
  · refine foldl_keeps _ (fun d n h => ?_) _ _ (by simpa using h)
    dsimp only
    split
    · exact h
    · split
      · exact Dev.judgeEcho_keeps _ _ _ _ _ _ h
      · exact h

@[simp] theorem Dev.closeFrame_keeps {leave : Bool} {v : Guards} (d : Dev) (num : Nat) (h : Keeps leave v d.shot.guards) :
    Keeps leave v (d.closeFrame num).shot.guards := by
  have hfields : ∀ (x : Dev) (f : CnyState → CnyState), Keeps leave v x.shot.guards →
      (∀ c, (f c).outputs = { c.outputs with offSets := (f c).offSets }) → Keeps leave v (x.onCny f).ossdDrop.shot.guards := by
    intro x f hx hf
    refine Dev.ossdDrop_of_keepsEmit _ ?_
    rw [Dev.onCny_guards, hf]
    exact ⟨hx.emit, hx.held⟩
  unfold Dev.closeFrame
  dsimp only
  have hqueue : Keeps leave v ((d.cny.queue.filter (fun r => r.frame == num)).foldl (fun (d : Dev) r => d.evalRecord r)
      (d.onCny (fun c => { c with queue := c.queue.filter (fun r => r.frame != num) }))).shot.guards :=
    foldl_keeps _ (fun d r h => Dev.evalRecord_keeps _ _ h) _ _ (by rwa [Dev.onCny_same _ _ rfl])
  split
  · exact hqueue
  · exact hfields _ _ (foldl_keeps _ (fun d p h => by rwa [Dev.violation_guards]) _ _ hqueue) fun _ => rfl

end Sys2Proof.Machine
end

section
/-! PROOF. What the device's commands keep of the outputs' conditions, where it takes more than the rules of what they call. -/
namespace Sys2Proof.Machine

section
variable {leave : Bool} {v : Guards}

theorem Dev.rxSymbol_keeps (d : Dev) (n err : Nat) (f : Dev → Dev) (hf : ∀ d, Keeps leave d.shot.guards (f d).shot.guards) :
    Keeps leave d.shot.guards (d.rxSymbol n err f).shot.guards := by
  unfold Dev.rxSymbol
  dsimp only
  split
  · exact .refl _ _
  split
  · exact hf d
  split
  · simpa using hf (d.inc64 (R.LNK_CNT_CORR n) 1)
  · simp

theorem Dev.ethRx_keeps (d : Dev) (vid : Option Nat) (mine : Bool) (f : Dev → Dev) (hf : ∀ d, Keeps leave d.shot.guards (f d).shot.guards) :
    Keeps leave d.shot.guards (d.ethRx vid mine f).shot.guards := by
  unfold Dev.ethRx
  split
  · exact .refl _ _
  split
  · exact hf d
  · simp

theorem Dev.onCny_same_keeps (d : Dev) (f : CnyState → CnyState) (hf : (f d.cny).outputs = d.cny.outputs) (h : Keeps leave v d.shot.guards) :
    Keeps leave v (d.onCny f).shot.guards := by rwa [Dev.onCny_same d f hf]

/-- A change of the Canary that leaves the pairs as they are, in a state whose HELD is to stay. -/
theorem Dev.onCny_raise_keeps (d : Dev) (f : CnyState → CnyState) (code : Nat) (cls : FClass) (act : Bool) :
    Keeps leave d.shot.guards ((d.onCny f).raise code cls act).safetyFollow.shot.guards :=
  Dev.safetyFollow_keeps _ fun hv => (Dev.raise_keeps _ _ _ _ (.refl _ _)).held hv

/-- The ready device goes to RANGING only from ARMED. -/
theorem Dev.enterRanging_armed_keeps (d : Dev) (ha : d.top.state = .armed) : Keeps false d.shot.guards d.enterRanging.shot.guards :=
  Dev.enterRanging_keeps _ fun hv => by
    rcases hv with hs | ⟨hf, -⟩
    · exact DevState.noConfusion (ha.symm.trans hs)
    · cases hf

end

/-- Outside ARMED and RANGING the pairs' condition is that both are off, whatever the supplies say. -/
theorem Guards.ossdSafe_of_quiet {v w : Guards} (hv : v.dev.inState [.armed, .ranging] = false)
    (hon : w.cny.ossdOn = v.cny.ossdOn) (h : v.dev.ossdSafe = true) : w.dev.ossdSafe = true := by
  have hoff : ∀ p, v.dev.ossdMay p false = false := fun p => by simp [Dev.ossdMay, hv]
  have hpair : ∀ p ∈ [0, 1], (!w.dev.cny.ossdOn.getD p false || w.dev.ossdMay p false) = true := by
    intro p hp
    have hsafe := List.all_eq_true.mp h p hp
    rw [hoff, Bool.or_false] at hsafe
    rw [show w.dev.cny.ossdOn = v.dev.cny.ossdOn from hon, hsafe, Bool.true_or]
  exact List.all_eq_true.mpr hpair

/-- The power-on reset ends with the supplies good: EMIT_EN may be high no less than before, and no pair is on. -/
theorem Dev.suppliesGood_keeps {leave : Bool} (d : Dev) (hr : d.top.state = .reset) :
    Keeps leave d.shot.guards { d.shot.guards with cny := { d.cny.outputs with lost := false } } := by
  refine ⟨fun h => ?_, Guards.ossdSafe_of_quiet ?_ rfl, id⟩
  · have h : (!d.emt.emitEn || ((d.ranging || d.emt.calFire) && !d.demanding && !d.cny.lost)) = true := h
    have hgoal : (!d.emt.emitEn || ((d.ranging || d.emt.calFire) && !d.demanding && !false)) = true := by
      revert h
      cases d.cny.lost <;> simp +contextual
    exact hgoal
  · simp [Dev.inState, Guards.dev, Dev.guards_state, hr]

end Sys2Proof.Machine
end

section
/-! PROOF. The device's commands, one by one, where their effect is made of several steps. -/
namespace Sys2Proof.Machine

section
variable {leave : Bool} {s s' : State}

theorem execPowerOn_keeps {cny : Bool} (h : execPowerOn cny s = .next s') : s'.Sound leave s.dev.shot.guards (Memory.wf s) := by
  refine State.mapDev_keeps h fun d => ?_
  split
  · exact .refl _ _
  · next hc =>
    simp only [Bool.or_eq_true, bne_iff_ne, not_or, ne_eq, not_not] at hc
    dsimp only
    split <;> exact d.suppliesGood_keeps hc.1

theorem execResetRelease_keeps {straps safeSw c : Nat} (h : execResetRelease straps safeSw c s = .next s') :
    s'.Sound leave s.dev.shot.guards (Memory.wf s) := by
  refine State.mapDev_keeps h fun d => ?_
  split
  · next hc =>
    simp only [Bool.and_eq_true, beq_iff_eq] at hc
    exact Dev.release_keeps _ _ _ _ (.refl _ _) hc.1.1
  · exact .refl _ _

theorem execStopComplete_keeps {t : Nat} (h : execStopComplete t s = .next s') : s'.Sound false s.dev.shot.guards (Memory.wf s) := by
  refine State.atTick_keeps h fun d => ?_
  split
  · exact .refl _ _
  · next hc =>
    have hranging : d.top.state = .ranging := by
      simp only [Dev.ranging, Bool.or_eq_true, not_or, Bool.not_eq_true', Bool.not_eq_false, beq_iff_eq] at hc
      exact hc.1.1
    have hnot : ¬ d.shot.guards.stays false := Keeps.not_stays (.refl _ _) (by simp [hranging]) (by simp [hranging])
    rw [Dev.setReg_shot]
    exact Dev.goState_keeps _ _ fun hv => absurd hv hnot

theorem execPllRelock_keeps (h : execPllRelock s = .next s') : s'.Sound leave s.dev.shot.guards (Memory.wf s) := by
  refine State.mapDev_keeps h fun d => ?_
  have hlast : ∀ (x : Dev) (p : Bool), (if p then x.startTraining (x.fld R.HOI_CTRL 1 0) true else x).shot = x.shot := by
    intro x p
    cases p <;> simp
  split
  · exact .refl _ _
  · dsimp only
    rw [hlast]
    exact Dev.safetyFollow_keeps _ fun hv => (Dev.enterHeld_keeps _ _ (.refl _ _)).held (by rw [Dev.logFault_shot]; exact hv)

/-- Stage 10: the admission check of a device in ARMED, which an automatic start follows. -/
def Dev.stage10Check (d : Dev) (m : List Host.Cell) : Dev :=
  if d.top.stage10 && d.top.state == .armed && d.hoi.training.isNone then
    let r := ({ d with top := { d.top with stage10 := false } } : Dev).runCheck m
    if r.2 && r.1.top.auto && r.1.rbit R.TOP_RUN_CTRL 0 then r.1.enterRanging else r.1
  else d

/-- The end of the check that CHECK began. -/
def Dev.checkEnd (d : Dev) (m : List Host.Cell) : Dev :=
  if d.fmn.checking then
    let r := ({ d with fmn := { d.fmn with checking := false } } : Dev).runCheck m
    r.1.setFld R.FMN_CMD 9 8 (if r.2 then 1 else 2)
  else d

theorem execAdmissionCheckDone_eq (t : Nat) (s : State) : execAdmissionCheckDone t s = s.atTick t (fun d =>
    ((if d.fmn.recheckDue && d.ranging then ({ d with fmn := { d.fmn with recheckDue := false } } : Dev).recheck s.sram else d).stage10Check
      s.sram).checkEnd s.sram) := (rfl)

theorem Dev.stage10Check_keeps (d : Dev) (m : List Host.Cell) : Keeps false d.shot.guards (d.stage10Check m).shot.guards := by
  have hcheck := Dev.runCheck_shot { d with top := { d.top with stage10 := false } } m
  unfold Dev.stage10Check
  split
  · next hc =>
    simp only [Bool.and_eq_true, beq_iff_eq] at hc
    obtain ⟨⟨-, harmed⟩, -⟩ := hc
    dsimp only
    split
    · have hk := Dev.enterRanging_armed_keeps _ ((congrArg ShotView.state hcheck).trans harmed)
      rwa [hcheck] at hk
    · rw [hcheck]
      exact .refl _ _
  · exact .refl _ _

@[simp] theorem Dev.checkEnd_shot (d : Dev) (m : List Host.Cell) : (d.checkEnd m).shot = d.shot := by
  unfold Dev.checkEnd
  split
  · rw [Dev.setFld_shot, Dev.runCheck_shot]
    rfl
  · rfl

theorem execAdmissionCheckDone_keeps {t : Nat} (h : execAdmissionCheckDone t s = .next s') :
    s'.Sound false s.dev.shot.guards (Memory.wf s) := by
  rw [execAdmissionCheckDone_eq] at h
  refine State.atTick_keeps h fun d => ?_
  rw [Dev.checkEnd_shot]
  refine .trans ?_ (Dev.stage10Check_keeps _ _)
  split
  · rw [Dev.recheck_shot]
    exact .refl _ _
  · exact .refl _ _

theorem execFullCalibrationComplete_keeps {t : Nat} {codes : List (Nat × Word)} {badPorts badEmit badTaps : Nat} {times shots : List (Nat × Nat)}
    (h : execFullCalibrationComplete t codes badPorts badEmit badTaps times shots s = .next s') :
    s'.Sound false s.dev.shot.guards (Memory.wf s) := by
  refine State.atTick_keeps h fun d => ?_
  split
  · exact Dev.calDone_keeps _ _ _ _ _ _ _ (.refl _ _)
  · exact .refl _ _

end

end Sys2Proof.Machine
end

section
/-! PROOF. The Canary's commands, one by one: what they keep of the outputs' conditions. -/
namespace Sys2Proof.Machine

theorem keeps_ite {leave : Bool} {v : Guards} {p : Prop} [Decidable p] {x y : Dev} (hx : Keeps leave v x.shot.guards)
    (hy : Keeps leave v y.shot.guards) : Keeps leave v (if p then x else y).shot.guards := by
  split
  · exact hx
  · exact hy

theorem Dev.cnyLock_keepsEmit {leave : Bool} {v : Guards} (d : Dev) (code : Nat) (h : KeepsEmit leave v d.shot.guards) :
    KeepsEmit leave v (d.cnyLock code).shot.guards := by
  have hfollow : ∀ x : Dev, (v.stays leave → x.guards.stays leave) → KeepsEmit leave v x.safetyFollow.shot.guards :=
    fun x hx => (x.safetyFollow_keeps hx).toEmit
  exact hfollow _ h.held

section
variable {leave : Bool} {s s' : State}

theorem execHeartbeatLost_keeps {t c : Nat} (h : execHeartbeatLost t c s = .next s') : s'.Sound leave s.dev.shot.guards (Memory.wf s) := by
  refine State.atCny_keeps h fun d => ?_
  split
  · exact .refl _ _
  · exact Dev.onCny_raise_keeps ..

theorem execSelfComparisonMismatch_keeps {t c : Nat} {present : Bool} (h : execSelfComparisonMismatch t c present s = .next s') :
    s'.Sound leave s.dev.shot.guards (Memory.wf s) := by
  refine State.atCny_keeps h fun d => ?_
  split
  · split
    · exact .refl _ _
    · exact Dev.onCny_raise_keeps ..
  split
  · exact Dev.safetyFollow_keeps _ fun hv => by
      rw [Dev.guards, Dev.causeGone_shot]
      exact hv
  · exact .refl _ _

theorem execSealSwitchSample_keeps {t c value : Nat} (h : execSealSwitchSample t c value s = .next s') :
    s'.Sound leave s.dev.shot.guards (Memory.wf s) := by
  refine State.atCny_keeps h fun d => ?_
  have hlast : ∀ (x : Dev) (p : Bool), x.top.state = d.top.state → x.cal.passed = d.cal.passed → Keeps leave d.shot.guards
      (if p then (x.onCny (fun c => { c with modeChanged := true })).logFault 0x1802 .n true else x).safetyFollow.shot.guards := by
    intro x p hs hp
    refine Dev.safetyFollow_keeps _ (Guards.stays_congr ?_ ?_).mpr
    · cases p
      · exact hs
      · rw [Dev.guards, if_pos rfl, Dev.logFault_shot]
        exact hs
    · cases p
      · exact hp
      · rw [Dev.guards, if_pos rfl, Dev.logFault_shot]
        exact hp
  have hseal : ∀ (x : Dev) (p q : Prop) [Decidable p] [Decidable q],
      (if p then x.logFault 0x1801 .n true else if q then x.causeGone 0x1801 else x).shot = x.shot := by
    intro x p q _ _
    split
    · exact Dev.logFault_shot ..
    split
    · exact Dev.causeGone_shot ..
    · rfl
  dsimp only
  split
  · exact Dev.onCny_same_keeps _ _ rfl (.refl _ _)
  · exact hlast _ _ (congrArg ShotView.state (hseal _ _ _)) (congrArg (fun v => v.cal.passed) (hseal _ _ _))

theorem execCnyParamWrite_keeps {src t c addr : Nat} {value : Word} (h : execCnyParamWrite src t c addr value s = .next s') :
    s'.Sound leave s.dev.shot.guards (Memory.wf s) := by
  refine State.atTick_keeps h fun d => ?_
  exact Dev.paramWrite_keeps _ _ _ _ (Dev.onCny_same_keeps _ _ rfl (.refl _ _))

theorem execCommissionDone_keeps {t c : Nat} {ok : Bool} (h : execCommissionDone t c ok s = .next s') :
    s'.Sound leave s.dev.shot.guards (Memory.wf s) := by
  refine State.atCny_keeps h fun d => ?_
  have hheld : ∀ x : Dev, (d.shot.guards.stays leave → x.shot.guards.stays leave) → ∀ (w : Word) (a b : Nat),
      Keeps leave d.shot.guards (x.cnyDone w a b).safetyFollow.shot.guards := by
    intro x hx w a b
    refine Dev.safetyFollow_keeps _ fun hv => ?_
    rw [Dev.guards, Dev.cnyDone_shot]
    exact hx hv
  split
  · exact .refl _ _
  dsimp only
  split
  · refine hheld _ (fun hv => ?_) _ _ _
    split
    · refine (Dev.paramJudge_keeps _ _ (.refl _ _)).held ?_
      rw [Dev.setReg_shot, Dev.setReg_shot]
      exact hv
    · rw [Dev.setReg_shot, Dev.setReg_shot]
      exact hv
  · refine hheld _ (fun hv => ?_) _ _ _
    rw [Dev.logFault_shot]
    exact hv

theorem execFunctionalSample_keeps {t c levels rb : Nat} (h : execFunctionalSample t c levels rb s = .next s') :
    s'.Sound leave s.dev.shot.guards (Memory.wf s) := by
  refine State.atCny_keeps h fun d => ?_
  have hdrop : ∀ (x : Dev) (p was : Bool), KeepsEmit leave d.shot.guards x.shot.guards →
      Keeps leave d.shot.guards (if p then x.ossdDrop.restartButton was else x.ossdDrop).shot.guards := by
    intro x p was hx
    have hk := x.ossdDrop_of_keepsEmit hx
    cases p
    · exact hk
    · simpa using hk
  have heval : ∀ (x : Dev) (p : Bool) (old : Map CnyFn), KeepsEmit leave d.shot.guards x.shot.guards →
      KeepsEmit leave d.shot.guards (if p then (List.range 8).foldl (fun (d : Dev) k => d.evalFn k old) x else x).shot.guards := by
    intro x p old hx
    cases p
    · exact hx
    · exact foldl_keepsEmit _ (fun d k h => Dev.evalFn_keepsEmit _ _ _ h) _ _ hx
  have hsample : ∀ x : Dev, KeepsEmit leave d.shot.guards x.shot.guards →
      KeepsEmit leave d.shot.guards ((List.range 16).foldl (fun (d : Dev) ch => d.sampleCh ch (levels.testBit ch)) x).shot.guards :=
    fun x hx => foldl_keepsEmit _ (fun d ch h => Dev.sampleCh_keepsEmit _ _ _ h) _ _ hx
  exact Dev.offCheck_keeps _ (Dev.ossdRise_keeps _ (hdrop _ _ _ (heval _ _ _ (hsample _ ⟨id, id⟩))))

theorem execTestPulseCheck_keeps {t c j levels : Nat} (h : execTestPulseCheck t c j levels s = .next s') :
    s'.Sound leave s.dev.shot.guards (Memory.wf s) := by
  refine State.atCny_keeps h fun d => ?_
  refine keeps_ite (.refl _ _) ?_
  refine Dev.ossdDrop_of_keepsEmit _ (foldl_keepsEmit _ (fun d ch h => ?_) _ _ ⟨id, id⟩)
  split
  · exact h
  split
  · exact h
  split
  · split
    · exact Dev.pulseBad_keepsEmit _ _ _ h
    · exact h
  split
  · exact Dev.onFn_keepsEmit _ _ _ h
  · exact h

theorem execCanaryEncoderEdge_keeps {t c k : Nat} {a b z : Bool} (h : execCanaryEncoderEdge t c k a b z s = .next s') :
    s'.Sound leave s.dev.shot.guards (Memory.wf s) :=
  State.atCny_keeps h fun _ => Dev.onCny_same_keeps _ _ rfl (.refl _ _)

theorem execAxisComputation_keeps {t c j : Nat} (h : execAxisComputation t c j s = .next s') :
    s'.Sound leave s.dev.shot.guards (Memory.wf s) := by
  refine State.atCny_keeps h fun d => ?_
  have hlast : ∀ (x : Dev) (p : Bool), KeepsEmit leave d.shot.guards x.shot.guards →
      Keeps leave d.shot.guards (if p then (x.logFault 0x180F .n).cnyLock 0x180F else x).ossdDrop.shot.guards := by
    intro x p hx
    refine Dev.ossdDrop_of_keepsEmit _ ?_
    cases p
    · exact hx
    · exact Dev.cnyLock_keepsEmit _ _ (Dev.logFault_keepsEmit _ _ _ _ _ hx)
  have hdraw : ∀ (x : Dev) (p : Prop) [Decidable p] (n : Nat),
      ((if p then (n, x) else ((x.fresh 16).toNat, x.drew)) : Nat × Dev).2.shot = x.shot := by
    intro x p _ n
    split <;> simp
  extract_lets j
  split
  split
  extract_lets d1 s0 s1 v2 q on viol differ since d2 mm
  refine keeps_ite (Dev.onCny_same_keeps _ _ rfl (.refl _ _)) ?_
  split
  next low d3 h3 =>
  have hd3 : d3.shot = d2.shot := (congrArg (fun q => q.2.shot) h3).symm.trans (hdraw d2 _ _)
  refine hlast _ _ ?_
  rw [Dev.setReg_shot, hd3]
  exact ⟨id, id⟩

theorem execEchoEvaluation_keeps {t c : Nat} (h : execEchoEvaluation t c s = .next s') :
    s'.Sound leave s.dev.shot.guards (Memory.wf s) := by
  refine State.atCny_keeps h fun d => ?_
  split
  · exact .refl _ _
  · exact Dev.evalRecord_keeps _ _ (Dev.onCny_same_keeps _ _ rfl (.refl _ _))

theorem execFieldEvaluationClose_keeps {t c : Nat} (h : execFieldEvaluationClose t c s = .next s') :
    s'.Sound leave s.dev.shot.guards (Memory.wf s) := by
  refine State.atCny_keeps h fun d => ?_
  exact foldl_keeps _ (fun d f h => Dev.closeFrame_keeps _ _ h) _ _ (.refl _ _)

theorem execOssdReadbackCheck_keeps {t c rb : Nat} (h : execOssdReadbackCheck t c rb s = .next s') :
    s'.Sound leave s.dev.shot.guards (Memory.wf s) := by
  refine State.atCny_keeps h fun d => ?_
  refine foldl_keeps _ (fun d p h => ?_) _ _ (Dev.onCny_same_keeps _ _ rfl (.refl _ _))
  dsimp only
  split
  · exact h
  split
  · exact h
  have hset := Dev.onCny_same_keeps d (fun c => { c with switched := c.switched.set p none }) rfl h
  exact keeps_ite hset (Dev.raise_keeps _ _ _ _ hset)

theorem execStateSend_keeps {t c : Nat} (h : execStateSend t c s = .next s') : s'.Sound leave s.dev.shot.guards (Memory.wf s) := by
  refine State.atCny_keeps h fun d => ?_
  refine keeps_ite (.refl _ _) ?_
  · rw [Dev.cnySend_guards]
    exact Dev.onCny_same_keeps _ _ rfl (.refl _ _)

theorem execLoneCopyDiscard_keeps {t c : Nat} (h : execLoneCopyDiscard t c s = .next s') :
    s'.Sound leave s.dev.shot.guards (Memory.wf s) := by
  refine State.atCny_keeps h fun d => ?_
  rw [foldl_shot _ (fun d _ => Dev.copyDiscard_shot d)]
  exact Dev.onCny_same_keeps _ _ rfl (.refl _ _)

theorem execMessageTimeout_keeps {t c : Nat} (h : execMessageTimeout t c s = .next s') :
    s'.Sound leave s.dev.shot.guards (Memory.wf s) := by
  refine State.atCny_keeps h fun d => ?_
  split
  · exact .refl _ _
  · refine Dev.muteEnd_keeps _ ?_
    rw [Dev.logFault_shot]
    exact Dev.onCny_same_keeps _ _ rfl (by simp)

theorem execLivenessRequest_keeps {t c : Nat} (h : execLivenessRequest t c s = .next s') :
    s'.Sound leave s.dev.shot.guards (Memory.wf s) := by
  refine State.atCny_keeps h fun d => ?_
  split
  · exact .refl _ _
  · exact foldl_keeps _ (fun d k h => Dev.onCny_same_keeps _ _ rfl (by simpa using h)) _ _ (.refl _ _)

theorem execLivenessDeadline_keeps {t c core : Nat} (h : execLivenessDeadline t c core s = .next s') :
    s'.Sound leave s.dev.shot.guards (Memory.wf s) := by
  refine State.atCny_keeps h fun d => ?_
  have hlast : ∀ (x : Dev) (p : Bool), Keeps leave d.shot.guards x.shot.guards →
      Keeps leave d.shot.guards (if p then x else x.removeCore core 0x1807).shot.guards := by
    intro x p hx
    cases p
    · exact Dev.removeCore_keeps _ _ _ hx
    · exact hx
  split
  · exact .refl _ _
  split
  · exact .refl _ _
  · exact hlast _ _ (Dev.onCny_same_keeps _ _ rfl (.refl _ _))

theorem execTestPulse_keeps {t c k : Nat} (h : execTestPulse t c k s = .next s') : s'.Sound leave s.dev.shot.guards (Memory.wf s) :=
  State.atCny_keeps h fun _ => Dev.onCny_same_keeps _ _ rfl (.refl _ _)

theorem execSupplyBackInRange_keeps {t : Nat} {x : Supply} (h : execSupplyBackInRange t x s = .next s') :
    s'.Sound leave s.dev.shot.guards (Memory.wf s) := by
  refine State.mapDev_keeps h fun d => ?_
  have hlast : ∀ (y : Dev) (p : Prop) [Decidable p], (if p then ({ y with top := { y.top with resetHeldMs := 0, resetHeldValid := false, resetCause := 0 } } : Dev) else y).shot = y.shot := by
    intro y p _
    split <;> rfl
  split
  · exact .refl _ _
  · refine Dev.supplyReturn_keeps _ _ ?_
    rw [hlast]
    simp

end

end Sys2Proof.Machine
end

section
/-! PROOF. What every command keeps of the outputs' conditions, of HELD and of the memories' form. -/
namespace Sys2Proof.Machine

section
variable {leave : Bool} {v : Guards} {s s' : State}

theorem State.toReset_atReset (s : State) (cause : Nat) : (s.toReset cause).AtReset := ⟨rfl, rfl, rfl, rfl⟩

theorem execSupplyMonitorTrip_goes {t : Nat} {x : Supply} (h : execSupplyMonitorTrip t x s = .next s') : State.Goes true s s' := by
  have hown : execSupplyMonitorTrip t x s = .next { s.supplyTrip t x with pending := s.pending } := rfl
  cases hown.symm.trans h
  have hloss : (if s.dev.supplyBad x then s else s.onDev (fun d =>
      let d := d.supplyOut x
      if d.top.state == .reset then (if x = .cny ∨ x = .cnyio then (d.onCny (fun c => { c with lost := true })).safetyFollow else d)
      else (d.advanceTo t).supplyLoss x)).Sound true s.dev.shot.guards (Memory.wf s) := by
    refine .ite (s.sound_self true) ((s.sound_self true).onDev _ fun hd => ?_)
    refine keeps_ite (keeps_ite (Dev.onCny_follow_keeps _ _ ?_) ?_) (Dev.supplyLoss_keeps _ _ ?_) <;> simp
  cases x with
  | core => exact .reset rfl ⟨rfl, rfl, rfl, rfl⟩
  | dram => exact .sound (s.sound_self true)
  | _ => exact .sound (hloss.dev _ hloss.guards rfl rfl)

theorem execResetNAssert_goes {c ns : Nat} (h : execResetNAssert c ns s = .next s') : State.Goes true s s' := by
  rw [execResetNAssert] at h
  split at h
  · cases h
    exact .reset rfl ⟨rfl, rfl, rfl, rfl⟩
  · cases h
    exact .sound (s.sound_self true)

/-- The watchdog acts outside HELD only. -/
theorem execWatchdogTimeout_sound {t c : Nat} (h : execWatchdogTimeout t c s = .next s') :
    s'.Sound false s.dev.shot.guards (Memory.wf s) := by
  rw [execWatchdogTimeout] at h
  split at h
  · cases h
    exact s.sound_self false
  extract_lets due at h
  split at h
  · next hdue =>
    cases h
    have hstate : s.dev.top.state ≠ .held := by simpa using (Bool.and_eq_true_iff.mp hdue).2
    have hr : ∀ x : State, (x.toReset 2).Sound false s.dev.shot.guards (Memory.wf s) := fun x =>
      x.toReset_sound 2 false (by simp [Guards.stays, Dev.guards_state, hstate])
    exact (hr _).dev _ (hr _).guards rfl rfl
  · cases h
    exact s.sound_self false

/-! Commands that reach the memories, where their effect is made of several steps. -/

theorem execSoftReset_sound {t : Nat} (h : execSoftReset t s = .next s') : s'.Sound leave s.dev.shot.guards (Memory.wf s) :=
  State.atTickMem_sound h fun x hx =>
    .ite (hx.sram _ (Dev.softReset_keeps _ hx.guards) (fun _ => rfl) rfl) hx

theorem execFrameFirstEntryRead_sound {t err : Nat} (h : execFrameFirstEntryRead t err s = .next s') :
    s'.Sound leave s.dev.shot.guards (Memory.wf s) :=
  State.atTickMem_sound h fun x hx =>
    .ite hx (State.Sound.readEntry (hx.onDev _ (by simp)) _ _ _)

theorem execScanEntryRead_sound {t err : Nat} (h : execScanEntryRead t err s = .next s') :
    s'.Sound leave s.dev.shot.guards (Memory.wf s) :=
  State.atTickMem_sound h fun x hx => by
    split
    · exact hx
    · exact .ite hx (hx.readEntry _ _ _)

theorem execLodeClearPass_sound {t : Nat} (h : execLodeClearPass t s = .next s') :
    s'.Sound leave s.dev.shot.guards (Memory.wf s) :=
  State.atTickMem_sound h fun x hx =>
    .ite hx (State.Sound.dramClear (hx.dev _ (by simpa using hx.guards) (by rfl) (by rfl)) _ _)

theorem execPoisonedFetch_sound {t core err : Nat} (h : execPoisonedFetch t core err s = .next s') :
    s'.Sound leave s.dev.shot.guards (Memory.wf s) :=
  State.atTickMem_sound h fun _ hx =>
    .ite hx (.ite ((hx.noteErr _ _).onDev _ (fun hd => Dev.removeCore_keeps _ _ _ hd)) (hx.noteErr _ _))

theorem execActivityRequest_sound {t activity units : Nat} {panic : Bool} (h : execActivityRequest t activity units panic s = .next s') :
    s'.Sound leave s.dev.shot.guards (Memory.wf s) :=
  State.atTickMem_sound h fun x hx => by
    have hreq : ({ x with dev := (x.dev.request activity units panic).1 } : State).Sound leave s.dev.shot.guards (Memory.wf s) :=
      hx.dev _ (by simpa using hx.guards) rfl rfl
    exact .ite hx (.ite hreq.exportStep hreq)

theorem execRecordWritten_sound {t tap preEnd : Nat} (h : execRecordWritten t tap preEnd s = .next s') :
    s'.Sound leave s.dev.shot.guards (Memory.wf s) :=
  State.atTickMem_sound h fun x hx => by
    split
    · exact hx
    · exact State.Sound.ringAppend (hx.dev _ (by simpa using hx.guards) (by rfl) (by rfl)) _ _

theorem execWavGapRecord_sound {t tap : Nat} (h : execWavGapRecord t tap s = .next s') :
    s'.Sound leave s.dev.shot.guards (Memory.wf s) :=
  State.atTickMem_sound h fun _ hx => .ite hx (hx.writeGaps _ _)

theorem execFlushExecute_sound {t tap : Nat} (h : execFlushExecute t tap s = .next s') :
    s'.Sound leave s.dev.shot.guards (Memory.wf s) := by
  refine State.atTickMem_sound h fun x hx => .ite hx (State.Sound.ringAppend (hx.dev _ ?_ (by rfl) (by rfl)) _ _)
  simpa [Dev.wavSeq, apply_ite Dev.shot] using hx.guards

theorem execSerialWriteFrame_sound {src t command addr room : Nat} {words : List Word} {outs : List Outside}
    (h : execSerialWriteFrame src t command addr room words outs s = .next s') : s'.Sound true s.dev.shot.guards (Memory.wf s) :=
  State.atTickMem_sound h fun _ hx =>
    .ite hx (.ite (hx.writeFrame _ _ _ _ _) (hx.onDev _ (by simp)))

theorem execSerialReadFrame_sound {src t addr count : Nat} {outs : List Outside} (h : execSerialReadFrame src t addr count outs s = .next s') :
    s'.Sound leave s.dev.shot.guards (Memory.wf s) :=
  State.atTickMem_sound h fun _ hx =>
    .ite hx (State.Sound.onDev (State.Sound.mgtReads _ _ hx _ _ _) _ (by simp))

theorem execMgtDatagram_sound {t : Nat} {vid : Option Nat} {port srcPort : Nat} {req : List Byte} {outs : List Outside}
    (h : execMgtDatagram t vid port srcPort req outs s = .next s') : s'.Sound true s.dev.shot.guards (Memory.wf s) :=
  State.atTickMem_sound h fun x hx => by
    have hreq := State.Sound.mgtRequest (hx.onDev (fun d => d.inc64 R.ETH_CNT_MGT 1) (by simp)) 0x0A req outs fun _ => rfl
    refine .ite hx (.ite (hx.onDev _ (by simp)) ?_)
    split
    · next heq =>
      rw [heq] at hreq
      exact hreq.onDev _ (by simp)
    · next heq =>
      rw [heq] at hreq
      exact hreq

theorem execWindowAccessTimeout_sound {src t addr : Nat} {write : Bool} {value : Word}
    (h : execWindowAccessTimeout src t addr write value s = .next s') : s'.Sound leave s.dev.shot.guards (Memory.wf s) :=
  State.atTickMem_sound h fun _ hx =>
    .ite hx (.ite (.ite hx (hx.onDev _ (by simp))) (.ite (hx.onDev _ (by simp)) hx))

/-- The shadowed registers and the limits are not TOP_CMD. -/
theorem shadowed_ne_topCmd {a : Nat} (h : (shadowed a || inLimits a) = true) : a ≠ R.TOP_CMD := by
  rintro rfl
  revert h
  decide

end

theorem exec_goes (c : Instr) {s s' : State} (h : exec c s = .next s') : State.Goes (leavesHeld c) s s' := by
  cases c
  case canaryClockGate =>
    unfold exec at h
    exact .sound (State.atCny_keeps h (fun d => by simp))
  case checkRecompute | ossdOffTest | select | mute | muteExpiry =>
    unfold exec at h
    exact .sound (State.atCny_keeps h (fun d => by
      repeat' split
      all_goals simp))
  case framePeriodOverFrameMax =>
    unfold exec at h
    exact .sound (State.atCny_keeps h (fun d => by
      dsimp only
      repeat' split
      all_goals simp [foldl_guards]))
  case lockLoss | laneParityError =>
    unfold exec at h
    exact .sound (State.atLane_keeps h (fun d => by simp))
  case lockLossTimeout | elasticBufferAdjust =>
    unfold exec at h
    exact .sound (State.atLane_keeps h (fun d => by
      repeat' split
      all_goals simp))
  case laneLock | prbsCheckEnd | rateResultTimeout | stuffingError | frameSlotTransmit | timeSymbolDue =>
    unfold exec at h
    exact .sound (State.atLane_keeps h (fun d => by
      dsimp only
      repeat' split
      all_goals simp))
  case slewCarry | fuseProgrammingDone | shotIssue | handover | steeringSettled | tallyParityError | inhibitAssert |
      budgetBucketBoundary | budgetParityError | leadingEdge | verdict | hstWindowWrite | slotTableParityError | batch | canary |
      round | divisionResult | loopCountEnd | pointAccept | packetClose | foremanParityError | tapParityError | hkaConversion |
      fadeEnd | refreshWindowEnd | hoistQueueParityError | vddCnyLoss | i2cWordTimeout | inhibitNRelease =>
    unfold exec at h
    exact .sound (State.atTick_keeps h (fun d => by simp))
  case fuseKey | revoke | attest | seqSquashCmd | strReinstate | lodeExport | journalDump | check | hkaStart | inject | hkaCal |
      swap | fltSync | fltReinstate | imuXfer | recover | hoiRetrain | lnkRetrain | lnkReinstate | commission | cnyClear | calFull
      | clearCode | clearAll | clearJournal =>
    unfold exec at h
    exact .sound (State.atTick_keeps h (fun d => Dev.cmdWrite_keeps _ _ _ _ _ (fun d => by simp) (.refl _ _)))
  case stepCommit | frameAtArm | strModeWrite | rfeModeWrite | wavTapCfgWrite | hoiRateWrite | laneEnable | genCapWrite | csiEnable
      =>
    unfold exec at h
    exact .sound (State.atTick_keeps h (fun d => Dev.regWrite_keeps _ _ _ _ _ (fun d => by simp) (.refl _ _)))
  case pllUnlock | syncInEdge | syncMessageTimeout | ppsOutRise | ppsOutFall | gptpMessage | attestDone | frameBoundary |
      settleTimeout | accountingCheck | enSettleExpiry | positionSample | relockTimeout | windowBoundaryApply | settleEnd |
      quadrantSupplyTrip | comparatorStuck | trimParityError | eventCommit | histogramReadoutEnd | backgroundSliceExhausted |
      breakpointHit | bulkDropGapRecord | writeBufferFull | captureEnd | hkaTimerOverflow | startDelayEnd | injectionDone |
      selfCalibrationDone | synchronisingReset | filterParityError | sensorSlotEnd | biasSlewStep | openWireTrip | leadTestStart |
      heaterPeriodStart | heaterDutyEnd | imuTransferDone | canFrameTransmitted | canBusOff | canAutoRecovery | canCanaryWrite |
      correctedWriteBack | temperaturePoll | selfRefreshExit | dphyPllUnlock | otherFrame | ethLinkDown | mdioTimeout | portTurn |
      blindIntervalEnd | serialStatusFrame | mgtParityError | ethernetLinkUp | dphyPllRelock | alertNRise | parityRecoveryTimeout
      | rowCloseOnIdle =>
    unfold exec at h
    exact .sound (State.atTick_keeps h (fun d => by
      repeat' split
      all_goals simp))
  case syncEpochSend | syncMessage | timeSourceHoldover | ppsInEdge | scheduledFrameStart | gptpSyncSend | polygonIndex |
      indexTimeout | eventComplete | lineMonitorCheck | eventArrival | candidateHandoff | batchTimeLimit | rearmEnd |
      ringDrainApply | leadTestEnd | encoderEdge | encoderIndex | imuTrigger | trainingComplete | refreshDue | parityAlert |
      selfRefreshEntry =>
    unfold exec at h
    exact .sound (State.atTick_keeps h (fun d => by
      dsimp only
      repeat' split
      all_goals simp))
  case admissionTest | fire | confidenceFlag | squash | monDebitCorrection | meterRoundClose | windowOpen | checkIn |
      histogramClosing | levelTrigger | trigInEdge | filterOutput =>
    unfold exec at h
    exact .sound (State.atTick_keeps h (fun d => by
      simp [foldl_guards, foldl_shot, apply_ite Dev.shot, apply_ite ShotView.guards]))
  case roundBoundary | trainingStepDone | laneTestDone | neighbourRefresh =>
    unfold exec at h
    exact .sound (State.atTick_keeps h (fun d => by
      dsimp only
      repeat' split
      all_goals simp [foldl_guards, foldl_shot, apply_ite Dev.shot]))
  case bypass | idcode | samplePreload =>
    unfold exec at h
    exact .sound (State.mapDev_keeps h (fun d => by simp))
  case pllLock | extest | clamp | highz =>
    unfold exec at h
    exact .sound (State.mapDev_keeps h (fun d => by
      repeat' split
      all_goals simp))
  case emtReinstate | reinstateCh | reinstateQuad | flush | wavFlush | laneTest | calPort | clear =>
    delta exec execEmtReinstate execReinstateCh execReinstateQuad execFlush execWavFlush execLaneTest execCalPort execClear at h
    exact .sound (State.atTick_keeps h (fun d => Dev.cmdWrite_keeps _ _ _ _ _ (fun d => by simp) (.refl _ _)))
  case tallySnapshotRead =>
    unfold exec at h
    exact .sound (State.atTick_keeps h (fun d => by
      rw [Dev.budgetRead_shot _ _ _ _ (fun d => Dev.tallyRead_shot ..)]
      exact .refl _ _))
  case hstSlotSnapshotRead =>
    unfold exec at h
    exact .sound (State.atTick_keeps h (fun d => by
      rw [Dev.budgetRead_shot _ _ _ _ (fun d => Dev.hstRead_shot ..)]
      exact .refl _ _))
  case dataSymbol | timeSymbol | unknownSymbol =>
    unfold exec at h
    exact .sound (State.atLane_keeps h (fun d => Dev.rxSymbol_keeps _ _ _ _ (fun d => by simp)))
  case capSymbol | rateSymbol | prbsMarker =>
    unfold exec at h
    exact .sound (State.atLane_keeps h (fun d => Dev.rxSymbol_keeps _ _ _ _ (fun d => by
      dsimp only
      repeat' split
      all_goals simp)))
  case safeSymbol =>
    unfold exec at h
    exact .sound (State.atLane_keeps h (fun d => Dev.rxSymbol_keeps _ _ _ _ (fun d =>
      keeps_ite (by simp) (keeps_ite (.refl _ _) (Dev.copyIn_keeps _ _ _ (Dev.onCny_same_keeps _ _ rfl (.refl _ _)))))))
  case arpRequest | neighbourSolicitation =>
    unfold exec at h
    exact .sound (State.atTick_keeps h (fun d => Dev.ethRx_keeps _ _ _ _ (fun d => by simp)))
  case safetyDatagram =>
    unfold exec at h
    exact .sound (State.atTick_keeps h (fun d => Dev.ethRx_keeps _ _ _ _ (fun d =>
      keeps_ite (.refl _ _) (Dev.copyIn_keeps _ _ _ (Dev.onCny_same_keeps _ _ rfl (.refl _ _))))))
  case pairLowWrite | pairHighWrite =>
    unfold exec at h
    exact .sound (State.atTick_keeps h (fun d => by
      split
      · exact .refl _ _
      · exact Dev.regWrite_keeps _ _ _ _ _ (fun d => by simp) (.refl _ _)))
  case fmnAllocWrite =>
    unfold exec at h
    exact .sound (State.atTick_keeps h (fun d => keeps_ite (.refl _ _) (Dev.regWrite_keeps _ _ _ _ _ (fun d => by simp) (.refl _ _))))
  case fltBankWrite =>
    unfold exec at h
    exact .sound (State.atTick_keeps h (fun d => keeps_ite
      (keeps_ite (Dev.regWrite_keeps _ _ _ _ _ (fun d => by simp) (.refl _ _)) (by simp))
      (Dev.regWrite_keeps _ _ _ _ _ (fun d => by simp) (.refl _ _))))
  case monConversion =>
    unfold exec at h
    exact .sound (State.atTick_keeps h (fun d => by
      dsimp only
      split
      · exact .refl _ _
      · exact Dev.monResult_keeps _ _ _ (.refl _ _)))
  case strayMonPulse =>
    unfold exec at h
    exact .sound (State.atTick_keeps h (fun d => keeps_ite (.refl _ _) (keeps_ite (Dev.raise_keeps _ _ _ _ (by simp)) (by simp))))
  case noBatchFallback =>
    unfold exec at h
    exact .sound (State.atTick_keeps h (fun d => by
      rw [Dev.retireCells_guards]
      exact foldl_keeps _ (fun d c hd => Dev.fallback_keeps _ _ _ _ _ (by simpa using hd)) _ _ (.refl _ _)))
  case logParityError =>
    unfold exec at h
    exact .sound (State.atTick_keeps h (fun d => Dev.raise_keeps _ _ _ _ (.refl _ _)))
  case powerOn => exact .sound (execPowerOn_keeps h)
  case resetRelease => exact .sound (execResetRelease_keeps h)
  case stopComplete => exact .sound (execStopComplete_keeps h)
  case pllRelock => exact .sound (execPllRelock_keeps h)
  case admissionCheckDone => exact .sound (execAdmissionCheckDone_keeps h)
  case fullCalibrationComplete => exact .sound (execFullCalibrationComplete_keeps h)
  case heartbeatLost => exact .sound (execHeartbeatLost_keeps h)
  case selfComparisonMismatch => exact .sound (execSelfComparisonMismatch_keeps h)
  case sealSwitchSample => exact .sound (execSealSwitchSample_keeps h)
  case cnyParamWrite => exact .sound (execCnyParamWrite_keeps h)
  case commissionDone => exact .sound (execCommissionDone_keeps h)
  case functionalSample => exact .sound (execFunctionalSample_keeps h)
  case testPulseCheck => exact .sound (execTestPulseCheck_keeps h)
  case canaryEncoderEdge => exact .sound (execCanaryEncoderEdge_keeps h)
  case axisComputation => exact .sound (execAxisComputation_keeps h)
  case echoEvaluation => exact .sound (execEchoEvaluation_keeps h)
  case fieldEvaluationClose => exact .sound (execFieldEvaluationClose_keeps h)
  case ossdReadbackCheck => exact .sound (execOssdReadbackCheck_keeps h)
  case stateSend => exact .sound (execStateSend_keeps h)
  case loneCopyDiscard => exact .sound (execLoneCopyDiscard_keeps h)
  case messageTimeout => exact .sound (execMessageTimeout_keeps h)
  case livenessRequest => exact .sound (execLivenessRequest_keeps h)
  case livenessDeadline => exact .sound (execLivenessDeadline_keeps h)
  case testPulse => exact .sound (execTestPulse_keeps h)
  case supplyBackInRange => exact .sound (execSupplyBackInRange_keeps h)
  case softReset => exact .sound (execSoftReset_sound h)
  case frameFirstEntryRead => exact .sound (execFrameFirstEntryRead_sound h)
  case scanEntryRead => exact .sound (execScanEntryRead_sound h)
  case lodeClearPass => exact .sound (execLodeClearPass_sound h)
  case poisonedFetch => exact .sound (execPoisonedFetch_sound h)
  case activityRequest => exact .sound (execActivityRequest_sound h)
  case recordWritten => exact .sound (execRecordWritten_sound h)
  case wavGapRecord => exact .sound (execWavGapRecord_sound h)
  case flushExecute => exact .sound (execFlushExecute_sound h)
  case serialWriteFrame => exact .sound (execSerialWriteFrame_sound h)
  case serialReadFrame => exact .sound (execSerialReadFrame_sound h)
  case mgtDatagram => exact .sound (execMgtDatagram_sound h)
  case windowAccessTimeout => exact .sound (execWindowAccessTimeout_sound h)
  case watchdogTimeout => exact .sound (execWatchdogTimeout_sound h)
  case resetNAssert => exact execResetNAssert_goes h
  case supplyMonitorTrip => exact execSupplyMonitorTrip_goes h
  case c22Read | c22Write | c45Address | c45Read | c45Write =>
    unfold exec at h
    exact .sound (State.mdio_keeps h)
  case identityKeyDerivation =>
    unfold exec at h
    exact .sound (State.atBoot_sound h fun _ hx => hx.onDev _ (Dev.identify_keeps _))
  case flashDiscovery =>
    unfold exec at h
    exact .sound (State.atBoot_sound h fun _ hx => hx.onDev _ (Dev.discover_keeps _ _ _ _ _))
  case flashReadBurst =>
    unfold exec at h
    exact .sound (State.atBoot_sound h fun _ hx => .ite hx (.ite (hx.onDev _ (Dev.burstFailed_keeps _)) (hx.burstIn _)))
  case imageVerify =>
    unfold exec at h
    exact .sound (State.atBoot_sound h fun _ hx => .ite (hx.onDev _ (Dev.verifyImage_keeps _)) hx)
  case sectionActivation =>
    unfold exec at h
    exact .sound (State.atBoot_sound h fun _ hx => hx.onDev _ fun hd => Dev.activate_keeps _ _ hd)
  case commissioningHandover =>
    unfold exec at h
    exact .sound (State.atBoot_sound h fun _ hx => hx.onDev _ fun hd => Dev.cnyHandover_keeps _ _ hd)
  case start | stop | hold =>
    unfold exec at h
    exact .sound (State.atTickMem_sound h fun _ hx => hx.topWrite _ _ fun h => absurd h (by decide))
  case leaveHeld =>
    unfold exec at h
    exact .sound (State.atTickMem_sound h fun _ hx => hx.topWrite _ _ fun _ => rfl)
  case w288WriteBack =>
    unfold exec at h
    exact .sound (State.atTickMem_sound h fun _ hx => hx.dev _ hx.guards rfl rfl)
  case lowWordRead | highWordRead =>
    unfold exec at h
    exact .sound (State.atTickMem_sound h fun _ hx => .ite (hx.mgtRead _ _ _) hx)
  case histogramUpdate =>
    unfold exec at h
    exact .sound (State.atTickMem_sound h fun _ hx => hx.histUpdate _ _)
  case sieveLaneTake =>
    unfold exec at h
    exact .sound (State.atTickMem_sound h fun _ hx => hx.laneTake _ _ _)
  case lodeWriteBack =>
    unfold exec at h
    exact .sound (State.atTickMem_sound h fun _ hx => hx.lodeWriteBack _)
  case setCopy =>
    unfold exec at h
    exact .sound (State.atTickMem_sound h fun _ hx => hx.setCopy _)
  case illegalInstruction =>
    unfold exec at h
    exact .sound (State.atTickMem_sound h fun _ hx => hx.illegal _ _)
  case asyHalt | asyDispatchWrite | asyStep =>
    unfold exec at h
    exact .sound (State.atTickMem_sound h fun _ hx => hx.asyCtrlWrite _ _ _)
  case asyRegisterWindowAccess =>
    unfold exec at h
    exact .sound (State.atTickMem_sound h fun _ hx => .ite (hx.asyWinWrite _ _ _ _) (hx.asyWinAnswer _ _ _ _))
  case triggerDecision =>
    unfold exec at h
    exact .sound (State.atTickMem_sound h fun _ hx => hx.triggerDecision _)
  case streamRecordRead =>
    unfold exec at h
    exact .sound (State.atTickMem_sound h fun _ hx => hx.streamRead _ _)
  case canFrameReceived =>
    unfold exec at h
    exact .sound (State.atTickMem_sound h fun _ hx => .ite hx
      (hx.canReceive _ _ _ _ _ _ _ _ _ _ fun _ => hx.canRequest _ _ _ fun _ => rfl))
  case dramRead =>
    unfold exec at h
    exact .sound (State.atTickMem_sound h fun _ hx => hx.burstRead _ _ _ _ _)
  case dramWrite =>
    unfold exec at h
    exact .sound (State.atTickMem_sound h fun _ hx => hx.burstWrite _ _ _ _ _ _)
  case journalCopy =>
    unfold exec at h
    exact .sound (State.atTickMem_sound h fun _ hx => hx.journalCopy)
  case registerWrite =>
    unfold exec at h
    exact .sound (State.atTickMem_sound h fun _ hx => hx.mgtWrite _ _ _ _ fun _ => rfl)
  case shadowedRegisterWrite =>
    unfold exec at h
    exact .sound (State.atTickMem_sound h fun x hx => by
      split
      · next ha => exact hx.mgtWrite _ _ _ _ fun htop => absurd htop (shadowed_ne_topCmd ha)
      · exact hx)
  case mgtRead =>
    unfold exec at h
    exact .sound (State.atTickMem_sound h fun x hx => by
      split
      · exact hx
      · next hop => exact hx.laneMgt _ _ _ _ fun hw => absurd hw hop)
  case mgtWrite =>
    unfold exec at h
    exact .sound (State.atTickMem_sound h fun _ hx => .ite (hx.laneMgt _ _ _ _ fun _ => rfl) hx)
  case dramWindowAccess =>
    unfold exec at h
    exact .sound (State.atTickMem_sound h fun x hx => by
      split
      · exact hx
      · next ha => exact .ite (hx.mgtWrite _ _ _ _ fun htop => absurd (htop ▸ ha) (by decide)) (hx.mgtRead _ _ _))
  case mgtDramWinWrite =>
    unfold exec at h
    exact .sound (State.atTickMem_sound h fun _ hx => hx.mgtWrite _ _ _ _ fun htop => absurd htop (by decide))
  all_goals
    unfold exec at h
    exact .sound (State.issueAt_sound h)

end Sys2Proof.Machine
end

section
/-! PROOF. The invariants of every step, and what leaves HELD. -/
namespace Sys2Proof.Machine

/-- A step is the command at the front of the queue; on an empty queue it idles. -/
theorem step_goes {s s' : State} (h : step s = .next s') :
    s' = s ∨ ∃ (c : Instr) (s₀ : State), s₀.dev = s.dev ∧ Memory.wf s₀ = Memory.wf s ∧ State.Goes (leavesHeld c) s₀ s' := by
  unfold step at h
  split at h
  · cases h
    exact .inl rfl
  · next c rest _ => exact .inr ⟨c, { s with pending := rest }, rfl, rfl, exec_goes c h⟩

/-- Settles O5. -/
theorem memoryFormKept : Obligations.MemoryFormKept := by
  unfold Obligations.MemoryFormKept
  intro s s' hwf hstep
  rcases step_goes hstep with rfl | ⟨c, s₀, -, hmem, hsound | ⟨-, hreset⟩⟩
  · exact hwf
  · exact hsound.wf (hmem.trans hwf)
  · exact hreset.wf

/-- Settles O6: the outputs follow every change of what R97 rests on. -/
theorem emitEnSafeKept : Obligations.EmitEnSafeKept := by
  unfold Obligations.EmitEnSafeKept
  intro s s' hsafe hstep
  rcases step_goes hstep with rfl | ⟨c, s₀, hdev, -, hsound | ⟨-, hreset⟩⟩
  · exact hsafe
  · exact hsound.guards.emit (by rwa [Dev.emitSafe_guards, hdev])
  · exact hreset.emit

/-- Settles O7: the pairs follow every change of what R387 rests on. -/
theorem ossdSafeKept : Obligations.OssdSafeKept := by
  unfold Obligations.OssdSafeKept
  intro s s' hsafe hstep
  rcases step_goes hstep with rfl | ⟨c, s₀, hdev, -, hsound | ⟨-, hreset⟩⟩
  · exact hsafe
  · exact hsound.guards.ossd (by rwa [Dev.ossdSafe_guards, hdev])
  · exact hreset.ossd

/-- Settles O9. -/
theorem onlyTheseLeaveHeld : Obligations.OnlyTheseLeaveHeld := by
  unfold Obligations.OnlyTheseLeaveHeld
  intro c s s' hheld hexec
  have hgoes := exec_goes c hexec
  have hstays : s.dev.shot.guards.stays (leavesHeld c) := .inl hheld
  constructor
  · intro hleave
    rw [hleave] at hgoes hstays
    rcases hgoes with hsound | ⟨hf, -⟩
    · rcases hsound.guards.held hstays with hs | ⟨hf, -⟩
      · exact hs
      · cases hf
    · cases hf
  · rcases hgoes with hsound | ⟨-, hreset⟩
    · rcases hsound.guards.held hstays with hs | ⟨-, hs, -⟩
      · exact .inl hs
      · exact .inr (.inl hs)
    · exact .inr (.inr hreset.state)

end Sys2Proof.Machine
end

section
/-! PROOF. What the shared operations of the device leave unchanged: the fault log, the 64-bit counters and the pairs. -/
namespace Sys2Proof.Machine

/-! Counters (R426). -/

theorem Dev.reg64_setReg64_self (d : Dev) (a v : Nat) : (d.setReg64 a v).reg64 a = v % 2 ^ 64 := by
  simp only [Dev.reg64, Dev.setReg64, Dev.reg_setReg_self, Dev.reg_setReg_ne _ (a + 4) a _ (by omega), BitVec.toNat_ofNat]
  omega

@[simp] theorem Dev.reg64_inc64_self (d : Dev) (a n : Nat) : (d.inc64 a n).reg64 a = (d.reg64 a + n) % 2 ^ 64 :=
  d.reg64_setReg64_self a _

theorem Dev.reg_inc64_ne (d : Dev) (a b n : Nat) (h : b ≠ a) (h4 : b ≠ a + 4) : (d.inc64 a n).reg b = d.reg b := by
  simp only [Dev.inc64, Dev.setReg64, Dev.reg_setReg_ne _ _ _ _ h, Dev.reg_setReg_ne _ _ _ _ h4]

theorem Dev.reg64_of_reg {d d' : Dev} (a : Nat) (h : d'.reg a = d.reg a) (h4 : d'.reg (a + 4) = d.reg (a + 4)) :
    d'.reg64 a = d.reg64 a := by rw [Dev.reg64, h, h4, Dev.reg64]

theorem Dev.fld_of_reg {d d' : Dev} {a : Nat} (h : d'.reg a = d.reg a) (m l : Nat) : d'.fld a m l = d.fld a m l := by
  rw [Dev.fld, h, Dev.fld]

theorem Dev.rbit_of_reg {d d' : Dev} {a : Nat} (h : d'.reg a = d.reg a) (i : Nat) : d'.rbit a i = d.rbit a i := by
  rw [Dev.rbit, Dev.fld_of_reg h, Dev.rbit]

@[simp] theorem Dev.advanceTo_reg64 (d : Dev) (t a : Nat) : (d.advanceTo t).reg64 a = d.reg64 a :=
  Dev.reg64_of_reg a (d.advanceTo_reg t a) (d.advanceTo_reg t (a + 4))

theorem Dev.fresh_of_freeCtr {d d' : Dev} (h : d'.freeCtr = d.freeCtr) (w : Nat) : d'.fresh w = d.fresh w := by rw [Dev.fresh, h, Dev.fresh]

@[simp] theorem Dev.onCny_reg (d : Dev) (f : CnyState → CnyState) (a : Nat) : (d.onCny f).reg a = d.reg a := (rfl)
@[simp] theorem Dev.onCny_reg64 (d : Dev) (f : CnyState → CnyState) (a : Nat) : (d.onCny f).reg64 a = d.reg64 a := (rfl)
@[simp] theorem Dev.onCny_rbit (d : Dev) (f : CnyState → CnyState) (a i : Nat) : (d.onCny f).rbit a i = d.rbit a i := (rfl)
@[simp] theorem Dev.onCny_cny (d : Dev) (f : CnyState → CnyState) : (d.onCny f).cny = f d.cny := (rfl)

/-! Logging a fault (R410). -/

/-- A fault changes the log, the registers that count lost faults, and the causes not logged. -/
theorem Dev.logFault_parts (d : Dev) (code : Nat) (cls : FClass) (act ret : Bool) :
    ∃ r t f, d.logFault code cls act ret = { d with regs := r, top := t, flg := f } := by
  unfold Dev.logFault
  simp only
  split
  · exact ⟨_, _, _, rfl⟩
  · split
    · exact ⟨_, _, _, rfl⟩
    · split <;> exact ⟨_, _, _, rfl⟩

@[simp] theorem Dev.logFault_now (d : Dev) (code : Nat) (cls : FClass) (act ret : Bool) : (d.logFault code cls act ret).now = d.now := by
  obtain ⟨_, _, _, h⟩ := d.logFault_parts code cls act ret; rw [h]
@[simp] theorem Dev.logFault_shadow (d : Dev) (code : Nat) (cls : FClass) (act ret : Bool) : (d.logFault code cls act ret).shadow = d.shadow := by
  obtain ⟨_, _, _, h⟩ := d.logFault_parts code cls act ret; rw [h]
@[simp] theorem Dev.logFault_freeCtr (d : Dev) (code : Nat) (cls : FClass) (act ret : Bool) : (d.logFault code cls act ret).freeCtr = d.freeCtr := by
  obtain ⟨_, _, _, h⟩ := d.logFault_parts code cls act ret; rw [h]
@[simp] theorem Dev.logFault_corrected (d : Dev) (code : Nat) (cls : FClass) (act ret : Bool) : (d.logFault code cls act ret).corrected = d.corrected := by
  obtain ⟨_, _, _, h⟩ := d.logFault_parts code cls act ret; rw [h]
@[simp] theorem Dev.logFault_clk (d : Dev) (code : Nat) (cls : FClass) (act ret : Bool) : (d.logFault code cls act ret).clk = d.clk := by
  obtain ⟨_, _, _, h⟩ := d.logFault_parts code cls act ret; rw [h]
@[simp] theorem Dev.logFault_boot (d : Dev) (code : Nat) (cls : FClass) (act ret : Bool) : (d.logFault code cls act ret).boot = d.boot := by
  obtain ⟨_, _, _, h⟩ := d.logFault_parts code cls act ret; rw [h]
@[simp] theorem Dev.logFault_seq (d : Dev) (code : Nat) (cls : FClass) (act ret : Bool) : (d.logFault code cls act ret).seq = d.seq := by
  obtain ⟨_, _, _, h⟩ := d.logFault_parts code cls act ret; rw [h]
@[simp] theorem Dev.logFault_emt (d : Dev) (code : Nat) (cls : FClass) (act ret : Bool) : (d.logFault code cls act ret).emt = d.emt := by
  obtain ⟨_, _, _, h⟩ := d.logFault_parts code cls act ret; rw [h]
@[simp] theorem Dev.logFault_str (d : Dev) (code : Nat) (cls : FClass) (act ret : Bool) : (d.logFault code cls act ret).str = d.str := by
  obtain ⟨_, _, _, h⟩ := d.logFault_parts code cls act ret; rw [h]
@[simp] theorem Dev.logFault_rfe (d : Dev) (code : Nat) (cls : FClass) (act ret : Bool) : (d.logFault code cls act ret).rfe = d.rfe := by
  obtain ⟨_, _, _, h⟩ := d.logFault_parts code cls act ret; rw [h]
@[simp] theorem Dev.logFault_rfePorts (d : Dev) (code : Nat) (cls : FClass) (act ret : Bool) : (d.logFault code cls act ret).rfePorts = d.rfePorts := by
  obtain ⟨_, _, _, h⟩ := d.logFault_parts code cls act ret; rw [h]
@[simp] theorem Dev.logFault_gat (d : Dev) (code : Nat) (cls : FClass) (act ret : Bool) : (d.logFault code cls act ret).gat = d.gat := by
  obtain ⟨_, _, _, h⟩ := d.logFault_parts code cls act ret; rw [h]
@[simp] theorem Dev.logFault_hst (d : Dev) (code : Nat) (cls : FClass) (act ret : Bool) : (d.logFault code cls act ret).hst = d.hst := by
  obtain ⟨_, _, _, h⟩ := d.logFault_parts code cls act ret; rw [h]
@[simp] theorem Dev.logFault_cny (d : Dev) (code : Nat) (cls : FClass) (act ret : Bool) : (d.logFault code cls act ret).cny = d.cny := by
  obtain ⟨_, _, _, h⟩ := d.logFault_parts code cls act ret; rw [h]
@[simp] theorem Dev.logFault_cal (d : Dev) (code : Nat) (cls : FClass) (act ret : Bool) : (d.logFault code cls act ret).cal = d.cal := by
  obtain ⟨_, _, _, h⟩ := d.logFault_parts code cls act ret; rw [h]
@[simp] theorem Dev.logFault_fmn (d : Dev) (code : Nat) (cls : FClass) (act ret : Bool) : (d.logFault code cls act ret).fmn = d.fmn := by
  obtain ⟨_, _, _, h⟩ := d.logFault_parts code cls act ret; rw [h]
@[simp] theorem Dev.logFault_pnt (d : Dev) (code : Nat) (cls : FClass) (act ret : Bool) : (d.logFault code cls act ret).pnt = d.pnt := by
  obtain ⟨_, _, _, h⟩ := d.logFault_parts code cls act ret; rw [h]
@[simp] theorem Dev.logFault_lanes (d : Dev) (code : Nat) (cls : FClass) (act ret : Bool) : (d.logFault code cls act ret).lanes = d.lanes := by
  obtain ⟨_, _, _, h⟩ := d.logFault_parts code cls act ret; rw [h]
@[simp] theorem Dev.logFault_taps (d : Dev) (code : Nat) (cls : FClass) (act ret : Bool) : (d.logFault code cls act ret).taps = d.taps := by
  obtain ⟨_, _, _, h⟩ := d.logFault_parts code cls act ret; rw [h]
@[simp] theorem Dev.logFault_net (d : Dev) (code : Nat) (cls : FClass) (act ret : Bool) : (d.logFault code cls act ret).net = d.net := by
  obtain ⟨_, _, _, h⟩ := d.logFault_parts code cls act ret; rw [h]
@[simp] theorem Dev.logFault_sns (d : Dev) (code : Nat) (cls : FClass) (act ret : Bool) : (d.logFault code cls act ret).sns = d.sns := by
  obtain ⟨_, _, _, h⟩ := d.logFault_parts code cls act ret; rw [h]
@[simp] theorem Dev.logFault_cans (d : Dev) (code : Nat) (cls : FClass) (act ret : Bool) : (d.logFault code cls act ret).cans = d.cans := by
  obtain ⟨_, _, _, h⟩ := d.logFault_parts code cls act ret; rw [h]
@[simp] theorem Dev.logFault_flts (d : Dev) (code : Nat) (cls : FClass) (act ret : Bool) : (d.logFault code cls act ret).flts = d.flts := by
  obtain ⟨_, _, _, h⟩ := d.logFault_parts code cls act ret; rw [h]
@[simp] theorem Dev.logFault_hkas (d : Dev) (code : Nat) (cls : FClass) (act ret : Bool) : (d.logFault code cls act ret).hkas = d.hkas := by
  obtain ⟨_, _, _, h⟩ := d.logFault_parts code cls act ret; rw [h]
@[simp] theorem Dev.logFault_hoi (d : Dev) (code : Nat) (cls : FClass) (act ret : Bool) : (d.logFault code cls act ret).hoi = d.hoi := by
  obtain ⟨_, _, _, h⟩ := d.logFault_parts code cls act ret; rw [h]
@[simp] theorem Dev.logFault_mgt (d : Dev) (code : Nat) (cls : FClass) (act ret : Bool) : (d.logFault code cls act ret).mgt = d.mgt := by
  obtain ⟨_, _, _, h⟩ := d.logFault_parts code cls act ret; rw [h]
@[simp] theorem Dev.logFault_jtag (d : Dev) (code : Nat) (cls : FClass) (act ret : Bool) : (d.logFault code cls act ret).jtag = d.jtag := by
  obtain ⟨_, _, _, h⟩ := d.logFault_parts code cls act ret; rw [h]

/-- A fault of class N or D leaves the device's state and its causes as they are. -/
theorem Dev.logFault_top (d : Dev) (code : Nat) (cls : FClass) (act ret : Bool) (h : cls ≠ .h) : (d.logFault code cls act ret).top = d.top := by
  unfold Dev.logFault
  simp only
  split
  · rfl
  · split
    · rfl
    · rw [if_neg (by simpa using h), Dev.setBit_top, Dev.inc64_top]

/-- The registers that losing a fault changes: FLG_CNT_LOST and FLG_STATUS. -/
def logRegs : List Nat := [R.FLG_CNT_LOST, R.FLG_CNT_LOST + 4, R.FLG_STATUS]

theorem not_mem_logRegs {a : Nat} (h : a < R.FLG_STATUS) : a ∉ logRegs := by
  intro hmem
  simp only [logRegs, List.mem_cons, List.not_mem_nil, or_false] at hmem
  rcases hmem with rfl | rfl | rfl <;> exact absurd h (by decide)

theorem Dev.logFault_reg_of (d : Dev) (code : Nat) (cls : FClass) (act ret : Bool) {a : Nat} (h : a ∉ logRegs) :
    (d.logFault code cls act ret).reg a = d.reg a := by
  simp only [logRegs, List.mem_cons, List.not_mem_nil, or_false, not_or] at h
  exact d.logFault_reg code cls act ret a h.1 h.2.1 h.2.2

theorem Dev.logFault_fld (d : Dev) (code : Nat) (cls : FClass) (act ret : Bool) {a m l : Nat} (h : a ∉ logRegs) :
    (d.logFault code cls act ret).fld a m l = d.fld a m l := Dev.fld_of_reg (d.logFault_reg_of code cls act ret h) m l

theorem Dev.logFault_rbit (d : Dev) (code : Nat) (cls : FClass) (act ret : Bool) {a i : Nat} (h : a ∉ logRegs) :
    (d.logFault code cls act ret).rbit a i = d.rbit a i := Dev.rbit_of_reg (d.logFault_reg_of code cls act ret h) i

theorem Dev.logFault_reg64 (d : Dev) (code : Nat) (cls : FClass) (act ret : Bool) {a : Nat} (h : a ∉ logRegs ∧ a + 4 ∉ logRegs) :
    (d.logFault code cls act ret).reg64 a = d.reg64 a :=
  Dev.reg64_of_reg a (d.logFault_reg_of code cls act ret h.1) (d.logFault_reg_of code cls act ret h.2)

theorem Dev.reg64_setBit_ne (d : Dev) (a b i : Nat) (x : Bool) (h : b ≠ a) (h4 : b + 4 ≠ a) : (d.setBit a i x).reg64 b = d.reg64 b :=
  Dev.reg64_of_reg b (d.reg_setBit_ne a b i x h) (d.reg_setBit_ne a (b + 4) i x h4)

theorem Dev.rbit_setBit_other (d : Dev) (a : Nat) {i j : Nat} (x : Bool) (hi : i < 32) (h : i ≠ j) :
    (d.setBit a j x).rbit a i = d.rbit a i := by
  rw [Dev.rbit, Dev.setBit, Dev.fld_setFld_other _ _ _ _ _ _ _ hi (le_refl i) (le_refl j) (by omega), Dev.rbit]

theorem Dev.logged_of_log {d d' : Dev} (h : d'.flg.log = d.flg.log) (code : Nat) : d'.logged code = d.logged code := by
  rw [Dev.logged, h, Dev.logged]

theorem Dev.faultRoom_of_log {d d' : Dev} (h : d'.flg.log = d.flg.log) (code : Nat) : d'.faultRoom code = d.faultRoom code := by
  rw [Dev.faultRoom, h, Dev.logged_of_log h, Dev.faultRoom]

/-- A fault logged once, on its first showing: its bit is set and it is logged. -/
theorem Dev.onceFault_first (d : Dev) (a i code : Nat) (h : d.rbit a i = false) :
    d.onceFault a i code = (d.setBit a i true).logFault code .n := by rw [Dev.onceFault, h]; rfl

/-! The pairs (R387). -/

/-- Turning the pairs off changes the pairs' state only. -/
theorem Dev.ossdDrop_parts (d : Dev) :
    ∃ on sw wt, d.ossdDrop = { d with cny := { d.cny with ossdOn := on, switched := sw, wait := wt } } := by
  have hswitch (d : Dev) (p : Nat) : ∃ on sw, d.ossdSwitch p false = { d with cny := { d.cny with ossdOn := on, switched := sw } } := by
    unfold Dev.ossdSwitch
    split <;> exact ⟨_, _, rfl⟩
  have hpair (d : Dev) (p : Nat) : ∃ on sw wt, d.ossdDropPair p = { d with cny := { d.cny with ossdOn := on, switched := sw, wait := wt } } := by
    unfold Dev.ossdDropPair
    obtain ⟨on, sw, hoff⟩ : ∃ on sw, (if d.ossdMay p false then d else d.ossdSwitch p false) =
        { d with cny := { d.cny with ossdOn := on, switched := sw } } := by
      split
      · exact ⟨_, _, rfl⟩
      · exact hswitch d p
    simp only [hoff]
    split <;> exact ⟨_, _, _, rfl⟩
  obtain ⟨on, sw, wt, h0⟩ := hpair d 0
  obtain ⟨on', sw', wt', h1⟩ := hpair (d.ossdDropPair 0) 1
  exact ⟨on', sw', wt', by rw [Dev.ossdDrop_eq, h1, h0]⟩

@[simp] theorem Dev.ossdDrop_top (d : Dev) : d.ossdDrop.top = d.top := by obtain ⟨_, _, _, h⟩ := d.ossdDrop_parts; rw [h]
@[simp] theorem Dev.ossdDrop_flg (d : Dev) : d.ossdDrop.flg = d.flg := by obtain ⟨_, _, _, h⟩ := d.ossdDrop_parts; rw [h]
@[simp] theorem Dev.ossdDrop_regs (d : Dev) : d.ossdDrop.regs = d.regs := by obtain ⟨_, _, _, h⟩ := d.ossdDrop_parts; rw [h]
@[simp] theorem Dev.ossdDrop_reg (d : Dev) (a : Nat) : d.ossdDrop.reg a = d.reg a := Dev.reg_of_regs d.ossdDrop_regs a
@[simp] theorem Dev.ossdDrop_reg64 (d : Dev) (a : Nat) : d.ossdDrop.reg64 a = d.reg64 a := Dev.reg64_of_reg a (by simp) (by simp)
@[simp] theorem Dev.ossdDrop_rbit (d : Dev) (a i : Nat) : d.ossdDrop.rbit a i = d.rbit a i := Dev.rbit_of_reg (d.ossdDrop_reg a) i

/-- What turning the pairs off leaves of the Canary's state. -/
theorem Dev.ossdDrop_cny (d : Dev) : d.ossdDrop.cny =
    { d.cny with ossdOn := d.ossdDrop.cny.ossdOn, switched := d.ossdDrop.cny.switched, wait := d.ossdDrop.cny.wait } := by
  obtain ⟨_, _, _, h⟩ := d.ossdDrop_parts
  rw [h]

/-! The outputs after a change (R97, R387). -/

/-- The registers of the inhibits. -/
def inhibitRegs : List Nat := [R.EMT_STATUS, R.EMT_INHIBIT_STICKY]

theorem not_mem_inhibitRegs {a : Nat} (h : R.EMT_INHIBIT_STICKY < a) : a ∉ inhibitRegs := by
  intro hmem
  simp only [inhibitRegs, List.mem_cons, List.not_mem_nil, or_false] at hmem
  rcases hmem with rfl | rfl <;> exact absurd h (by decide)

/-- What follows a change of the outputs' conditions: the inhibits' registers, the gate and the pairs. -/
def Dev.FollowOf (d d' : Dev) : Prop :=
  (∃ r e, d' = { d with regs := r, emt := e }) ∧ ∀ a ∉ inhibitRegs, d'.reg a = d.reg a

theorem Dev.FollowOf.refl (d : Dev) : d.FollowOf d := ⟨⟨_, _, rfl⟩, fun _ _ => rfl⟩

theorem Dev.FollowOf.trans {d e f : Dev} (h : d.FollowOf e) (h' : e.FollowOf f) : d.FollowOf f := by
  obtain ⟨⟨r, x, rfl⟩, hreg⟩ := h
  obtain ⟨⟨r', x', rfl⟩, hreg'⟩ := h'
  exact ⟨⟨_, _, rfl⟩, fun a ha => (hreg' a ha).trans (hreg a ha)⟩

theorem Dev.setEmt_follow (d : Dev) (e : EmtState) : d.FollowOf { d with emt := e } := ⟨⟨_, _, rfl⟩, fun _ _ => rfl⟩

theorem Dev.setBit_follow (d : Dev) {a : Nat} (i : Nat) (b : Bool) (h : a ∈ inhibitRegs) : d.FollowOf (d.setBit a i b) :=
  ⟨⟨_, _, rfl⟩, fun _ hb => d.reg_setBit_ne a _ i b (fun hab => hb (hab ▸ h))⟩

theorem Dev.setInhibit_follow (d : Dev) (i : Nat) (on : Bool) : d.FollowOf (d.setInhibit i on) := by
  have hstatus : R.EMT_STATUS ∈ inhibitRegs := List.mem_cons_self
  have hsticky : R.EMT_INHIBIT_STICKY ∈ inhibitRegs := List.mem_cons_of_mem _ List.mem_cons_self
  unfold Dev.setInhibit
  split
  · split
    · exact .refl d
    · exact ((d.setBit_follow i true hstatus).trans (Dev.setBit_follow _ i true hsticky)).trans (Dev.setEmt_follow _ _)
  · exact d.setBit_follow i false hstatus

theorem Dev.demandFollow_follow (d : Dev) : d.FollowOf d.demandFollow := by
  unfold Dev.demandFollow
  split
  · exact (d.setEmt_follow _).trans (Dev.setInhibit_follow _ _ _)
  · exact .refl d

theorem Dev.emitEnFollow_follow (d : Dev) : d.FollowOf d.emitEnFollow := by
  have hhigh : d.FollowOf d.emitEnHigh := by
    unfold Dev.emitEnHigh
    split
    · exact .refl d
    · dsimp only
      split
      · exact (d.setEmt_follow _).trans (Dev.setInhibit_follow _ _ _)
      · exact d.setEmt_follow _
  unfold Dev.emitEnFollow
  split
  · exact hhigh
  · split
    · exact (d.setEmt_follow _).trans (Dev.setInhibit_follow _ _ _)
    · exact .refl d

/-- What the outputs' follow-up of a change touches: the inhibits, the gate and the pairs. -/
theorem Dev.safetyFollow_parts (d : Dev) :
    ∃ r e on sw wt, d.safetyFollow = { d with regs := r, emt := e, cny := { d.cny with ossdOn := on, switched := sw, wait := wt } } := by
  obtain ⟨⟨r, e, h⟩, -⟩ := d.demandFollow_follow.trans (Dev.emitEnFollow_follow _)
  obtain ⟨on, sw, wt, h'⟩ := d.demandFollow.emitEnFollow.ossdDrop_parts
  exact ⟨r, e, on, sw, wt, by rw [Dev.safetyFollow, h', h]⟩

theorem Dev.safetyFollow_reg (d : Dev) {a : Nat} (h : a ∉ inhibitRegs) : d.safetyFollow.reg a = d.reg a := by
  rw [Dev.safetyFollow, Dev.ossdDrop_reg]
  exact (d.demandFollow_follow.trans (Dev.emitEnFollow_follow _)).2 a h

theorem Dev.safetyFollow_fld (d : Dev) {a : Nat} (h : a ∉ inhibitRegs) (m l : Nat) : d.safetyFollow.fld a m l = d.fld a m l :=
  Dev.fld_of_reg (d.safetyFollow_reg h) m l
theorem Dev.safetyFollow_rbit (d : Dev) {a : Nat} (h : a ∉ inhibitRegs) (i : Nat) : d.safetyFollow.rbit a i = d.rbit a i :=
  Dev.rbit_of_reg (d.safetyFollow_reg h) i

@[simp] theorem Dev.safetyFollow_top (d : Dev) : d.safetyFollow.top = d.top := by obtain ⟨_, _, _, _, _, h⟩ := d.safetyFollow_parts; rw [h]
@[simp] theorem Dev.safetyFollow_clk (d : Dev) : d.safetyFollow.clk = d.clk := by obtain ⟨_, _, _, _, _, h⟩ := d.safetyFollow_parts; rw [h]
@[simp] theorem Dev.safetyFollow_boot (d : Dev) : d.safetyFollow.boot = d.boot := by obtain ⟨_, _, _, _, _, h⟩ := d.safetyFollow_parts; rw [h]
@[simp] theorem Dev.safetyFollow_cal (d : Dev) : d.safetyFollow.cal = d.cal := by obtain ⟨_, _, _, _, _, h⟩ := d.safetyFollow_parts; rw [h]
@[simp] theorem Dev.safetyFollow_flg (d : Dev) : d.safetyFollow.flg = d.flg := by obtain ⟨_, _, _, _, _, h⟩ := d.safetyFollow_parts; rw [h]

/-- What the outputs' follow-up leaves of the Canary's state. -/
theorem Dev.safetyFollow_cny (d : Dev) : d.safetyFollow.cny =
    { d.cny with ossdOn := d.safetyFollow.cny.ossdOn, switched := d.safetyFollow.cny.switched, wait := d.safetyFollow.cny.wait } := by
  obtain ⟨_, _, _, _, _, h⟩ := d.safetyFollow_parts
  rw [h]

theorem sameMemory.refl (s : State) : sameMemory s s := ⟨rfl, rfl, rfl, rfl⟩

/-! Canary events (R361). -/

/-- The device at tick `t` and RC cycle `c`, as a Canary event finds it (R361). -/
def Dev.atRc (d : Dev) (t c : Nat) : Dev := (d.advanceTo t).onCny (fun x => { x with rc := Nat.max x.rc c })

@[simp] theorem Dev.atRc_cny (d : Dev) (t c : Nat) : (d.atRc t c).cny = { d.cny with rc := Nat.max d.cny.rc c } := by simp [Dev.atRc]
@[simp] theorem Dev.atRc_top (d : Dev) (t c : Nat) : (d.atRc t c).top = d.top := by simp [Dev.atRc]
@[simp] theorem Dev.atRc_flg (d : Dev) (t c : Nat) : (d.atRc t c).flg = d.flg := by simp [Dev.atRc]
@[simp] theorem Dev.atRc_regs (d : Dev) (t c : Nat) : (d.atRc t c).regs = d.regs := by simp [Dev.atRc]
@[simp] theorem Dev.atRc_reg (d : Dev) (t c a : Nat) : (d.atRc t c).reg a = d.reg a := by simp [Dev.atRc]
@[simp] theorem Dev.atRc_reg64 (d : Dev) (t c a : Nat) : (d.atRc t c).reg64 a = d.reg64 a := by simp [Dev.atRc]
@[simp] theorem Dev.atRc_rbit (d : Dev) (t c a i : Nat) : (d.atRc t c).rbit a i = d.rbit a i := by simp [Dev.atRc]
@[simp] theorem Dev.atRc_prm (d : Dev) (t c o n : Nat) : (d.atRc t c).prm o n = d.prm o n := by simp [Dev.prm]
@[simp] theorem Dev.atRc_cnyRoutes (d : Dev) (t c : Nat) : (d.atRc t c).cnyRoutes = d.cnyRoutes := by simp [Dev.cnyRoutes, Dev.safetyMode]
@[simp] theorem Dev.atRc_faultRoom (d : Dev) (t c code : Nat) : (d.atRc t c).faultRoom code = d.faultRoom code :=
  Dev.faultRoom_of_log (by simp) code
@[simp] theorem Dev.atRc_stateBytes (d : Dev) (t c : Nat) : (d.atRc t c).stateBytes = d.stateBytes := by
  unfold Dev.atRc Dev.advanceTo
  split <;> rfl
@[simp] theorem Dev.atRc_devId (d : Dev) (t c : Nat) : (d.atRc t c).devId = d.devId := by simp [Dev.devId, Dev.fld]
@[simp] theorem Dev.atRc_messageValid (d : Dev) (t c : Nat) (m : List Byte) : (d.atRc t c).messageValid m = d.messageValid m := by
  simp [Dev.messageValid]
@[simp] theorem Dev.atRc_muteOk (d : Dev) (t c : Nat) (m : List Byte) : (d.atRc t c).muteOk m = d.muteOk m := by
  simp [Dev.muteOk, Dev.inputField, Dev.setField]

/-- A Canary event while the Canary lives (R361). -/
theorem State.atCny_atRc (s : State) (t c : Nat) (f : Dev → Dev) (h : s.dev.top.state ≠ .reset) (hl : s.dev.cny.lost = false) :
    s.atCny t c f = .next { s with dev := f (s.dev.atRc t c) } := s.atCny_on t c f h hl

end Sys2Proof.Machine
end

section
/-! PROOF. A command that the device takes (R414, R423): what its journaling and its answer leave unchanged, and what its
register shows. -/
namespace Sys2Proof.Machine

/-! The words of command registers (Table 21-1). -/

theorem bits_eq_extract (w : Word) (m l : Nat) : bits w m l = (w.extractLsb' l (m + 1 - l)).toNat := by
  rw [bits, BitVec.extractLsb'_toNat, Nat.shiftRight_eq_div_pow]

/-- Where nothing of the written word is kept, a command register shows status and reason. -/
theorem bits_cmdWord (w : Word) (keep status reason m l : Nat)
    (h : (BitVec.ofNat 32 keep).extractLsb' l (m + 1 - l) = 0) :
    bits (cmdWord w keep status reason) m l = bits (BitVec.ofNat 32 (status * 256 + reason * 65536)) m l := by
  simp only [bits_eq_extract, cmdWord, BitVec.extractLsb'_or, BitVec.extractLsb'_and, h]
  simp

/-! A write that is taken. -/

/-- The device after a write of `w` at `a` has been counted and journaled, before its effect. -/
def Dev.accepted (d : Dev) (src a : Nat) (w : Word) : Dev :=
  (d.incSat (R.MGT_CNT_WR src) 31 0 1).journal src a ((d.incSat (R.MGT_CNT_WR src) 31 0 1).shown a) w false false

theorem Dev.accepted_reg (d : Dev) (src a : Nat) (w : Word) {b : Nat} (h : b < 0x2A0104) : (d.accepted src a w).reg b = d.reg b := by
  have hne : b ≠ 0x2A0104 + 0x8 * src := by omega
  have hcount : (d.incSat (R.MGT_CNT_WR src) 31 0 1).reg b = d.reg b := d.reg_setFld_ne (R.MGT_CNT_WR src) b 31 0 _ hne
  exact (Dev.reg_of_regs (by simp [Dev.accepted]) b).trans hcount

theorem Dev.accepted_fld (d : Dev) (src a : Nat) (w : Word) {b : Nat} (h : b < 0x2A0104) (m l : Nat) : (d.accepted src a w).fld b m l = d.fld b m l :=
  Dev.fld_of_reg (d.accepted_reg src a w h) m l

theorem Dev.accepted_rbit (d : Dev) (src a : Nat) (w : Word) {b : Nat} (h : b < 0x2A0104) (i : Nat) : (d.accepted src a w).rbit b i = d.rbit b i :=
  Dev.rbit_of_reg (d.accepted_reg src a w h) i

@[simp] theorem Dev.accepted_log (d : Dev) (src a : Nat) (w : Word) : (d.accepted src a w).flg.log = d.flg.log := by simp [Dev.accepted]
@[simp] theorem Dev.accepted_jseq (d : Dev) (src a : Nat) (w : Word) : (d.accepted src a w).flg.jseq = d.flg.jseq + 1 := by simp [Dev.accepted]
@[simp] theorem Dev.accepted_top (d : Dev) (src a : Nat) (w : Word) : (d.accepted src a w).top = d.top := by simp [Dev.accepted]
@[simp] theorem Dev.accepted_clk (d : Dev) (src a : Nat) (w : Word) : (d.accepted src a w).clk = d.clk := by simp [Dev.accepted]
@[simp] theorem Dev.accepted_boot (d : Dev) (src a : Nat) (w : Word) : (d.accepted src a w).boot = d.boot := by simp [Dev.accepted]
@[simp] theorem Dev.accepted_cny (d : Dev) (src a : Nat) (w : Word) : (d.accepted src a w).cny = d.cny := by simp [Dev.accepted]
@[simp] theorem Dev.accepted_cal (d : Dev) (src a : Nat) (w : Word) : (d.accepted src a w).cal = d.cal := by simp [Dev.accepted]
@[simp] theorem Dev.accepted_now (d : Dev) (src a : Nat) (w : Word) : (d.accepted src a w).now = d.now := by simp [Dev.accepted]

/-- The answer 0x00 of a write that was taken. -/
theorem Dev.respond_zero (d : Dev) (src : Nat) : d.respond src 0 = d.onReq src (fun r => { r with lastStatus := 0 }) := by simp [Dev.respond]

@[simp] theorem Dev.req_onReq_self (d : Dev) (src : Nat) (f : Requester → Requester) : (d.onReq src f).req src = f (d.req src) := by
  simp [Dev.req, Dev.onReq, mgetD_mput_self]

theorem Dev.req_of_mgt {d d' : Dev} (h : d'.mgt = d.mgt) (src : Nat) : d'.req src = d.req src := by rw [Dev.req, h, Dev.req]

@[simp] theorem Dev.onReq_reg (d : Dev) (src : Nat) (f : Requester → Requester) (a : Nat) : (d.onReq src f).reg a = d.reg a := (rfl)
@[simp] theorem Dev.onReq_fld (d : Dev) (src : Nat) (f : Requester → Requester) (a m l : Nat) : (d.onReq src f).fld a m l = d.fld a m l := (rfl)
@[simp] theorem Dev.onReq_rbit (d : Dev) (src : Nat) (f : Requester → Requester) (a i : Nat) : (d.onReq src f).rbit a i = d.rbit a i := (rfl)

theorem Dev.takesCmd_alive {d : Dev} {a : Nat} (h : d.takesCmd a = true) : d.alive = true := by
  simp only [Dev.takesCmd, Bool.and_eq_true] at h
  exact h.1.1

theorem Dev.takesCmd_state {d : Dev} {a : Nat} (h : d.takesCmd a = true) : d.top.state ≠ .headframe := by
  simp only [Dev.takesCmd, Bool.and_eq_true, bne_iff_ne] at h
  exact h.1.2

theorem Dev.takesCmd_free {d : Dev} {a : Nat} (h : d.takesCmd a = true) : d.cmdBusy a = false := by
  simp only [Dev.takesCmd, Bool.and_eq_true, Bool.not_eq_true'] at h
  exact h.2

theorem Dev.regWrite_accepted (d : Dev) (src a : Nat) (w : Word) (eff : Dev → Dev) (h : d.alive = true) (hs : d.top.state ≠ .headframe) :
    d.regWrite src a w eff = (eff (d.accepted src a w)).onReq src (fun r => { r with lastStatus := 0 }) := by
  rw [Dev.regWrite_taken _ _ _ _ _ h hs, Dev.respond_zero]
  rfl

/-- A write in ARMED, RANGING or HELD is journaled, has its effect and is answered with 0x00. -/
theorem State.regWrite_taken (s : State) (src t a : Nat) (w : Word) (eff : Dev → Dev) (h : s.dev.alive = true) (hs : s.dev.top.state ≠ .headframe) :
    s.atTick t (fun d => d.regWrite src a w eff) =
      .next { s with dev := (eff ((s.dev.advanceTo t).accepted src a w)).onReq src (fun r => { r with lastStatus := 0 }) } := by
  rw [State.atTick_alive _ _ _ h, Dev.regWrite_accepted _ _ _ _ _ ((s.dev.advanceTo_alive t).trans h) (by simpa using hs)]

/-- A command whose register is not busy is taken the same way. -/
theorem State.cmdWrite_taken (s : State) (src t a : Nat) (w : Word) (eff : Dev → Dev) (h : s.dev.takesCmd a = true) :
    s.atTick t (fun d => d.cmdWrite src a w eff) =
      .next { s with dev := (eff ((s.dev.advanceTo t).accepted src a w)).onReq src (fun r => { r with lastStatus := 0 }) } := by
  have hbusy : (s.dev.advanceTo t).cmdBusy a = false := by
    rw [← Dev.takesCmd_free h]
    simp [Dev.cmdBusy]
  rw [← State.regWrite_taken s src t a w eff (Dev.takesCmd_alive h) (Dev.takesCmd_state h), State.atTick_alive _ _ _ (Dev.takesCmd_alive h),
    State.atTick_alive _ _ _ (Dev.takesCmd_alive h), Dev.cmdWrite_taken _ _ _ _ _ hbusy]

/-- What such a write leaves: one entry in the journal, status 0x00, and the memories. -/
theorem writeTaken_answer (s : State) (src : Nat) (d : Dev) (h : d.flg.jseq = s.dev.flg.jseq + 1) :
    writeTaken src s { s with dev := d.onReq src (fun r => { r with lastStatus := 0 }) } :=
  ⟨h, by simp, rfl, rfl, rfl, rfl⟩

end Sys2Proof.Machine
end

section
/-! PROOF. Safety messages (R389 to R393). -/
namespace Sys2Proof.Machine

/-- Two copies of a message of 27 bytes meet: the one that waited and the one that arrives. -/
theorem Dev.copyIn_first (d : Dev) (net : Nat) (m : List Byte) (hroutes : d.cnyRoutes = true) (hlen : m.length = 27) (hnone : d.cny.copies = []) :
    d.copyIn net m = d.onCny (fun c => { c with copies := [(net, c.rc, m)] }) := by
  simp [Dev.copyIn, hroutes, hlen, hnone, Dev.onCny]

theorem Dev.copyIn_second (d : Dev) (net x : Nat) (m : List Byte) (hroutes : d.cnyRoutes = true) (hlen : m.length = 27) (hnet : net < 2)
    (hwaits : d.cny.copies = [(1 - net, x, m)]) (hrc : d.cny.rc ≤ x + 192000) (hvalid : d.messageValid m = true) :
    d.copyIn net m = (d.onCny (fun c => { c with copies := [] })).message m := by
  have hother : 1 - net ≠ net := by omega
  have hpair : d.cny.copies.find? (fun p => p.1 != net && p.2.2 == m && decide (d.cny.rc ≤ p.2.1 + rcMs 4)) = some (1 - net, x, m) := by
    simp [hwaits, rcMs, hother, hrc]
  have hleft : d.onCny (fun c => { c with copies := c.copies.erase (1 - net, x, m) }) = d.onCny (fun c => { c with copies := [] }) := by
    simp [Dev.onCny, hwaits]
  have hvalid' : (d.onCny (fun c => { c with copies := [] })).messageValid m = true := hvalid
  simp only [Dev.copyIn, hroutes, hlen, hpair, hleft, hvalid']
  rfl

/-- What an accepted message leaves of the Canary's state, before what it asks. -/
def CnyState.accept (c : CnyState) (m : List Byte) : CnyState := { c with lastSeq := some (leAt m 2 2), lastMsg := c.rc, timedOut := false }

theorem Dev.message_select (d : Dev) (m : List Byte) (hty : leAt m 0 1 = 0x81) :
    d.message m = (d.inc64 R.CNY_CNT_RX 1).onCny (fun c => { c.accept m with msgSet := some (leAt m 4 1) }) := by
  simp only [Dev.message, hty]
  rfl

theorem Dev.message_mute (d : Dev) (m : List Byte) (hty : leAt m 0 1 = 0x82) (hok : d.muteOk m = true) :
    d.message m =
      if leAt m 9 2 = 0 then ((d.inc64 R.CNY_CNT_RX 1).onCny (·.accept m)).muteEnd
      else ((d.inc64 R.CNY_CNT_RX 1).onCny (fun c => { c.accept m with mute := some (leAt m 4 1, leAt m 5 4, c.rc + rcMs (100 * leAt m 9 2)) })).ossdDrop := by
  simp only [Dev.message, hty, hok]
  rfl

theorem Dev.message_mute_refused (d : Dev) (m : List Byte) (hty : leAt m 0 1 = 0x82) (hok : d.muteOk m = false) :
    d.message m = d.inc64 R.CNY_CNT_MISMATCH 1 := by
  simp only [Dev.message, hty, hok]
  rfl

/-- A muting ends: nothing else changes but the pairs. -/
theorem Dev.muteEnd_cny (d : Dev) : d.muteEnd.cny.mute = none ∧ d.muteEnd.cny.copies = d.cny.copies ∧ d.muteEnd.cny.rc = d.cny.rc ∧
    d.muteEnd.cny.msgSet = d.cny.msgSet ∧ d.muteEnd.cny.timedOut = d.cny.timedOut := by
  unfold Dev.muteEnd
  rw [Dev.ossdDrop_cny]
  exact ⟨rfl, rfl, rfl, rfl, rfl⟩

@[simp] theorem Dev.muteEnd_top (d : Dev) : d.muteEnd.top = d.top := by simp [Dev.muteEnd]
@[simp] theorem Dev.muteEnd_flg (d : Dev) : d.muteEnd.flg = d.flg := by simp [Dev.muteEnd]
@[simp] theorem Dev.muteEnd_reg64 (d : Dev) (a : Nat) : d.muteEnd.reg64 a = d.reg64 a := by simp [Dev.muteEnd]
@[simp] theorem Dev.muteEnd_rbit (d : Dev) (a i : Nat) : d.muteEnd.rbit a i = d.rbit a i := by simp [Dev.muteEnd]

/-- The first copy discarded since msg_err was cleared is counted, shown and logged. -/
theorem Dev.copyDiscard_first (d : Dev) (hbit : d.rbit R.CNY_STATUS 10 = false) (hroom : d.faultRoom 0x1811 = true) :
    d.copyDiscard.cny = d.cny ∧ d.copyDiscard.top = d.top ∧ d.copyDiscard.reg64 R.CNY_CNT_MISMATCH = (d.reg64 R.CNY_CNT_MISMATCH + 1) % 2 ^ 64 ∧
      d.copyDiscard.rbit R.CNY_STATUS 10 = true ∧ d.copyDiscard.logged 0x1811 = true := by
  have hclear : (d.inc64 R.CNY_CNT_MISMATCH 1).rbit R.CNY_STATUS 10 = false :=
    (Dev.rbit_of_reg (Dev.reg_inc64_ne _ _ _ _ (by decide) (by decide)) 10).trans hbit
  rw [Dev.copyDiscard, Dev.onceFault_first _ _ _ _ hclear]
  refine ⟨by simp, by simp [Dev.logFault_top], ?_, ?_, ?_⟩
  · rw [Dev.logFault_reg64 _ _ _ _ _ (by decide), Dev.reg64_setBit_ne _ _ _ _ _ (by decide) (by decide), Dev.reg64_inc64_self]
  · rw [Dev.logFault_rbit _ _ _ _ _ (by decide)]
    exact Dev.rbit_setBit_self _ _ _ _ (by decide)
  · exact Dev.logFault_logged _ _ _ _ _ ((Dev.faultRoom_of_log (by simp) _).trans hroom)

/-- The one copy that waits has waited 4 ms: it is struck and discarded. -/
theorem Dev.loneCopy_discard (d : Dev) (net x : Nat) (m : List Byte) (hwaits : d.cny.copies = [(net, x, m)]) (hdue : x + rcMs 4 ≤ d.cny.rc) :
    (d.cny.copies.filter (fun p => decide (p.2.1 + rcMs 4 ≤ d.cny.rc))).foldl (fun d _ => d.copyDiscard)
      (d.onCny (fun c => { c with copies := c.copies.filter (fun p => !decide (p.2.1 + rcMs 4 ≤ c.rc)) })) =
    (d.onCny (fun c => { c with copies := [] })).copyDiscard := by
  simp [hwaits, hdue, Dev.onCny]

/-- Storing registers one after another leaves everything but the registers. -/
theorem foldl_setReg_parts (f : Nat → Nat) (g : Nat → Word) (l : List Nat) (d : Dev) :
    ∃ r, l.foldl (fun (d : Dev) i => d.setReg (f i) (g i)) d = { d with regs := r } := by
  induction l generalizing d with
  | nil => exact ⟨_, rfl⟩
  | cons i l ih =>
    obtain ⟨r, h⟩ := ih (d.setReg (f i) (g i))
    exact ⟨r, by rw [List.foldl_cons, h]; rfl⟩

theorem Dev.canPut_parts (d : Dev) (n b id : Nat) (data : List Byte) : ∃ r, d.canPut n b id data = { d with regs := r } :=
  foldl_setReg_parts _ _ _ d

theorem Dev.safeRecord_parts (d : Dev) (msg : List Byte) : ∃ r p l, d.safeRecord msg = { d with regs := r, pnt := p, lanes := l } := by
  unfold Dev.safeRecord
  split
  · exact ⟨_, _, _, rfl⟩
  · simp only
    split <;> exact ⟨_, _, _, rfl⟩

/-- A message sent on both networks: of the Canary's state its sequence number counts and its bytes are kept. -/
theorem Dev.cnySend_routes (d : Dev) (ty : Nat) (payload : List Byte) (hroutes : d.cnyRoutes = true) :
    (d.cnySend ty payload).cny = { d.cny with txSeq := (d.cny.txSeq + 1) % 65536, sent := d.safetyMsg ty payload } ∧
      (d.cnySend ty payload).top = d.top := by
  simp only [Dev.cnySend, hroutes]
  generalize hsent : d.onCny (fun c => { c with txSeq := (c.txSeq + 1) % 65536, sent := d.safetyMsg ty payload }) = sent
  have hcny : sent.cny = { d.cny with txSeq := (d.cny.txSeq + 1) % 65536, sent := d.safetyMsg ty payload } := by rw [← hsent]; rfl
  have htop : sent.top = d.top := by rw [← hsent]; rfl
  rw [← hcny, ← htop]
  obtain ⟨r, hcan⟩ : ∃ r, (if sent.rbit (R.CAN_CTRL 0) 1 then
      sent.canPut 0 0 (d.prm 0x18 2 % 2048) (d.safetyMsg ty payload ++ List.replicate 5 0#8) else sent) = { sent with regs := r } := by
    split
    · exact Dev.canPut_parts ..
    · exact ⟨_, rfl⟩
  have hprm : sent.prm = d.prm := by rw [← hsent]; rfl
  simp only [Bool.not_true, Bool.false_eq_true, if_false, hprm, hcan]
  split
  · obtain ⟨_, _, _, h⟩ := Dev.safeRecord_parts { sent with regs := r } (d.safetyMsg ty payload)
    rw [h]
    exact ⟨rfl, rfl⟩
  · split
    · exact ⟨rfl, rfl⟩
    · exact ⟨rfl, rfl⟩

theorem leBytes_length (n v : Nat) : (leBytes n v).length = n := by
  induction n generalizing v with
  | zero => rfl
  | succ n ih => simp [leBytes, ih]

/-- The head of a safety message (Table 18-5). -/
theorem Dev.safetyMsg_take (d : Dev) (ty : Nat) (payload : List Byte) :
    (d.safetyMsg ty payload).take 4 = leBytes 1 ty ++ leBytes 1 (d.devId + 16) ++ leBytes 2 d.cny.txSeq := by
  have hlen : (leBytes 1 ty ++ leBytes 1 (d.devId + 16) ++ leBytes 2 d.cny.txSeq).length = 4 := by simp [leBytes_length]
  unfold Dev.safetyMsg
  simp only [List.append_assoc] at hlen ⊢
  rw [← List.append_assoc (leBytes 1 (d.devId + 16)), ← List.append_assoc (leBytes 1 ty)]
  exact List.take_left' (by simpa using hlen)

/-- Settles O52. -/
theorem safetyMessagesComplete : Obligations.SafetyMessagesComplete := by
  unfold Obligations.SafetyMessagesComplete
  refine ⟨?stateSend, ?stateNotDue, ?selectFirstCopy, ?select, ?mute, ?muteEnds, ?muteNotAllowed, ?loneCopyDiscard, ?messageTimeout,
    ?muteExpiry, ?muteLasts⟩
  case stateSend =>
    intro s t c hs hl hroutes hat
    refine ⟨_, (State.atCny_atRc s t c _ hs hl : execStateSend t c s = _), ?_⟩
    simp only [Dev.atRc_cny, Dev.atRc_cnyRoutes, hat, hroutes, Bool.not_true, Bool.true_or, Bool.or_false, Bool.false_eq_true, if_false]
    generalize hd : Dev.onCny _ _ = d
    obtain ⟨hcny, htop⟩ := d.cnySend_routes 1 _ (show d.cnyRoutes = true by rw [← hd]; exact (s.dev.atRc_cnyRoutes t c).trans hroutes)
    rw [hcny, htop, Dev.safetyMsg_take, ← hd]
    simp [sameMemory, Dev.devId, Dev.fld]
  case stateNotDue =>
    intro s t c x hs hl hroutes hat hearly hsame
    refine ⟨_, (State.atCny_atRc s t c _ hs hl : execStateSend t c s = _), ?_⟩
    have hnot : ¬ x + rcMs (s.dev.prm 0x10 1) ≤ Nat.max s.dev.cny.rc c := by rw [rcMs]; omega
    simp [hat, hroutes, hnot, hsame, sameMemory]
  case selectFirstCopy =>
    intro s t c net m hs hl hroutes hnet hlen hty hnone
    refine ⟨_, (State.atCny_atRc s t c _ hs hl : execSelect t c net m s = _), ?_⟩
    rw [if_pos hty, Nat.mod_eq_of_lt hnet, Dev.copyIn_first _ net m (by simpa) hlen (by simpa)]
    simp [sameMemory]
  case select =>
    intro s t c net x m hs hl hroutes hnet hlen hwaits hrc hvalid hty
    refine ⟨_, (State.atCny_atRc s t c _ hs hl : execSelect t c net m s = _), ?_⟩
    rw [if_pos hty, Nat.mod_eq_of_lt hnet, Dev.copyIn_second _ net x m (by simpa) hlen hnet (by simpa) (by simpa using hrc) (by simpa), Dev.message_select _ m hty]
    simp [sameMemory, CnyState.accept]
  case mute =>
    intro s t c net x m hs hl hroutes hnet hlen hwaits hrc hvalid hty hok hdur
    have hok' : ((s.dev.atRc t c).onCny (fun c => { c with copies := [] })).muteOk m = true := (s.dev.atRc_muteOk t c m).trans hok
    refine ⟨_, (State.atCny_atRc s t c _ hs hl : execMute t c net m s = _), ?_⟩
    rw [if_pos hty, Nat.mod_eq_of_lt hnet, Dev.copyIn_second _ net x m (by simpa) hlen hnet (by simpa) (by simpa using hrc) (by simpa),
      Dev.message_mute _ m hty hok', if_neg hdur]
    rw [Dev.ossdDrop_cny, Dev.ossdDrop_reg64]
    simp [sameMemory, CnyState.accept, rcMs]
    omega
  case muteEnds =>
    intro s t c net x m hs hl hroutes hnet hlen hwaits hrc hvalid hty hok hdur
    have hok' : ((s.dev.atRc t c).onCny (fun c => { c with copies := [] })).muteOk m = true := (s.dev.atRc_muteOk t c m).trans hok
    refine ⟨_, (State.atCny_atRc s t c _ hs hl : execMute t c net m s = _), ?_⟩
    rw [if_pos hty, Nat.mod_eq_of_lt hnet, Dev.copyIn_second _ net x m (by simpa) hlen hnet (by simpa) (by simpa using hrc) (by simpa),
      Dev.message_mute _ m hty hok', if_pos hdur]
    simp [sameMemory, CnyState.accept, Dev.muteEnd_cny]
  case muteNotAllowed =>
    intro s t c net x m hs hl hroutes hnet hlen hwaits hrc hvalid hty hok
    have hok' : ((s.dev.atRc t c).onCny (fun c => { c with copies := [] })).muteOk m = false := (s.dev.atRc_muteOk t c m).trans hok
    refine ⟨_, (State.atCny_atRc s t c _ hs hl : execMute t c net m s = _), ?_⟩
    rw [if_pos hty, Nat.mod_eq_of_lt hnet, Dev.copyIn_second _ net x m (by simpa) hlen hnet (by simpa) (by simpa using hrc) (by simpa),
      Dev.message_mute_refused _ m hty hok']
    simp [sameMemory]
  case loneCopyDiscard =>
    intro s t c net x m hs hl hwaits hold hbit hroom
    refine ⟨_, (State.atCny_atRc s t c _ hs hl : execLoneCopyDiscard t c s = _), ?_⟩
    have hdue : x + rcMs 4 ≤ (s.dev.atRc t c).cny.rc := by rw [Dev.atRc_cny, rcMs]; exact hold
    simp only [Dev.loneCopy_discard _ net x m ((congrArg (·.copies) (s.dev.atRc_cny t c)).trans hwaits) hdue]
    obtain ⟨hcny, htop, hcount, hshown, hlogged⟩ := Dev.copyDiscard_first ((s.dev.atRc t c).onCny (fun c => { c with copies := [] }))
      (by simpa) ((s.dev.atRc_faultRoom t c _).trans hroom)
    rw [hcny, htop, hcount, hshown, hlogged]
    simp [sameMemory]
  case messageTimeout =>
    intro s t c hs hl hroutes hnot hprm hlate hroom
    refine ⟨_, (State.atCny_atRc s t c _ hs hl : execMessageTimeout t c s = _), ?_⟩
    have hearly : ¬ Nat.max s.dev.cny.rc c < s.dev.cny.lastMsg + rcMs 20 := by rw [rcMs]; omega
    have hexpected : (s.dev.prm 0x12 1 != 0) = true := by simpa using hprm
    simp only [Dev.atRc_cny, Dev.atRc_cnyRoutes, Dev.atRc_prm, hroutes, hnot, hexpected, hearly, decide_false, Bool.not_true, Bool.true_or,
      Bool.or_false, Bool.false_eq_true, if_false]
    generalize hd : ((s.dev.atRc t c).inc64 R.CNY_CNT_TIMEOUT 1).setBit R.CNY_STATUS 10 true = d
    have hroom' : (d.onCny (fun c => { c with msgSet := none, timedOut := true })).faultRoom 0x1811 = true := by
      rw [← hroom]
      exact Dev.faultRoom_of_log (by rw [← hd]; simp) _
    obtain ⟨hmute, -, hrc, hset, hout⟩ := Dev.muteEnd_cny ((d.onCny (fun c => { c with msgSet := none, timedOut := true })).logFault 0x1811 .n)
    rw [hmute, hrc, hset, hout, Dev.muteEnd_top, Dev.muteEnd_reg64, Dev.muteEnd_rbit, Dev.logged_of_log (congrArg (·.log) (Dev.muteEnd_flg _)),
      Dev.logFault_logged _ _ _ _ _ hroom', Dev.logFault_top _ _ _ _ _ (by decide), Dev.logFault_cny, Dev.logFault_rbit _ _ _ _ _ (by decide),
      Dev.logFault_reg64 _ _ _ _ _ (by decide), ← hd]
    rw [Dev.onCny_reg64, Dev.reg64_setBit_ne _ _ _ _ _ (by decide) (by decide)]
    simp [sameMemory]
  case muteExpiry =>
    intro s t c f g e hs hl hmute hend
    refine ⟨_, (State.atCny_atRc s t c _ hs hl : execMuteExpiry t c s = _), ?_⟩
    have hdue : (s.dev.atRc t c).cny.mute = some (f, g, e) ∧ e ≤ (s.dev.atRc t c).cny.rc := by simp [hmute, hend]
    simp only [hdue.1, hdue.2, if_true]
    simp [sameMemory, Dev.muteEnd_cny]
  case muteLasts =>
    intro s t c f g e hs hl hmute hlasts
    refine ⟨_, (State.atCny_atRc s t c _ hs hl : execMuteExpiry t c s = _), ?_⟩
    have hnot : ¬ e ≤ Nat.max s.dev.cny.rc c := by omega
    simp [hmute, hnot, sameMemory]

end Sys2Proof.Machine
end

section
/-! PROOF. Calibration (R398 to R404). -/
namespace Sys2Proof.Machine

/-! CAL_CMD (Table 19-6). -/

/-- CAL_CMD answered with its status and reason; of the word written the opcode and the port stay. -/
def Dev.calAnswer (d : Dev) (w : Word) (status reason : Nat) : Dev := d.setReg R.CAL_CMD (cmdWord w 0x7CFF status reason)

theorem Dev.calAnswer_status (d : Dev) (w : Word) (status reason : Nat) :
    (d.calAnswer w status reason).fld R.CAL_CMD 9 8 = bits (BitVec.ofNat 32 (status * 256 + reason * 65536)) 9 8 := by
  rw [Dev.calAnswer, Dev.fld_setReg_self]
  exact bits_cmdWord w _ status reason 9 8 (by decide)

theorem Dev.calAnswer_reason (d : Dev) (w : Word) (status reason : Nat) :
    (d.calAnswer w status reason).fld R.CAL_CMD 23 16 = bits (BitVec.ofNat 32 (status * 256 + reason * 65536)) 23 16 := by
  rw [Dev.calAnswer, Dev.fld_setReg_self]
  exact bits_cmdWord w _ status reason 23 16 (by decide)

theorem Dev.calCmd_full (d : Dev) : d.calCmd 1#32 =
    if d.top.state != .armed then d.calAnswer 1#32 2 1
    else if d.cal.full.isSome then d.calAnswer 1#32 2 2
    else (Dev.calAnswer { d with cal := { d.cal with full := some true } } 1#32 3 0).setBit R.CAL_STATUS 0 true := rfl

/-- The word that names a port. -/
def calPortWord (port : Nat) : Word := BitVec.ofNat 32 (2 + 1024 * (port % 32))

theorem bits_calPortWord (port : Nat) : bits (calPortWord port) 7 0 = 2 ∧ bits (calPortWord port) 14 10 = port % 32 := by
  have hport : port % 32 < 32 := Nat.mod_lt _ (by decide)
  simp only [bits, calPortWord, BitVec.toNat_ofNat]
  omega

theorem Dev.calCmd_port (d : Dev) (port : Nat) : d.calCmd (calPortWord port) =
    if !d.ranging then d.calAnswer (calPortWord port) 2 1 else (d.setBit R.CAL_PENDING (port % 32) true).calAnswer (calPortWord port) 1 0 := by
  obtain ⟨hop, hoperand⟩ := bits_calPortWord port
  simp only [Dev.calCmd, hop, hoperand]
  rfl

/-! The end of a full calibration (R398, R400). -/

/-- What the end of a full calibration without skew step reports: `ports`, `emits` and `tapsF` are the units that failed. -/
def Dev.calReported (d : Dev) (byCmd pass : Bool) (ports emits tapsF : List Nat) : Dev :=
  let d := { d with cal := { d.cal with full := none, passed := pass || d.rbit R.CAL_CTRL 1 }, emt := { d.emt with calFire := false } }
  let d := ((d.setReg R.CAL_RESULT (BitVec.ofNat 32 (maskOf ports))).setReg R.CAL_RESULT_EMIT (BitVec.ofNat 32 (maskOf emits))).setReg
    R.CAL_RESULT_EU (BitVec.ofNat 32 (maskOf tapsF))
  let d := (d.setBit R.CAL_STATUS 0 false).setBit R.CAL_STATUS 7 pass
  if byCmd then d.setFld R.CAL_CMD 9 8 1 else d

/-- The codes whose registers a full calibration writes. -/
def trimCodes (codes : List (Nat × Word)) : List (Nat × Word) :=
  codes.filter (fun p => (List.range 256).any (fun c => (chanTrims c).contains p.1) || (decide (0x280100 ≤ p.1 ∧ p.1 < 0x2801A0)))

/-- A calibration that has passed writes its codes; a failed one logs 0x1901. -/
def Dev.calWritten (d : Dev) (pass : Bool) (codes : List (Nat × Word)) : Dev :=
  if pass then (trimCodes codes).foldl (fun d p => d.trimWrite p.1 p.2) d else d.logFault 0x1901 .n

/-- A start-up calibration that has passed makes stage 10 due. -/
def Dev.calStaged (d : Dev) (byCmd : Bool) : Dev := if byCmd || !d.cal.passed then d else { d with top := { d.top with stage10 := true } }

/-- The failed units fail nothing that is in use; without skew step no emitter is. -/
def Dev.calPasses (d : Dev) (ports emits tapsF : List Nat) : Bool :=
  ports.all (fun q => !(List.range 8).any (fun j => d.rbit (R.RFE_CTRL (8 * q + j)) 0)) && emits.all (fun e => !Nat.testBit 0 e) &&
    tapsF.all (fun t => !d.rbit (R.WAV_TAP_CFG t) 0)

/-- The end of a full calibration without skew step, by the units that failed. -/
def Dev.calEnd (d : Dev) (byCmd : Bool) (codes : List (Nat × Word)) (ports emits tapsF : List Nat) : Dev :=
  let pass := d.calPasses ports emits tapsF
  (((d.calReported byCmd pass ports emits tapsF).calWritten pass codes).safetyFollow).calStaged byCmd

/-- Without skew step the end of a full calibration reports, writes its codes or logs its fault, and lets the outputs follow. -/
theorem Dev.calDone_noSkew (d : Dev) (codes : List (Nat × Word)) (badPorts : Nat) (byCmd : Bool) (hfull : d.cal.full = some byCmd)
    (hskew : d.reg R.CAL_SKEW_EN = 0#32) (hgood : ∀ p ∈ codes, trimAtEnd p.1 p.2 = false) :
    d.calDone codes badPorts 0 0 [] [] =
      d.calEnd byCmd codes ((List.range 32).filter badPorts.testBit) [] [] := by
  have hend (l : List Nat) : (codesFor codes l).any (fun p => trimAtEnd p.1 p.2) = false :=
    List.any_eq_false.mpr fun p hp => by simpa using hgood p (List.mem_filter.mp hp).1
  have hports : (List.range 32).filter (fun q => badPorts.testBit q || (List.range 8).any (fun j => d.rbit (R.RFE_CTRL (8 * q + j)) 0 &&
      (codesFor codes (chanTrims (8 * q + j))).any (fun p => trimAtEnd p.1 p.2))) = (List.range 32).filter badPorts.testBit := by
    simp only [hend, Bool.and_false, List.any_eq_false.mpr, Bool.false_eq_true, not_false_iff, implies_true, Bool.or_false]
  have hemits : (List.range 32).filter (fun e => Nat.testBit 0 e || ([] : List Nat).contains e || ([] : List (Nat × Nat)).any (fun p => p.1 == e && decide (63 < p.2)) ||
      (codesFor codes [R.CAL_MON_TRIM e]).any (fun p => trimAtEnd p.1 p.2)) = [] := by
    simp [hend]
  have htaps : (List.range 8).filter (fun t => Nat.testBit 0 t || (codesFor codes [R.CAL_TAP_TRIM t]).any (fun p => trimAtEnd p.1 p.2)) = [] := by
    simp [hend]
  have hdone : d.calDone codes badPorts 0 0 [] [] = d.calEnd byCmd codes
      ((List.range 32).filter (fun q => badPorts.testBit q || (List.range 8).any (fun j => d.rbit (R.RFE_CTRL (8 * q + j)) 0 &&
        (codesFor codes (chanTrims (8 * q + j))).any (fun p => trimAtEnd p.1 p.2))))
      ((List.range 32).filter (fun e => Nat.testBit 0 e || ([] : List Nat).contains e || ([] : List (Nat × Nat)).any (fun p => p.1 == e && decide (63 < p.2)) ||
        (codesFor codes [R.CAL_MON_TRIM e]).any (fun p => trimAtEnd p.1 p.2)))
      ((List.range 8).filter (fun t => Nat.testBit 0 t || (codesFor codes [R.CAL_TAP_TRIM t]).any (fun p => trimAtEnd p.1 p.2))) := by
    unfold Dev.calDone
    rw [hfull, hskew]
    rfl
  rw [hdone, hports, hemits, htaps]

@[simp] theorem Dev.calReported_cal (d : Dev) (byCmd pass : Bool) (ports emits tapsF : List Nat) :
    (d.calReported byCmd pass ports emits tapsF).cal = { d.cal with full := none, passed := pass || d.rbit R.CAL_CTRL 1 } := by
  unfold Dev.calReported
  cases byCmd <;> simp

@[simp] theorem Dev.calReported_top (d : Dev) (byCmd pass : Bool) (ports emits tapsF : List Nat) :
    (d.calReported byCmd pass ports emits tapsF).top = d.top := by
  unfold Dev.calReported
  cases byCmd <;> simp

@[simp] theorem Dev.calReported_flg (d : Dev) (byCmd pass : Bool) (ports emits tapsF : List Nat) :
    (d.calReported byCmd pass ports emits tapsF).flg = d.flg := by
  unfold Dev.calReported
  cases byCmd <;> simp

/-- What the registers of a calibration show at its end. -/
theorem Dev.calReported_shows (d : Dev) (byCmd pass : Bool) (ports emits tapsF : List Nat) :
    let e := d.calReported byCmd pass ports emits tapsF
    e.reg R.CAL_RESULT = BitVec.ofNat 32 (maskOf ports) ∧ e.reg R.CAL_RESULT_EMIT = BitVec.ofNat 32 (maskOf emits) ∧
      e.reg R.CAL_RESULT_EU = BitVec.ofNat 32 (maskOf tapsF) ∧ e.rbit R.CAL_STATUS 0 = false ∧ e.rbit R.CAL_STATUS 7 = pass := by
  have hcmd (x : Dev) {a : Nat} (h : a ≠ R.CAL_CMD) : (if byCmd then x.setFld R.CAL_CMD 9 8 1 else x).reg a = x.reg a := by
    split
    · exact x.reg_setFld_ne _ _ _ _ _ h
    · rfl
  unfold Dev.calReported
  refine ⟨?_, ?_, ?_, ?_, ?_⟩
  · rw [hcmd _ (by decide), Dev.reg_setBit_ne _ _ _ _ _ (by decide), Dev.reg_setBit_ne _ _ _ _ _ (by decide), Dev.reg_setReg_ne _ _ _ _ (by decide),
      Dev.reg_setReg_ne _ _ _ _ (by decide), Dev.reg_setReg_self]
  · rw [hcmd _ (by decide), Dev.reg_setBit_ne _ _ _ _ _ (by decide), Dev.reg_setBit_ne _ _ _ _ _ (by decide), Dev.reg_setReg_ne _ _ _ _ (by decide),
      Dev.reg_setReg_self]
  · rw [hcmd _ (by decide), Dev.reg_setBit_ne _ _ _ _ _ (by decide), Dev.reg_setBit_ne _ _ _ _ _ (by decide), Dev.reg_setReg_self]
  · rw [Dev.rbit_of_reg (hcmd _ (by decide)), Dev.rbit_setBit_other _ _ _ (by decide) (by decide), Dev.rbit_setBit_self _ _ _ _ (by decide)]
  · rw [Dev.rbit_of_reg (hcmd _ (by decide)), Dev.rbit_setBit_self _ _ _ _ (by decide)]

@[simp] theorem Dev.calStaged_cal (d : Dev) (byCmd : Bool) : (d.calStaged byCmd).cal = d.cal := by unfold Dev.calStaged; split <;> rfl
@[simp] theorem Dev.calStaged_flg (d : Dev) (byCmd : Bool) : (d.calStaged byCmd).flg = d.flg := by unfold Dev.calStaged; split <;> rfl
@[simp] theorem Dev.calStaged_state (d : Dev) (byCmd : Bool) : (d.calStaged byCmd).top.state = d.top.state := by unfold Dev.calStaged; split <;> rfl
@[simp] theorem Dev.calStaged_reg (d : Dev) (byCmd : Bool) (a : Nat) : (d.calStaged byCmd).reg a = d.reg a := by unfold Dev.calStaged; split <;> rfl
@[simp] theorem Dev.calStaged_rbit (d : Dev) (byCmd : Bool) (a i : Nat) : (d.calStaged byCmd).rbit a i = d.rbit a i := by
  unfold Dev.calStaged; split <;> rfl

/-- The trim code of a channel's comparator enters its register at once outside RANGING (R141). -/
theorem Dev.trimWrite_cmp (d : Dev) (n : Nat) (w : Word) (hn : n < 256) (hr : d.ranging = false) :
    d.trimWrite (R.RFE_TRIM_CMP n) w = d.setReg (R.RFE_TRIM_CMP n) (w &&& 0xFFFF#32) := by
  have hmask : ∀ n < 256, (findReg (R.RFE_TRIM_CMP n)).map (·.rw) = some 0xFFFF := by decide +kernel
  obtain ⟨r, hfound, hrw⟩ := Option.map_eq_some_iff.mp (hmask n hn)
  have hlow : ¬ (0x50400 ≤ R.RFE_TRIM_CMP n ∧ R.RFE_TRIM_CMP n < 0x50600 ∧ R.RFE_TRIM_CMP n % 0x40 < 0x0C) := by
    show ¬ (0x50400 ≤ 0x80010 + 0x40 * n ∧ 0x80010 + 0x40 * n < 0x50600 ∧ _)
    omega
  have htdc : ¬ (0x80000 ≤ R.RFE_TRIM_CMP n ∧ R.RFE_TRIM_CMP n < 0x84000 ∧ R.RFE_TRIM_CMP n % 64 = 0x14) := by
    show ¬ (_ ∧ _ ∧ (0x80010 + 0x40 * n) % 64 = 0x14)
    omega
  simp only [Dev.trimWrite, hr, hfound, hrw]
  exact (if_neg hlow).trans (if_neg htdc)

theorem trimCodes_cmp (n : Nat) (w : Word) (hn : n < 256) : trimCodes [(R.RFE_TRIM_CMP n, w)] = [(R.RFE_TRIM_CMP n, w)] := by
  have hchan : (List.range 256).any (fun c => (chanTrims c).contains (R.RFE_TRIM_CMP n)) = true :=
    List.any_eq_true.mpr ⟨n, List.mem_range.mpr hn, by simp [chanTrims]⟩
  simp only [trimCodes, List.filter_cons, List.filter_nil, hchan, Bool.true_or, if_true]

theorem Dev.calStaged_stage10 (d : Dev) (byCmd : Bool) (h : d.cal.passed = true) :
    (d.calStaged byCmd).top.stage10 = if byCmd = true then d.top.stage10 else true := by
  unfold Dev.calStaged
  cases byCmd <;> simp [h]

@[simp] theorem Dev.calPasses_nil (d : Dev) : d.calPasses [] [] [] = true := rfl
@[simp] theorem Dev.calWritten_nil (d : Dev) : d.calWritten true [] = d := rfl

theorem Dev.calEnd_reg (d : Dev) (byCmd : Bool) (codes : List (Nat × Word)) {ports emits tapsF : List Nat} {a : Nat} (h : a ∉ inhibitRegs) :
    (d.calEnd byCmd codes ports emits tapsF).reg a =
      ((d.calReported byCmd (d.calPasses ports emits tapsF) ports emits tapsF).calWritten (d.calPasses ports emits tapsF) codes).reg a := by
  rw [Dev.calEnd, Dev.calStaged_reg, Dev.safetyFollow_reg _ h]

theorem Dev.calEnd_rbit (d : Dev) (byCmd : Bool) (codes : List (Nat × Word)) {ports emits tapsF : List Nat} {a i : Nat} (h : a ∉ inhibitRegs) :
    (d.calEnd byCmd codes ports emits tapsF).rbit a i =
      ((d.calReported byCmd (d.calPasses ports emits tapsF) ports emits tapsF).calWritten (d.calPasses ports emits tapsF) codes).rbit a i :=
  Dev.rbit_of_reg (d.calEnd_reg byCmd codes h) i

theorem filter_testBit_zero : (List.range 32).filter (Nat.testBit 0) = [] := by decide

theorem filter_testBit_two_pow : ∀ n < 32, (List.range 32).filter (Nat.testBit (2 ^ n)) = [n] := by decide

theorem maskOf_singleton (n : Nat) : maskOf [n] = 2 ^ n := by simp [maskOf]

theorem trim_not_inhibit (n : Nat) : R.RFE_TRIM_CMP n ∉ inhibitRegs := by
  have hhigh : 0x80010 ≤ R.RFE_TRIM_CMP n := Nat.le_add_right _ _
  intro hmem
  rcases List.mem_cons.mp hmem with h | hmem
  · exact absurd (h ▸ hhigh) (by decide)
  · exact absurd (List.mem_singleton.mp hmem ▸ hhigh) (by decide)

/-! The end of a port's interval (R404). -/

/-- A port's interval ends: its turn, its pending bit and its result. -/
def Dev.blindEnded (d : Dev) (q : Nat) (ok : Bool) : Dev :=
  (((Dev.setFld { d with cal := { d.cal with turn := none, last := q, hostWrote := false } } R.CAL_STATUS 6 1 0).setBit R.CAL_PENDING q false).setBit
    R.CAL_RESULT q (!ok))

theorem Dev.blindEnd_noCodes (d : Dev) (q : Nat) (ok : Bool) :
    d.blindEnd q ok [] = if ok then (if d.cal.hostWrote then (d.blindEnded q true).setBit R.CAL_STATUS 8 true else d.blindEnded q true)
      else (d.blindEnded q false).logFault 0x1902 .n := by
  have hnone : codesFor [] ((List.range 8).flatMap (fun j => chanTrims (8 * q + j))) = [] := rfl
  have hended (pass : Bool) : (((Dev.setFld { d with cal := { d.cal with turn := none, last := q, hostWrote := false } } R.CAL_STATUS 6 1 0).setBit
      R.CAL_PENDING q false).setBit R.CAL_RESULT q (!pass)) = d.blindEnded q pass := rfl
  unfold Dev.blindEnd
  simp only [hnone, List.any_nil, List.foldl_nil, Bool.not_false, Bool.and_true, hended]
  cases ok <;> simp only [Bool.false_eq_true, if_false, if_true]

/-- What the registers show at a port's end. -/
theorem Dev.blindEnded_shows (d : Dev) (q : Nat) (ok : Bool) (hq : q < 32) :
    let e := d.blindEnded q ok
    e.rbit R.CAL_PENDING q = false ∧ e.rbit R.CAL_RESULT q = !ok ∧ e.fld R.CAL_STATUS 6 1 = 0 ∧ e.rbit R.CAL_STATUS 8 = d.rbit R.CAL_STATUS 8 := by
  unfold Dev.blindEnded
  refine ⟨?_, ?_, ?_, ?_⟩
  · rw [Dev.rbit_of_reg (Dev.reg_setBit_ne _ _ _ _ _ (by decide)), Dev.rbit_setBit_self _ _ _ _ hq]
  · rw [Dev.rbit_setBit_self _ _ _ _ hq]
  · rw [Dev.fld_of_reg (Dev.reg_setBit_ne _ _ _ _ _ (by decide)), Dev.fld_of_reg (Dev.reg_setBit_ne _ _ _ _ _ (by decide)),
      Dev.fld_setFld_self _ _ _ _ _ (by decide) (by decide), Nat.zero_mod]
  · rw [Dev.rbit_of_reg (Dev.reg_setBit_ne _ _ _ _ _ (by decide)), Dev.rbit_of_reg (Dev.reg_setBit_ne _ _ _ _ _ (by decide))]
    exact congrArg (· == 1) (Dev.fld_setFld_other _ _ _ _ _ _ _ (by decide) (by decide) (by decide) (by decide))

/-- Settles O53. -/
theorem calibrationComplete : Obligations.CalibrationComplete := by
  unfold Obligations.CalibrationComplete
  refine ⟨?calFull, ?calFullRejected, ?calFullRunning, ?calPort, ?calPortRejected, ?fullCalibrationComplete, ?calibrationCode, ?calibrationFails,
    ?portTurn, ?portTurnNotDue, ?blindIntervalEnd, ?blindIntervalFails⟩
  case calFull =>
    intro s src t hcmd harmed hnone
    refine ⟨_, (s.cmdWrite_taken src t _ _ _ hcmd : execCalFull src t s = _), ?_⟩
    rw [Dev.calCmd_full, if_neg (by simp [harmed]), if_neg (by simp [hnone])]
    refine ⟨?_, ?_, ?_, writeTaken_answer s src _ ?_⟩
    · simp [Dev.calAnswer]
    · rw [Dev.onReq_rbit, Dev.rbit_setBit_self _ _ _ _ (by decide)]
    · rw [Dev.onReq_fld, Dev.fld_of_reg (Dev.reg_setBit_ne _ _ _ _ _ (by decide)), Dev.calAnswer_status]
      decide
    · simp [Dev.calAnswer]
  case calFullRejected =>
    intro s src t hcmd harmed
    refine ⟨_, (s.cmdWrite_taken src t _ _ _ hcmd : execCalFull src t s = _), ?_⟩
    rw [Dev.calCmd_full, if_pos (by simpa using harmed)]
    refine ⟨?_, ?_, ?_, writeTaken_answer s src _ ?_⟩
    · simp [Dev.calAnswer]
    · rw [Dev.onReq_fld, Dev.calAnswer_status]
      decide
    · rw [Dev.onReq_fld, Dev.calAnswer_reason]
      decide
    · simp [Dev.calAnswer]
  case calFullRunning =>
    intro s src t b hcmd harmed hrun
    refine ⟨_, (s.cmdWrite_taken src t _ _ _ hcmd : execCalFull src t s = _), ?_⟩
    rw [Dev.calCmd_full, if_neg (by simp [harmed]), if_pos (by simp [hrun])]
    refine ⟨?_, ?_, ?_, writeTaken_answer s src _ ?_⟩
    · simp [Dev.calAnswer]
    · rw [Dev.onReq_fld, Dev.calAnswer_status]
      decide
    · rw [Dev.onReq_fld, Dev.calAnswer_reason]
      decide
    · simp [Dev.calAnswer]
  case calPort =>
    intro s src t n hcmd hranging hn
    refine ⟨_, (s.cmdWrite_taken src t _ _ _ hcmd : execCalPort src t n s = _), ?_⟩
    rw [show BitVec.ofNat 32 (2 + 1024 * (n % 32)) = calPortWord n from rfl, Dev.calCmd_port, if_neg (by simp [Dev.ranging, hranging]), Nat.mod_eq_of_lt hn]
    refine ⟨?_, ?_, ?_, writeTaken_answer s src _ ?_⟩
    · rw [Dev.onReq_rbit, Dev.calAnswer, Dev.rbit_of_reg (Dev.reg_setReg_ne _ _ _ _ (by decide)), Dev.rbit_setBit_self _ _ _ _ hn]
    · simp [Dev.calAnswer]
    · rw [Dev.onReq_fld, Dev.calAnswer_status]
      decide
    · simp [Dev.calAnswer]
  case calPortRejected =>
    intro s src t n hcmd hranging
    refine ⟨_, (s.cmdWrite_taken src t _ _ _ hcmd : execCalPort src t n s = _), ?_⟩
    rw [show BitVec.ofNat 32 (2 + 1024 * (n % 32)) = calPortWord n from rfl, Dev.calCmd_port, if_pos (by simpa [Dev.ranging] using hranging)]
    refine ⟨?_, ?_, ?_, ?_, writeTaken_answer s src _ ?_⟩
    · rw [Dev.onReq_reg, Dev.calAnswer, Dev.reg_setReg_ne _ _ _ _ (by decide), Dev.accepted_reg _ _ _ _ (by decide), Dev.advanceTo_reg]
    · simp [Dev.calAnswer]
    · rw [Dev.onReq_fld, Dev.calAnswer_status]
      decide
    · rw [Dev.onReq_fld, Dev.calAnswer_reason]
      decide
    · simp [Dev.calAnswer]
  case fullCalibrationComplete =>
    intro s t b halive harmed hfull hskew
    refine ⟨_, (State.atTick_alive s t _ halive : execFullCalibrationComplete t [] 0 0 0 [] [] s = _), ?_⟩
    rw [if_pos (by simpa using harmed), Dev.calDone_noSkew _ _ _ b (by simpa) (by simpa) (by simp), filter_testBit_zero]
    obtain ⟨hresult, hemit, heu, hbusy, hpass⟩ := (s.dev.advanceTo t).calReported_shows b true [] [] []
    refine ⟨by simp [Dev.calEnd], by simp [Dev.calEnd, Dev.calPasses], ?_, ?_, ?_, ?_, ?_, ?_, by simp [Dev.calEnd], sameMemory.refl s⟩
    · rw [Dev.calEnd_rbit _ _ _ (by decide)]; exact hpass
    · rw [Dev.calEnd_rbit _ _ _ (by decide)]; exact hbusy
    · rw [Dev.calEnd_reg _ _ _ (by decide)]; exact hresult
    · rw [Dev.calEnd_reg _ _ _ (by decide)]; exact hemit
    · rw [Dev.calEnd_reg _ _ _ (by decide)]; exact heu
    · rw [Dev.calEnd, Dev.calStaged_stage10 _ _ (by simp [Dev.calPasses])]
      simp
  case calibrationCode =>
    intro s t n b w halive harmed hfull hskew hn hgood
    refine ⟨_, (State.atTick_alive s t _ halive : execFullCalibrationComplete t [(R.RFE_TRIM_CMP n, w)] 0 0 0 [] [] s = _), ?_⟩
    rw [if_pos (by simpa using harmed), Dev.calDone_noSkew _ _ _ b (by simpa) (by simpa) (by simpa using hgood), filter_testBit_zero]
    have hwritten : ((s.dev.advanceTo t).calReported b true [] [] []).calWritten true [(R.RFE_TRIM_CMP n, w)] =
        ((s.dev.advanceTo t).calReported b true [] [] []).setReg (R.RFE_TRIM_CMP n) (w &&& 0xFFFF#32) := by
      rw [Dev.calWritten, if_pos rfl, trimCodes_cmp n w hn]
      exact Dev.trimWrite_cmp _ n w hn (by simp [Dev.ranging, harmed])
    have hend : (s.dev.advanceTo t).calEnd b [(R.RFE_TRIM_CMP n, w)] [] [] [] =
        ((((s.dev.advanceTo t).calReported b true [] [] []).setReg (R.RFE_TRIM_CMP n) (w &&& 0xFFFF#32)).safetyFollow).calStaged b := by
      simp only [Dev.calEnd, Dev.calPasses_nil, hwritten]
    rw [hend]
    refine ⟨?_, by simp, by simp, sameMemory.refl s⟩
    rw [Dev.calStaged_reg, Dev.safetyFollow_reg _ (trim_not_inhibit n), Dev.reg_setReg_self]
  case calibrationFails =>
    intro s t n b halive harmed hfull hskew hignore hn hused hroom
    refine ⟨_, (State.atTick_alive s t _ halive : execFullCalibrationComplete t [] (2 ^ n) 0 0 [] [] s = _), ?_⟩
    rw [if_pos (by simpa using harmed), Dev.calDone_noSkew _ _ _ b (by simpa) (by simpa) (by simp), filter_testBit_two_pow n hn]
    have hfails : (s.dev.advanceTo t).calPasses [n] [] [] = false := by
      have hport : (List.range 8).any (fun j => s.dev.rbit (R.RFE_CTRL (8 * n + j)) 0) = true :=
        List.any_eq_true.mpr ⟨0, by decide, hused⟩
      simp [Dev.calPasses, hport]
    obtain ⟨hresult, -, -, -, hpass⟩ := (s.dev.advanceTo t).calReported_shows b false [n] [] []
    have hwritten : (((s.dev.advanceTo t).calReported b false [n] [] []).calWritten false []) =
        ((s.dev.advanceTo t).calReported b false [n] [] []).logFault 0x1901 .n := rfl
    have hroom' : ((s.dev.advanceTo t).calReported b false [n] [] []).faultRoom 0x1901 = true :=
      (Dev.faultRoom_of_log (by simp) _).trans hroom
    have hend : (s.dev.advanceTo t).calEnd b [] [n] [] [] =
        ((((s.dev.advanceTo t).calReported b false [n] [] []).logFault 0x1901 .n).safetyFollow).calStaged b := by
      simp only [Dev.calEnd, hfails, hwritten]
    rw [hend]
    refine ⟨by simp, by simp [hignore], ?_, ?_, ?_, by simp [Dev.logFault_top_state], sameMemory.refl s⟩
    · rw [Dev.calStaged_rbit, Dev.safetyFollow_rbit _ (by decide), Dev.logFault_rbit _ _ _ _ _ (by decide)]; exact hpass
    · rw [Dev.calStaged_reg, Dev.safetyFollow_reg _ (by decide), Dev.logFault_reg_of _ _ _ _ _ (by decide)]
      exact hresult.trans (by rw [maskOf_singleton])
    · exact (Dev.logged_of_log (d := ((s.dev.advanceTo t).calReported b false [n] [] []).logFault 0x1901 .n) (by simp) _).trans
        (Dev.logFault_logged _ _ _ _ _ hroom')
  case portTurn =>
    intro s t halive hon hdue hturn
    refine ⟨_, (State.atTick_alive s t _ halive : execPortTurn t s = _), ?_⟩
    rw [if_neg (by simp [hon, hdue])]
    refine ⟨by simp, ?_, by simp, sameMemory.refl s⟩
    · simp [Dev.rbit_setBit_self, hturn]
  case portTurnNotDue =>
    intro s t halive hon hearly
    refine ⟨_, (State.atTick_alive s t _ halive : execPortTurn t s = _), ?_⟩
    rw [if_pos (by simp [hon, hearly])]
    exact ⟨by simp, by simp, sameMemory.refl s⟩
  case blindIntervalEnd =>
    intro s t n halive hturn hn hdue
    refine ⟨_, (State.atTick_alive s t _ halive : execBlindIntervalEnd t true [] s = _), ?_⟩
    obtain ⟨hpending, hresult, hstep, hwrote⟩ := (s.dev.advanceTo t).blindEnded_shows n true hn
    simp only [Dev.advanceTo_cal, hturn, if_pos hdue, Dev.blindEnd_noCodes, if_true]
    cases hhost : s.dev.cal.hostWrote
    · refine ⟨by simp [Dev.blindEnded], hpending, hresult, ?_, hstep, by simp [Dev.blindEnded], sameMemory.refl s⟩
      exact hwrote.trans (by simp)
    · refine ⟨by simp [Dev.blindEnded], ?_, ?_, ?_, ?_, by simp [Dev.blindEnded], sameMemory.refl s⟩
      · exact (Dev.rbit_of_reg (Dev.reg_setBit_ne _ _ _ _ _ (by decide)) n).trans hpending
      · exact (Dev.rbit_of_reg (Dev.reg_setBit_ne _ _ _ _ _ (by decide)) n).trans hresult
      · simp [Dev.rbit_setBit_self]
      · exact (Dev.fld_setFld_other _ _ _ _ _ _ _ (by decide) (by decide) (by decide) (by decide)).trans hstep
  case blindIntervalFails =>
    intro s t n halive hturn hn hdue hroom
    refine ⟨_, (State.atTick_alive s t _ halive : execBlindIntervalEnd t false [] s = _), ?_⟩
    obtain ⟨hpending, hresult, -, -⟩ := (s.dev.advanceTo t).blindEnded_shows n false hn
    simp only [Dev.advanceTo_cal, hturn, if_pos hdue, Dev.blindEnd_noCodes, Bool.false_eq_true, if_false]
    refine ⟨by simp [Dev.blindEnded], ?_, ?_, ?_, by simp [Dev.blindEnded, Dev.logFault_top_state], sameMemory.refl s⟩
    · rw [Dev.logFault_rbit _ _ _ _ _ (by decide)]; exact hpending
    · rw [Dev.logFault_rbit _ _ _ _ _ (by decide)]; exact hresult
    · exact Dev.logFault_logged _ _ _ _ _ ((Dev.faultRoom_of_log (by simp [Dev.blindEnded]) _).trans hroom)

end Sys2Proof.Machine
end

section
/-! PROOF. CAN FD (R308, R309). -/
namespace Sys2Proof.Machine

@[simp] theorem Dev.can_onCan_self (d : Dev) (n : Nat) (f : CanSt → CanSt) : (d.onCan n f).can n = f (d.can n) := mgetD_mput_self ..
@[simp] theorem Dev.onCan_regs (d : Dev) (n : Nat) (f : CanSt → CanSt) : (d.onCan n f).regs = d.regs := (rfl)
@[simp] theorem Dev.onCan_flg (d : Dev) (n : Nat) (f : CanSt → CanSt) : (d.onCan n f).flg = d.flg := (rfl)

theorem Dev.can_of_cans {d d' : Dev} (h : d'.cans = d.cans) (n : Nat) : d'.can n = d.can n := by rw [Dev.can, h, Dev.can]

/-- A field that takes a whole word saturates at its greatest value. -/
theorem Dev.reg_incSat_word (d : Dev) (a : Nat) :
    (d.incSat a 31 0 1).reg a = if d.reg a = 0xFFFFFFFF#32 then 0xFFFFFFFF#32 else d.reg a + 1 := by
  have hlt := (d.reg a).isLt
  have hbits : bits (d.reg a) 31 0 = (d.reg a).toNat := by simp [bits, Nat.mod_eq_of_lt hlt]
  have hset (v : Nat) : setBits (d.reg a) 31 0 v = BitVec.ofNat 32 v := by
    apply BitVec.eq_of_toNat_eq
    simp [setBits, hbits]
  rw [Dev.incSat, Dev.reg_setFld, if_pos rfl, hset, Dev.fld, hbits]
  split
  · next h => rw [h]; decide
  · next h =>
    have hne : (d.reg a).toNat ≠ 0xFFFFFFFF := fun hmax => h (BitVec.eq_of_toNat_eq (by rw [hmax]; rfl))
    rw [satN, if_neg (by omega)]
    apply BitVec.eq_of_toNat_eq
    simp

/-- Where a frame goes that passes a filter neither the Canary nor management takes (R308, R309, R430). -/
theorem State.canReceive_stores (s : State) (n id dlc sof f : Nat) (ide brs esi : Bool) (data : List Byte) (mgt : State → List Byte → State)
    (hon : s.dev.canOn n = true) (hfd : s.dev.rbit (R.CAN_CTRL n) 1 = true) (hf : s.dev.canFilter n id ide = some f)
    (hmgt : s.dev.canMgt n = false ∨ f ≠ 31) (hcny : s.dev.cnyRoutes = false ∨ 4 ≤ f) :
    s.canReceive n id dlc ide true brs esi data sof mgt = s.onDev (fun d => d.canStore n
      (canEntry (id % 2 ^ 29 + 2 ^ 29 * b2n ide) (dlc % 16 + 16 + 32 * b2n brs + 64 * b2n esi) (s.dev.time - (s.dev.now - sof))
        (data.take (dlcBytes dlc true)))) := by
  have hnotCny : ¬ (f < 4 ∧ n = 0 ∧ s.dev.cnyRoutes = true) := by
    rintro ⟨hlt, -, hroutes⟩
    rcases hcny with h | h
    · simp [h] at hroutes
    · omega
  have hnotMgt : ¬ (f = 31 ∧ s.dev.canMgt n = true) := by
    rintro ⟨hlast, hm⟩
    rcases hmgt with h | h
    · simp [h] at hm
    · exact h hlast
  unfold State.canReceive
  simp only [hon, hfd, hf, if_neg hnotCny, if_neg hnotMgt]
  rfl

theorem State.canReceive_filtered (s : State) (n id dlc sof : Nat) (ide fd brs esi : Bool) (data : List Byte) (mgt : State → List Byte → State)
    (hf : s.dev.canFilter n id ide = none) : s.canReceive n id dlc ide fd brs esi data sof mgt = s := by
  unfold State.canReceive
  simp only [hf, ite_self]

/-! What a tick leaves of the controllers. -/

@[simp] theorem Dev.advanceTo_can (d : Dev) (t n : Nat) : (d.advanceTo t).can n = d.can n := by simp [Dev.can]
@[simp] theorem Dev.advanceTo_canOn (d : Dev) (t n : Nat) : (d.advanceTo t).canOn n = d.canOn n := by simp [Dev.canOn, Dev.supplyBad]
@[simp] theorem Dev.advanceTo_canMgt (d : Dev) (t n : Nat) : (d.advanceTo t).canMgt n = d.canMgt n := by simp [Dev.canMgt]
@[simp] theorem Dev.advanceTo_canFilter (d : Dev) (t n id : Nat) (ide : Bool) : (d.advanceTo t).canFilter n id ide = d.canFilter n id ide := by
  simp [Dev.canFilter, Dev.canPasses]
@[simp] theorem Dev.advanceTo_canNext (d : Dev) (t n : Nat) : (d.advanceTo t).canNext n = d.canNext n := by simp [Dev.canNext, Dev.canReady]
@[simp] theorem Dev.advanceTo_cnyRoutes (d : Dev) (t : Nat) : (d.advanceTo t).cnyRoutes = d.cnyRoutes := by simp [Dev.cnyRoutes, Dev.safetyMode]
@[simp] theorem Dev.advanceTo_canaryOwns (d : Dev) (t a : Nat) : (d.advanceTo t).canaryOwns a = d.canaryOwns a := by simp [Dev.canaryOwns]

@[simp] theorem Dev.accepted_can (d : Dev) (src a : Nat) (w : Word) (n : Nat) : (d.accepted src a w).can n = d.can n :=
  Dev.can_of_cans (by simp [Dev.accepted]) n

/-- What the Canary owns lies among CAN0's filters and transmit buffers. -/
theorem Dev.canaryOwns_range {d : Dev} {a : Nat} (h : d.canaryOwns a = true) : 0x26E100 ≤ a ∧ a < 0x26E300 := by
  have hrange : (0x26E200 + 0x1000 * 0 + 0x4 * 0 ≤ a ∧ a < 0x26E200 + 0x1000 * 0 + 0x4 * 20) ∨
      (0x26E100 + 0x1000 * 0 + 0x4 * 0 ≤ a ∧ a < 0x26E100 + 0x1000 * 0 + 0x4 * 8) := by
    simpa [Dev.canaryOwns] using (Bool.and_eq_true_iff.mp h).2
  omega

/-- A write that the Canary's ownership refuses is journaled as ignored, answered with 0x00 and shown. -/
theorem Dev.canaryWrite_ignored (d : Dev) (src a : Nat) (w : Word) (h : d.alive = true) (hs : d.top.state ≠ .headframe) :
    d.canaryWrite src a w = (((d.incSat (R.MGT_CNT_WR src) 31 0 1).journal src a (d.shown a) w true false).onReq src
      (fun r => { r with lastStatus := 0 })).setBit (R.CAN_STATUS 0) 2 true := by
  have hstate : (d.top.state == DevState.headframe) = false := by simpa using hs
  simp only [Dev.canaryWrite, Dev.ignoredWrite, h, hstate, ← Dev.respond_zero]
  rfl

/-- RECOVER. -/
theorem Dev.canCmd_recover (d : Dev) (n : Nat) : d.canCmd n 1 =
    if d.fld (R.CAN_STATUS n) 1 0 ≠ 2 then d.setReg (R.CAN_CMD n) (cmdWord 1 0xFF 2 1)
    else (d.onCan n (fun c => { c with recovering := true })).setReg (R.CAN_CMD n) (cmdWord 1 0xFF 1 0) := rfl

/-- The status word of a sent buffer, which is free. -/
def Dev.canStatus (d : Dev) (n b : Nat) : Dev := (d.setReg (R.CAN_TX n (20 * b + 18)) (d.fresh 32)).drew

/-- A buffer other than management's is sent: its words are kept, its request ends, and its status word is free. -/
theorem Dev.canSend_buffer (d : Dev) (n b : Nat) (hnext : d.canNext n = some b) (hb : b < 7) :
    d.canSend n = ((d.setBit (R.CAN_TX n (20 * b + 1)) 31 false).onCan n (fun c =>
      { c with sent := (List.range 18).map (fun i => d.reg (R.CAN_TX n (20 * b + i))) })).canStatus n b := by
  rw [Dev.canSend, hnext]
  exact if_neg fun h => absurd h.1 (by omega)

/-- Settles O42. -/
theorem canComplete : Obligations.CanComplete := by
  unfold Obligations.CanComplete
  refine ⟨?canFrameReceived, ?canFrameFiltered, ?canFifoFull, ?canFrameTransmitted, ?canBusOff, ?recover, ?recoverRejected, ?canAutoRecovery,
    ?canCanaryWrite⟩
  case canFrameReceived =>
    intro s t n id dlc sof f ide brs esi data halive hn hon hf hmgt hcny hroom hfd
    refine ⟨_, (State.atTickMem_alive s t _ halive : execCanFrameReceived t n id dlc ide true brs esi data sof [] s = _), ?_⟩
    rw [if_neg (by omega), State.canReceive_stores _ _ _ _ _ f _ _ _ _ _ (by simpa) (by simpa) (by simpa) (by simpa) (by simpa)]
    simp only [State.onDev_dev, Dev.canStore, Dev.advanceTo_can, if_neg (Nat.not_le.mpr hroom)]
    exact ⟨by simp, by simp, rfl, rfl, rfl, rfl⟩
  case canFrameFiltered =>
    intro s t n id dlc sof ide fd brs esi data halive hn hf
    refine ⟨_, (State.atTickMem_alive s t _ halive : execCanFrameReceived t n id dlc ide fd brs esi data sof [] s = _), ?_⟩
    rw [if_neg (by omega), State.canReceive_filtered _ _ _ _ _ _ _ _ _ _ _ (by simpa)]
    exact ⟨by simp, by simp, rfl, rfl, rfl, rfl⟩
  case canFifoFull =>
    intro s t n id dlc sof f ide brs esi data halive hn hon hf hmgt hcny hfull hfd hroom
    refine ⟨_, (State.atTickMem_alive s t _ halive : execCanFrameReceived t n id dlc ide true brs esi data sof [] s = _), ?_⟩
    rw [if_neg (by omega), State.canReceive_stores _ _ _ _ _ f _ _ _ _ _ (by simpa) (by simpa) (by simpa) (by simpa) (by simpa)]
    simp only [State.onDev_dev, Dev.canStore, Dev.advanceTo_can, if_pos (Nat.le_of_eq hfull.symm)]
    refine ⟨?_, ?_, ?_, ?_, rfl, rfl, rfl, rfl⟩
    · rw [Dev.can_of_cans (Dev.logFault_cans ..), Dev.can_of_cans (Dev.incSat_cans ..), Dev.advanceTo_can]
    · rw [Dev.logFault_reg_of _ _ _ _ _ (not_mem_logRegs (by show 0x26E014 + 0x1000 * n < 0x290000; omega)), Dev.reg_incSat_word, Dev.advanceTo_reg]
    · exact Dev.logFault_logged _ _ _ _ _ ((Dev.faultRoom_of_log (by simp) _).trans hroom)
    · rw [Dev.logFault_top_state]; simp
  case canFrameTransmitted =>
    intro s t n b halive hn hon hnext hb
    refine ⟨_, (State.atTick_alive s t _ halive : execCanFrameTransmitted t n s = _), ?_⟩
    rw [if_pos (by simp [hn, hon]), Dev.canSend_buffer _ n b (by simpa) hb]
    have hstatus : R.CAN_TX n (20 * b + 1) ≠ R.CAN_TX n (20 * b + 18) ∧ R.CAN_TX n (20 * b) ≠ R.CAN_TX n (20 * b + 18) := by
      show 0x26E200 + 0x1000 * n + 0x4 * (20 * b + 1) ≠ 0x26E200 + 0x1000 * n + 0x4 * (20 * b + 18) ∧
        0x26E200 + 0x1000 * n + 0x4 * (20 * b) ≠ 0x26E200 + 0x1000 * n + 0x4 * (20 * b + 18)
      omega
    have hid : R.CAN_TX n (20 * b) ≠ R.CAN_TX n (20 * b + 1) := by
      show 0x26E200 + 0x1000 * n + 0x4 * (20 * b) ≠ 0x26E200 + 0x1000 * n + 0x4 * (20 * b + 1)
      omega
    refine ⟨?_, ?_, ?_, sameMemory.refl s⟩
    · rw [Dev.canStatus, Dev.can_of_cans (Dev.drew_cans _), Dev.can_of_cans (Dev.setReg_cans ..), Dev.can_onCan_self, Dev.can_of_cans (Dev.setBit_cans ..)]
      simp
    · rw [Dev.canStatus, Dev.rbit_of_reg (Dev.reg_of_regs (Dev.drew_regs _) _), Dev.rbit_setReg_ne _ _ _ _ _ hstatus.1, Dev.rbit_of_reg (Dev.reg_of_regs (Dev.onCan_regs ..) _),
        Dev.rbit_setBit_self _ _ _ _ (by decide)]
    · rw [Dev.canStatus, Dev.reg_of_regs (Dev.drew_regs _), Dev.reg_setReg_ne _ _ _ _ hstatus.2, Dev.reg_of_regs (Dev.onCan_regs ..), Dev.reg_setBit_ne _ _ _ _ _ hid,
        Dev.advanceTo_reg]
  case canBusOff =>
    intro s t n halive hn hon hroom
    refine ⟨_, (State.atTick_alive s t _ halive : execCanBusOff t n s = _), ?_⟩
    rw [if_pos (by simp [hn, hon]), Dev.canBusOff]
    refine ⟨?_, ?_, ?_, sameMemory.refl s⟩
    · rw [Dev.logFault_fld _ _ _ _ _ (not_mem_logRegs (by show 0x26E00C + 0x1000 * n < 0x290000; omega)), Dev.fld_of_reg (Dev.reg_of_regs (Dev.drew_regs _) _),
        Dev.fld_setFld_other _ _ _ _ _ _ _ (by decide) (by decide) (by decide) (by decide), Dev.fld_setFld_self _ _ _ _ _ (by decide) (by decide)]
      rfl
    · exact Dev.logFault_logged _ _ _ _ _ ((Dev.faultRoom_of_log (by simp) _).trans hroom)
    · rw [Dev.logFault_top_state]; simp
  case recover =>
    intro s src t n hn hcmd hoff
    refine ⟨_, (s.cmdWrite_taken src t _ _ _ (by rwa [Nat.mod_eq_of_lt hn]) : execRecover src t n s = _), ?_⟩
    have hstatus : ((s.dev.advanceTo t).accepted src (R.CAN_CMD n) 1).fld (R.CAN_STATUS n) 1 0 = 2 := by
      rw [Dev.accepted_fld _ _ _ _ (by show 0x26E00C + 0x1000 * n < 0x2A0104; omega), Dev.advanceTo_fld, hoff]
    rw [Nat.mod_eq_of_lt hn, Dev.canCmd_recover, if_neg (not_not_intro hstatus)]
    refine ⟨?_, ?_, writeTaken_answer s src _ ?_⟩
    · rw [Dev.can_of_cans (Dev.onReq_cans ..), Dev.can_of_cans (Dev.setReg_cans ..), Dev.can_onCan_self, Dev.accepted_can, Dev.advanceTo_can]
    · rw [Dev.onReq_fld, Dev.fld_setReg_self]
      decide
    · simp
  case recoverRejected =>
    intro s src t n hn hcmd hon
    refine ⟨_, (s.cmdWrite_taken src t _ _ _ (by rwa [Nat.mod_eq_of_lt hn]) : execRecover src t n s = _), ?_⟩
    have hstatus : ((s.dev.advanceTo t).accepted src (R.CAN_CMD n) 1).fld (R.CAN_STATUS n) 1 0 ≠ 2 := by
      rwa [Dev.accepted_fld _ _ _ _ (by show 0x26E00C + 0x1000 * n < 0x2A0104; omega), Dev.advanceTo_fld]
    rw [Nat.mod_eq_of_lt hn, Dev.canCmd_recover, if_pos hstatus]
    refine ⟨?_, ?_, ?_, writeTaken_answer s src _ ?_⟩
    · rw [Dev.can_of_cans (Dev.onReq_cans ..), Dev.can_of_cans (Dev.setReg_cans ..), Dev.accepted_can, Dev.advanceTo_can]
    · rw [Dev.onReq_fld, Dev.fld_setReg_self]
      decide
    · rw [Dev.onReq_fld, Dev.fld_setReg_self]
      decide
    · simp
  case canAutoRecovery =>
    intro s t n halive hn hoff hmay
    refine ⟨_, (State.atTick_alive s t _ halive : execCanAutoRecovery t n s = _), ?_⟩
    rw [if_pos (by simpa [hn, hoff] using hmay)]
    refine ⟨?_, ?_, ?_, ?_, sameMemory.refl s⟩
    · rw [Dev.fld_of_reg (Dev.reg_of_regs (Dev.onCan_regs ..) _), Dev.fld_setFld_other _ _ _ _ _ _ _ (by decide) (by decide) (by decide) (by decide),
        Dev.fld_setFld_other _ _ _ _ _ _ _ (by decide) (by decide) (by decide) (by decide), Dev.fld_setFld_self _ _ _ _ _ (by decide) (by decide), Nat.zero_mod]
    · rw [Dev.fld_of_reg (Dev.reg_of_regs (Dev.onCan_regs ..) _), Dev.fld_setFld_other _ _ _ _ _ _ _ (by decide) (by decide) (by decide) (by decide),
        Dev.fld_setFld_self _ _ _ _ _ (by decide) (by decide), Nat.zero_mod]
    · rw [Dev.fld_of_reg (Dev.reg_of_regs (Dev.onCan_regs ..) _), Dev.fld_setFld_self _ _ _ _ _ (by decide) (by decide), Nat.zero_mod]
    · rw [Dev.can_onCan_self, Dev.can_of_cans (Dev.setFld_cans ..), Dev.can_of_cans (Dev.setFld_cans ..), Dev.can_of_cans (Dev.setFld_cans ..), Dev.advanceTo_can]
  case canCanaryWrite =>
    intro s src t a v halive hstate howns
    refine ⟨_, (State.atTick_alive s t _ halive : execCanCanaryWrite src t a v s = _), ?_⟩
    obtain ⟨hlow, hhigh⟩ := Dev.canaryOwns_range howns
    rw [if_pos (by simpa), Dev.canaryWrite_ignored _ _ _ _ (by simpa) (by simpa)]
    refine ⟨?_, ?_, ?_, ?_, rfl, rfl, rfl, rfl⟩
    · rw [Dev.reg_setBit_ne _ _ _ _ _ (by show a ≠ 0x26E00C + 0x1000 * 0; omega), Dev.onReq_reg, Dev.reg_of_regs (Dev.journal_regs ..)]
      exact (Dev.reg_setFld_ne _ (R.MGT_CNT_WR src) a 31 0 _ (by show a ≠ 0x2A0104 + 0x8 * src; omega)).trans (by simp)
    · exact Dev.rbit_setBit_self _ _ _ _ (by decide)
    · simp
    · rw [Dev.req_of_mgt (Dev.setBit_mgt ..), Dev.req_onReq_self]

end Sys2Proof.Machine
end

section
/-! PROOF. Safety parameters and the commissioning record (R366 to R370). -/
namespace Sys2Proof.Machine

/-! The working copy is a range of the registers. -/

theorem filter_spDel (p : Nat × Word → Bool) (m : List (Nat × Word)) (k : Nat) (h : ∀ v, p (k, v) = false) : (spDel m k).filter p = m.filter p := by
  rw [spDel, List.filter_filter]
  refine List.filter_congr fun q _ => ?_
  by_cases hq : q.1 = k
  · obtain ⟨x, v⟩ := q
    subst hq
    simp [h v]
  · simp [hq]

theorem filter_spIns (p : Nat × Word → Bool) (m : List (Nat × Word)) (k : Nat) (v : Word) (h : p (k, v) = false) : (spIns m k v).filter p = m.filter p := by
  induction m with
  | nil => simp [spIns, h]
  | cons q r ih =>
    obtain ⟨k', v'⟩ := q
    rw [spIns]
    split
    · rw [List.filter_cons_of_neg (by simp [h])]
    · rw [List.filter_cons, List.filter_cons, ih]

theorem Dev.workWords_setReg (d : Dev) (a : Nat) (v : Word) (h : ¬ (paramBase ≤ a ∧ a < paramBase + 0x8000)) :
    (d.setReg a v).workWords = d.workWords := by
  have hout (w : Word) : decide (paramBase ≤ (a, w).1 ∧ (a, w).1 < paramBase + 0x8000) = false := decide_eq_false h
  show (spSet resetOf d.regs a v).filter _ = d.regs.filter _
  rw [spSet]
  split
  · exact filter_spDel _ _ _ hout
  · rw [filter_spIns _ _ _ _ (hout v), filter_spDel _ _ _ hout]

theorem Dev.workWords_of_regs {d d' : Dev} (h : d'.regs = d.regs) : d'.workWords = d.workWords := by rw [Dev.workWords, h, Dev.workWords]

@[simp] theorem Dev.accepted_workWords (d : Dev) (src a : Nat) (w : Word) : (d.accepted src a w).workWords = d.workWords := by
  have hout : ¬ (0x278000 ≤ 0x2A0104 + 0x8 * src ∧ 0x2A0104 + 0x8 * src < 0x278000 + 0x8000) := by omega
  exact (Dev.workWords_of_regs (Dev.journal_regs ..)).trans (d.workWords_setReg (R.MGT_CNT_WR src) _ hout)

@[simp] theorem Dev.advanceTo_workWords (d : Dev) (t : Nat) : (d.advanceTo t).workWords = d.workWords := Dev.workWords_of_regs (by simp)
@[simp] theorem Dev.atRc_workWords (d : Dev) (t c : Nat) : (d.atRc t c).workWords = d.workWords := Dev.workWords_of_regs (by simp)

/-! The recomputation (R368). -/

/-- The check value is recomputed and shown. -/
def Dev.rechecked (d : Dev) : Dev :=
  (d.setReg R.CNY_CHECK_COMPUTED (checkValue (blockBytes d.workWords))).onCny (fun c => { c with lastWrite := none })

theorem Dev.paramJudge_eq (d : Dev) (log : Bool) : d.paramJudge log =
    if d.rechecked.safetyMode = 0 then d.rechecked
    else if d.rechecked.paramOk (blockBytes d.workWords) (checkValue (blockBytes d.workWords)) then d.rechecked.onCny (fun c => { c with activate := true })
    else if log then ((d.rechecked.onCny (fun c => { c with activate := false, paramHold := true })).safetyFollow).logFault 0x1806 .n
    else (d.rechecked.onCny (fun c => { c with activate := false, paramHold := true })).safetyFollow := rfl

@[simp] theorem Dev.rechecked_safetyMode (d : Dev) : d.rechecked.safetyMode = d.safetyMode := by
  rw [Dev.safetyMode, Dev.rechecked, Dev.onCny_cny, Dev.setReg_cny, Dev.safetyMode]

theorem Dev.paramJudge_off (d : Dev) (log : Bool) (h : d.safetyMode = 0) : d.paramJudge log = d.rechecked := by
  rw [Dev.paramJudge_eq, if_pos (by simpa using h)]

theorem Dev.paramOk_uncommissioned (d : Dev) (l : List Byte) (check : Word) (h : d.boot.commission = []) : d.paramOk l check = false := by
  simp [Dev.paramOk, h]

theorem Dev.paramJudge_uncommissioned (d : Dev) (h : d.safetyMode ≠ 0) (hc : d.boot.commission = []) :
    d.paramJudge true = ((d.rechecked.onCny (fun c => { c with activate := false, paramHold := true })).safetyFollow).logFault 0x1806 .n := by
  rw [Dev.paramJudge_eq, if_neg (by simpa using h), Dev.paramOk_uncommissioned _ _ _ (by simpa [Dev.rechecked] using hc), if_neg Bool.false_ne_true, if_pos rfl]

@[simp] theorem Dev.rechecked_top (d : Dev) : d.rechecked.top = d.top := by simp [Dev.rechecked]
@[simp] theorem Dev.rechecked_flg (d : Dev) : d.rechecked.flg = d.flg := by simp [Dev.rechecked]
@[simp] theorem Dev.rechecked_cny (d : Dev) : d.rechecked.cny = { d.cny with lastWrite := none } := by simp [Dev.rechecked]
@[simp] theorem Dev.rechecked_computed (d : Dev) : d.rechecked.reg R.CNY_CHECK_COMPUTED = checkValue (blockBytes d.workWords) := by
  rw [Dev.rechecked, Dev.onCny_reg, Dev.reg_setReg_self]

@[simp] theorem Dev.atRc_safetyMode (d : Dev) (t c : Nat) : (d.atRc t c).safetyMode = d.safetyMode := by simp [Dev.safetyMode]
@[simp] theorem Dev.atRc_boot (d : Dev) (t c : Nat) : (d.atRc t c).boot = d.boot := by simp [Dev.atRc]

/-! A write of the working copy (R368, R369). -/

/-- The words of the working copy. -/
theorem paramAddr (n : Nat) (h : n < 8192) : paramBase + (0x278000 + 4 * n - paramBase) % 0x8000 / 4 * 4 = 0x278000 + 4 * n := by
  rw [paramBase]
  omega

/-- The device as a parameter write at RC cycle `c` finds it. -/
@[simp] theorem Dev.onCny_alive (d : Dev) (f : CnyState → CnyState) : (d.onCny f).alive = d.alive := (rfl)

theorem Dev.paramWrite_taken (d : Dev) (src n : Nat) (v : Word) (h : d.alive = true) (hs : d.top.state ≠ .headframe) (hc : d.cny.comm = none) (hn : n < 8192) :
    d.paramWrite src (0x278000 + 4 * n) v =
      ((((d.accepted src (0x278000 + 4 * n) v).setReg (0x278000 + 4 * n) v).onCny
        (fun c => { c with paramHold := true, activate := false, lastWrite := some c.rc })).safetyFollow).onReq src (fun r => { r with lastStatus := 0 }) := by
  rw [Dev.paramWrite, paramAddr n hn, hc]
  simp only [Option.isSome_none, Bool.false_eq_true, if_false]
  exact Dev.regWrite_accepted d src _ v _ h hs

theorem Dev.paramWrite_ignored (d : Dev) (src n : Nat) (v : Word) (r : List Byte) (h : d.alive = true) (hs : d.top.state ≠ .headframe)
    (hc : d.cny.comm = some r) (hn : n < 8192) :
    d.paramWrite src (0x278000 + 4 * n) v =
      (((d.incSat (R.MGT_CNT_WR src) 31 0 1).journal src (0x278000 + 4 * n) (d.shown (0x278000 + 4 * n)) v true false).onReq src
        (fun r => { r with lastStatus := 0 })).setBit R.CNY_STATUS 9 true := by
  have hstate : (d.top.state == DevState.headframe) = false := by simpa using hs
  rw [Dev.paramWrite, paramAddr n hn, hc, ← Dev.respond_zero]
  simp only [Dev.ignoredWrite, h, hstate]
  rfl

/-! CNY_CMD (Table 18-8). -/

theorem Dev.cnyDone_status (d : Dev) (w : Word) (status reason : Nat) :
    (d.cnyDone w status reason).fld R.CNY_CMD 9 8 = bits (BitVec.ofNat 32 (status * 256 + reason * 65536)) 9 8 := by
  rw [Dev.cnyDone, Dev.fld_setReg_self]
  exact bits_cmdWord w _ status reason 9 8 (by decide)

theorem Dev.cnyDone_reason (d : Dev) (w : Word) (status reason : Nat) :
    (d.cnyDone w status reason).fld R.CNY_CMD 23 16 = bits (BitVec.ofNat 32 (status * 256 + reason * 65536)) 23 16 := by
  rw [Dev.cnyDone, Dev.fld_setReg_self]
  exact bits_cmdWord w _ status reason 23 16 (by decide)

@[simp] theorem Dev.cnyDone_cny (d : Dev) (w : Word) (status reason : Nat) : (d.cnyDone w status reason).cny = d.cny := by simp [Dev.cnyDone]
@[simp] theorem Dev.cnyDone_top (d : Dev) (w : Word) (status reason : Nat) : (d.cnyDone w status reason).top = d.top := by simp [Dev.cnyDone]
@[simp] theorem Dev.cnyDone_flg (d : Dev) (w : Word) (status reason : Nat) : (d.cnyDone w status reason).flg = d.flg := by simp [Dev.cnyDone]
@[simp] theorem Dev.cnyDone_boot (d : Dev) (w : Word) (status reason : Nat) : (d.cnyDone w status reason).boot = d.boot := by simp [Dev.cnyDone]
theorem Dev.cnyDone_reg (d : Dev) (w : Word) (status reason : Nat) {a : Nat} (h : a ≠ R.CNY_CMD) : (d.cnyDone w status reason).reg a = d.reg a := by
  rw [Dev.cnyDone, Dev.reg_setReg_ne _ _ _ _ h]

theorem Dev.cnyCmd_commission (d : Dev) : d.cnyCmd 1 = d.commission 1 := rfl
theorem Dev.cnyCmd_clear (d : Dev) : d.cnyCmd 2 = d.cnyClear 2 := rfl

theorem Dev.commission_taken (d : Dev) (w : Word) (hstate : d.inState [.armed, .ranging, .held] = true) (hmode : d.safetyMode ≠ 0) (hsw : d.cny.sw % 2 = 1)
    (hcomm : d.cny.comm = none) (hvalid : blockValid (blockBytes d.workWords) = true) (hconfirm : d.reg R.CNY_COMM_CONFIRM = d.reg R.CNY_CHECK_COMPUTED) :
    d.commission w = (d.onCny (fun c => { c with comm := some d.commRecord })).cnyDone w 3 0 := by
  rw [Dev.commission, if_neg (by simp [hstate, hmode]), if_neg (by omega), if_neg (by simp [hcomm]), if_neg (by simp [hvalid]), if_neg (not_not_intro hconfirm)]

theorem Dev.commission_unsealed (d : Dev) (w : Word) (hstate : d.inState [.armed, .ranging, .held] = true) (hmode : d.safetyMode ≠ 0) (hsw : d.cny.sw % 2 = 0) :
    d.commission w = d.cnyDone w 2 2 := by
  simp only [Dev.commission, hstate, hmode, hsw]
  rfl

theorem Dev.cnyClear_ends (d : Dev) (w : Word) (x : Nat) (hlocks : d.cny.locks = [x]) (hcleared : d.faultCleared x = true) :
    d.cnyClear w = ((d.onCny (fun c => { c with locks := [] })).safetyFollow).cnyDone w 1 0 := by
  simp [Dev.cnyClear, hlocks, hcleared]

theorem Dev.cnyClear_rejected (d : Dev) (w : Word) (x : Nat) (hlocks : d.cny.locks = [x]) (hopen : d.faultCleared x = false) :
    d.cnyClear w = d.cnyDone w 2 6 := by
  simp [Dev.cnyClear, hlocks, hopen]

/-- The record is made of what a write's journaling leaves. -/
theorem Dev.accepted_commRecord (d : Dev) (src a : Nat) (w : Word) : (d.accepted src a w).commRecord = d.commRecord := by
  have htag (i : Nat) (hi : i < 8) : (d.accepted src a w).reg (R.CNY_COMM_TAG i) = d.reg (R.CNY_COMM_TAG i) :=
    d.accepted_reg src a w (by show 0x270020 + 0x4 * i < 0x2A0104; omega)
  have htags : (List.range 8).flatMap (fun i => leBytes 4 ((d.accepted src a w).reg (R.CNY_COMM_TAG i)).toNat) =
      (List.range 8).flatMap (fun i => leBytes 4 (d.reg (R.CNY_COMM_TAG i)).toNat) :=
    List.flatMap_congr fun i hi => by rw [htag i (List.mem_range.mp hi)]
  have hhead : (d.accepted src a w).commHead = d.commHead := by
    simp only [Dev.commHead, Dev.devId, Dev.time, htags, Dev.accepted_cny, Dev.accepted_boot, Dev.accepted_clk]
    rw [Dev.accepted_fld _ _ _ _ (by decide), Dev.accepted_reg _ _ _ _ (by decide), Dev.accepted_reg _ _ _ _ (by decide), Dev.accepted_reg _ _ _ _ (by decide)]
  simp only [Dev.commRecord, hhead]

/-- The record is programmed: it is the device's, and what it confirms is shown. -/
def Dev.commissioned (d : Dev) (r : List Byte) : Dev :=
  ((({ d.onCny (fun c => { c with comm := none }) with boot := { d.boot with commission := r } }.onCny (fun c => { c with commHold := false })).setReg
    R.CNY_CHECK_CONFIRMED (BitVec.ofNat 32 (leAt r 8 4))).setReg R.CNY_COMM_COUNT (BitVec.ofNat 32 (leAt r 24 4))).cnyDone 1 1 0

/-- The record is not programmed: the device has none. -/
def Dev.commissionFailed (d : Dev) : Dev :=
  (({ d.onCny (fun c => { c with comm := none }) with boot := { d.boot with commission := [] } }.onCny
    (fun c => { c with commHold := true, activate := false })).logFault 0x1812 .n).cnyDone 1 2 7

theorem exec_commissionDone_ok (s : State) (t c : Nat) (r : List Byte) (hs : s.dev.top.state ≠ .reset) (hl : s.dev.cny.lost = false)
    (hcomm : s.dev.cny.comm = some r) (hwaits : s.dev.cny.lastWrite.isSome = true) :
    execCommissionDone t c true s = .next { s with dev := ((s.dev.atRc t c).commissioned r).safetyFollow } := by
  have hlast : s.dev.cny.lastWrite.isNone = false := by rw [← Option.not_isSome, hwaits]; rfl
  refine (State.atCny_atRc s t c _ hs hl).trans ?_
  simp only [Dev.atRc_cny, hcomm, if_true]
  rw [if_neg (by simp [hlast])]
  rfl

theorem exec_commissionDone_failed (s : State) (t c : Nat) (r : List Byte) (hs : s.dev.top.state ≠ .reset) (hl : s.dev.cny.lost = false)
    (hcomm : s.dev.cny.comm = some r) :
    execCommissionDone t c false s = .next { s with dev := (s.dev.atRc t c).commissionFailed.safetyFollow } := by
  refine (State.atCny_atRc s t c _ hs hl).trans ?_
  simp only [Dev.atRc_cny, hcomm, Bool.false_eq_true, if_false]
  rfl

/-- Settles O49. -/
theorem canaryParametersComplete : Obligations.CanaryParametersComplete := by
  unfold Obligations.CanaryParametersComplete
  refine ⟨?cnyParamWrite, ?cnyParamWriteIgnored, ?checkRecompute, ?checkRecomputeFails, ?checkRecomputeEarly, ?commission, ?commissionRejected,
    ?commissionDone, ?commissionFails, ?cnyClear, ?cnyClearRejected⟩
  case cnyParamWrite =>
    intro s src t c n v halive hstate hcomm hn
    refine ⟨_, (State.atTick_alive s t _ halive : execCnyParamWrite src t c (0x278000 + 4 * n) v s = _), ?_⟩
    rw [Dev.paramWrite_taken _ src n v (by simpa) (by simpa) (by simpa) hn]
    refine ⟨?_, ?_, ?_, ?_, ?_, ?_, writeTaken_answer s src _ ?_⟩
    · rw [Dev.onReq_reg, Dev.safetyFollow_reg _ (not_mem_inhibitRegs (by show 0x50008 < 0x278000 + 4 * n; omega)), Dev.onCny_reg, Dev.reg_setReg_self]
    · rw [Dev.onReq_cny, Dev.safetyFollow_cny]; simp
    · rw [Dev.onReq_cny, Dev.safetyFollow_cny]; simp
    · rw [Dev.onReq_cny, Dev.safetyFollow_cny]; simp
    · rw [Dev.onReq_cny, Dev.safetyFollow_cny]; simp
    · simp
    · simp
  case cnyParamWriteIgnored =>
    intro s src t c n v r halive hstate hcomm hn
    refine ⟨_, (State.atTick_alive s t _ halive : execCnyParamWrite src t c (0x278000 + 4 * n) v s = _), ?_⟩
    rw [Dev.paramWrite_ignored _ src n v r (by simpa) (by simpa) (by simpa) hn]
    refine ⟨?_, ?_, ?_, ?_, ?_, rfl, rfl, rfl, rfl⟩
    · rw [Dev.reg_setBit_ne _ _ _ _ _ (by show 0x278000 + 4 * n ≠ 0x270000; omega), Dev.onReq_reg, Dev.reg_of_regs (Dev.journal_regs ..)]
      exact (Dev.reg_setFld_ne _ (R.MGT_CNT_WR src) _ 31 0 _ (by show 0x278000 + 4 * n ≠ 0x2A0104 + 0x8 * src; omega)).trans (by simp)
    · exact Dev.rbit_setBit_self _ _ _ _ (by decide)
    · simp
    · simp
    · rw [Dev.req_of_mgt (Dev.setBit_mgt ..), Dev.req_onReq_self]
  case checkRecompute =>
    intro s t c w hs hl hw hdue hmode
    refine ⟨_, (State.atCny_atRc s t c _ hs hl : execCheckRecompute t c s = _), ?_⟩
    have hdue' : w + rcMs 1 ≤ Nat.max s.dev.cny.rc c := by rw [rcMs]; omega
    simp only [Dev.atRc_cny, hw, hdue', if_true, Dev.paramJudge_off (s.dev.atRc t c) true (by simpa [Dev.safetyMode] using hmode)]
    simp [sameMemory]
  case checkRecomputeFails =>
    intro s t c w hs hl hw hdue hmode huncomm hroom
    refine ⟨_, (State.atCny_atRc s t c _ hs hl : execCheckRecompute t c s = _), ?_⟩
    have hdue' : w + rcMs 1 ≤ Nat.max s.dev.cny.rc c := by rw [rcMs]; omega
    simp only [Dev.atRc_cny, hw, hdue', if_true, Dev.paramJudge_uncommissioned (s.dev.atRc t c) (by simpa [Dev.safetyMode] using hmode) (by simpa)]
    rw [Dev.logFault_cny, Dev.safetyFollow_cny, Dev.logFault_top _ _ _ _ _ (by decide), Dev.logFault_reg_of _ _ _ _ _ (by decide),
      Dev.safetyFollow_reg _ (by decide), Dev.logFault_logged _ _ _ _ _ ((Dev.faultRoom_of_log (by simp) _).trans hroom)]
    simp [sameMemory]
  case checkRecomputeEarly =>
    intro s t c w hs hl hw hearly
    refine ⟨_, (State.atCny_atRc s t c _ hs hl : execCheckRecompute t c s = _), ?_⟩
    have hnot : ¬ w + rcMs 1 ≤ Nat.max s.dev.cny.rc c := by rw [rcMs]; omega
    simp only [Dev.atRc_cny, hw, hnot, if_false]
    simp [sameMemory]
  case commission =>
    intro s src t hcmd hstate hmode hsw hcomm hvalid hconfirm
    refine ⟨_, (s.cmdWrite_taken src t _ _ _ hcmd : execCommission src t s = _), ?_⟩
    rw [Dev.cnyCmd_commission, Dev.commission_taken _ _ (by simpa [Dev.inState] using hstate) (by simpa [Dev.safetyMode] using hmode) (by simpa using hsw) (by simpa using hcomm)
      (by rw [Dev.accepted_workWords, Dev.advanceTo_workWords, hvalid])
      (by rw [Dev.accepted_reg _ _ _ _ (by decide), Dev.accepted_reg _ _ _ _ (by decide), Dev.advanceTo_reg, Dev.advanceTo_reg, hconfirm]), Dev.accepted_commRecord]
    refine ⟨?_, ?_, ?_, writeTaken_answer s src _ ?_⟩
    · simp
    · simp
    · rw [Dev.onReq_fld, Dev.cnyDone_status]; decide
    · simp
  case commissionRejected =>
    intro s src t hcmd hstate hmode hsw
    refine ⟨_, (s.cmdWrite_taken src t _ _ _ hcmd : execCommission src t s = _), ?_⟩
    rw [Dev.cnyCmd_commission, Dev.commission_unsealed _ _ (by simpa [Dev.inState] using hstate) (by simpa [Dev.safetyMode] using hmode) (by simpa)]
    refine ⟨?_, ?_, ?_, writeTaken_answer s src _ ?_⟩
    · simp
    · rw [Dev.onReq_fld, Dev.cnyDone_status]; decide
    · rw [Dev.onReq_fld, Dev.cnyDone_reason]; decide
    · simp
  case commissionDone =>
    intro s t c r hs hl hcomm hwaits
    refine ⟨_, exec_commissionDone_ok s t c r hs hl hcomm hwaits, ?_⟩
    rw [Dev.safetyFollow_cny, Dev.safetyFollow_reg _ (by decide), Dev.safetyFollow_reg _ (by decide), Dev.safetyFollow_fld _ (by decide), Dev.commissioned,
      Dev.cnyDone_reg _ _ _ _ (by decide), Dev.cnyDone_reg _ _ _ _ (by decide), Dev.reg_setReg_self, Dev.reg_setReg_ne _ _ _ _ (by decide),
      Dev.reg_setReg_self, Dev.cnyDone_status]
    simp [sameMemory]
    decide
  case commissionFails =>
    intro s t c r hs hl hcomm hroom
    refine ⟨_, exec_commissionDone_failed s t c r hs hl hcomm, ?_⟩
    have hlogged : ((s.dev.atRc t c).commissionFailed).logged 0x1812 = true := by
      rw [Dev.commissionFailed, Dev.logged_of_log (congrArg (·.log) (Dev.cnyDone_flg ..))]
      exact Dev.logFault_logged _ _ _ _ _ ((Dev.faultRoom_of_log (by simp) _).trans hroom)
    rw [Dev.safetyFollow_cny, Dev.safetyFollow_fld _ (by decide), Dev.safetyFollow_fld _ (by decide), Dev.safetyFollow_boot,
      Dev.logged_of_log (congrArg (·.log) (Dev.safetyFollow_flg _)), hlogged, Dev.safetyFollow_top, Dev.commissionFailed, Dev.cnyDone_status, Dev.cnyDone_reason]
    simp [sameMemory, Dev.logFault_top_state]
    decide
  case cnyClear =>
    intro s src t x hcmd hlocks hcleared
    refine ⟨_, (s.cmdWrite_taken src t _ _ _ hcmd : execCnyClear src t s = _), ?_⟩
    rw [Dev.cnyCmd_clear, Dev.cnyClear_ends _ _ x (by simpa) (by simpa [Dev.faultCleared] using hcleared)]
    refine ⟨?_, ?_, ?_, writeTaken_answer s src _ ?_⟩
    · simp only [Dev.onReq_cny, Dev.cnyDone_cny]
      rw [Dev.safetyFollow_cny]
      simp
    · simp
    · rw [Dev.onReq_fld, Dev.cnyDone_status]; decide
    · simp
  case cnyClearRejected =>
    intro s src t x hcmd hlocks hopen
    refine ⟨_, (s.cmdWrite_taken src t _ _ _ hcmd : execCnyClear src t s = _), ?_⟩
    rw [Dev.cnyCmd_clear, Dev.cnyClear_rejected _ _ x (by simpa) (by simpa [Dev.faultCleared] using hopen)]
    refine ⟨?_, ?_, ?_, writeTaken_answer s src _ ?_⟩
    · simp
    · rw [Dev.onReq_fld, Dev.cnyDone_status]; decide
    · rw [Dev.onReq_fld, Dev.cnyDone_reason]; decide
    · simp

end Sys2Proof.Machine
end

section
/-! PROOF. Hoist (chapter 16): the bytes of DRAM, what a column command leaves unchanged, and a burst that reads good. -/
namespace Sys2Proof.Machine

/-! The bytes of DRAM. -/

theorem dramBytes_succ (m : List Host.Cell) (a n : Nat) : dramBytes m a (n + 1) = spGet dramDflt m a :: dramBytes m (a + 1) n := by
  have hb := (spGet dramDflt m a).isLt
  have hhead : BitVec.ofNat 8 (dramLe m a (n + 1)) = spGet dramDflt m a := by
    apply BitVec.eq_of_toNat_eq
    rw [BitVec.toNat_ofNat, dramLe]
    omega
  have htail : dramLe m a (n + 1) / 256 = dramLe m (a + 1) n := by
    rw [dramLe]
    omega
  rw [dramBytes, leBytes, hhead, htail, dramBytes]

@[simp] theorem length_leBytes (n v : Nat) : (leBytes n v).length = n := by
  induction n generalizing v with
  | zero => rfl
  | succ n ih => rw [leBytes, List.length_cons, ih]

@[simp] theorem length_dramBytes (m : List Host.Cell) (a n : Nat) : (dramBytes m a n).length = n := length_leBytes n _

theorem getElem_dramBytes (m : List Host.Cell) (a n i : Nat) (h : i < (dramBytes m a n).length) :
    (dramBytes m a n)[i] = spGet dramDflt m (a + i) := by
  induction n generalizing a i with
  | zero => exact absurd h (Nat.not_lt_zero i)
  | succ n ih =>
    cases i with
    | zero => simp [dramBytes_succ]
    | succ i =>
      simp only [dramBytes_succ, List.getElem_cons_succ]
      rw [ih, show a + 1 + i = a + (i + 1) by omega]

theorem dramBytes_append (m : List Host.Cell) (a n k : Nat) : dramBytes m a (n + k) = dramBytes m a n ++ dramBytes m (a + n) k := by
  refine List.ext_getElem (by simp) fun i h _ => ?_
  rw [getElem_dramBytes, List.getElem_append]
  split
  · rw [getElem_dramBytes]
  · next hi =>
    rw [length_dramBytes] at hi
    rw [getElem_dramBytes, length_dramBytes, show a + n + (i - n) = a + i by omega]

/-- A range of a range of bytes. -/
theorem take_drop_dramBytes (m : List Host.Cell) (a n k j : Nat) (h : k + j ≤ n) : ((dramBytes m a n).drop k).take j = dramBytes m (a + k) j := by
  refine List.ext_getElem (by simp; omega) fun i _ _ => ?_
  simp only [List.getElem_take, List.getElem_drop, getElem_dramBytes, Nat.add_assoc]

theorem ofLe_dramBytes (m : List Host.Cell) (n : Nat) : ∀ a : Nat, ofLe (dramBytes m a n) = dramLe m a n := by
  induction n with
  | zero => intro a; rfl
  | succ n ih => intro a; rw [dramBytes_succ, ofLe, ih, dramLe]

theorem leAt_dramBytes (m : List Host.Cell) (a n k j : Nat) (h : k + j ≤ n) : leAt (dramBytes m a n) k j = dramLe m (a + k) j := by
  rw [leAt, take_drop_dramBytes m a n k j h, ofLe_dramBytes]

/-- A byte written reads back. -/
theorem spGet_dramSetBytes_in (l : List Byte) : ∀ (m : List Host.Cell) (a i : Nat) (h : i < l.length),
    spGet dramDflt (dramSetBytes m a l) (a + i) = l[i] := by
  induction l with
  | nil => intro m a i h; exact absurd h (Nat.not_lt_zero i)
  | cons b r ih =>
    intro m a i h
    cases i with
    | zero =>
      rw [dramSetBytes, spGet_dramSetBytes_out r _ _ _ (by omega)]
      exact spGet_spSet_self dramDflt m a b
    | succ i =>
      have hrest := ih (spSet dramDflt m a b) (a + 1) i (by simpa using h)
      rw [dramSetBytes, show a + (i + 1) = a + 1 + i by omega, hrest, List.getElem_cons_succ]

/-- The bytes inside a range written. -/
theorem dramBytes_dramSetBytes (m : List Host.Cell) (a k n : Nat) (l : List Byte) (h : k + n ≤ l.length) :
    dramBytes (dramSetBytes m a l) (a + k) n = (l.drop k).take n := by
  refine List.ext_getElem (by simp; omega) fun i hi _ => ?_
  rw [length_dramBytes] at hi
  rw [getElem_dramBytes, show a + k + i = a + (k + i) by omega, spGet_dramSetBytes_in l m a (k + i) (by omega)]
  simp

theorem dramBytes_dramSetBytes_out (m : List Host.Cell) (a b n : Nat) (l : List Byte) (h : b + n ≤ a ∨ a + l.length ≤ b) :
    dramBytes (dramSetBytes m a l) b n = dramBytes m b n := by
  refine List.ext_getElem (by simp) fun i hi _ => ?_
  rw [length_dramBytes] at hi
  rw [getElem_dramBytes, getElem_dramBytes, spGet_dramSetBytes_out _ _ _ _ (by omega)]

/-- The bytes of a word some of which are replaced. -/
def mergedWord (word : List Byte) (k : Nat) (l : List Byte) : List Byte := word.take k ++ l ++ word.drop (k + l.length)

/-- Writing a DRAM word some of whose bytes are replaced changes those only. -/
theorem spGet_dramSetBytes_merged (m : List Host.Cell) (a k n : Nat) (l : List Byte) (h : k + l.length ≤ n) (x : Nat)
    (hx : x < a + k ∨ a + k + l.length ≤ x) : spGet dramDflt (dramSetBytes m a (mergedWord (dramBytes m a n) k l)) x = spGet dramDflt m x := by
  have hlen : (mergedWord (dramBytes m a n) k l).length = n := by
    simp only [mergedWord, List.length_append, List.length_take, length_dramBytes, List.length_drop]
    omega
  by_cases hin : a ≤ x ∧ x < a + n
  · obtain ⟨i, rfl⟩ := Nat.exists_eq_add_of_le hin.1
    rw [spGet_dramSetBytes_in _ _ _ i (by omega)]
    simp only [mergedWord]
    rcases hx with hx | hx
    · rw [List.getElem_append_left (by simp; omega), List.getElem_append_left (by simp; omega), List.getElem_take, getElem_dramBytes]
    · rw [List.getElem_append_right (by simp; omega), List.getElem_drop, getElem_dramBytes]
      simp only [List.length_append, List.length_take, length_dramBytes]
      congr 1
      omega
  · exact spGet_dramSetBytes_out _ _ _ _ (by omega)

theorem dramBytes_merged (m m' : List Host.Cell) (a k n : Nat) (l : List Byte) (h : k + l.length ≤ n) :
    dramBytes (dramSetBytes m a (mergedWord (dramBytes m' a n) k l)) (a + k) l.length = l := by
  rw [dramBytes_dramSetBytes _ _ _ _ _ (by simp [mergedWord]; omega), mergedWord, List.append_assoc,
    List.drop_append_of_le_length (by simp; omega), List.drop_of_length_le (by simp), List.nil_append, List.take_left']
  rfl

/-! Column commands (R327 to R331). -/

/-- The registers that a column command changes. -/
def issueRegs : List Nat :=
  [R.HOI_STATUS, R.HOI_CH_STATUS 0, R.HOI_CH_STATUS 1, R.HOI_CNT_RH_REFRESH 0, R.HOI_CNT_RH_REFRESH 0 + 4, R.HOI_CNT_RH_REFRESH 1,
    R.HOI_CNT_RH_REFRESH 1 + 4]

/-- What the commands on the DRAM bus leave: they change the channels' state, free values and `issueRegs`; of HOI_STATUS
bit 5 only, and of a channel nothing of its last logged round. -/
def Dev.IssueOf (d d' : Dev) : Prop :=
  (∃ r c chs, d' = { d with regs := r, freeCtr := c, hoi := { d.hoi with chs := chs } }) ∧
  (∀ a ∉ issueRegs, d'.reg a = d.reg a) ∧
  (∀ m l, m < 32 → l ≤ m → m < 5 ∨ 5 < l → d'.fld R.HOI_STATUS m l = d.fld R.HOI_STATUS m l) ∧
  ∀ k, (d'.hoiCh k).logged = (d.hoiCh k).logged

theorem Dev.IssueOf.refl (d : Dev) : d.IssueOf d := ⟨⟨_, _, _, rfl⟩, fun _ _ => rfl, fun _ _ _ _ _ => rfl, fun _ => rfl⟩

theorem Dev.IssueOf.trans {d e f : Dev} (h : d.IssueOf e) (h' : e.IssueOf f) : d.IssueOf f := by
  obtain ⟨⟨_, _, _, rfl⟩, hreg, hfld, hch⟩ := h
  obtain ⟨⟨_, _, _, rfl⟩, hreg', hfld', hch'⟩ := h'
  exact ⟨⟨_, _, _, rfl⟩, fun a ha => (hreg' a ha).trans (hreg a ha),
    fun m l hm hl ho => (hfld' m l hm hl ho).trans (hfld m l hm hl ho), fun k => (hch' k).trans (hch k)⟩

@[simp] theorem Dev.hoiCh_onHoiCh_self (d : Dev) (n : Nat) (f : HoiCh → HoiCh) : (d.onHoiCh n f).hoiCh n = f (d.hoiCh n) := by
  simp [Dev.hoiCh, Dev.onHoiCh]

theorem Dev.hoiCh_onHoiCh_ne (d : Dev) (n k : Nat) (f : HoiCh → HoiCh) (h : k ≠ n) : (d.onHoiCh n f).hoiCh k = d.hoiCh k :=
  mgetD_mput_ne _ _ _ _ _ h

theorem Dev.hoiCh_of_chs {d d' : Dev} (h : d'.hoi.chs = d.hoi.chs) (n : Nat) : d'.hoiCh n = d.hoiCh n := by rw [Dev.hoiCh, h, Dev.hoiCh]

theorem Dev.onHoiCh_issue (d : Dev) (n : Nat) (f : HoiCh → HoiCh) (h : ∀ c, (f c).logged = c.logged) : d.IssueOf (d.onHoiCh n f) := by
  refine ⟨⟨_, _, _, rfl⟩, fun _ _ => rfl, fun _ _ _ _ _ => rfl, fun k => ?_⟩
  by_cases hk : k = n
  · subst hk
    rw [Dev.hoiCh_onHoiCh_self, h]
  · rw [Dev.hoiCh_onHoiCh_ne _ _ _ _ hk]

theorem Dev.drew_issue (d : Dev) : d.IssueOf d.drew := ⟨⟨_, _, _, rfl⟩, fun _ _ => rfl, fun _ _ _ _ _ => rfl, fun _ => rfl⟩

/-- A field of a channel's status register is changed. -/
theorem Dev.setChStatus_issue (d : Dev) {n : Nat} (hn : n < 2) (m l v : Nat) : d.IssueOf (d.setFld (R.HOI_CH_STATUS n) m l v) := by
  have hmem : R.HOI_CH_STATUS n ∈ issueRegs := by
    rcases (by omega : n = 0 ∨ n = 1) with rfl | rfl <;> simp [issueRegs]
  have hstatus : R.HOI_STATUS ≠ R.HOI_CH_STATUS n := by
    show (0x250004 : Nat) ≠ 0x25010C + 0x100 * n
    omega
  exact ⟨⟨_, _, _, rfl⟩, fun a ha => d.reg_setFld_ne _ a m l v (fun hab => ha (hab ▸ hmem)),
    fun m' l' _ _ _ => d.fld_setFld_ne _ _ m' l' m l v hstatus, fun _ => rfl⟩

theorem Dev.setSelfRefresh_issue (d : Dev) (x : Bool) : d.IssueOf (d.setBit R.HOI_STATUS 5 x) :=
  ⟨⟨_, _, _, rfl⟩, fun a ha => d.reg_setBit_ne _ a 5 x (fun hab => ha (hab ▸ List.mem_cons_self)),
    fun m l hm hl ho => d.fld_setFld_other R.HOI_STATUS m l 5 5 _ hm hl (le_refl 5) ho, fun _ => rfl⟩

theorem Dev.incRhRefresh_issue (d : Dev) {n : Nat} (hn : n < 2) : d.IssueOf (d.inc64 (R.HOI_CNT_RH_REFRESH n) 1) := by
  have hmem : R.HOI_CNT_RH_REFRESH n ∈ issueRegs ∧ R.HOI_CNT_RH_REFRESH n + 4 ∈ issueRegs := by
    rcases (by omega : n = 0 ∨ n = 1) with rfl | rfl <;> simp [issueRegs]
  have hstatus : R.HOI_STATUS ≠ R.HOI_CNT_RH_REFRESH n ∧ R.HOI_STATUS ≠ R.HOI_CNT_RH_REFRESH n + 4 := by
    show (0x250004 : Nat) ≠ 0x250150 + 0x100 * n ∧ (0x250004 : Nat) ≠ 0x250150 + 0x100 * n + 4
    omega
  exact ⟨⟨_, _, _, rfl⟩, fun a ha => d.reg_inc64_ne _ a 1 (fun hab => ha (hab ▸ hmem.1)) (fun hab => ha (hab ▸ hmem.2)),
    fun m l _ _ _ => Dev.fld_of_reg (d.reg_inc64_ne _ _ 1 hstatus.1 hstatus.2) m l, fun _ => rfl⟩

theorem Dev.retryPut_issue (d : Dev) (n sub rank : Nat) : d.IssueOf (d.retryPut n sub rank) :=
  d.drew_issue.trans (Dev.onHoiCh_issue _ _ _ fun _ => rfl)

theorem Dev.rhActivate_issue (d : Dev) {n : Nat} (hn : n < 2) (bank row : Nat) : d.IssueOf (d.rhActivate n bank row) := by
  unfold Dev.rhActivate
  split
  · exact .refl d
  · by_cases hk : d.fld R.HOI_RH_CFG 13 0 ≤ (rhCount (mgetD (d.hoiCh n).rh bank []) row).2
    · simp only [hk, if_true]
      refine Dev.IssueOf.trans ?_ (Dev.incRhRefresh_issue _ hn)
      exact d.onHoiCh_issue n _ fun _ => rfl
    · simp only [hk, if_false]
      exact d.onHoiCh_issue n _ fun _ => rfl

theorem Dev.tagTouch_issue (d : Dev) {n : Nat} (hn : n < 2) (b : Nat) (write : Bool) : d.IssueOf (d.tagTouch n b write) := by
  unfold Dev.tagTouch
  split
  · exact .refl d
  · refine Dev.IssueOf.trans ?_ (Dev.setChStatus_issue _ hn 15 8 _)
    exact d.drew_issue.trans (Dev.onHoiCh_issue d.drew n _ fun _ => rfl)

theorem Dev.srExit_issue (d : Dev) {n : Nat} (hn : n < 2) : d.IssueOf (d.srExit n) :=
  (d.setChStatus_issue hn _ _ _).trans (Dev.setSelfRefresh_issue _ _)

theorem chanOf_lt (a : Nat) : chanOf a < 2 := Nat.mod_lt _ (by decide)

/-- A column command of a channel that neither recovers nor counts activates is given. -/
theorem Dev.burstIssue_given (d : Dev) (a : Nat) (write : Bool) (hr : (d.hoiCh (chanOf a)).recovery = none) (hrh : d.rbit R.HOI_RH_CFG 16 = false) :
    ∃ d', d.burstIssue a write = some d' ∧ d.IssueOf d' := by
  have hn := chanOf_lt a
  have hfull : d.rhFull (chanOf a) (d.locOf a).bank (d.locOf a).row = false := by simp [Dev.rhFull, hrh]
  simp only [Dev.burstIssue, hr, hfull, Option.isSome_none, Bool.false_eq_true, if_false, Bool.and_false]
  refine ⟨_, rfl, ?_⟩
  refine .trans (.trans (.trans ((d.srExit_issue hn).trans ?_) (Dev.retryPut_issue _ _ _ _)) (Dev.tagTouch_issue _ hn _ _)) (Dev.onHoiCh_issue _ _ _ fun _ => rfl)
  split
  · exact .refl _
  · split
    · exact ((Dev.retryPut_issue _ _ _ _).trans (Dev.retryPut_issue _ _ _ _)).trans (Dev.rhActivate_issue _ hn _ _)
    · exact (Dev.retryPut_issue _ _ _ _).trans (Dev.rhActivate_issue _ hn _ _)

/-! What a column command leaves of Hoist. -/

section
variable {d d' : Dev} (h : d.IssueOf d')
include h

theorem Dev.IssueOf.top : d'.top = d.top := by obtain ⟨⟨_, _, _, rfl⟩, -⟩ := h; rfl
theorem Dev.IssueOf.flg : d'.flg = d.flg := by obtain ⟨⟨_, _, _, rfl⟩, -⟩ := h; rfl
theorem Dev.IssueOf.fmn : d'.fmn = d.fmn := by obtain ⟨⟨_, _, _, rfl⟩, -⟩ := h; rfl
theorem Dev.IssueOf.mgt : d'.mgt = d.mgt := by obtain ⟨⟨_, _, _, rfl⟩, -⟩ := h; rfl
theorem Dev.IssueOf.hoistFailed : d'.hoistFailed = d.hoistFailed := by rw [Dev.hoistFailed, h.top, Dev.hoistFailed]
theorem Dev.IssueOf.tagOf (b : Nat) : d'.tagOf b = d.tagOf b := by obtain ⟨⟨_, _, _, rfl⟩, -⟩ := h; rfl
theorem Dev.IssueOf.epoch8 : d'.epoch8 = d.epoch8 := Dev.fld_of_reg (h.2.1 _ (by decide)) _ _

theorem Dev.IssueOf.hoistServing : d'.hoistServing = d.hoistServing := by
  rw [Dev.hoistServing, h.hoistFailed, Dev.rbit, h.2.2.1 0 0 (by decide) (le_refl 0) (by omega), Dev.hoistServing, Dev.rbit]

theorem Dev.IssueOf.chBytes : d'.chBytes 0 = d.chBytes 0 := by
  have hgeom : d'.reg (R.HOI_CH_GEOM 0) = d.reg (R.HOI_CH_GEOM 0) := h.2.1 _ (by decide)
  simp only [Dev.chBytes, Dev.geom, hgeom]

theorem Dev.IssueOf.hoistBytes : d'.hoistBytes = d.hoistBytes := by
  have hddr : d'.ddr5 = d.ddr5 := by rw [Dev.ddr5, h.2.2.1 9 8 (by decide) (by decide) (by omega), Dev.ddr5]
  rw [Dev.hoistBytes, h.chBytes, hddr, Dev.hoistBytes]

theorem Dev.IssueOf.wordPoison (w : Nat) : d'.wordPoison w = d.wordPoison w := by
  rw [Dev.wordPoison, h.hoistFailed, h.tagOf, h.epoch8, Dev.wordPoison]

end

/-! Requests, and bursts that read good (R248, R321, R322). -/

theorem Dev.admitWords_served (d : Dev) (act n : Nat) (h : n ≤ d.actLeft act) : d.admitWords act n = (d.charge act n, true) := by
  simp [Dev.admitWords, Dev.tryServe, h]

/-- A burst in force whose tag and codewords are good is delivered without poison. -/
theorem Dev.judgeBurst_good (d : Dev) (a : Nat) (window : Bool) (g : DTag) (hg : d.tagOf (a / 64) = some g) (he : g.epoch = d.epoch8)
    (h0 : g.p0 = false) (h1 : g.p1 = false) : d.judgeBurst a 0 0 false window = (d, false, false) := by
  simp [Dev.judgeBurst, hg, he, h0, h1]

/-- The device after a burst has been read: its bytes and its poison marks. -/
def Dev.delivered (d : Dev) (l : List Byte) (p : Bool × Bool) : Dev := { d with hoi := { d.hoi with last := l, lastPoison := p } }

/-- What a burst read finds of Hoist: it serves, its channel gives commands, and the burst is inside the memory. -/
structure Dev.Reads (d : Dev) (a : Nat) : Prop where
  serving : d.hoistServing = true
  good : d.hoistFailed = false
  calm : (d.hoiCh (chanOf a)).recovery = none
  uncounted : d.rbit R.HOI_RH_CFG 16 = false
  inside : a < d.hoistBytes

/-- The tag of the burst at `a` is in force and marks no poison. -/
def Dev.GoodTag (d : Dev) (a : Nat) (g : DTag) : Prop := d.tagOf (a / 64) = some g ∧ g.epoch = d.epoch8 ∧ g.p0 = false ∧ g.p1 = false

theorem Dev.Reads.of_le {d : Dev} {a b : Nat} (h : d.Reads a) (hc : chanOf b = chanOf a) (hb : b ≤ a) : d.Reads b :=
  ⟨h.serving, h.good, hc ▸ h.calm, h.uncounted, Nat.lt_of_le_of_lt hb h.inside⟩

theorem Dev.Reads.burst {d : Dev} {a : Nat} (h : d.Reads a) : d.Reads (a / 64 * 64) :=
  h.of_le (by simp only [chanOf]; omega) (by omega)

theorem Dev.Reads.word {d : Dev} {a : Nat} (h : d.Reads a) : d.Reads (a / 32 * 32) :=
  h.of_le (by simp only [chanOf]; omega) (by omega)

theorem Dev.GoodTag.burst {d : Dev} {a : Nat} {g : DTag} (h : d.GoodTag a g) : d.GoodTag (a / 64 * 64) g := by
  rw [Dev.GoodTag, show a / 64 * 64 / 64 = a / 64 by omega]
  exact h

theorem Dev.GoodTag.word {d : Dev} {a : Nat} {g : DTag} (h : d.GoodTag a g) : d.GoodTag (a / 32 * 32) g := by
  rw [Dev.GoodTag, show a / 32 * 32 / 64 = a / 64 by omega]
  exact h

theorem State.burstRead_good (s : State) (act a : Nat) (g : DTag) (h : s.dev.Reads (a / 64 * 64)) (hl : 2 ≤ s.dev.actLeft act)
    (hg : s.dev.GoodTag (a / 64 * 64) g) :
    ∃ d', (s.dev.charge act 2).IssueOf d' ∧ s.burstRead act a 0 0 false =
      ({ s with dev := d'.delivered (dramBytes s.dram (a / 64 * 64) 32 ++ dramBytes s.dram (a / 64 * 64 + 32) 32) (false, false) }, true) := by
  obtain ⟨hserving, hgood, hcalm, huncounted, hinside⟩ := h
  obtain ⟨htag, hepoch, hp0, hp1⟩ := hg
  obtain ⟨d', hissue, hof⟩ := (s.dev.charge act 2).burstIssue_given (a / 64 * 64) false hcalm huncounted
  refine ⟨d', hof, ?_⟩
  have hjudge := d'.judgeBurst_good (a / 64 * 64) (act == 18) g ((hof.tagOf _).trans htag) (hepoch.trans hof.epoch8.symm) hp0 hp1
  simp only [State.burstRead, hgood, hserving, Nat.not_le.mpr hinside, Dev.admitWords_served _ _ _ hl, hissue, hjudge, Bool.not_true,
    Bool.false_eq_true, if_false, Dev.delivered]

/-- The tag that a merged write of the burst of DRAM word `w` leaves. -/
def Dev.freshTag (d : Dev) (w : Nat) : DTag := { lo := w / 2, hi := w / 2 + 1, epoch := d.epoch8 }

theorem State.dramPutWord_good (s : State) (w : Nat) (bytes : List Byte) (hs : s.dev.hoistServing = true) (hw : 32 * w < s.dev.hoistBytes)
    (ho : s.dev.wordPoison (if w % 2 = 0 then w + 1 else w - 1) = false) :
    s.dramPutWord w bytes false = { s with dram := dramSetBytes s.dram (32 * w) bytes, dev := s.dev.putTag (s.dev.freshTag w) } := by
  have hb : ¬ s.dev.hoistBytes ≤ 32 * w := Nat.not_le.mpr hw
  simp only [State.dramPutWord, hs, hb, ho, Dev.freshTag, Bool.not_true, Bool.false_or, decide_false, Bool.false_eq_true, if_false, ite_self]

theorem Dev.wordPoison_good (d : Dev) (w : Nat) (g : DTag) (hf : d.hoistFailed = false) (ht : d.tagOf (w / 2) = some g) (he : g.epoch = d.epoch8)
    (h0 : g.p0 = false) (h1 : g.p1 = false) : d.wordPoison w = false := by
  simp [Dev.wordPoison, hf, ht, he, h0, h1]

/-- The write-backs of a burst that is written are cancelled (R323). -/
def Dev.noWriteBack (d : Dev) (a : Nat) : Dev := d.onHoiCh (chanOf a) (fun c => { c with wb := c.wb.filter (· != a / 64) })

theorem Dev.noWriteBack_issue (d : Dev) (a : Nat) : d.IssueOf (d.noWriteBack a) := d.onHoiCh_issue _ _ fun _ => rfl

/-- A merged write of a word of a good burst. -/
theorem State.burstWrite_merged (s : State) (act a : Nat) (data : List Byte) (g : DTag) (h : s.dev.Reads a) (ha : a % 32 = 0)
    (hl : 4 ≤ s.dev.actLeft act) (hd : data.length = 32) (hg : s.dev.GoodTag a g) :
    ∃ d', (s.dev.charge act 4).IssueOf d' ∧ s.burstWrite act a data false 0 0 =
      ({ s with dram := dramSetBytes s.dram a data, dev := d'.putTag (d'.freshTag (a / 32)) }, true) := by
  obtain ⟨hserving, hgood, hcalm, huncounted, hinside⟩ := h
  obtain ⟨htag, hepoch, hp0, hp1⟩ := hg
  obtain ⟨d', hissue, hof⟩ := (s.dev.charge act 4).burstIssue_given a true hcalm huncounted
  have hof' := hof.trans (d'.noWriteBack_issue a)
  refine ⟨d'.noWriteBack a, hof', ?_⟩
  have hjudge := d'.judgeBurst_good a (act == 18) g ((hof.tagOf _).trans htag) (hepoch.trans hof.epoch8.symm) hp0 hp1
  have hwhole : decide (64 ≤ data.length) = false := by rw [hd]; rfl
  have hother : (d'.noWriteBack a).wordPoison (if a / 32 % 2 = 0 then a / 32 + 1 else a / 32 - 1) = false := by
    refine Dev.wordPoison_good _ _ g (hof'.hoistFailed.trans hgood) ?_ (hepoch.trans hof'.epoch8.symm) hp0 hp1
    have hburst : (if a / 32 % 2 = 0 then a / 32 + 1 else a / 32 - 1) / 2 = a / 64 := by split <;> omega
    rw [hburst, hof'.tagOf]
    exact htag
  have hword : 32 * (a / 32) = a := by omega
  have hput := State.dramPutWord_good { s with dev := d'.noWriteBack a } (a / 32) data (hof'.hoistServing.trans hserving)
    (by rw [hword]; exact lt_of_lt_of_eq hinside hof'.hoistBytes.symm) hother
  have htake : (data ++ List.replicate 32 0#8).take 32 = data := by rw [List.take_append_of_le_length (by omega), ← hd, List.take_length]
  rw [hword] at hput
  simp only [State.burstWrite, hgood, hserving, Nat.not_le.mpr hinside, hwhole, Dev.admitWords_served _ _ _ hl, hissue, hjudge, htake,
    Bool.false_and, Bool.or_self, Bool.not_true, Bool.false_eq_true, if_false]
  exact congrArg (·, true) hput

end Sys2Proof.Machine
end

section
/-! PROOF. O57: the DRAM window, timeouts and parity errors of management accesses (R424, R431, R432). -/
namespace Sys2Proof.Machine

/-! Hoist as time passes. -/

theorem Dev.advanceTo_parts (d : Dev) (t : Nat) : ∃ n c, d.advanceTo t = { d with now := n, clk := c } := by
  unfold Dev.advanceTo
  split <;> exact ⟨_, _, rfl⟩

theorem Dev.Reads.later {d : Dev} {a : Nat} (h : d.Reads a) (t : Nat) : (d.advanceTo t).Reads a := by
  obtain ⟨n, c, ht⟩ := d.advanceTo_parts t
  rw [ht]
  exact ⟨h.serving, h.good, h.calm, h.uncounted, h.inside⟩

theorem Dev.GoodTag.later {d : Dev} {a : Nat} {g : DTag} (h : d.GoodTag a g) (t : Nat) : (d.advanceTo t).GoodTag a g := by
  obtain ⟨n, c, ht⟩ := d.advanceTo_parts t
  rw [ht]
  exact h

@[simp] theorem Dev.advanceTo_actLeft (d : Dev) (t act : Nat) : (d.advanceTo t).actLeft act = d.actLeft act := by
  obtain ⟨n, c, ht⟩ := d.advanceTo_parts t
  rw [ht]
  rfl

@[simp] theorem Dev.advanceTo_dramAddr (d : Dev) (t src a : Nat) : (d.advanceTo t).dramAddr src a = d.dramAddr src a := by
  obtain ⟨n, c, ht⟩ := d.advanceTo_parts t
  rw [ht]
  rfl

@[simp] theorem Dev.advanceTo_hoistFailed (d : Dev) (t : Nat) : (d.advanceTo t).hoistFailed = d.hoistFailed := by simp [Dev.hoistFailed]
@[simp] theorem Dev.advanceTo_hoistServing (d : Dev) (t : Nat) : (d.advanceTo t).hoistServing = d.hoistServing := by simp [Dev.hoistServing]
@[simp] theorem Dev.advanceTo_hoistBytes (d : Dev) (t : Nat) : (d.advanceTo t).hoistBytes = d.hoistBytes := by
  obtain ⟨n, c, ht⟩ := d.advanceTo_parts t
  rw [ht]
  rfl

@[simp] theorem Dev.advanceTo_dramUnserved (d : Dev) (t : Nat) : (d.advanceTo t).dramUnserved = d.dramUnserved := by simp [Dev.dramUnserved]
@[simp] theorem Dev.advanceTo_req (d : Dev) (t src : Nat) : (d.advanceTo t).req src = d.req src := Dev.req_of_mgt (by simp) src

theorem Dev.noAllocation_of_reg (d : Dev) (h : d.reg (R.FMN_ALLOC 18) = 0#32) : d.dramUnserved = true := by simp [Dev.dramUnserved, h]

/-- Where the window's activity has words left, it has an allocation. -/
theorem Dev.dramUnserved_of_serving (d : Dev) (hs : d.hoistServing = true) (h : d.reg (R.FMN_ALLOC 18) ≠ 0#32) : d.dramUnserved = false := by
  simp [Dev.dramUnserved, hs, h]

theorem Dev.allocated_of_actLeft (d : Dev) (h : 0 < d.actLeft 18) : d.reg (R.FMN_ALLOC 18) ≠ 0#32 := by
  intro h0
  rw [Dev.actLeft, h0] at h
  simp at h

/-! An access of the window (R431). -/

/-- The address of a word of the DRAM window. -/
structure WindowWord (a : Nat) : Prop where
  aligned : a % 4 = 0
  low : 0x40000000 ≤ a
  high : a < 0x80000000

theorem windowWord (n : Nat) (h : n < 2 ^ 28) : WindowWord (0x40000000 + 4 * n) := ⟨by omega, by omega, by omega⟩

theorem Dev.dramAddr_aligned (d : Dev) (src a : Nat) (ha : WindowWord a) : d.dramAddr src a % 4 = 0 := by
  obtain ⟨haligned, hlow, -⟩ := ha
  unfold Dev.dramAddr
  generalize (d.req src).dramWin = page
  omega

section
variable (s : State) (src a : Nat) (h : s.dev.alive = true) (ha : WindowWord a)
include h ha

theorem State.mgtWrite_window (v : Word) (o : Outside) : s.mgtWrite src a v o = s.dramWindowWrite src a v o := by
  obtain ⟨haligned, hlow, hhigh⟩ := ha
  have htop : a ≠ R.TOP_CMD := by simp only [R.TOP_CMD]; omega
  rw [State.mgtWrite, h, if_neg (by decide), if_neg (by omega), if_neg htop, if_neg (by omega), if_neg (by omega), if_neg (by omega),
    if_neg (by omega), if_pos (by omega)]

theorem State.mgtRead_window (o : Outside) : s.mgtRead src a o = s.dramWindowRead src a o := by
  obtain ⟨haligned, hlow, hhigh⟩ := ha
  rw [State.mgtRead, h, if_neg (by decide), if_neg (by omega), if_neg (by omega), if_pos (by omega)]

/-- An access of a word of the window. -/
theorem State.windowAccess (t : Nat) (write : Bool) (v : Word) :
    exec (.dramWindowAccess src t (a) write v {}) s =
      .next { (if write then ({ s with dev := s.dev.advanceTo t } : State).dramWindowWrite src (a) v {}
        else ({ s with dev := s.dev.advanceTo t } : State).dramWindowRead src (a) {}) with pending := s.pending } := by
  have hrange : ¬ (a < 0x40000000 ∨ 0x80000000 ≤ a) := not_or.mpr ⟨Nat.not_lt.mpr ha.low, Nat.not_le.mpr ha.high⟩
  have halive : ({ s with dev := s.dev.advanceTo t } : State).dev.alive = true := (s.dev.advanceTo_alive t).trans h
  have hexec := State.atTickMem_alive s t (fun s => if a < 0x40000000 ∨ 0x80000000 ≤ a then s
    else if write then s.mgtWrite src (a) v {} else s.mgtRead src (a) {}) h
  refine Eq.trans hexec ?_
  simp only [if_neg hrange, State.mgtWrite_window _ src a halive ha, State.mgtRead_window _ src a halive ha]

end

/-! Answers (R424, Table 21-2). -/

theorem Dev.respond_parts (d : Dev) (src st : Nat) : ∃ r m, d.respond src st = { d with regs := r, mgt := m } := by
  have hreq : ∃ m, (if st = 5 then (d.onReq src (fun r => { r with lastStatus := st })).sticky src 2
      else if st = 6 then (d.onReq src (fun r => { r with lastStatus := st })).sticky src 1
      else if st = 7 then (d.onReq src (fun r => { r with lastStatus := st })).sticky src 3
      else if st = 3 then (d.onReq src (fun r => { r with lastStatus := st })).sticky src 4
      else d.onReq src (fun r => { r with lastStatus := st })) = { d with mgt := m } := by
    repeat' split
    all_goals exact ⟨_, rfl⟩
  obtain ⟨m, hm⟩ := hreq
  simp only [Dev.respond, hm]
  split <;> exact ⟨_, _, rfl⟩

@[simp] theorem Dev.respond_top (d : Dev) (src st : Nat) : (d.respond src st).top = d.top := by obtain ⟨_, _, h⟩ := d.respond_parts src st; rw [h]
@[simp] theorem Dev.respond_flg (d : Dev) (src st : Nat) : (d.respond src st).flg = d.flg := by obtain ⟨_, _, h⟩ := d.respond_parts src st; rw [h]

/-- The answer 0x07 counts as a timeout of its requester. -/
theorem Dev.respond_seven_req (d : Dev) (src : Nat) :
    (d.respond src 7).req src = { d.req src with lastStatus := 7, status := (d.req src).status ||| 8#32 } := by
  have hreq : (d.respond src 7).req src = ((d.onReq src (fun r => { r with lastStatus := 7 })).sticky src 3).req src := Dev.req_of_mgt rfl src
  simp only [hreq, Dev.sticky, Dev.req_onReq_self]
  rfl

theorem Dev.respond_four_req (d : Dev) (src : Nat) : (d.respond src 4).req src = { d.req src with lastStatus := 4 } := by
  have hreq : (d.respond src 4).req src = (d.onReq src (fun r => { r with lastStatus := 4 })).req src := Dev.req_of_mgt rfl src
  rw [hreq, Dev.req_onReq_self]

@[simp] theorem Dev.logFault_req (d : Dev) (code : Nat) (cls : FClass) (act ret : Bool) (src : Nat) : (d.logFault code cls act ret).req src = d.req src :=
  Dev.req_of_mgt (by simp) src

/-! Reads of the window. -/

/-- A requester whose window access was not served (R424). -/
def Dev.windowTimedOut (d : Dev) (src : Nat) : Dev := (d.onReq src (fun r => { r with lastData := [0#32] })).respond src 7

theorem Dev.windowTimedOut_req (d : Dev) (src : Nat) :
    (d.windowTimedOut src).req src = { d.req src with lastData := [0#32], lastStatus := 7, status := (d.req src).status ||| 8#32 } := by
  rw [Dev.windowTimedOut, Dev.respond_seven_req, Dev.req_onReq_self]

@[simp] theorem Dev.windowTimedOut_flg (d : Dev) (src : Nat) : (d.windowTimedOut src).flg = d.flg := by simp [Dev.windowTimedOut]
@[simp] theorem Dev.answer_flg (d : Dev) (src : Nat) (v : Word) (st : Nat) : (d.answer src v st).flg = d.flg := by simp [Dev.answer]

theorem State.dramWindowRead_unserved (s : State) (src a : Nat) (o : Outside) (h : s.dev.dramUnserved = true) :
    s.dramWindowRead src a o = s.onDev (fun d => d.windowTimedOut src) := by
  simp only [State.dramWindowRead, h, if_true]
  rfl

theorem State.dramWindowRead_failed (s : State) (src a : Nat) (o : Outside) (h : s.dev.dramUnserved = false) (hf : s.dev.hoistFailed = true) :
    s.dramWindowRead src a o = s.onDev (fun d => d.answer src 0 5) := by
  simp [State.dramWindowRead, h, hf]

theorem Dev.answer_five_req (d : Dev) (src : Nat) (v : Word) :
    (d.answer src v 5).req src = { d.req src with lastData := [v], lastStatus := 5, status := (d.req src).status ||| 4#32 } := by
  have hreq : (d.answer src v 5).req src =
      (((d.onReq src (fun r => { r with lastData := [v] })).onReq src (fun r => { r with lastStatus := 5 })).sticky src 2).req src :=
    Dev.req_of_mgt rfl src
  simp only [hreq, Dev.sticky, Dev.req_onReq_self]
  rfl

theorem Dev.answer_zero_req (d : Dev) (src : Nat) (v : Word) :
    (d.answer src v 0).req src = { d.req src with lastData := [v], lastStatus := 0 } := by
  have hreq : (d.answer src v 0).req src =
      ((d.onReq src (fun r => { r with lastData := [v] })).onReq src (fun r => { r with lastStatus := 0 })).req src :=
    Dev.req_of_mgt rfl src
  simp only [hreq, Dev.req_onReq_self]

/-- A word of the two halves of a burst. -/
theorem leAt_burst (m : List Host.Cell) (x : Nat) (hx : x % 4 = 0) :
    leAt (dramBytes m (x / 64 * 64) 32 ++ dramBytes m (x / 64 * 64 + 32) 32) (x % 64) 4 = dramLe m x 4 := by
  rw [← dramBytes_append, leAt_dramBytes _ _ _ _ _ (by omega), show x / 64 * 64 + x % 64 = x by omega]

/-- A word of a good burst is answered. -/
theorem State.dramWindowRead_good (s : State) (src a : Nat) (g : DTag) (ha : s.dev.dramAddr src a % 4 = 0) (hu : s.dev.dramUnserved = false)
    (h : s.dev.Reads (s.dev.dramAddr src a)) (hl : 2 ≤ s.dev.actLeft 18) (hg : s.dev.GoodTag (s.dev.dramAddr src a) g) :
    ∃ d : Dev, s.dramWindowRead src a {} = { s with dev := d.answer src (BitVec.ofNat 32 (dramLe s.dram (s.dev.dramAddr src a) 4)) 0 } ∧
      d.flg = s.dev.flg := by
  obtain ⟨d', hof, hread⟩ := s.burstRead_good 18 (s.dev.dramAddr src a) g h.burst hl hg.burst
  refine ⟨d'.delivered (dramBytes s.dram (s.dev.dramAddr src a / 64 * 64) 32 ++ dramBytes s.dram (s.dev.dramAddr src a / 64 * 64 + 32) 32)
    (false, false), ?_, hof.flg⟩
  rw [State.dramWindowRead, hread]
  simp only [hu, h.good, Nat.not_le.mpr h.inside, Bool.not_true, Bool.false_eq_true, if_false, ite_self,
    State.onDev, Dev.delivered, leAt_burst _ _ ha]

/-! Writes of the window. -/

/-- The 32-byte word of DRAM address `x` with four of its bytes replaced. -/
def mergedAt (m : List Host.Cell) (x : Nat) (v : Word) : List Host.Cell :=
  dramSetBytes m (x / 32 * 32) (mergedWord (dramBytes m (x / 32 * 32) 32) (x % 32) (leBytes 4 v.toNat))

theorem dramBytes_mergedAt (m : List Host.Cell) (x : Nat) (v : Word) (hx : x % 4 = 0) : dramBytes (mergedAt m x v) x 4 = leBytes 4 v.toNat := by
  have hword := dramBytes_merged m m (x / 32 * 32) (x % 32) 32 (leBytes 4 v.toNat) (by rw [length_leBytes]; omega)
  rwa [Nat.div_add_mod', length_leBytes] at hword

theorem spGet_mergedAt (m : List Host.Cell) (x : Nat) (v : Word) (hx : x % 4 = 0) (y : Nat) (hy : y < x ∨ x + 4 ≤ y) :
    spGet dramDflt (mergedAt m x v) y = spGet dramDflt m y :=
  spGet_dramSetBytes_merged m _ _ _ _ (by rw [length_leBytes]; omega) y (by rwa [Nat.div_add_mod', length_leBytes])

/-- A requester's write of the DRAM window is counted, journaled and answered. -/
def Dev.windowNoted (d : Dev) (src a : Nat) (old w : Word) (ignored : Bool) (status : Nat) : Dev :=
  ((d.incSat (R.MGT_CNT_WR src) 31 0 1).journal src a old w ignored true).respond src status

/-- A word of a good DRAM word is merged into its burst. -/
theorem State.dramWindowWrite_good (s : State) (src a : Nat) (v : Word) (g : DTag) (ha : s.dev.dramAddr src a % 4 = 0)
    (hs : s.dev.top.state ≠ .headframe) (hu : s.dev.dramUnserved = false)
    (h : s.dev.Reads (s.dev.dramAddr src a)) (hl : 4 ≤ s.dev.actLeft 18) (hg : s.dev.GoodTag (s.dev.dramAddr src a) g) :
    ∃ (d : Dev) (old : Word), s.dramWindowWrite src a v {} =
      { s with
        dev := d.windowNoted src a old v false 0
        dram := mergedAt s.dram (s.dev.dramAddr src a) v } ∧
      d.flg = s.dev.flg := by
  have hlen : (mergedWord (dramBytes s.dram (s.dev.dramAddr src a / 32 * 32) 32) (s.dev.dramAddr src a % 32) (leBytes 4 v.toNat)).length = 32 := by
    simp [mergedWord]
    omega
  have hstate : (s.dev.top.state == .headframe) = false := by simpa using hs
  have hpoison : s.dev.wordPoison (s.dev.dramAddr src a / 32) = false := by
    obtain ⟨htag, hepoch, hp0, hp1⟩ := hg
    refine Dev.wordPoison_good _ _ g h.good ?_ hepoch hp0 hp1
    rw [← htag, show s.dev.dramAddr src a / 32 / 2 = s.dev.dramAddr src a / 64 by omega]
  obtain ⟨d', hof, hwrite⟩ := s.burstWrite_merged 18 (s.dev.dramAddr src a / 32 * 32) _ g h.word (by omega) hl hlen hg.word
  refine ⟨d'.putTag (d'.freshTag (s.dev.dramAddr src a / 32 * 32 / 32)),
    BitVec.ofNat 32 (leAt (dramBytes s.dram (s.dev.dramAddr src a / 32 * 32) 32) (s.dev.dramAddr src a % 32) 4), ?_, hof.flg⟩
  have herr : (s.dev.wordPoison (s.dev.dramAddr src a / 32) || decide (2 ≤ ({} : Outside).err0) || decide (2 ≤ ({} : Outside).err1)) = false := by
    rw [hpoison]
    rfl
  simp only [mergedWord, length_leBytes] at hwrite
  simp only [State.dramWindowWrite, hstate, hu, h.good, Nat.not_le.mpr h.inside, herr, hwrite, mergedAt, mergedWord, length_leBytes,
    Bool.false_eq_true, if_false, if_true, State.onDev, Dev.windowNoted]

theorem Dev.windowNoted_jseq (d : Dev) (src a : Nat) (old w : Word) (ignored : Bool) (status : Nat) :
    (d.windowNoted src a old w ignored status).flg.jseq = d.flg.jseq + 1 := by simp [Dev.windowNoted]

/-- The entry that a window's write leaves in the journal. -/
theorem Dev.windowNoted_entry (d : Dev) (src a : Nat) (old w : Word) (ignored : Bool) (status : Nat) :
    (mget (d.windowNoted src a old w ignored status).flg.ring d.flg.jwr).map (fun e => (e.addr, e.new, e.flags)) =
      some (a, w, b2n ignored + 2) := by
  have hring : (d.windowNoted src a old w ignored status).flg = ((d.incSat (R.MGT_CNT_WR src) 31 0 1).journal src a old w ignored true).flg := by
    simp [Dev.windowNoted]
  rw [hring]
  simp [Dev.journal, mget_mput_self]
  rfl

theorem Dev.windowNoted_timedOut (d : Dev) (src a : Nat) (old w : Word) (ignored : Bool) :
    (d.windowNoted src a old w ignored 7).req src = { d.req src with lastStatus := 7, status := (d.req src).status ||| 8#32 } := by
  rw [Dev.windowNoted, Dev.respond_seven_req]
  rfl

theorem Dev.windowNoted_taken (d : Dev) (src a : Nat) (old w : Word) (ignored : Bool) :
    ((d.windowNoted src a old w ignored 0).req src).lastStatus = 0 := by
  rw [Dev.windowNoted, Dev.respond_zero, Dev.req_onReq_self]

/-! Accesses not served in time (R424). -/

section
variable (s : State) (src t a : Nat) (v : Word) (h : s.dev.alive = true) (ha : WindowWord a)
include h ha

theorem State.windowReadTimeout :
    exec (.windowAccessTimeout src t (a) false v) s = .next { s with dev := (s.dev.advanceTo t).windowTimedOut src } := by
  have hdram : decide (0x40000000 ≤ a ∧ a < 0x80000000) = true :=
    decide_eq_true ⟨ha.low, ha.high⟩
  have haligned : ¬ a % 4 ≠ 0 := not_not.mpr ha.aligned
  refine (State.atTickMem_alive s t _ h : execWindowAccessTimeout src t (a) false v s = _).trans ?_
  simp only [hdram, if_neg haligned, Bool.false_eq_true, if_false, Bool.true_or, if_true]
  rfl

theorem State.windowWriteTimeout (hs : s.dev.top.state ≠ .headframe) :
    ∃ old : Word, exec (.windowAccessTimeout src t (a) true v) s =
      .next { s with dev := (s.dev.advanceTo t).windowNoted src (a) old v true 7 } := by
  have hdram : decide (0x40000000 ≤ a ∧ a < 0x80000000) = true :=
    decide_eq_true ⟨ha.low, ha.high⟩
  have haligned : ¬ a % 4 ≠ 0 := not_not.mpr ha.aligned
  have hstate : (s.dev.top.state == .headframe) = false := by simpa using hs
  refine ⟨BitVec.ofNat 32 (leAt (dramBytes s.dram ((s.dev.advanceTo t).dramAddr src (a) / 32 * 32) 32)
      ((s.dev.advanceTo t).dramAddr src (a) % 32) 4),
    (State.atTickMem_alive s t _ h : execWindowAccessTimeout src t (a) true v s = _).trans ?_⟩
  simp only [hdram, if_neg haligned, Dev.advanceTo_top, hstate, Bool.not_true, Bool.or_self, Bool.false_eq_true, if_false, if_true]
  rfl

end

/-! Accesses of good words. -/

/-- A write through the window changes the addressed word and no other byte. -/
theorem State.windowWrite_rule (s : State) (src t a : Nat) (v : Word) (g : DTag) (halive : s.dev.alive = true) (ha : WindowWord a)
    (hstate : s.dev.top.state ≠ .headframe) (hleft : 4 ≤ s.dev.actLeft 18) (hreads : s.dev.Reads (s.dev.dramAddr src a))
    (hg : s.dev.GoodTag (s.dev.dramAddr src a) g) :
    ∃ s', exec (.dramWindowAccess src t a true v {}) s = .next s' ∧ dramBytes s'.dram (s.dev.dramAddr src a) 4 = leBytes 4 v.toNat ∧
      (∀ x : Nat, (x < s.dev.dramAddr src a ∨ s.dev.dramAddr src a + 4 ≤ x) → dramByte s' x = dramByte s x) ∧ s'.sram = s.sram ∧
      (s'.dev.req src).lastStatus = 0 ∧ s'.dev.flg.jseq = s.dev.flg.jseq + 1 := by
  have haligned := s.dev.dramAddr_aligned src a ha
  have hserved := s.dev.dramUnserved_of_serving hreads.serving (s.dev.allocated_of_actLeft (Nat.lt_of_lt_of_le (by decide) hleft))
  obtain ⟨d, old, hwrite, hflg⟩ := State.dramWindowWrite_good { s with dev := s.dev.advanceTo t } src a v g (by simpa using haligned)
    (by simpa using hstate) (by simpa using hserved) (by rw [Dev.advanceTo_dramAddr]; exact hreads.later t) (by simpa using hleft)
    (by rw [Dev.advanceTo_dramAddr]; exact hg.later t)
  refine ⟨_, s.windowAccess src a halive ha t true v, ?_⟩
  simp only [if_true]
  rw [hwrite, Dev.advanceTo_dramAddr]
  have hbytes := dramBytes_mergedAt s.dram (s.dev.dramAddr src a) v haligned
  have hframe := spGet_mergedAt s.dram (s.dev.dramAddr src a) v haligned
  generalize s.dev.dramAddr src a = x at *
  refine ⟨hbytes, hframe, rfl, ?_, ?_⟩
  · exact d.windowNoted_taken src a old v false
  · rw [Dev.windowNoted_jseq, hflg, Dev.advanceTo_flg]

/-- A read through the window answers the addressed word. -/
theorem State.windowRead_rule (s : State) (src t a : Nat) (g : DTag) (halive : s.dev.alive = true) (ha : WindowWord a)
    (halloc : s.dev.reg (R.FMN_ALLOC 18) ≠ 0#32) (hleft : 2 ≤ s.dev.actLeft 18) (hreads : s.dev.Reads (s.dev.dramAddr src a))
    (hg : s.dev.GoodTag (s.dev.dramAddr src a) g) :
    ∃ s', exec (.dramWindowAccess src t a false 0 {}) s = .next s' ∧
      (s'.dev.req src).lastData = [BitVec.ofNat 32 (dramLe s.dram (s.dev.dramAddr src a) 4)] ∧ (s'.dev.req src).lastStatus = 0 ∧
      s'.dev.flg = s.dev.flg ∧ sameMemory s s' := by
  have haligned := s.dev.dramAddr_aligned src a ha
  obtain ⟨d, hread, hflg⟩ := State.dramWindowRead_good { s with dev := s.dev.advanceTo t } src a g (by simpa using haligned)
    (by simpa using s.dev.dramUnserved_of_serving hreads.serving halloc) (by rw [Dev.advanceTo_dramAddr]; exact hreads.later t) (by simpa using hleft)
    (by rw [Dev.advanceTo_dramAddr]; exact hg.later t)
  refine ⟨_, s.windowAccess src a halive ha t false 0, ?_⟩
  simp only [Bool.false_eq_true, if_false]
  rw [hread, Dev.advanceTo_dramAddr]
  simp [Dev.answer_zero_req, sameMemory, hflg]

/-- Settles O57: an access of the window reaches the word behind the requester's page, or is answered as Hoist and the
window's allocation allow. -/
theorem windowAccessComplete : Obligations.WindowAccessComplete := by
  refine ⟨?dramWindowWrite, ?dramWindowRead, ?dramWindowFailed, ?dramWindowNoAllocation, ?windowReadTimeout, ?windowWriteTimeout,
    ?requestParityError, ?windowParityError⟩
  case dramWindowWrite =>
    intro s src t n v g halive hstate hserving hgood hn hleft hinside hcalm huncounted htag hepoch hp0 hp1
    exact s.windowWrite_rule src t (0x40000000 + 4 * n) v g halive (windowWord n hn) hstate hleft ⟨hserving, hgood, hcalm, huncounted, hinside⟩ ⟨htag, hepoch, hp0, hp1⟩
  case dramWindowRead =>
    intro s src t n g halive hserving hgood hn hleft halloc hinside hcalm huncounted htag hepoch hp0 hp1
    exact s.windowRead_rule src t (0x40000000 + 4 * n) g halive (windowWord n hn) halloc hleft ⟨hserving, hgood, hcalm, huncounted, hinside⟩ ⟨htag, hepoch, hp0, hp1⟩
  case dramWindowFailed =>
    intro s src t n halive hfailed hn halloc
    refine ⟨_, s.windowAccess src _ halive (windowWord n hn) t false 0, ?_⟩
    simp only [Bool.false_eq_true, if_false]
    rw [State.dramWindowRead_failed _ _ _ _ (by simp [Dev.dramUnserved, hfailed, halloc]) (by simpa using hfailed)]
    simp [State.onDev, Dev.answer_five_req, sameMemory]
  case dramWindowNoAllocation =>
    intro s src t n halive halloc hn
    refine ⟨_, s.windowAccess src _ halive (windowWord n hn) t false 0, ?_⟩
    simp only [Bool.false_eq_true, if_false]
    rw [State.dramWindowRead_unserved _ _ _ _ (by simp [Dev.dramUnserved, halloc])]
    simp [State.onDev, Dev.windowTimedOut_req, sameMemory]
  case windowReadTimeout =>
    intro s src t n v halive hn
    refine ⟨_, s.windowReadTimeout src t _ v halive (windowWord n hn), ?_⟩
    simp [Dev.windowTimedOut_req, sameMemory]
  case windowWriteTimeout =>
    intro s src t n v halive hstate hn
    obtain ⟨old, hexec⟩ := s.windowWriteTimeout src t _ v halive (windowWord n hn) hstate
    have hentry := (s.dev.advanceTo t).windowNoted_entry src (0x40000000 + 4 * n) old v true 7
    rw [Dev.advanceTo_flg] at hentry
    exact ⟨_, hexec, by simp [Dev.windowNoted_timedOut], by simp [Dev.windowNoted_timedOut], by simp [Dev.windowNoted_jseq], hentry,
      sameMemory.refl s⟩
  case requestParityError =>
    intro s src t halive hroom
    refine ⟨_, (State.atTick_alive s t _ halive : execMgtParityError src t false s = _), ?_⟩
    rw [if_neg (by decide), Dev.raise_n]
    have hlog : ((s.dev.advanceTo t).respond src 4).faultRoom 0x1B01 = true := by rwa [Dev.faultRoom_of_log (d := s.dev) (by simp)]
    exact ⟨by rw [Dev.logFault_req, Dev.respond_four_req], Dev.logFault_logged _ _ _ _ _ hlog, by simp [Dev.logFault_top], sameMemory.refl s⟩
  case windowParityError =>
    intro s src t halive hroom
    refine ⟨_, (State.atTick_alive s t _ halive : execMgtParityError src t true s = _), ?_⟩
    rw [if_pos rfl, Dev.raise_n]
    have hlog : ((s.dev.advanceTo t).onReq src (fun r => { r with dramWin := 0 })).faultRoom 0x1B02 = true := by
      rwa [Dev.faultRoom_of_log (d := s.dev) (by simp)]
    exact ⟨by rw [Dev.logFault_req, Dev.req_onReq_self], Dev.logFault_logged _ _ _ _ _ hlog, by simp [Dev.logFault_top], sameMemory.refl s⟩

end Sys2Proof.Machine
end

section
/-! PROOF. O44: reads and writes of DRAM by an activity (R248, R321, R322, R333). -/
namespace Sys2Proof.Machine

theorem mgetD_mupd_self {α : Type} (m : Map α) (k : Nat) (v : α) (f : α → α) : mgetD (mupd m k v f) k v = f (mgetD m k v) :=
  mgetD_mput_self m k _ v

/-- What an activity has used after a charge and the commands it pays for. -/
theorem Dev.IssueOf.used {d d' : Dev} {act n : Nat} (h : (d.charge act n).IssueOf d') : mgetD d'.fmn.used act 0 = mgetD d.fmn.used act 0 + n := by
  rw [h.fmn]
  exact mgetD_mupd_self d.fmn.used act 0 (· + n)

/-! Uncorrectable reads (R321, R332). -/

/-- The device after a codeword of a burst was found uncorrectable. -/
def Dev.uncorrectable (d : Dev) (n : Nat) : Dev := (d.inc64 (R.HOI_CNT_UNCORR n) 1).burstFault n

/-- The device after an uncorrectable read of the burst at `a`; a rank counts those of the other ports. -/
def Dev.uncorrectableAt (d : Dev) (a : Nat) (window : Bool) : Dev :=
  if window then d.uncorrectable (chanOf a)
  else (d.uncorrectable (chanOf a)).rankUncorr (chanOf a) ((d.uncorrectable (chanOf a)).locOf a).rank

theorem Dev.judgeBurst_uncorrectable (d : Dev) (a : Nat) (window : Bool) (g : DTag) (hg : d.tagOf (a / 64) = some g) :
    d.judgeBurst a 2 0 false window = (d.uncorrectableAt a window, true, true) := by
  simp [Dev.judgeBurst, hg, Dev.uncorrectableAt, Dev.uncorrectable]

theorem Dev.rankUncorr_parts (d : Dev) (n rank : Nat) : ∃ h, d.rankUncorr n rank = { d with hoi := h } := by
  fun_cases Dev.rankUncorr d n rank
  · exact ⟨_, rfl⟩
  · exact ⟨_, rfl⟩

/-- What is left of an uncorrectable burst's count and its fault. -/
structure Dev.Uncorrected (d d' : Dev) (n : Nat) : Prop where
  counted : d'.reg64 (R.HOI_CNT_UNCORR n) = (d.reg64 (R.HOI_CNT_UNCORR n) + 1) % 2 ^ 64
  logged : d'.logged 0x1303 = true
  top : d'.top = d.top

theorem Dev.uncorrectable_first (d : Dev) {n : Nat} (hn : n < 2) (hl : (d.hoiCh n).logged ≠ d.reg64 R.FMN_ROUND + 1) (hr : d.faultRoom 0x1303 = true) :
    d.Uncorrected (d.uncorrectable n) n := by
  have hround : (d.inc64 (R.HOI_CNT_UNCORR n) 1).reg64 R.FMN_ROUND = d.reg64 R.FMN_ROUND := by
    have hne : R.FMN_ROUND ≠ R.HOI_CNT_UNCORR n ∧ R.FMN_ROUND ≠ R.HOI_CNT_UNCORR n + 4 ∧ R.FMN_ROUND + 4 ≠ R.HOI_CNT_UNCORR n ∧
        R.FMN_ROUND + 4 ≠ R.HOI_CNT_UNCORR n + 4 := by
      simp only [R.FMN_ROUND, R.HOI_CNT_UNCORR]
      omega
    obtain ⟨hlow, hlow4, hhigh, hhigh4⟩ := hne
    exact Dev.reg64_of_reg _ (d.reg_inc64_ne _ _ 1 hlow hlow4) (d.reg_inc64_ne _ _ 1 hhigh hhigh4)
  have hfault : d.uncorrectable n =
      ((d.inc64 (R.HOI_CNT_UNCORR n) 1).logFault 0x1303 .n).onHoiCh n (fun c => { c with logged := d.reg64 R.FMN_ROUND + 1 }) := by
    rw [Dev.uncorrectable, Dev.burstFault, hround]
    exact if_neg hl
  have hregs : R.HOI_CNT_UNCORR n ∉ logRegs ∧ R.HOI_CNT_UNCORR n + 4 ∉ logRegs :=
    ⟨not_mem_logRegs (by show 0x250128 + 0x100 * n < 0x290000; omega), not_mem_logRegs (by show 0x250128 + 0x100 * n + 4 < 0x290000; omega)⟩
  rw [hfault]
  exact ⟨((d.inc64 (R.HOI_CNT_UNCORR n) 1).logFault_reg64 _ _ _ _ hregs).trans (d.reg64_inc64_self _ 1),
    Dev.logFault_logged _ 0x1303 .n _ _ hr, Dev.logFault_top _ _ _ _ _ (by decide)⟩

theorem Dev.Uncorrected.of_eq {d e d' : Dev} {n : Nat} (h : e.Uncorrected d' n) (hc : e.reg64 (R.HOI_CNT_UNCORR n) = d.reg64 (R.HOI_CNT_UNCORR n))
    (ht : e.top = d.top) : d.Uncorrected d' n := ⟨hc ▸ h.counted, h.logged, h.top.trans ht⟩

theorem Dev.Uncorrected.rankUncorr {d d' : Dev} {n : Nat} (h : d.Uncorrected d' n) (k rank : Nat) : d.Uncorrected (d'.rankUncorr k rank) n := by
  obtain ⟨x, hx⟩ := d'.rankUncorr_parts k rank
  rw [hx]
  exact ⟨h.counted, h.logged, h.top⟩

theorem Dev.IssueOf.reg64_uncorr {d d' : Dev} (h : d.IssueOf d') {n : Nat} (hn : n < 2) : d'.reg64 (R.HOI_CNT_UNCORR n) = d.reg64 (R.HOI_CNT_UNCORR n) := by
  rcases (by omega : n = 0 ∨ n = 1) with rfl | rfl
  · exact Dev.reg64_of_reg _ (h.2.1 _ (by decide)) (h.2.1 _ (by decide))
  · exact Dev.reg64_of_reg _ (h.2.1 _ (by decide)) (h.2.1 _ (by decide))

/-- A read of a burst with an uncorrectable codeword, the first of its round. -/
theorem State.burstRead_uncorrectable (s : State) (act a : Nat) (g : DTag) (h : s.dev.Reads (a / 64 * 64)) (hl : 2 ≤ s.dev.actLeft act)
    (hg : s.dev.tagOf (a / 64 * 64 / 64) = some g) (hround : (s.dev.hoiCh (chanOf (a / 64 * 64))).logged ≠ s.dev.reg64 R.FMN_ROUND + 1)
    (hroom : s.dev.faultRoom 0x1303 = true) :
    ∃ d', s.dev.Uncorrected d' (chanOf (a / 64 * 64)) ∧ s.burstRead act a 2 0 false =
      ({ s with dev := d'.delivered (List.replicate 64 0#8) (true, true) }, true) := by
  obtain ⟨hserving, hgood, hcalm, huncounted, hinside⟩ := h
  have hn := chanOf_lt (a / 64 * 64)
  obtain ⟨d', hissue, hof⟩ := (s.dev.charge act 2).burstIssue_given (a / 64 * 64) false hcalm huncounted
  have hfmn : d'.reg64 R.FMN_ROUND = s.dev.reg64 R.FMN_ROUND := Dev.reg64_of_reg _ (hof.2.1 _ (by decide)) (hof.2.1 _ (by decide))
  have hunc : s.dev.Uncorrected (d'.uncorrectable (chanOf (a / 64 * 64))) (chanOf (a / 64 * 64)) := (d'.uncorrectable_first hn (by rw [hof.2.2.2, hfmn]; exact hround)
    ((Dev.faultRoom_of_log (congrArg FlgState.log hof.flg) _).trans hroom)).of_eq (hof.reg64_uncorr hn) hof.top
  have hjudge := d'.judgeBurst_uncorrectable (a / 64 * 64) (act == 18) g ((hof.tagOf _).trans hg)
  refine ⟨d'.uncorrectableAt (a / 64 * 64) (act == 18), ?_, ?_⟩
  · rw [Dev.uncorrectableAt]
    split
    · exact hunc
    · exact hunc.rankUncorr _ _
  · simp only [State.burstRead, hgood, hserving, Nat.not_le.mpr hinside, Dev.admitWords_served _ _ _ hl, hissue, hjudge, Bool.not_true,
      Bool.false_eq_true, if_false, if_true, Dev.delivered, ← List.replicate_add]

/-! Whole bursts (R322). -/

/-- The other DRAM word of the burst of word `w`. -/
def otherWord (w : Nat) : Nat := if w % 2 = 0 then w + 1 else w - 1

/-- DRAM after word `w` is written; the burst's other word becomes zeros when it was poisoned. -/
def putWordMem (m : List Host.Cell) (w : Nat) (bytes : List Byte) (bad : Bool) : List Host.Cell :=
  if bad then dramSetBytes (dramSetBytes m (32 * w) bytes) (32 * otherWord w) (List.replicate 32 0#8) else dramSetBytes m (32 * w) bytes

/-- The device after word `w` is written without poison. -/
def Dev.putWord (d : Dev) (w : Nat) (bad : Bool) : Dev :=
  d.putTag { lo := w / 2, hi := w / 2 + 1, epoch := d.epoch8, p0 := if w % 2 = 0 then false else bad, p1 := if w % 2 = 0 then bad else false }

theorem State.dramPutWord_served (s : State) (w : Nat) (bytes : List Byte) (hs : s.dev.hoistServing = true) (hw : 32 * w < s.dev.hoistBytes) :
    s.dramPutWord w bytes false = { s with dram := putWordMem s.dram w bytes (s.dev.wordPoison (otherWord w)), dev := s.dev.putWord w (s.dev.wordPoison (otherWord w)) } := by
  have hb : ¬ s.dev.hoistBytes ≤ 32 * w := Nat.not_le.mpr hw
  simp only [State.dramPutWord, hs, hb, Bool.not_true, Bool.false_or, decide_false, Bool.false_eq_true, if_false]
  rfl

theorem Dev.tagOf_putTag (d : Dev) (t : DTag) (b : Nat) (h : t.lo ≤ b ∧ b < t.hi) : (d.putTag t).tagOf b = some t := by
  simp [Dev.tagOf, Dev.putTag, h]

theorem Dev.putWord_wordPoison (d : Dev) (k : Nat) (bad : Bool) (hf : d.hoistFailed = false) : (d.putWord (2 * k) bad).wordPoison (2 * k) = false := by
  have htag := d.tagOf_putTag { lo := 2 * k / 2, hi := 2 * k / 2 + 1, epoch := d.epoch8, p0 := false, p1 := bad } (2 * k / 2) (by simp)
  have hword : d.putWord (2 * k) bad = d.putTag { lo := 2 * k / 2, hi := 2 * k / 2 + 1, epoch := d.epoch8, p0 := false, p1 := bad } := by
    simp [Dev.putWord]
  rw [← hword] at htag
  have hfailed : (d.putWord (2 * k) bad).hoistFailed = false := hf
  simp only [Dev.wordPoison, hfailed, htag]
  simp [Dev.putWord, Dev.putTag, Dev.epoch8, Dev.fld, Dev.reg]

/-- DRAM after the burst at `a` is written whole. -/
def putBurstMem (m : List Host.Cell) (a : Nat) (data : List Byte) (bad : Bool) : List Host.Cell :=
  putWordMem (putWordMem m (a / 32) (data.take 32) bad) (a / 32 + 1) ((data.drop 32).take 32) false

theorem dramBytes_putWordMem (m : List Host.Cell) (w : Nat) (bytes : List Byte) (bad : Bool) (h : bytes.length = 32) :
    dramBytes (putWordMem m w bytes bad) (32 * w) 32 = bytes := by
  have hword : dramBytes (dramSetBytes m (32 * w) bytes) (32 * w) 32 = bytes := by
    have hsub := dramBytes_dramSetBytes m (32 * w) 0 32 bytes (by omega)
    rwa [Nat.add_zero, List.drop_zero, ← h, List.take_length, h] at hsub
  have hother : 32 * w + 32 ≤ 32 * otherWord w ∨ 32 * otherWord w + 32 ≤ 32 * w := by
    rw [otherWord]
    split <;> omega
  rw [putWordMem]
  split
  · rw [dramBytes_dramSetBytes_out _ _ _ _ _ (by simpa using hother), hword]
  · exact hword

theorem spGet_putWordMem (m : List Host.Cell) (w : Nat) (bytes : List Byte) (bad : Bool) (h : bytes.length = 32) (x : Nat)
    (hx : x < 64 * (w / 2) ∨ 64 * (w / 2) + 64 ≤ x) : spGet dramDflt (putWordMem m w bytes bad) x = spGet dramDflt m x := by
  have hword : x < 32 * w ∨ 32 * w + bytes.length ≤ x := by omega
  have hother : x < 32 * otherWord w ∨ 32 * otherWord w + (List.replicate 32 0#8).length ≤ x := by
    rw [otherWord, List.length_replicate]
    split <;> omega
  rw [putWordMem]
  split
  · rw [spGet_dramSetBytes_out _ _ _ _ hother, spGet_dramSetBytes_out _ _ _ _ hword]
  · rw [spGet_dramSetBytes_out _ _ _ _ hword]

theorem dramBytes_putBurstMem (m : List Host.Cell) (k : Nat) (data : List Byte) (bad : Bool) (hd : data.length = 64) :
    dramBytes (putBurstMem m (64 * k) data bad) (64 * k) 64 = data := by
  have hlow : 32 * (64 * k / 32) = 64 * k := by omega
  have hhigh : 32 * (64 * k / 32 + 1) = 64 * k + 32 := by omega
  have hfirst := dramBytes_putWordMem m (64 * k / 32) (data.take 32) bad (by simp [hd])
  have hsecond := dramBytes_putWordMem (putWordMem m (64 * k / 32) (data.take 32) bad) (64 * k / 32 + 1) ((data.drop 32).take 32) false (by simp [hd])
  have hrest : (data.drop 32).take 32 = data.drop 32 := List.take_of_length_le (by simp [hd])
  have hkept : dramBytes (putBurstMem m (64 * k) data bad) (64 * k) 32 = dramBytes (putWordMem m (64 * k / 32) (data.take 32) bad) (64 * k) 32 :=
    dramBytes_dramSetBytes_out _ _ _ _ _ (by omega)
  rw [hlow] at hfirst
  rw [hhigh] at hsecond
  rw [dramBytes_append _ _ 32 32, hkept, hfirst, putBurstMem, hsecond, hrest, List.take_append_drop]

theorem spGet_putBurstMem (m : List Host.Cell) (k : Nat) (data : List Byte) (bad : Bool) (hd : data.length = 64) (x : Nat)
    (hx : x < 64 * k ∨ 64 * k + 64 ≤ x) : spGet dramDflt (putBurstMem m (64 * k) data bad) x = spGet dramDflt m x := by
  rw [putBurstMem, spGet_putWordMem _ _ _ _ (by simp [hd]) x (by omega), spGet_putWordMem _ _ _ _ (by simp [hd]) x (by omega)]

/-- A whole burst is written. -/
theorem State.burstWrite_whole (s : State) (act a : Nat) (data : List Byte) (hserving : s.dev.hoistServing = true) (hgood : s.dev.hoistFailed = false)
    (hcalm : (s.dev.hoiCh (chanOf a)).recovery = none) (huncounted : s.dev.rbit R.HOI_RH_CFG 16 = false) (ha : a % 64 = 0)
    (hinside : a + 32 < s.dev.hoistBytes) (hl : 2 ≤ s.dev.actLeft act) (hd : data.length = 64) :
    ∃ d' bad, (s.dev.charge act 2).IssueOf d' ∧ s.burstWrite act a data false 0 0 =
      ({ s with dram := putBurstMem s.dram a data bad, dev := (d'.putWord (a / 32) bad).putWord (a / 32 + 1) false }, true) := by
  obtain ⟨d', hissue, hof⟩ := (s.dev.charge act 2).burstIssue_given a true hcalm huncounted
  have hof' := hof.trans (d'.noWriteBack_issue a)
  have hserving' : (d'.noWriteBack a).hoistServing = true := hof'.hoistServing.trans hserving
  have hbytes : (d'.noWriteBack a).hoistBytes = s.dev.hoistBytes := hof'.hoistBytes
  refine ⟨d'.noWriteBack a, (d'.noWriteBack a).wordPoison (a / 32 + 1), hof', ?_⟩
  have hother : otherWord (a / 32) = a / 32 + 1 := if_pos (by omega)
  have hother' : otherWord (a / 32 + 1) = 2 * (a / 64) := by rw [otherWord, if_neg (by omega)]; omega
  have hfirst := State.dramPutWord_served { s with dev := d'.noWriteBack a } (a / 32) (data.take 32) hserving' (by rw [hbytes]; omega)
  rw [hother] at hfirst
  have hclean : ((d'.noWriteBack a).putWord (a / 32) ((d'.noWriteBack a).wordPoison (a / 32 + 1))).wordPoison (otherWord (a / 32 + 1)) = false := by
    rw [hother', show a / 32 = 2 * (a / 64) by omega]
    exact Dev.putWord_wordPoison _ _ _ (hof'.hoistFailed.trans hgood)
  have hsecond := State.dramPutWord_served
    { s with
      dram := putWordMem s.dram (a / 32) (data.take 32) ((d'.noWriteBack a).wordPoison (a / 32 + 1))
      dev := (d'.noWriteBack a).putWord (a / 32) ((d'.noWriteBack a).wordPoison (a / 32 + 1)) }
    (a / 32 + 1) ((data.drop 32).take 32) hserving' (lt_of_lt_of_eq (by omega) hbytes.symm)
  rw [hclean] at hsecond
  have hwhole : (decide (64 ≤ data.length) && a % 64 == 0) = true := by simp [hd, ha]
  have hlow : ¬ s.dev.hoistBytes ≤ a := by omega
  simp only [State.burstWrite, hgood, hserving, hlow, hwhole, Dev.admitWords_served _ _ _ hl, hissue, Bool.not_true, Bool.false_eq_true, if_false,
    if_true]
  refine Eq.trans (congrArg (fun x : State => (x.dramPutWord (a / 32 + 1) ((data.drop 32).take 32) false, true)) hfirst) ?_
  exact congrArg (·, true) hsecond

/-- The tag of a burst whose second word was written last. -/
theorem Dev.tagOf_putWord (d : Dev) (k : Nat) : (d.putWord (2 * k + 1) false).tagOf k = some { lo := k, hi := k + 1, epoch := d.epoch8 } := by
  have hk : (2 * k + 1) / 2 = k := by omega
  have htag := d.tagOf_putTag { lo := k, hi := k + 1, epoch := d.epoch8 } k (by simp)
  simpa only [Dev.putWord, hk, ite_self] using htag

/-- Settles O44: a burst is read and written as its tag, its codewords and the state of Hoist allow. -/
theorem hoistAccessComplete : Obligations.HoistAccessComplete := by
  refine ⟨?dramRead, ?dramReadUncorrectable, ?dramReadFailed, ?dramWrite, ?dramMergedWrite, ?correctedWriteBack⟩
  case dramRead =>
    intro s t act a n g halive hserving hgood hn hcalm huncounted ha hinside hleft htag hepoch hp0 hp1
    subst hn
    have hburst : a / 64 * 64 = a := by omega
    have hreads : (s.dev.advanceTo t).Reads a := Dev.Reads.later ⟨hserving, hgood, hcalm, huncounted, hinside⟩ t
    have hg : (s.dev.advanceTo t).GoodTag a g := Dev.GoodTag.later ⟨htag, hepoch, hp0, hp1⟩ t
    obtain ⟨d', hof, hread⟩ := State.burstRead_good { s with dev := s.dev.advanceTo t } act a g (by rwa [hburst]) (by simpa using hleft) (by rwa [hburst])
    refine ⟨_, (State.atTickMem_alive s t _ halive : execDramRead t act a 0 0 false s = _), ?_⟩
    rw [hread, hburst]
    exact ⟨rfl, rfl, hof.used.trans (by rw [Dev.advanceTo_fmn]), sameMemory.refl s⟩
  case dramReadUncorrectable =>
    intro s t act a n g halive hserving hgood hn hcalm huncounted ha hinside hleft htag hlogged hroom
    subst hn
    have hburst : a / 64 * 64 = a := by omega
    have hreads : (s.dev.advanceTo t).Reads a := Dev.Reads.later ⟨hserving, hgood, hcalm, huncounted, hinside⟩ t
    have hch : (s.dev.advanceTo t).hoiCh (chanOf a) = s.dev.hoiCh (chanOf a) := Dev.hoiCh_of_chs (by simp) _
    have htag' : (s.dev.advanceTo t).tagOf (a / 64) = some g := by rw [Dev.tagOf, Dev.advanceTo_hoi]; exact htag
    obtain ⟨d', ⟨hcount, hlog, htop⟩, hread⟩ := State.burstRead_uncorrectable { s with dev := s.dev.advanceTo t } act a g (by rwa [hburst])
      (by simpa using hleft) (by rwa [hburst]) (by rw [hburst, hch]; simpa using hlogged) ((Dev.faultRoom_of_log (by simp) _).trans hroom)
    refine ⟨_, (State.atTickMem_alive s t _ halive : execDramRead t act a 2 0 false s = _), ?_⟩
    rw [hread]
    rw [hburst] at hcount
    refine ⟨rfl, rfl, hcount.trans (by rw [Dev.advanceTo_reg64]), hlog, ?_, sameMemory.refl s⟩
    exact congrArg TopState.state (htop.trans (s.dev.advanceTo_top t))
  case dramReadFailed =>
    intro s t act a halive hfailed
    refine ⟨_, (State.atTickMem_alive s t _ halive : execDramRead t act a 0 0 false s = _), ?_⟩
    simp [State.burstRead, hfailed, sameMemory]
  case dramWrite =>
    intro s t act a n data halive hserving hgood hn hcalm huncounted ha hinside hleft hd
    subst hn
    obtain ⟨hserving', hgood', hcalm', huncounted', -⟩ := Dev.Reads.later ⟨hserving, hgood, hcalm, huncounted, (by omega : a < _)⟩ t
    obtain ⟨d', bad, hof, hwrite⟩ := State.burstWrite_whole { s with dev := s.dev.advanceTo t } act a data hserving' hgood' hcalm' huncounted' ha
      (by rwa [Dev.advanceTo_hoistBytes]) (by simpa using hleft) hd
    refine ⟨_, (State.atTickMem_alive s t _ halive : execDramWrite t act a data false 0 0 s = _), ?_⟩
    obtain ⟨k, rfl⟩ : ∃ k, a = 64 * k := ⟨a / 64, by omega⟩
    rw [show 64 * k / 32 * 32 = 64 * k by omega, hwrite]
    refine ⟨dramBytes_putBurstMem s.dram k data bad hd, ?_, hof.used.trans (by rw [Dev.advanceTo_fmn]), rfl, rfl, rfl,
      fun x hx => spGet_putBurstMem s.dram k data bad hd x hx⟩
    rw [show 64 * k / 32 + 1 = 2 * k + 1 by omega, show 64 * k / 64 = k by omega, Dev.tagOf_putWord]
    have hepoch : (d'.putWord (64 * k / 32) bad).epoch8 = d'.epoch8 := rfl
    have hlater : ((s.dev.advanceTo t).charge act 2).epoch8 = s.dev.epoch8 := Dev.fld_of_reg (s.dev.advanceTo_reg t R.HOI_EPOCH) 7 0
    rw [hepoch, hof.epoch8]
    exact congrArg (fun e : Nat => some ({ lo := k, hi := k + 1, epoch := e } : DTag)) hlater
  case dramMergedWrite =>
    intro s t act a n data g halive hserving hgood hn hcalm huncounted ha hinside hleft hd htag hepoch hp0 hp1
    subst hn
    have hreads : (s.dev.advanceTo t).Reads a := Dev.Reads.later ⟨hserving, hgood, hcalm, huncounted, hinside⟩ t
    have hg : (s.dev.advanceTo t).GoodTag a g := Dev.GoodTag.later ⟨htag, hepoch, hp0, hp1⟩ t
    obtain ⟨d', hof, hwrite⟩ := State.burstWrite_merged { s with dev := s.dev.advanceTo t } act a data g hreads ha (by simpa using hleft) hd hg
    refine ⟨_, (State.atTickMem_alive s t _ halive : execDramWrite t act a data false 0 0 s = _), ?_⟩
    rw [show a / 32 * 32 = a by omega, hwrite]
    have hbytes := dramBytes_dramSetBytes s.dram a 0 32 data (by omega)
    rw [Nat.add_zero, List.drop_zero, ← hd, List.take_length, hd] at hbytes
    exact ⟨hbytes, hof.used.trans (by rw [Dev.advanceTo_fmn]), rfl, rfl, rfl, fun x hx => spGet_dramSetBytes_out data s.dram a x (by omega)⟩
  case correctedWriteBack =>
    intro s t n halive hserving hcalm
    refine ⟨_, (State.atTick_alive s t _ halive : execCorrectedWriteBack t n s = _), ?_⟩
    have hch : (s.dev.advanceTo t).hoiCh n = s.dev.hoiCh n := Dev.hoiCh_of_chs (by simp) n
    have hif : ((s.dev.advanceTo t).hoistServing && ((s.dev.advanceTo t).hoiCh n).recovery.isNone) = true := by simp [hserving, hch, hcalm]
    rw [if_pos hif]
    exact ⟨by rw [Dev.hoiCh_onHoiCh_self, hch], s.dev.advanceTo_regs t, sameMemory.refl s⟩

end Sys2Proof.Machine
end

section
/-! PROOF. What a change of the device state leaves unchanged (R10, R16, R261, R262): the taps, the outputs and the entry to
ARMED. -/
namespace Sys2Proof.Machine

/-! Registers. -/

/-- The registers are all that is changed. -/
def Dev.RegsOf (d d' : Dev) : Prop := ∃ r, d' = { d with regs := r }

theorem Dev.RegsOf.refl (d : Dev) : d.RegsOf d := ⟨_, rfl⟩

theorem Dev.RegsOf.trans {d e f : Dev} (h : d.RegsOf e) (h' : e.RegsOf f) : d.RegsOf f := by
  obtain ⟨_, rfl⟩ := h
  obtain ⟨_, rfl⟩ := h'
  exact ⟨_, rfl⟩

theorem Dev.setReg_regsOf (d : Dev) (a : Nat) (v : Word) : d.RegsOf (d.setReg a v) := ⟨_, rfl⟩
theorem Dev.setFld_regsOf (d : Dev) (a m l v : Nat) : d.RegsOf (d.setFld a m l v) := ⟨_, rfl⟩
theorem Dev.setBit_regsOf (d : Dev) (a i : Nat) (x : Bool) : d.RegsOf (d.setBit a i x) := ⟨_, rfl⟩
theorem Dev.inc64_regsOf (d : Dev) (a n : Nat) : d.RegsOf (d.inc64 a n) := ⟨_, rfl⟩

/-! Taps. -/

/-- The taps' states are all that is changed. -/
def Dev.TapsOf (d d' : Dev) : Prop := ∃ tp, d' = { d with taps := tp }

theorem Dev.TapsOf.trans {d e f : Dev} (h : d.TapsOf e) (h' : e.TapsOf f) : d.TapsOf f := by
  obtain ⟨_, rfl⟩ := h
  obtain ⟨_, rfl⟩ := h'
  exact ⟨_, rfl⟩

theorem Dev.tapIdle_taps (d : Dev) (t : Nat) : d.TapsOf (d.tapIdle t) := by
  unfold Dev.tapIdle
  split <;> exact ⟨_, rfl⟩

theorem Dev.tapUp_taps (d : Dev) (t : Nat) : d.TapsOf (d.tapUp t) := by
  unfold Dev.tapUp
  split <;> exact ⟨_, rfl⟩

theorem Dev.foldl_taps (f : Dev → Nat → Dev) (hf : ∀ d t, Dev.TapsOf d (f d t)) (l : List Nat) : ∀ d : Dev, d.TapsOf (l.foldl f d) := by
  induction l with
  | nil => exact fun d => ⟨_, rfl⟩
  | cons t l ih => exact fun d => (hf d t).trans (ih _)

theorem Dev.tapsDown_taps (d : Dev) : d.TapsOf d.tapsDown := Dev.foldl_taps _ Dev.tapIdle_taps _ d
theorem Dev.tapsUp_taps (d : Dev) : d.TapsOf d.tapsUp := Dev.foldl_taps _ Dev.tapUp_taps _ d

section
variable (d : Dev)

@[simp] theorem Dev.tapsDown_regs : d.tapsDown.regs = d.regs := by obtain ⟨_, h⟩ := d.tapsDown_taps; rw [h]
@[simp] theorem Dev.tapsDown_top : d.tapsDown.top = d.top := by obtain ⟨_, h⟩ := d.tapsDown_taps; rw [h]
@[simp] theorem Dev.tapsDown_flg : d.tapsDown.flg = d.flg := by obtain ⟨_, h⟩ := d.tapsDown_taps; rw [h]
@[simp] theorem Dev.tapsDown_hoi : d.tapsDown.hoi = d.hoi := by obtain ⟨_, h⟩ := d.tapsDown_taps; rw [h]
@[simp] theorem Dev.tapsDown_now : d.tapsDown.now = d.now := by obtain ⟨_, h⟩ := d.tapsDown_taps; rw [h]
@[simp] theorem Dev.tapsDown_boot : d.tapsDown.boot = d.boot := by obtain ⟨_, h⟩ := d.tapsDown_taps; rw [h]
@[simp] theorem Dev.tapsUp_regs : d.tapsUp.regs = d.regs := by obtain ⟨_, h⟩ := d.tapsUp_taps; rw [h]
@[simp] theorem Dev.tapsUp_top : d.tapsUp.top = d.top := by obtain ⟨_, h⟩ := d.tapsUp_taps; rw [h]
@[simp] theorem Dev.tapsUp_flg : d.tapsUp.flg = d.flg := by obtain ⟨_, h⟩ := d.tapsUp_taps; rw [h]
@[simp] theorem Dev.tapsUp_hoi : d.tapsUp.hoi = d.hoi := by obtain ⟨_, h⟩ := d.tapsUp_taps; rw [h]
@[simp] theorem Dev.tapsUp_now : d.tapsUp.now = d.now := by obtain ⟨_, h⟩ := d.tapsUp_taps; rw [h]
@[simp] theorem Dev.tapsUp_boot : d.tapsUp.boot = d.boot := by obtain ⟨_, h⟩ := d.tapsUp_taps; rw [h]
@[simp] theorem Dev.tapsUp_cal : d.tapsUp.cal = d.cal := by obtain ⟨_, h⟩ := d.tapsUp_taps; rw [h]

end

/-! Changes of the device state (R10). -/

/-- What a change of the device state leaves: everything but the state, its count and its start-up marks, the inhibits and the
gate, the pairs, the watch, the parking, the calibration and the taps. -/
def Dev.StateChange (d d' : Dev) : Prop :=
  ∃ r st tr au sg tp e c sn ca, d' = { d with regs := r, top := { d.top with state := st, transitions := tr, auto := au, stage10 := sg }, taps := tp, emt := e, cny := c, sns := sn, cal := ca }

theorem Dev.StateChange.trans {d e f : Dev} (h : d.StateChange e) (h' : e.StateChange f) : d.StateChange f := by
  obtain ⟨_, _, _, _, _, _, _, _, _, _, rfl⟩ := h
  obtain ⟨_, _, _, _, _, _, _, _, _, _, rfl⟩ := h'
  exact ⟨_, _, _, _, _, _, _, _, _, _, rfl⟩

theorem Dev.setReg_stateChange (d : Dev) (r : Map Word) : d.StateChange { d with regs := r } := ⟨_, _, _, _, _, _, _, _, _, _, rfl⟩

theorem Dev.goState_stateChange (d : Dev) (st : DevState) : d.StateChange (d.goState st) := by
  have htaps (d : Dev) : d.StateChange (if d.inState [.armed, .ranging, .held] then d.tapsUp else d) := by
    split
    · obtain ⟨_, h⟩ := d.tapsUp_taps
      rw [h]
      exact ⟨_, _, _, _, _, _, _, _, _, _, rfl⟩
    · exact ⟨_, _, _, _, _, _, _, _, _, _, rfl⟩
  have hfollow (d : Dev) : d.StateChange d.safetyFollow := by
    obtain ⟨_, _, _, _, _, h⟩ := d.safetyFollow_parts
    rw [h]
    exact ⟨_, _, _, _, _, _, _, _, _, _, rfl⟩
  refine Dev.StateChange.trans (.trans ?_ (hfollow _)) (htaps _)
  split <;> exact ⟨_, _, _, _, _, _, _, _, _, _, rfl⟩

theorem Dev.goState_reg (d : Dev) (st : DevState) {a : Nat} (h : a ∉ inhibitRegs) : (d.goState st).reg a = d.reg a := by
  have htaps (d : Dev) : (if d.inState [.armed, .ranging, .held] then d.tapsUp else d).reg a = d.reg a := by
    split
    · exact Dev.reg_of_regs d.tapsUp_regs a
    · rfl
  refine (htaps _).trans ((Dev.safetyFollow_reg _ h).trans ?_)
  split <;> rfl

/-- The registers that the entry to ARMED changes. -/
def armRegs : List Nat := [R.EMT_STATUS, R.EMT_INHIBIT_STICKY, R.HDF_STATUS, R.HDF_TIMING, R.CAL_STATUS]

theorem not_mem_inhibit_of_arm {a : Nat} (h : a ∉ armRegs) : a ∉ inhibitRegs := by
  simp only [armRegs, List.mem_cons, List.not_mem_nil, or_false, not_or] at h
  obtain ⟨hstatus, hsticky, -⟩ := h
  simp [inhibitRegs, hstatus, hsticky]

theorem Dev.enterArmed_stateChange (d : Dev) : d.StateChange d.enterArmed :=
  (d.goState_stateChange .armed).trans ⟨_, _, _, _, _, _, _, _, _, _, rfl⟩

theorem Dev.enterArmed_reg (d : Dev) {a : Nat} (h : a ∉ armRegs) : d.enterArmed.reg a = d.reg a := by
  have hcal : a ≠ R.CAL_STATUS := by
    rintro rfl
    exact h (by decide)
  have hstage (e : Dev) : e.stage9.reg a = e.reg a := Dev.reg_setBit_ne _ _ _ _ _ hcal
  exact (hstage _).trans (d.goState_reg .armed (not_mem_inhibit_of_arm h))

theorem Dev.armIfReady_stateChange (d : Dev) : d.StateChange d.armIfReady := by
  unfold Dev.armIfReady
  split
  · exact Dev.StateChange.trans (Dev.StateChange.trans (d.setReg_stateChange _) (Dev.setReg_stateChange _ _)) (Dev.enterArmed_stateChange _)
  · exact ⟨_, _, _, _, _, _, _, _, _, _, rfl⟩

theorem Dev.armIfReady_reg (d : Dev) {a : Nat} (h : a ∉ armRegs) : d.armIfReady.reg a = d.reg a := by
  have hhdf : a ≠ R.HDF_STATUS ∧ a ≠ R.HDF_TIMING := by
    constructor <;> rintro rfl <;> exact h (by decide)
  unfold Dev.armIfReady
  split
  · rw [Dev.enterArmed_reg _ h, Dev.headframeTimed, Dev.reg_setFld_ne _ _ _ _ _ _ hhdf.2, Dev.reg_setFld_ne _ _ _ _ _ _ hhdf.1]
  · rfl

section
variable {d d' : Dev} (h : d.StateChange d')
include h

theorem Dev.StateChange.flg : d'.flg = d.flg := by obtain ⟨_, _, _, _, _, _, _, _, _, _, rfl⟩ := h; rfl
theorem Dev.StateChange.hoi : d'.hoi = d.hoi := by obtain ⟨_, _, _, _, _, _, _, _, _, _, rfl⟩ := h; rfl
theorem Dev.StateChange.boot : d'.boot = d.boot := by obtain ⟨_, _, _, _, _, _, _, _, _, _, rfl⟩ := h; rfl
theorem Dev.StateChange.clk : d'.clk = d.clk := by obtain ⟨_, _, _, _, _, _, _, _, _, _, rfl⟩ := h; rfl
theorem Dev.StateChange.now : d'.now = d.now := by obtain ⟨_, _, _, _, _, _, _, _, _, _, rfl⟩ := h; rfl
theorem Dev.StateChange.mgt : d'.mgt = d.mgt := by obtain ⟨_, _, _, _, _, _, _, _, _, _, rfl⟩ := h; rfl
theorem Dev.StateChange.removed : d'.top.removed = d.top.removed := by obtain ⟨_, _, _, _, _, _, _, _, _, _, rfl⟩ := h; rfl
theorem Dev.StateChange.logged (code : Nat) : d'.logged code = d.logged code := Dev.logged_of_log (congrArg FlgState.log h.flg) code
theorem Dev.StateChange.isRemoved (u : UnitId) : d'.isRemoved u = d.isRemoved u := by rw [Dev.isRemoved, h.removed, Dev.isRemoved]

end

/-! The failure of Hoist (R315, R333). -/

theorem Dev.removeUnit_isRemoved (d : Dev) (u : UnitId) : (d.removeUnit u).isRemoved u = true := by
  unfold Dev.isRemoved Dev.removeUnit
  simp only
  split
  · assumption
  · simp

/-- Hoist has failed and its failure is logged; HOI_STATUS shows it. -/
def Dev.hoistMarked (d : Dev) (code : Nat) : Dev :=
  (((d.raiseD code .hoist).tapsDown.setBit R.WAV_STATUS 8 true).setFld R.HOI_STATUS 2 0 2).setBit R.HOI_STATUS 7 false

/-- The command that ran ends, and neither channel serves. -/
def Dev.hoistStopped (d : Dev) : Dev :=
  let d := if d.fld R.HOI_CMD 9 8 == 3 then (d.setFld R.HOI_CMD 9 8 2).setFld R.HOI_CMD 23 16 1 else d
  ((d.setBit (R.HOI_CH_STATUS 0) 0 false).setBit (R.HOI_CH_STATUS 1) 0 false).setReg R.FMN_DRAM_CAP 0

theorem Dev.failHoist_eq (d : Dev) (code : Nat) : d.failHoist code =
    Dev.armIfReady { (d.hoistMarked code).hoistStopped with
      hoi := { (d.hoistMarked code).hoistStopped.hoi with training := none, ratePend := none, failCode := code, laneTest := none } } := rfl

/-- What ending Hoist's commands changes: registers. -/
theorem Dev.hoistStopped_regs (d : Dev) : d.RegsOf d.hoistStopped := by
  have hcmd : d.RegsOf (if d.fld R.HOI_CMD 9 8 == 3 then (d.setFld R.HOI_CMD 9 8 2).setFld R.HOI_CMD 23 16 1 else d) := by
    split
    · exact (d.setFld_regsOf _ _ _ _).trans (Dev.setFld_regsOf _ _ _ _ _)
    · exact .refl d
  exact ((hcmd.trans (Dev.setBit_regsOf _ _ _ _)).trans (Dev.setBit_regsOf _ _ _ _)).trans (Dev.setReg_regsOf _ _ _)

theorem Dev.hoistStopped_reg (d : Dev) {a : Nat} (h : a ∉ [R.HOI_CMD, R.HOI_CH_STATUS 0, R.HOI_CH_STATUS 1, R.FMN_DRAM_CAP]) :
    d.hoistStopped.reg a = d.reg a := by
  simp only [List.mem_cons, List.not_mem_nil, or_false, not_or] at h
  obtain ⟨hcmd, hch0, hch1, hcap⟩ := h
  unfold Dev.hoistStopped
  dsimp only
  rw [Dev.reg_setReg_ne _ _ _ _ hcap, Dev.reg_setBit_ne _ _ _ _ _ hch1, Dev.reg_setBit_ne _ _ _ _ _ hch0]
  split
  · exact (Dev.reg_setFld_ne _ _ _ _ _ _ hcmd).trans (Dev.reg_setFld_ne _ _ _ _ _ _ hcmd)
  · rfl

/-- What a failed Hoist shows and keeps. -/
structure Dev.HoistFailedBy (d d' : Dev) (code : Nat) : Prop where
  removed : d'.isRemoved .hoist = true
  status : d'.fld R.HOI_STATUS 2 0 = 2
  capacity : d'.reg R.FMN_DRAM_CAP = 0#32
  logged : d'.logged code = true
  hoi : d'.hoi = { d.hoi with training := none, ratePend := none, failCode := code, laneTest := none }

theorem Dev.failHoist_failed (d : Dev) (code : Nat) (h : d.faultRoom code = true) : d.HoistFailedBy (d.failHoist code) code := by
  have hflg : (d.hoistMarked code).flg = (d.logFault code .d).flg := by
    simp only [Dev.hoistMarked, Dev.setBit_flg, Dev.setFld_flg, Dev.tapsDown_flg]
    rfl
  have hlog : (d.hoistMarked code).logged code = true := by
    rw [Dev.logged_of_log (congrArg FlgState.log hflg), d.logFault_logged code .d _ _ h]
  have hremoved : (d.hoistMarked code).isRemoved .hoist = true := by
    have htop : (d.hoistMarked code).top = (d.raiseD code .hoist).top := by
      simp only [Dev.hoistMarked, Dev.setBit_top, Dev.setFld_top, Dev.tapsDown_top]
    rw [Dev.isRemoved, htop]
    exact Dev.removeUnit_isRemoved _ _
  have hhoi : (d.hoistMarked code).hoi = d.hoi := by
    simp only [Dev.hoistMarked, Dev.setBit_hoi, Dev.setFld_hoi, Dev.tapsDown_hoi]
    exact d.logFault_hoi code .d _ _
  have hstatus : (d.hoistMarked code).fld R.HOI_STATUS 2 0 = 2 := by
    rw [Dev.hoistMarked, Dev.setBit, Dev.fld_setFld_other _ _ _ _ _ _ _ (by decide) (by decide) (by decide) (by omega),
      Dev.fld_setFld_self _ _ _ _ _ (by decide) (by decide)]
    rfl
  rw [Dev.failHoist_eq]
  generalize d.hoistMarked code = e at *
  obtain ⟨r, hstopped⟩ := e.hoistStopped_regs
  have hchange := Dev.armIfReady_stateChange { e.hoistStopped with
      hoi := { e.hoistStopped.hoi with training := none, ratePend := none, failCode := code, laneTest := none } }
  refine ⟨?_, ?_, ?_, ?_, ?_⟩
  · rw [hchange.isRemoved, hstopped]
    exact hremoved
  · rw [Dev.fld_of_reg (Dev.armIfReady_reg _ (by decide))]
    exact (Dev.fld_of_reg (e.hoistStopped_reg (a := R.HOI_STATUS) (by decide)) 2 0).trans hstatus
  · rw [Dev.armIfReady_reg _ (by decide)]
    exact Dev.reg_setReg_self _ R.FMN_DRAM_CAP 0
  · rw [hchange.logged, hstopped]
    exact hlog
  · rw [hchange.hoi, hstopped]
    dsimp only
    rw [hhoi]

end Sys2Proof.Machine
end

section
/-! PROOF. O45: refreshes, parity alerts and self-refresh of Hoist (R327 to R331, R333). -/
namespace Sys2Proof.Machine

@[simp] theorem Dev.advanceTo_hoiCh (d : Dev) (t n : Nat) : (d.advanceTo t).hoiCh n = d.hoiCh n := Dev.hoiCh_of_chs (by simp) n

@[simp] theorem Dev.setFld_hoiCh (d : Dev) (a m l v n : Nat) : (d.setFld a m l v).hoiCh n = d.hoiCh n := (rfl)
@[simp] theorem Dev.setBit_hoiCh (d : Dev) (a i : Nat) (x : Bool) (n : Nat) : (d.setBit a i x).hoiCh n = d.hoiCh n := (rfl)
@[simp] theorem Dev.inc64_hoiCh (d : Dev) (a k n : Nat) : (d.inc64 a k).hoiCh n = d.hoiCh n := (rfl)
@[simp] theorem Dev.logFault_hoiCh (d : Dev) (code : Nat) (cls : FClass) (act ret : Bool) (n : Nat) : (d.logFault code cls act ret).hoiCh n = d.hoiCh n :=
  Dev.hoiCh_of_chs (by simp) n

@[simp] theorem Dev.onHoiCh_rbit (d : Dev) (n : Nat) (f : HoiCh → HoiCh) (a i : Nat) : (d.onHoiCh n f).rbit a i = d.rbit a i := (rfl)
@[simp] theorem Dev.onHoiCh_reg64 (d : Dev) (n : Nat) (f : HoiCh → HoiCh) (a : Nat) : (d.onHoiCh n f).reg64 a = d.reg64 a := (rfl)
@[simp] theorem Dev.onHoiCh_reg (d : Dev) (n : Nat) (f : HoiCh → HoiCh) (a : Nat) : (d.onHoiCh n f).reg a = d.reg a := (rfl)
@[simp] theorem Dev.onHoiCh_now (d : Dev) (n : Nat) (f : HoiCh → HoiCh) : (d.onHoiCh n f).now = d.now := (rfl)
@[simp] theorem Dev.onHoiCh_flg (d : Dev) (n : Nat) (f : HoiCh → HoiCh) : (d.onHoiCh n f).flg = d.flg := (rfl)
@[simp] theorem Dev.onHoiCh_fld (d : Dev) (n : Nat) (f : HoiCh → HoiCh) (a m l : Nat) : (d.onHoiCh n f).fld a m l = d.fld a m l := (rfl)
@[simp] theorem Dev.retryPut_fld (d : Dev) (n sub rank a m l : Nat) : (d.retryPut n sub rank).fld a m l = d.fld a m l := (rfl)
@[simp] theorem Dev.closeRank_fld (d : Dev) (n rank : Nat) (ba : Option Nat) (a m l : Nat) : (d.closeRank n rank ba).fld a m l = d.fld a m l := (rfl)

@[simp] theorem Dev.onHoiCh_top (d : Dev) (n : Nat) (f : HoiCh → HoiCh) : (d.onHoiCh n f).top = d.top := (rfl)
@[simp] theorem Dev.onHoiCh_logged (d : Dev) (n : Nat) (f : HoiCh → HoiCh) (code : Nat) : (d.onHoiCh n f).logged code = d.logged code := (rfl)

/-! The retry buffer (R330). -/

theorem Dev.retryPut_hoiCh (d : Dev) (n sub rank : Nat) : ∃ x, (d.retryPut n sub rank).hoiCh n =
    { d.hoiCh n with retry := ((d.hoiCh n).retry ++ [x]).drop (((d.hoiCh n).retry ++ [x]).length - 32) } := ⟨_, Dev.hoiCh_onHoiCh_self d.drew n _⟩

theorem Dev.rhActivate_off (d : Dev) (n bank row : Nat) (h : d.rbit R.HOI_RH_CFG 16 = false) : d.rhActivate n bank row = d := by
  simp [Dev.rhActivate, h]

/-- Commands put into the retry buffer of a channel that counts no activates. -/
theorem Dev.foldl_retryPut (n bank : Nat) (near : List Nat) : ∀ d : Dev, d.rbit R.HOI_RH_CFG 16 = false → (d.hoiCh n).retry.length ≤ 32 →
    ∃ l, (near.foldl (fun d x => (d.retryPut n (bank / 64) (bank / 32 % 2)).rhActivate n bank x) d).hoiCh n = { d.hoiCh n with retry := l } ∧
      l.length = min 32 ((d.hoiCh n).retry.length + near.length) := by
  induction near with
  | nil => exact fun d _ hlen => ⟨_, rfl, (min_eq_right hlen).symm⟩
  | cons row near ih =>
    intro d hoff hlen
    obtain ⟨x, hx⟩ := d.retryPut_hoiCh n (bank / 64) (bank / 32 % 2)
    have hoff' : (d.retryPut n (bank / 64) (bank / 32 % 2)).rbit R.HOI_RH_CFG 16 = false := hoff
    rw [List.foldl_cons, Dev.rhActivate_off _ _ _ _ hoff']
    obtain ⟨l, hl, hcount⟩ := ih (d.retryPut n (bank / 64) (bank / 32 % 2)) hoff' (by rw [hx]; simp; omega)
    rw [hx] at hl hcount
    refine ⟨l, hl, hcount.trans ?_⟩
    simp only [List.length_drop, List.length_append, List.length_cons, List.length_nil]
    omega

/-! Neighbour refreshes (R329). -/

/-- The rows within two of a row. -/
def nearRows (row rows : Nat) : List Nat :=
  (if 2 ≤ row then [row - 2] else []) ++ (if 1 ≤ row then [row - 1] else []) ++ [row + 1, row + 2].filter (fun x => decide (x < rows))

theorem length_nearRows {row rows : Nat} (hlow : 2 ≤ row) (hhigh : row + 2 < rows) : (nearRows row rows).length = 4 := by
  have hnext : row + 1 < rows := by omega
  have hone : 1 ≤ row := by omega
  simp [nearRows, hlow, hhigh, hnext, hone]

/-- A channel whose oldest neighbour refresh, of a row of bank `b`, has been taken. -/
def HoiCh.dequeued (b : Nat) (l : List (Nat × Nat)) (c : HoiCh) : HoiCh := { c with rhQueue := l, stallSince := none, openRows := mdel c.openRows b }

/-- What a neighbour refresh leaves of its channel. -/
structure HoiCh.NeighboursDone (c c' : HoiCh) (b : Nat) (l : List (Nat × Nat)) : Prop where
  queue : c'.rhQueue = l
  stall : c'.stallSince = none
  rows : c'.openRows = mdel c.openRows b
  retry : c'.retry.length = 4

theorem Dev.neighboursDone (d : Dev) {n : Nat} (b : Nat) (l : List (Nat × Nat)) (cyc : Nat) {near : List Nat}
    (hoff : d.rbit R.HOI_RH_CFG 16 = false) (hretry : (d.hoiCh n).retry = []) (hnear : near.length = 4) :
    (d.hoiCh n).NeighboursDone ((near.foldl (fun d x => (d.retryPut n (b / 64) (b / 32 % 2)).rhActivate n b x)
      ((d.onHoiCh n (HoiCh.dequeued b l)).inc64 (R.HOI_CNT_RH_STALL n) cyc)).hoiCh n) b l := by
  have hcfg : R.HOI_RH_CFG ≠ R.HOI_CNT_RH_STALL n ∧ R.HOI_RH_CFG ≠ R.HOI_CNT_RH_STALL n + 4 := by
    simp only [R.HOI_RH_CFG, R.HOI_CNT_RH_STALL]
    omega
  have hch : ((d.onHoiCh n (HoiCh.dequeued b l)).inc64 (R.HOI_CNT_RH_STALL n) cyc).hoiCh n =
      HoiCh.dequeued b l (d.hoiCh n) := Dev.hoiCh_onHoiCh_self d n _
  obtain ⟨r, hr, hlen⟩ := Dev.foldl_retryPut n b near
    ((d.onHoiCh n (HoiCh.dequeued b l)).inc64 (R.HOI_CNT_RH_STALL n) cyc)
    ((Dev.rbit_of_reg (Dev.reg_inc64_ne _ _ _ _ hcfg.1 hcfg.2) 16).trans hoff) (by rw [hch]; simp [HoiCh.dequeued, hretry])
  rw [hr, hch]
  exact ⟨rfl, rfl, rfl, by rw [hlen, hch]; simp [HoiCh.dequeued, hretry, hnear]⟩

/-! Parity alerts (R330). -/

theorem Dev.hoistServing_of_reg {d d' : Dev} (hreg : d'.reg R.HOI_STATUS = d.reg R.HOI_STATUS) (htop : d'.top = d.top) :
    d'.hoistServing = d.hoistServing := by
  rw [Dev.hoistServing, Dev.rbit_of_reg hreg, Dev.hoistFailed, htop, Dev.hoistServing, Dev.hoistFailed]

@[simp] theorem Dev.recoverEnd_hoiCh (d : Dev) (n : Nat) : (d.recoverEnd n).hoiCh n = { d.hoiCh n with recovery := none } := by
  have hch : (d.recoverEnd n).hoiCh n = (d.onHoiCh n (fun c => { c with recovery := none })).hoiCh n := Dev.hoiCh_of_chs rfl n
  rw [hch, Dev.hoiCh_onHoiCh_self]

theorem Dev.recoverEnd_now (d : Dev) (n : Nat) : (d.recoverEnd n).now = d.now := rfl
theorem Dev.recoverEnd_flg (d : Dev) (n : Nat) : (d.recoverEnd n).flg = d.flg := rfl
theorem Dev.recoverEnd_top (d : Dev) (n : Nat) : (d.recoverEnd n).top = d.top := rfl
theorem Dev.recoverEnd_shown (d : Dev) (n : Nat) : (d.recoverEnd n).rbit (R.HOI_CH_STATUS n) 3 = false := Dev.rbit_setBit_self _ _ 3 false (by decide)

/-- A parity alert is counted and shown. -/
def Dev.alerted (d : Dev) (n : Nat) : Dev := (d.inc64 (R.HOI_CNT_ALERT n) 1).setBit (R.HOI_CH_STATUS n) 3 true

theorem Dev.alerted_shown (d : Dev) (n : Nat) : (d.alerted n).rbit (R.HOI_CH_STATUS n) 3 = true := Dev.rbit_setBit_self _ _ 3 true (by decide)

theorem Dev.alerted_counted (d : Dev) (n : Nat) : (d.alerted n).reg64 (R.HOI_CNT_ALERT n) = (d.reg64 (R.HOI_CNT_ALERT n) + 1) % 2 ^ 64 := by
  have hne : R.HOI_CNT_ALERT n ≠ R.HOI_CH_STATUS n ∧ R.HOI_CNT_ALERT n + 4 ≠ R.HOI_CH_STATUS n := by
    simp only [R.HOI_CNT_ALERT, R.HOI_CH_STATUS]
    omega
  rw [Dev.alerted, Dev.reg64_setBit_ne _ _ _ 3 true hne.1 hne.2, Dev.reg64_inc64_self]

theorem Dev.alerted_fallbacks (d : Dev) (n : Nat) : (d.alerted n).reg64 (R.HOI_CNT_FALLBACK n) = d.reg64 (R.HOI_CNT_FALLBACK n) := by
  have hne : R.HOI_CNT_FALLBACK n ≠ R.HOI_CH_STATUS n ∧ R.HOI_CNT_FALLBACK n + 4 ≠ R.HOI_CH_STATUS n ∧ R.HOI_CNT_FALLBACK n ≠ R.HOI_CNT_ALERT n ∧
      R.HOI_CNT_FALLBACK n ≠ R.HOI_CNT_ALERT n + 4 ∧ R.HOI_CNT_FALLBACK n + 4 ≠ R.HOI_CNT_ALERT n ∧ R.HOI_CNT_FALLBACK n + 4 ≠ R.HOI_CNT_ALERT n + 4 := by
    simp only [R.HOI_CNT_FALLBACK, R.HOI_CH_STATUS, R.HOI_CNT_ALERT]
    omega
  obtain ⟨hch, hch4, hlow, hlow4, hhigh, hhigh4⟩ := hne
  rw [Dev.alerted, Dev.reg64_setBit_ne _ _ _ 3 true hch hch4]
  exact Dev.reg64_of_reg _ (Dev.reg_inc64_ne _ _ _ 1 hlow hlow4) (Dev.reg_inc64_ne _ _ _ 1 hhigh hhigh4)

theorem Dev.alerted_now (d : Dev) (n : Nat) : (d.alerted n).now = d.now := rfl
theorem Dev.alerted_flg (d : Dev) (n : Nat) : (d.alerted n).flg = d.flg := rfl
theorem Dev.alerted_top (d : Dev) (n : Nat) : (d.alerted n).top = d.top := rfl
theorem Dev.alerted_hoiCh (d : Dev) (n : Nat) : (d.alerted n).hoiCh n = d.hoiCh n := rfl

/-- What an alert does to a channel that serves. -/
def Dev.alertResponse (d : Dev) (n : Nat) (inReplay : Bool) : Dev :=
  match (d.hoiCh n).recovery with
  | some r =>
    if inReplay && r.replaying then
      if 3 ≤ r.attempt then d.fallBack n
      else d.onHoiCh n (fun c => { c with recovery := some { r with attempt := r.attempt + 1, replaying := false } })
    else d
  | none => d.onHoiCh n (fun c => { c with recovery := some { start := d.now } })

theorem Dev.alertResponse_calm (d : Dev) (n : Nat) (x : Bool) (h : (d.hoiCh n).recovery = none) :
    d.alertResponse n x = d.onHoiCh n (fun c => { c with recovery := some { start := d.now } }) := by
  simp only [Dev.alertResponse, h]

theorem Dev.alertResponse_third (d : Dev) (n : Nat) (r : Recovery) (h : (d.hoiCh n).recovery = some r) (hr : r.replaying = true) (ha : 3 ≤ r.attempt) :
    d.alertResponse n true = d.fallBack n := by
  simp only [Dev.alertResponse, h, hr, ha, Bool.and_self, if_true]

/-- The device whose channel `n` falls back, with its fault logged. -/
def Dev.fallenBack (d : Dev) (n : Nat) : Dev := ((d.recoverEnd n).inc64 (R.HOI_CNT_FALLBACK n) 1).logFault 0x1304 .n

theorem Dev.fallenBack_hoiCh (d : Dev) (n : Nat) : (d.fallenBack n).hoiCh n = { d.hoiCh n with recovery := none } := by
  rw [Dev.hoiCh_of_chs (d := d.recoverEnd n) (by simp [Dev.fallenBack]), Dev.recoverEnd_hoiCh]

theorem Dev.fallenBack_shown (d : Dev) {n : Nat} (hn : n < 2) : (d.fallenBack n).rbit (R.HOI_CH_STATUS n) 3 = false := by
  have hlog : R.HOI_CH_STATUS n ∉ logRegs := not_mem_logRegs (by simp only [R.HOI_CH_STATUS, R.FLG_STATUS]; omega)
  have hne : R.HOI_CH_STATUS n ≠ R.HOI_CNT_FALLBACK n ∧ R.HOI_CH_STATUS n ≠ R.HOI_CNT_FALLBACK n + 4 := by
    simp only [R.HOI_CNT_FALLBACK, R.HOI_CH_STATUS]
    omega
  rw [Dev.fallenBack, Dev.logFault_rbit _ _ _ _ _ hlog, Dev.rbit_of_reg (Dev.reg_inc64_ne _ _ _ _ hne.1 hne.2)]
  exact Dev.rbit_setBit_self _ _ 3 false (by decide)

theorem Dev.fallenBack_counted (d : Dev) {n : Nat} (hn : n < 2) :
    (d.fallenBack n).reg64 (R.HOI_CNT_FALLBACK n) = (d.reg64 (R.HOI_CNT_FALLBACK n) + 1) % 2 ^ 64 := by
  have hlog : R.HOI_CNT_FALLBACK n ∉ logRegs ∧ R.HOI_CNT_FALLBACK n + 4 ∉ logRegs := by
    constructor <;> exact not_mem_logRegs (by simp only [R.HOI_CNT_FALLBACK, R.FLG_STATUS]; omega)
  have hne : R.HOI_CNT_FALLBACK n ≠ R.HOI_CH_STATUS n ∧ R.HOI_CNT_FALLBACK n + 4 ≠ R.HOI_CH_STATUS n := by
    simp only [R.HOI_CNT_FALLBACK, R.HOI_CH_STATUS]
    omega
  rw [Dev.fallenBack, Dev.logFault_reg64 _ _ _ _ _ hlog, Dev.reg64_inc64_self, Dev.recoverEnd, Dev.reg64_setBit_ne _ _ _ 3 false hne.1 hne.2,
    Dev.onHoiCh_reg64]

theorem Dev.fallenBack_logged (d : Dev) (n : Nat) (h : d.faultRoom 0x1304 = true) : (d.fallenBack n).logged 0x1304 = true := by
  have hroom : ((d.recoverEnd n).inc64 (R.HOI_CNT_FALLBACK n) 1).faultRoom 0x1304 = true := by
    rw [Dev.faultRoom_of_log (d := d) (by rw [Dev.inc64_flg, Dev.recoverEnd_flg]), h]
  rw [Dev.fallenBack, Dev.logFault_logged _ _ _ _ _ hroom]

theorem Dev.fallenBack_top (d : Dev) (n : Nat) : (d.fallenBack n).top = d.top := by
  rw [Dev.fallenBack, Dev.logFault_top _ _ _ _ _ (by decide), Dev.inc64_top, Dev.recoverEnd_top]

/-- The times of the last second at which a channel fell back. -/
def Dev.recentFalls (d : Dev) (n : Nat) : List Nat := d.now :: (d.hoiCh n).falls.filter (fun x => decide (d.now < x + 1600000000))

theorem Dev.fallBack_eq (d : Dev) (n : Nat) : d.fallBack n =
    if 4 ≤ ((d.fallenBack n).recentFalls n).length
    then ((d.fallenBack n).onHoiCh n (fun c => { c with retry := [], falls := (d.fallenBack n).recentFalls n })).failHoist 0x1305
    else (d.fallenBack n).onHoiCh n (fun c => { c with retry := [], falls := (d.fallenBack n).recentFalls n }) := rfl

theorem Dev.fallBack_first (d : Dev) (n : Nat) (h : (d.hoiCh n).falls = []) :
    d.fallBack n = (d.fallenBack n).onHoiCh n (fun c => { c with retry := [], falls := [d.now] }) := by
  have hfalls : (d.fallenBack n).recentFalls n = [d.now] := by
    rw [Dev.recentFalls, Dev.fallenBack_hoiCh, h, Dev.fallenBack, Dev.logFault_now, Dev.inc64_now, Dev.recoverEnd_now, List.filter_nil]
  rw [Dev.fallBack_eq, hfalls, if_neg (by simp)]

section
variable (s : State) (t : Nat) {n : Nat} (h : s.dev.alive = true) (hs : s.dev.hoistServing = true) (hn : n < 2) (htr : s.dev.hoi.training = none)
include h hs hn htr

/-- An alert is counted; what follows depends on the channel's recovery. -/
theorem State.parityAlert_serving (x : Bool) : execParityAlert t n x s = .next { s with
    dev := ((s.dev.advanceTo t).alerted n).alertResponse n x } := by
  have hcount : R.HOI_STATUS ≠ R.HOI_CNT_ALERT n ∧ R.HOI_STATUS ≠ R.HOI_CNT_ALERT n + 4 := by
    simp only [R.HOI_STATUS, R.HOI_CNT_ALERT]
    omega
  have hserving : ((s.dev.advanceTo t).inc64 (R.HOI_CNT_ALERT n) 1).hoistServing = true := by
    rw [Dev.hoistServing_of_reg (d := s.dev.advanceTo t) (Dev.reg_inc64_ne _ _ _ _ hcount.1 hcount.2) rfl]
    simpa using hs
  have htraining : ((s.dev.advanceTo t).inc64 (R.HOI_CNT_ALERT n) 1).hoi.training = none := by simpa using htr
  refine (State.atTick_alive s t _ h).trans ?_
  simp only [if_neg (Nat.not_le.mpr hn), htraining, hserving, Option.isSome_none, Bool.not_true, Bool.false_eq_true, if_false]
  rfl

end

/-! Self-refresh (R331). -/

/-- Channel `n` has entered self-refresh. -/
def Dev.selfRefreshed (d : Dev) (n : Nat) : Dev :=
  (((d.setBit (R.HOI_CH_STATUS n) 1 true).setBit R.HOI_STATUS 5 true).inc64 (R.HOI_CNT_SR_ENTRY n) 1).onHoiCh n (fun c => { c with openRows := [] })

/-- An idle channel that may enter self-refresh does so, or its entry is aborted. -/
theorem State.selfRefreshEntry_idle (s : State) (t : Nat) {n : Nat} (x : Bool) (h : s.dev.alive = true) (hs : s.dev.hoistServing = true) (hn : n < 2)
    (hcfg : s.dev.rbit R.HOI_SR_CFG 0 = true) (hidle : s.dev.rtIdle = true) (hsr : s.dev.rbit (R.HOI_CH_STATUS n) 1 = false)
    (hlast : (s.dev.hoiCh n).lastReq + 1600 * s.dev.fld R.HOI_SR_CFG 31 16 ≤ (s.dev.advanceTo t).now) :
    execSelfRefreshEntry t n x s = .next { s with
      dev := if x then (s.dev.advanceTo t).inc64 (R.HOI_CNT_SR_ABORT n) 1 else (s.dev.advanceTo t).selfRefreshed n } := by
  have hmay : ¬ (2 ≤ n ∨ (!(s.dev.advanceTo t).hoistServing) = true ∨ (!(s.dev.advanceTo t).rbit R.HOI_SR_CFG 0) = true ∨
      (!decide (((s.dev.advanceTo t).hoiCh n).lastReq + 1600 * (s.dev.advanceTo t).fld R.HOI_SR_CFG 31 16 ≤ (s.dev.advanceTo t).now)) = true ∨
      (!(s.dev.advanceTo t).rtIdle) = true ∨ (s.dev.advanceTo t).rbit (R.HOI_CH_STATUS n) 1 = true) := by
    have hrt : (s.dev.advanceTo t).rtIdle = s.dev.rtIdle := by simp [Dev.rtIdle]
    simp [hn, hs, hcfg, hidle, hsr, hlast, hrt]
  refine (State.atTick_alive s t _ h).trans ?_
  simp only [if_neg hmay]
  rfl

theorem Dev.selfRefreshed_counted (d : Dev) {n : Nat} (hn : n < 2) :
    (d.selfRefreshed n).reg64 (R.HOI_CNT_SR_ENTRY n) = (d.reg64 (R.HOI_CNT_SR_ENTRY n) + 1) % 2 ^ 64 := by
  have hne : R.HOI_CNT_SR_ENTRY n ≠ R.HOI_CH_STATUS n ∧ R.HOI_CNT_SR_ENTRY n + 4 ≠ R.HOI_CH_STATUS n ∧
      R.HOI_CNT_SR_ENTRY n ≠ R.HOI_STATUS ∧ R.HOI_CNT_SR_ENTRY n + 4 ≠ R.HOI_STATUS := by
    simp only [R.HOI_CNT_SR_ENTRY, R.HOI_CH_STATUS, R.HOI_STATUS]
    omega
  obtain ⟨hch, hch4, hst, hst4⟩ := hne
  rw [Dev.selfRefreshed, Dev.onHoiCh_reg64, Dev.reg64_inc64_self, Dev.reg64_setBit_ne _ _ _ 5 true hst hst4, Dev.reg64_setBit_ne _ _ _ 1 true hch hch4]

theorem Dev.selfRefreshed_shown (d : Dev) {n : Nat} (hn : n < 2) :
    (d.selfRefreshed n).rbit (R.HOI_CH_STATUS n) 1 = true ∧ (d.selfRefreshed n).rbit R.HOI_STATUS 5 = true := by
  have hne : R.HOI_CH_STATUS n ≠ R.HOI_CNT_SR_ENTRY n ∧ R.HOI_CH_STATUS n ≠ R.HOI_CNT_SR_ENTRY n + 4 ∧ R.HOI_CH_STATUS n ≠ R.HOI_STATUS ∧
      R.HOI_STATUS ≠ R.HOI_CNT_SR_ENTRY n ∧ R.HOI_STATUS ≠ R.HOI_CNT_SR_ENTRY n + 4 := by
    simp only [R.HOI_CNT_SR_ENTRY, R.HOI_CH_STATUS, R.HOI_STATUS]
    omega
  obtain ⟨hcount, hcount4, hstatus, hst, hst4⟩ := hne
  rw [Dev.selfRefreshed, Dev.onHoiCh_rbit, Dev.onHoiCh_rbit, Dev.rbit_of_reg (Dev.reg_inc64_ne _ _ _ _ hcount hcount4),
    Dev.rbit_of_reg (Dev.reg_inc64_ne _ _ _ _ hst hst4), Dev.rbit_setBit_self _ _ 5 true (by decide), Dev.rbit_setBit_ne _ _ _ _ 1 true hstatus,
    Dev.rbit_setBit_self _ _ 1 true (by decide)]
  exact ⟨rfl, rfl⟩

theorem Dev.selfRefreshed_hoiCh (d : Dev) (n : Nat) : (d.selfRefreshed n).hoiCh n = { d.hoiCh n with openRows := [] } := by
  rw [Dev.selfRefreshed, Dev.hoiCh_onHoiCh_self, Dev.inc64_hoiCh, Dev.setBit_hoiCh, Dev.setBit_hoiCh]

theorem Dev.srExit_hoiCh (d : Dev) (n k : Nat) : (d.srExit n).hoiCh k = d.hoiCh k := rfl

/-- The end of self-refresh on one channel: HOI_STATUS shows what the other does. -/
theorem Dev.srExit_shown (d : Dev) {n : Nat} (hn : n < 2) :
    (d.srExit n).rbit (R.HOI_CH_STATUS n) 1 = false ∧ (d.srExit n).rbit R.HOI_STATUS 5 = d.rbit (R.HOI_CH_STATUS (1 - n)) 1 := by
  rcases (by omega : n = 0 ∨ n = 1) with rfl | rfl
  · refine ⟨?_, ?_⟩
    · rw [Dev.srExit, Dev.rbit_setBit_ne _ _ _ _ _ _ (by decide), Dev.rbit_setBit_self _ _ 1 false (by decide)]
    · rw [Dev.srExit, Dev.rbit_setBit_self _ _ 5 _ (by decide), Dev.rbit_setBit_self _ _ 1 false (by decide), Dev.rbit_setBit_ne _ _ _ _ _ _ (by decide), Bool.false_or]
  · refine ⟨?_, ?_⟩
    · rw [Dev.srExit, Dev.rbit_setBit_ne _ _ _ _ _ _ (by decide), Dev.rbit_setBit_self _ _ 1 false (by decide)]
    · rw [Dev.srExit, Dev.rbit_setBit_self _ _ 5 _ (by decide), Dev.rbit_setBit_self _ _ 1 false (by decide), Dev.rbit_setBit_ne _ _ _ _ _ _ (by decide), Bool.or_false]

/-- Settles O45: refreshes, polls, alerts and self-refresh change their channel as chapter 16 says. -/
theorem hoistUpkeepComplete : Obligations.HoistUpkeepComplete := by
  refine ⟨?refreshDue, ?refreshPostponed, ?temperaturePoll, ?neighbourRefresh, ?refreshWindowEnd, ?rowCloseOnIdle, ?parityAlert,
    ?parityFallBack, ?alertNRise, ?parityRecoveryTimeout, ?selfRefreshEntry, ?selfRefreshAborted, ?selfRefreshExit, ?hoistQueueParityError⟩
  case refreshDue =>
    intro s t n r b halive hserving hcalm hn hsr hsame hpanic
    refine ⟨_, (State.atTick_alive s t _ halive : execRefreshDue t n r b false s = _), ?_⟩
    have hissued : ¬ (2 ≤ n ∨ (!(s.dev.advanceTo t).hoistServing) = true ∨ (s.dev.advanceTo t).rbit (R.HOI_CH_STATUS n) 1 = true) := by
      simp [hserving, hsr, hn]
    have hquiet : (s.dev.advanceTo t).rtPanic false = false := by simp [Dev.rtPanic, hpanic]
    have hall : ((s.dev.advanceTo t).setFld (R.HOI_CH_STATUS n) 6 4 0).rbit (R.HOI_CH_STATUS n) 2 = false := by
      rw [Dev.rbit, Dev.fld_setFld_other _ _ _ _ _ _ _ (by decide) (by decide) (by decide) (by omega)]
      simpa [Dev.rbit] using hsame
    have hzero : ((s.dev.advanceTo t).setFld (R.HOI_CH_STATUS n) 6 4 0).fld (R.HOI_CH_STATUS n) 6 4 = 0 :=
      Dev.fld_setFld_self _ _ _ _ _ (by decide) (by decide)
    simp only [if_neg hissued, Dev.advanceTo_hoiCh, hcalm, Option.isSome_none, hquiet, Bool.false_and, Bool.false_eq_true, if_false]
    refine ⟨by rw [Dev.closeRank_fld, Dev.retryPut_fld, hzero], ?_, sameMemory.refl s⟩
    obtain ⟨x, hx⟩ := ((s.dev.advanceTo t).setFld (R.HOI_CH_STATUS n) 6 4 0).retryPut_hoiCh n 0 r
    have hkept : ((s.dev.advanceTo t).setFld (R.HOI_CH_STATUS n) 6 4 0).hoiCh n = s.dev.hoiCh n := s.dev.advanceTo_hoiCh t n
    rw [hall, if_neg (by decide), Dev.closeRank, Dev.hoiCh_onHoiCh_self, hx, hkept]
    simp [bne]
  case refreshPostponed =>
    intro s t n r b halive hserving hcalm hn hsr hpanic hfew
    refine ⟨_, (State.atTick_alive s t _ halive : execRefreshDue t n r b false s = _), ?_⟩
    have hissued : ¬ (2 ≤ n ∨ (!(s.dev.advanceTo t).hoistServing) = true ∨ (s.dev.advanceTo t).rbit (R.HOI_CH_STATUS n) 1 = true) := by
      simp [hserving, hsr, hn]
    have hpostponed : ((s.dev.advanceTo t).rtPanic false && decide ((s.dev.advanceTo t).fld (R.HOI_CH_STATUS n) 6 4 < 4)) = true := by
      simp [Dev.rtPanic, hpanic, hfew]
    simp only [if_neg hissued, Dev.advanceTo_hoiCh, hcalm, Option.isSome_none, hpostponed, Bool.false_eq_true, if_false, if_true]
    refine ⟨?_, s.dev.advanceTo_hoi t, sameMemory.refl s⟩
    rw [Dev.fld_setFld_self _ _ _ _ _ (by decide) (by decide), Dev.advanceTo_fld]
    omega
  case temperaturePoll =>
    intro s t n r x halive hserving hddr hn
    refine ⟨_, (State.atTick_alive s t _ halive : execTemperaturePoll t n r x s = _), ?_⟩
    have hpoll : ((s.dev.advanceTo t).hoistServing && (s.dev.advanceTo t).ddr5 && decide (n < 2)) = true := by
      simpa [hserving, hn, Dev.ddr5] using hddr
    rw [if_pos hpoll]
    exact ⟨by rw [Dev.hoiCh_onHoiCh_self, mget_mput_self], by rw [Dev.hoiCh_onHoiCh_self, Dev.advanceTo_hoiCh], s.dev.advanceTo_regs t, sameMemory.refl s⟩
  case neighbourRefresh =>
    intro s t n b row l halive hserving hcalm hn hoff hqueue hretry hlow hhigh
    refine ⟨_, (State.atTick_alive s t _ halive : execNeighbourRefresh t n s = _), ?_⟩
    have hserved : (!(s.dev.advanceTo t).hoistServing || (s.dev.hoiCh n).recovery.isSome) = false := by simp [hserving, hcalm]
    have hrows : (s.dev.advanceTo t).geom n = s.dev.geom n := by rw [Dev.geom, Dev.advanceTo_reg, Dev.geom]
    have hdone (cyc : Nat) := (s.dev.advanceTo t).neighboursDone b l cyc ((s.dev.advanceTo_rbit t _ _).trans hoff)
      (by rw [Dev.advanceTo_hoiCh]; exact hretry) (length_nearRows hlow hhigh)
    simp only [Dev.advanceTo_hoiCh, hqueue, hrows]
    rw [hserved, if_neg (by decide)]
    exact ⟨(hdone _).queue, (hdone _).stall, (hdone _).rows.trans (by rw [Dev.advanceTo_hoiCh]), (hdone _).retry, sameMemory.refl s⟩
  case refreshWindowEnd =>
    intro s t n halive
    refine ⟨_, (State.atTick_alive s t _ halive : execRefreshWindowEnd t n s = _), ?_⟩
    exact ⟨by rw [Dev.hoiCh_onHoiCh_self, Dev.advanceTo_hoiCh], by rw [Dev.hoiCh_onHoiCh_self, Dev.advanceTo_hoiCh], s.dev.advanceTo_regs t,
      sameMemory.refl s⟩
  case rowCloseOnIdle =>
    intro s t n b row x halive hopen hidle
    refine ⟨_, (State.atTick_alive s t _ halive : execRowCloseOnIdle t n b false s = _), ?_⟩
    have hdue : (false || decide (x + 16 * (s.dev.advanceTo t).fld (R.HOI_CH_PAGE n) 7 0 ≤ (s.dev.advanceTo t).now)) = true := by
      simpa using hidle
    obtain ⟨e, he⟩ := (s.dev.advanceTo t).retryPut_hoiCh n (b / 64) (b / 32 % 2)
    simp only [Dev.advanceTo_hoiCh, hopen, hdue, if_true]
    exact ⟨by rw [Dev.hoiCh_onHoiCh_self, he, Dev.advanceTo_hoiCh], s.dev.advanceTo_regs t, sameMemory.refl s⟩
  case parityAlert =>
    intro s t n halive hserving hcalm hn htraining
    refine ⟨_, s.parityAlert_serving t halive hserving hn htraining false, ?_⟩
    have hch : ((s.dev.advanceTo t).alerted n).hoiCh n = s.dev.hoiCh n := by rw [Dev.alerted_hoiCh, Dev.advanceTo_hoiCh]
    rw [Dev.alertResponse_calm _ _ _ (hch ▸ hcalm)]
    exact ⟨by rw [Dev.hoiCh_onHoiCh_self, hch, Dev.alerted_now], by rw [Dev.onHoiCh_rbit, Dev.alerted_shown],
      by rw [Dev.onHoiCh_reg64, Dev.alerted_counted, Dev.advanceTo_reg64], by rw [Dev.onHoiCh_top, Dev.alerted_top, Dev.advanceTo_top], sameMemory.refl s⟩
  case parityFallBack =>
    intro s t n r halive hserving hrec hn htraining hreplay hattempt hfalls hroom
    refine ⟨_, s.parityAlert_serving t halive hserving hn htraining true, ?_⟩
    have hch : ((s.dev.advanceTo t).alerted n).hoiCh n = s.dev.hoiCh n := by rw [Dev.alerted_hoiCh, Dev.advanceTo_hoiCh]
    rw [Dev.alertResponse_third _ _ r (hch ▸ hrec) hreplay hattempt, Dev.fallBack_first _ _ (hch ▸ hfalls)]
    have hcount : ((s.dev.advanceTo t).alerted n).reg64 (R.HOI_CNT_FALLBACK n) = s.dev.reg64 (R.HOI_CNT_FALLBACK n) := by
      rw [Dev.alerted_fallbacks, Dev.advanceTo_reg64]
    have hroom' : ((s.dev.advanceTo t).alerted n).faultRoom 0x1304 = true := by
      rw [Dev.faultRoom_of_log (d := s.dev) (by rw [Dev.alerted_flg, Dev.advanceTo_flg]), hroom]
    have htop : ((s.dev.advanceTo t).alerted n).top = s.dev.top := by rw [Dev.alerted_top, Dev.advanceTo_top]
    exact ⟨by rw [Dev.hoiCh_onHoiCh_self, Dev.fallenBack_hoiCh], by rw [Dev.hoiCh_onHoiCh_self], by rw [Dev.hoiCh_onHoiCh_self, Dev.alerted_now],
      by rw [Dev.onHoiCh_rbit, Dev.fallenBack_shown _ hn], by rw [Dev.onHoiCh_reg64, Dev.fallenBack_counted _ hn, hcount],
      by rw [Dev.onHoiCh_logged, Dev.fallenBack_logged _ _ hroom'], by rw [Dev.onHoiCh_top, Dev.fallenBack_top, htop], sameMemory.refl s⟩
  case alertNRise =>
    intro s t n r halive hrec hreplay hn
    refine ⟨_, (State.atTick_alive s t _ halive : execAlertNRise t n true s = _), ?_⟩
    simp only [Dev.advanceTo_hoiCh, hrec, hreplay, Bool.false_eq_true, if_false, if_true]
    refine ⟨?_, Dev.recoverEnd_shown _ n, by rw [Dev.recoverEnd_top, Dev.onHoiCh_top, Dev.advanceTo_top], sameMemory.refl s⟩
    rw [Dev.recoverEnd_hoiCh, Dev.hoiCh_onHoiCh_self, Dev.advanceTo_hoiCh]
  case parityRecoveryTimeout =>
    intro s t n r halive hrec hlate hroom
    refine ⟨_, (State.atTick_alive s t _ halive : execParityRecoveryTimeout t n s = _), ?_⟩
    have hlate' : r.start + 160000 < (s.dev.advanceTo t).now := hlate
    simp only [Dev.advanceTo_hoiCh, hrec]
    rw [if_pos hlate']
    obtain ⟨hremoved, hstatus, -, hlogged, hhoi⟩ := ((s.dev.advanceTo t).recoverEnd n).failHoist_failed 0x1305 ((Dev.faultRoom_of_log (by simp [Dev.recoverEnd, Dev.onHoiCh]) _).trans hroom)
    refine ⟨?_, hremoved, hstatus, hlogged, sameMemory.refl s⟩
    rw [Dev.hoiCh_of_chs (d := (s.dev.advanceTo t).recoverEnd n) (by rw [hhoi]), Dev.recoverEnd_hoiCh]
  case selfRefreshEntry =>
    intro s t n halive hserving hn hcfg hidle hsr hlast
    refine ⟨_, s.selfRefreshEntry_idle t false halive hserving hn hcfg hidle hsr hlast, ?_⟩
    rw [if_neg (by decide)]
    exact ⟨(Dev.selfRefreshed_shown _ hn).1, (Dev.selfRefreshed_shown _ hn).2, by rw [Dev.selfRefreshed_counted _ hn, Dev.advanceTo_reg64],
      by rw [Dev.selfRefreshed_hoiCh, Dev.advanceTo_hoiCh], sameMemory.refl s⟩
  case selfRefreshAborted =>
    intro s t n halive hserving hn hcfg hidle hsr hlast
    have hne : R.HOI_CH_STATUS n ≠ R.HOI_CNT_SR_ABORT n ∧ R.HOI_CH_STATUS n ≠ R.HOI_CNT_SR_ABORT n + 4 := by
      simp only [R.HOI_CNT_SR_ABORT, R.HOI_CH_STATUS]
      omega
    refine ⟨_, s.selfRefreshEntry_idle t true halive hserving hn hcfg hidle hsr hlast, ?_⟩
    rw [if_pos rfl]
    exact ⟨by rw [Dev.rbit_of_reg (Dev.reg_inc64_ne _ _ _ _ hne.1 hne.2), Dev.advanceTo_rbit, hsr], by rw [Dev.reg64_inc64_self, Dev.advanceTo_reg64],
      s.dev.advanceTo_hoi t, sameMemory.refl s⟩
  case selfRefreshExit =>
    intro s t n halive hn
    refine ⟨_, (State.atTick_alive s t _ halive : execSelfRefreshExit t n s = _), ?_⟩
    obtain ⟨hch, hstatus⟩ := (s.dev.advanceTo t).srExit_shown hn
    rw [if_pos hn]
    refine ⟨by rw [Dev.onHoiCh_rbit, hch], by rw [Dev.onHoiCh_rbit, hstatus, Dev.advanceTo_rbit], ?_, sameMemory.refl s⟩
    rw [Dev.hoiCh_onHoiCh_self, Dev.srExit_hoiCh, Dev.advanceTo_hoiCh]
  case hoistQueueParityError =>
    intro s t halive hroom
    refine ⟨_, (State.atTick_alive s t _ halive : execHoistQueueParityError t s = _), ?_⟩
    obtain ⟨hremoved, hstatus, hcap, hlogged, -⟩ := (s.dev.advanceTo t).failHoist_failed 0x1307 ((Dev.faultRoom_of_log (by simp) _).trans hroom)
    exact ⟨hremoved, hstatus, hcap, hlogged, sameMemory.refl s⟩

end Sys2Proof.Machine
end

section
/-! PROOF. O43: the training of Hoist, its rate and the lane test (R314 to R317, R332, R333). -/
namespace Sys2Proof.Machine

@[simp] theorem Dev.accepted_hoi (d : Dev) (src a : Nat) (w : Word) : (d.accepted src a w).hoi = d.hoi := by simp [Dev.accepted]

/-- A change of the device leaves the memories. -/
theorem sameMemory.withDev (s : State) (d : Dev) : sameMemory s { s with dev := d } := ⟨rfl, rfl, rfl, rfl⟩

/-! What HOI_TRAIN shows (Table 16-8). -/

/-- HOI_TRAIN shows step, rate and rank of a training. -/
def Dev.shows (d : Dev) (x : Training) : Dev := ((d.setFld R.HOI_TRAIN 3 0 x.step).setFld R.HOI_TRAIN 5 4 x.rate).setFld R.HOI_TRAIN 6 6 x.rank

theorem Dev.shows_regsOf (d : Dev) (x : Training) : d.RegsOf (d.shows x) :=
  ((d.setFld_regsOf _ _ _ _).trans (Dev.setFld_regsOf _ _ _ _ _)).trans (Dev.setFld_regsOf _ _ _ _ _)

@[simp] theorem Dev.shows_top (d : Dev) (x : Training) : (d.shows x).top = d.top := by obtain ⟨_, h⟩ := d.shows_regsOf x; rw [h]
@[simp] theorem Dev.shows_hoi (d : Dev) (x : Training) : (d.shows x).hoi = d.hoi := by obtain ⟨_, h⟩ := d.shows_regsOf x; rw [h]
@[simp] theorem Dev.shows_flg (d : Dev) (x : Training) : (d.shows x).flg = d.flg := by obtain ⟨_, h⟩ := d.shows_regsOf x; rw [h]

theorem Dev.shows_reg (d : Dev) (x : Training) {a : Nat} (h : a ≠ R.HOI_TRAIN) : (d.shows x).reg a = d.reg a :=
  (Dev.reg_setFld_ne _ _ _ _ _ _ h).trans ((Dev.reg_setFld_ne _ _ _ _ _ _ h).trans (Dev.reg_setFld_ne _ _ _ _ _ _ h))

theorem Dev.shows_step (d : Dev) (x : Training) (h : x.step < 16) : (d.shows x).fld R.HOI_TRAIN 3 0 = x.step := by
  rw [Dev.shows, Dev.fld_setFld_other _ _ _ _ _ _ _ (by decide) (by decide) (by decide) (by omega),
    Dev.fld_setFld_other _ _ _ _ _ _ _ (by decide) (by decide) (by decide) (by omega), Dev.fld_setFld_self _ _ _ _ _ (by decide) (by decide)]
  omega

theorem Dev.shows_repeats (d : Dev) (x : Training) : (d.shows x).fld R.HOI_TRAIN 15 8 = d.fld R.HOI_TRAIN 15 8 := by
  rw [Dev.shows, Dev.fld_setFld_other _ _ _ _ _ _ _ (by decide) (by decide) (by decide) (by omega),
    Dev.fld_setFld_other _ _ _ _ _ _ _ (by decide) (by decide) (by decide) (by omega),
    Dev.fld_setFld_other _ _ _ _ _ _ _ (by decide) (by decide) (by decide) (by omega)]

/-- The device with Hoist's state replaced. -/
def Dev.withHoi (d : Dev) (h : HoiState) : Dev := { d with hoi := h }

@[simp] theorem Dev.withHoi_hoi (d : Dev) (h : HoiState) : (d.withHoi h).hoi = h := (rfl)
@[simp] theorem Dev.withHoi_reg (d : Dev) (h : HoiState) (a : Nat) : (d.withHoi h).reg a = d.reg a := (rfl)
@[simp] theorem Dev.withHoi_fld (d : Dev) (h : HoiState) (a m l : Nat) : (d.withHoi h).fld a m l = d.fld a m l := (rfl)
@[simp] theorem Dev.withHoi_rbit (d : Dev) (h : HoiState) (a i : Nat) : (d.withHoi h).rbit a i = d.rbit a i := (rfl)
@[simp] theorem Dev.withHoi_flg (d : Dev) (h : HoiState) : (d.withHoi h).flg = d.flg := (rfl)
@[simp] theorem Dev.withHoi_top (d : Dev) (h : HoiState) : (d.withHoi h).top = d.top := (rfl)

/-- A training under way. -/
def Dev.trains (d : Dev) (x : Training) : Dev := d.withHoi { d.hoi with training := some x }

theorem Dev.putTraining_eq (d : Dev) (x : Training) : d.putTraining x = (d.trains x).shows x := rfl

/-! A gathering step ends (R314, R315). -/

theorem Dev.trainStep_gather (d : Dev) (ok : Bool) (x : Training) (h : d.hoi.training = some x) (hp : d.hoi.ratePend = none) (h1 : 1 ≤ x.step) (h6 : x.step ≤ 6) :
    d.trainStep ok = d.gatherEnd x ok := by
  have hlast : ¬ x.step = 7 := by omega
  have hfirst : ¬ x.step = 0 := by omega
  simp only [Dev.trainStep, h, hp, if_neg hlast, if_neg hfirst]

theorem Dev.gatherEnd_passed (d : Dev) (x : Training) (h : x.step < 6) : d.gatherEnd x true = (d.trains { x with step := x.step + 1, again := false }).shows { x with step := x.step + 1, again := false } := by
  rw [Dev.gatherEnd, if_pos rfl, Training.next, if_pos h, Dev.putTraining_eq]

theorem Dev.gatherEnd_again (d : Dev) (x : Training) (h : x.again = false) :
    d.gatherEnd x false = ((d.incSat R.HOI_TRAIN 15 8 1).trains { x with again := true }).shows { x with again := true } := by
  rw [Dev.gatherEnd, if_neg (by decide), h]
  rfl

theorem Dev.gatherEnd_failed (d : Dev) (x : Training) (h : x.again = true) (hr : x.rate ≠ 0) : d.gatherEnd x false = d.failHoist 0x1301 := by
  rw [Dev.gatherEnd, if_neg (by decide), h, if_neg (by decide), if_neg hr]

theorem State.trainingStepDone_eq (s : State) (t : Nat) (ok : Bool) (x : Training) (ha : s.dev.alive = true) (h : s.dev.hoi.training = some x) :
    execTrainingStepDone t ok [] s = .next { s with dev := (s.dev.advanceTo t).trainStep ok } := by
  refine (State.atTick_alive s t _ ha).trans ?_
  simp only [Dev.advanceTo_hoi, h, List.foldl_nil, ite_self]

theorem Dev.fld_lt (d : Dev) (a m l : Nat) : d.fld a m l < 2 ^ (m + 1 - l) := Nat.mod_lt _ (Nat.two_pow_pos _)

theorem Dev.incSat_fld_self (d : Dev) (a m l n : Nat) (h : m < 32) (hl : l ≤ m) :
    (d.incSat a m l n).fld a m l = Nat.min (2 ^ (m + 1 - l) - 1) (d.fld a m l + n) := by
  have hsat : satN (2 ^ (m + 1 - l) - 1) (d.fld a m l + n) = Nat.min (2 ^ (m + 1 - l) - 1) (d.fld a m l + n) := by
    simp only [satN, Nat.min_def]
    split <;> split <;> omega
  have hpos : 0 < 2 ^ (m + 1 - l) := Nat.two_pow_pos _
  have hle : Nat.min (2 ^ (m + 1 - l) - 1) (d.fld a m l + n) ≤ 2 ^ (m + 1 - l) - 1 := Nat.min_le_left _ _
  rw [Dev.incSat, Dev.fld_setFld_self _ _ _ _ _ h hl, hsat, Nat.mod_eq_of_lt (by omega)]

/-! Training starts (R316, R317). -/

/-- What the start of training ends: the taps' captures, service, and the count of repeats. -/
def Dev.trainingCleared (d : Dev) : Dev :=
  ((((d.tapsDown.setBit R.HOI_STATUS 0 false).setBit R.HOI_STATUS 2 true).setBit R.HOI_STATUS 7 false).setFld R.HOI_TRAIN 15 8 0).setReg R.FMN_DRAM_CAP 0

/-- Channel `n` as training towards `target` finds it. -/
def Dev.chanCleared (d : Dev) (target n : Nat) : Dev :=
  ((d.setBit (R.HOI_CH_STATUS n) 0 false).setFld (R.HOI_CH_GEOM n) 18 18 (b2n (target < 2))).onHoiCh n (fun c => { c with openRows := [], recovery := none, results := [] })

/-- Hoist just before training starts. -/
def Dev.beforeTraining (d : Dev) (target : Nat) : Dev := (d.trainingCleared.chanCleared target 0).chanCleared target 1

/-- The training that starts. -/
def Dev.firstTraining (d : Dev) (target : Nat) (retrain : Bool) : Training :=
  { target := target, rate := firstRate target, start := d.now, retrain := retrain }

theorem Dev.startTraining_eq (d : Dev) (target : Nat) (retrain : Bool) : d.startTraining target retrain =
    Dev.shows ((d.beforeTraining target).withHoi
        { (d.beforeTraining target).hoi with training := some ((d.beforeTraining target).firstTraining target retrain), ratePend := none, laneTest := none })
      ((d.beforeTraining target).firstTraining target retrain) := rfl

/-- What the start of training leaves of the device: all but the taps, Hoist and the registers of `startRegs`. -/
def startRegs : List Nat :=
  [R.HOI_STATUS, R.HOI_TRAIN, R.FMN_DRAM_CAP, R.HOI_CH_STATUS 0, R.HOI_CH_STATUS 1, R.HOI_CH_GEOM 0, R.HOI_CH_GEOM 1]

theorem Dev.chanCleared_now (d : Dev) (target n : Nat) : (d.chanCleared target n).now = d.now := by
  rw [Dev.chanCleared, Dev.onHoiCh_now, Dev.setFld_now, Dev.setBit_now]
theorem Dev.chanCleared_flg (d : Dev) (target n : Nat) : (d.chanCleared target n).flg = d.flg := by
  rw [Dev.chanCleared, Dev.onHoiCh_flg, Dev.setFld_flg, Dev.setBit_flg]
theorem Dev.trainingCleared_now (d : Dev) : d.trainingCleared.now = d.now := by simp [Dev.trainingCleared]
theorem Dev.trainingCleared_flg (d : Dev) : d.trainingCleared.flg = d.flg := by simp [Dev.trainingCleared]

theorem Dev.beforeTraining_now (d : Dev) (target : Nat) : (d.beforeTraining target).now = d.now := by
  rw [Dev.beforeTraining, Dev.chanCleared_now, Dev.chanCleared_now, Dev.trainingCleared_now]

theorem Dev.beforeTraining_flg (d : Dev) (target : Nat) : (d.beforeTraining target).flg = d.flg := by
  rw [Dev.beforeTraining, Dev.chanCleared_flg, Dev.chanCleared_flg, Dev.trainingCleared_flg]

theorem Dev.chanCleared_reg (d : Dev) (target n : Nat) {a : Nat} (h : a ≠ R.HOI_CH_STATUS n) (h' : a ≠ R.HOI_CH_GEOM n) :
    (d.chanCleared target n).reg a = d.reg a := by
  rw [Dev.chanCleared, Dev.onHoiCh_reg, Dev.reg_setFld_ne _ _ _ _ _ _ h', Dev.reg_setBit_ne _ _ _ _ _ h]

theorem Dev.trainingCleared_reg (d : Dev) {a : Nat} (hs : a ≠ R.HOI_STATUS) (ht : a ≠ R.HOI_TRAIN) (hc : a ≠ R.FMN_DRAM_CAP) :
    d.trainingCleared.reg a = d.reg a := by
  rw [Dev.trainingCleared, Dev.reg_setReg_ne _ _ _ _ hc, Dev.reg_setFld_ne _ _ _ _ _ _ ht, Dev.reg_setBit_ne _ _ _ _ _ hs, Dev.reg_setBit_ne _ _ _ _ _ hs,
    Dev.reg_setBit_ne _ _ _ _ _ hs, Dev.reg_of_regs d.tapsDown_regs]

theorem Dev.beforeTraining_reg (d : Dev) (target : Nat) {a : Nat} (h : a ∉ startRegs) : (d.beforeTraining target).reg a = d.reg a := by
  simp only [startRegs, List.mem_cons, List.not_mem_nil, or_false, not_or] at h
  obtain ⟨hstatus, htrain, hcap, hch0, hch1, hgeom0, hgeom1⟩ := h
  rw [Dev.beforeTraining, Dev.chanCleared_reg _ _ _ hch1 hgeom1, Dev.chanCleared_reg _ _ _ hch0 hgeom0, Dev.trainingCleared_reg _ hstatus htrain hcap]

theorem Dev.beforeTraining_stopped (d : Dev) (target : Nat) :
    (d.beforeTraining target).rbit R.HOI_STATUS 0 = false ∧ (d.beforeTraining target).reg R.FMN_DRAM_CAP = 0#32 := by
  have hch (a : Nat) (ha : a ∈ [R.HOI_STATUS, R.FMN_DRAM_CAP]) : (d.beforeTraining target).reg a = d.trainingCleared.reg a := by
    simp only [List.mem_cons, List.not_mem_nil, or_false] at ha
    rcases ha with rfl | rfl
    · rw [Dev.beforeTraining, Dev.chanCleared_reg _ _ _ (by decide) (by decide), Dev.chanCleared_reg _ _ _ (by decide) (by decide)]
    · rw [Dev.beforeTraining, Dev.chanCleared_reg _ _ _ (by decide) (by decide), Dev.chanCleared_reg _ _ _ (by decide) (by decide)]
  refine ⟨?_, ?_⟩
  · rw [Dev.rbit_of_reg (hch _ (by simp)), Dev.trainingCleared, Dev.rbit_of_reg (Dev.reg_setReg_ne _ _ _ _ (by decide)),
      Dev.rbit_of_reg (Dev.reg_setFld_ne _ _ _ _ _ _ (by decide)), Dev.rbit_setBit_other _ _ _ (by decide) (by decide),
      Dev.rbit_setBit_other _ _ _ (by decide) (by decide), Dev.rbit_setBit_self _ _ _ _ (by decide)]
  · rw [hch _ (by simp), Dev.trainingCleared, Dev.reg_setReg_self]
    rfl

/-- What the start of training shows and keeps. -/
structure Dev.TrainingStarted (d d' : Dev) (x : Training) : Prop where
  training : d'.hoi.training = some x
  stopped : d'.rbit R.HOI_STATUS 0 = false
  capacity : d'.reg R.FMN_DRAM_CAP = 0#32
  kept : ∀ a ∉ startRegs, d'.reg a = d.reg a
  flg : d'.flg = d.flg

theorem Dev.startTraining_started (d : Dev) (target : Nat) (retrain : Bool) :
    d.TrainingStarted (d.startTraining target retrain) { target := target, rate := firstRate target, start := d.now, retrain := retrain } := by
  obtain ⟨hstopped, hcap⟩ := d.beforeTraining_stopped target
  have hkept := fun a (ha : a ∉ startRegs) => d.beforeTraining_reg target ha
  have hnow := d.beforeTraining_now target
  have hflg := d.beforeTraining_flg target
  rw [Dev.startTraining_eq]
  generalize d.beforeTraining target = e at *
  refine ⟨by rw [Dev.shows_hoi, Dev.withHoi_hoi, Dev.firstTraining, hnow], ?_, ?_, fun a ha => ?_, by rw [Dev.shows_flg, Dev.withHoi_flg, hflg]⟩
  · rw [Dev.rbit_of_reg (Dev.shows_reg _ _ (by decide)), Dev.withHoi_rbit, hstopped]
  · rw [Dev.shows_reg _ _ (by decide), Dev.withHoi_reg, hcap]
  · have htrain : a ≠ R.HOI_TRAIN := by
      rintro rfl
      exact ha (by decide)
    rw [Dev.shows_reg _ _ htrain, Dev.withHoi_reg, hkept a ha]

/-! Training succeeds (R317, R320). -/

/-- What a training that has succeeded shows: service, the rate, the epoch, the capacity and the time it took. -/
def Dev.trainedShown (d : Dev) (x : Training) : Dev :=
  let d := (d.setFld R.HOI_STATUS 2 0 1).setFld R.HOI_STATUS 9 8 x.rate
  let d := (d.setReg R.HOI_EPOCH (d.reg R.HOI_EPOCH + 1)).setReg R.FMN_DRAM_CAP (BitVec.ofNat 32 (dramCap x.rate))
  d.setFld R.HOI_TRAIN 31 16 (satN 65535 ((d.now - x.start) / 1600000))

/-- Channel `n` serves. -/
def Dev.chanServes (d : Dev) (same : Bool) (n : Nat) : Dev :=
  ((d.setBit (R.HOI_CH_STATUS n) 0 true).setBit (R.HOI_CH_STATUS n) 2 same).onHoiCh n (fun c => { c with tagCache := [] })

/-- No position shows dead. -/
def Dev.deadCleared (d : Dev) : Dev :=
  ((((d.setReg (R.HOI_CH_DEAD0 0) 0).setReg (R.HOI_CH_DEAD1 0) 0).setReg (R.HOI_CH_DEAD0 1) 0).setReg (R.HOI_CH_DEAD1 1) 0).setFld R.HOI_STATUS 17 16 0

/-- The device with its removed units replaced. -/
def Dev.withRemoved (d : Dev) (l : List UnitId) : Dev := { d with top := { d.top with removed := l } }

@[simp] theorem Dev.withRemoved_reg (d : Dev) (l : List UnitId) (a : Nat) : (d.withRemoved l).reg a = d.reg a := (rfl)
@[simp] theorem Dev.withRemoved_fld (d : Dev) (l : List UnitId) (a m n : Nat) : (d.withRemoved l).fld a m n = d.fld a m n := (rfl)

/-- A retraining whose lane-test baseline passed forgets the dead positions. -/
def Dev.baselined (d : Dev) (b : Bool) : Dev :=
  if b then
    let d := [R.HOI_CH_DEAD0 0, R.HOI_CH_DEAD1 0, R.HOI_CH_DEAD0 1, R.HOI_CH_DEAD1 1].foldl (fun (d : Dev) a => d.setReg a 0) d
    { (d.setFld R.HOI_STATUS 17 16 0) with top := { d.top with removed := d.top.removed.filter (fun u => match u with | .dramDevice _ _ _ => false | _ => true) } }
  else d

theorem Dev.baselined_eq (d : Dev) (b : Bool) : d.baselined b =
    if b then d.deadCleared.withRemoved (d.top.removed.filter (fun u => match u with | .dramDevice _ _ _ => false | _ => true)) else d := rfl

/-- Hoist rejoins. -/
def Dev.hoistBack (d : Dev) : Dev := { (d.reinstateUnit .hoist) with hoi := { d.hoi with training := none }, boot := { d.boot with dramDone := true } }

theorem Dev.trainedShown_facts (d : Dev) (x : Training) (hx : x.rate < 4) :
    (d.trainedShown x).fld R.HOI_STATUS 2 0 = 1 ∧ (d.trainedShown x).fld R.HOI_STATUS 9 8 = x.rate ∧
    (d.trainedShown x).reg R.HOI_EPOCH = d.reg R.HOI_EPOCH + 1 ∧ (d.trainedShown x).reg R.FMN_DRAM_CAP = BitVec.ofNat 32 (dramCap x.rate) := by
  have hfld (m l : Nat) : (d.trainedShown x).fld R.HOI_STATUS m l = ((d.setFld R.HOI_STATUS 2 0 1).setFld R.HOI_STATUS 9 8 x.rate).fld R.HOI_STATUS m l := by
    rw [Dev.trainedShown, Dev.fld_setFld_ne _ _ _ _ _ _ _ _ (by decide), Dev.fld_setReg_ne _ _ _ _ _ _ (by decide), Dev.fld_setReg_ne _ _ _ _ _ _ (by decide)]
  refine ⟨?_, ?_, ?_, ?_⟩
  · rw [hfld, Dev.fld_setFld_other _ _ _ _ _ _ _ (by decide) (by decide) (by decide) (by omega), Dev.fld_setFld_self _ _ _ _ _ (by decide) (by decide)]
    rfl
  · rw [hfld, Dev.fld_setFld_self _ _ _ _ _ (by decide) (by decide)]
    omega
  · rw [Dev.trainedShown, Dev.reg_setFld_ne _ _ _ _ _ _ (by decide), Dev.reg_setReg_ne _ _ _ _ (by decide), Dev.reg_setReg_self,
      Dev.reg_setFld_ne _ _ _ _ _ _ (by decide), Dev.reg_setFld_ne _ _ _ _ _ _ (by decide)]
  · rw [Dev.trainedShown, Dev.reg_setFld_ne _ _ _ _ _ _ (by decide), Dev.reg_setReg_self]

/-- The registers that the rest of a successful training changes. -/
def rejoinRegs : List Nat :=
  [R.HOI_STATUS, R.HOI_CH_STATUS 0, R.HOI_CH_STATUS 1, R.HOI_CH_DEAD0 0, R.HOI_CH_DEAD1 0, R.HOI_CH_DEAD0 1, R.HOI_CH_DEAD1 1, R.WAV_STATUS] ++ armRegs

theorem Dev.chanServes_reg (d : Dev) (same : Bool) (n : Nat) {a : Nat} (h : a ≠ R.HOI_CH_STATUS n) : (d.chanServes same n).reg a = d.reg a := by
  rw [Dev.chanServes, Dev.onHoiCh_reg, Dev.reg_setBit_ne _ _ _ _ _ h, Dev.reg_setBit_ne _ _ _ _ _ h]

theorem Dev.deadCleared_reg (d : Dev) {a : Nat} (h : a ∉ [R.HOI_CH_DEAD0 0, R.HOI_CH_DEAD1 0, R.HOI_CH_DEAD0 1, R.HOI_CH_DEAD1 1]) (hs : a ≠ R.HOI_STATUS) :
    d.deadCleared.reg a = d.reg a := by
  simp only [List.mem_cons, List.not_mem_nil, or_false, not_or] at h
  obtain ⟨h00, h10, h01, h11⟩ := h
  rw [Dev.deadCleared, Dev.reg_setFld_ne _ _ _ _ _ _ hs, Dev.reg_setReg_ne _ _ _ _ h11, Dev.reg_setReg_ne _ _ _ _ h01, Dev.reg_setReg_ne _ _ _ _ h10,
    Dev.reg_setReg_ne _ _ _ _ h00]

theorem Dev.baselined_reg (d : Dev) (b : Bool) {a : Nat} (h : a ∉ [R.HOI_CH_DEAD0 0, R.HOI_CH_DEAD1 0, R.HOI_CH_DEAD0 1, R.HOI_CH_DEAD1 1])
    (hs : a ≠ R.HOI_STATUS) : (d.baselined b).reg a = d.reg a := by
  rw [Dev.baselined_eq]
  split
  · rw [Dev.withRemoved_reg, Dev.deadCleared_reg _ h hs]
  · rfl

theorem Dev.baselined_status (d : Dev) (b : Bool) {m l : Nat} (hm : m < 16) (hl : l ≤ m) : (d.baselined b).fld R.HOI_STATUS m l = d.fld R.HOI_STATUS m l := by
  rw [Dev.baselined_eq]
  split
  · rw [Dev.withRemoved_fld, Dev.deadCleared, Dev.fld_setFld_other _ _ _ _ _ _ _ (by omega) hl (by decide) (by omega), Dev.fld_setReg_ne _ _ _ _ _ _ (by decide),
      Dev.fld_setReg_ne _ _ _ _ _ _ (by decide), Dev.fld_setReg_ne _ _ _ _ _ _ (by decide), Dev.fld_setReg_ne _ _ _ _ _ _ (by decide)]
  · rfl

@[simp] theorem Dev.hoistBack_reg (d : Dev) (a : Nat) : d.hoistBack.reg a = d.reg a := (rfl)

/-- Hoist as a successful training leaves it, before the taps and the device state follow. -/
def Dev.rejoined (d : Dev) (x : Training) (b : Bool) : Dev :=
  (((((d.trainedShown x).chanServes (decide (x.rate < 2) && decide (16 * 2 ^ 30 < (d.trainedShown x).chBytes 0)) 0).chanServes
      (decide (x.rate < 2) && decide (16 * 2 ^ 30 < (d.trainedShown x).chBytes 0)) 1).baselined (x.retrain && b)).hoistBack).setBit R.WAV_STATUS 8 false

theorem Dev.rejoined_reg (d : Dev) (x : Training) (b : Bool) {a : Nat} (h : a ∉ rejoinRegs) : (d.rejoined x b).reg a = (d.trainedShown x).reg a := by
  simp only [rejoinRegs, List.mem_append, List.mem_cons, List.not_mem_nil, or_false, not_or] at h
  obtain ⟨⟨hstatus, hch0, hch1, h00, h10, h01, h11, hwav⟩, -⟩ := h
  rw [Dev.rejoined, Dev.reg_setBit_ne _ _ _ _ _ hwav, Dev.hoistBack_reg, Dev.baselined_reg _ _ (by simp [h00, h10, h01, h11]) hstatus,
    Dev.chanServes_reg _ _ _ hch1, Dev.chanServes_reg _ _ _ hch0]

theorem Dev.rejoined_status (d : Dev) (x : Training) (b : Bool) {m l : Nat} (hm : m < 16) (hl : l ≤ m) :
    (d.rejoined x b).fld R.HOI_STATUS m l = (d.trainedShown x).fld R.HOI_STATUS m l := by
  have hback (e : Dev) : (e.hoistBack.setBit R.WAV_STATUS 8 false).fld R.HOI_STATUS m l = e.fld R.HOI_STATUS m l :=
    Dev.fld_of_reg ((Dev.reg_setBit_ne _ _ _ _ _ (by decide)).trans (Dev.hoistBack_reg e _)) m l
  rw [Dev.rejoined, hback, Dev.baselined_status _ _ hm hl, Dev.fld_of_reg (Dev.chanServes_reg _ _ _ (by decide)), Dev.fld_of_reg (Dev.chanServes_reg _ _ _ (by decide))]

theorem Dev.rejoined_units (d : Dev) (x : Training) (b : Bool) :
    (d.rejoined x b).hoi.training = none ∧ (d.rejoined x b).isRemoved .hoist = false ∧ (d.rejoined x b).boot.dramDone = true := by
  have hback (e : Dev) : (e.hoistBack.setBit R.WAV_STATUS 8 false).hoi.training = none ∧ (e.hoistBack.setBit R.WAV_STATUS 8 false).isRemoved .hoist = false ∧
      (e.hoistBack.setBit R.WAV_STATUS 8 false).boot.dramDone = true := by
    refine ⟨by rw [Dev.setBit_hoi]; rfl, ?_, by rw [Dev.setBit_boot]; rfl⟩
    rw [Dev.isRemoved, Dev.setBit_top]
    simp [Dev.hoistBack, Dev.reinstateUnit]
  exact hback _

theorem Dev.trained_eq (d : Dev) (x : Training) (b : Bool) : d.trained x b = (d.rejoined x b).tapsUp.armIfReady := by
  unfold Dev.rejoined
  rfl

theorem Dev.trained_units (d : Dev) (x : Training) (b : Bool) :
    (d.trained x b).hoi.training = none ∧ (d.trained x b).isRemoved .hoist = false ∧ (d.trained x b).boot.dramDone = true := by
  have hchange : (d.rejoined x b).tapsUp.StateChange (d.trained x b) := d.trained_eq x b ▸ Dev.armIfReady_stateChange _
  obtain ⟨htraining, hremoved, hdone⟩ := d.rejoined_units x b
  exact ⟨by rw [hchange.hoi, Dev.tapsUp_hoi, htraining], by rw [hchange.isRemoved, Dev.isRemoved, Dev.tapsUp_top, ← Dev.isRemoved, hremoved],
    by rw [hchange.boot, Dev.tapsUp_boot, hdone]⟩

theorem Dev.trained_shown (d : Dev) (x : Training) (b : Bool) (hx : x.rate < 4) :
    (d.trained x b).fld R.HOI_STATUS 2 0 = 1 ∧ (d.trained x b).fld R.HOI_STATUS 9 8 = x.rate ∧ (d.trained x b).reg R.HOI_EPOCH = d.reg R.HOI_EPOCH + 1 ∧
    (d.trained x b).reg R.FMN_DRAM_CAP = BitVec.ofNat 32 (dramCap x.rate) := by
  obtain ⟨hserves, hrate, hepoch, hcap⟩ := d.trainedShown_facts x hx
  have harm {a : Nat} (ha : a ∉ armRegs) : (d.trained x b).reg a = (d.rejoined x b).reg a := by
    rw [Dev.trained_eq, Dev.armIfReady_reg _ ha, Dev.reg_of_regs (Dev.tapsUp_regs _)]
  refine ⟨?_, ?_, ?_, ?_⟩
  · rw [Dev.fld_of_reg (harm (by decide)), Dev.rejoined_status _ _ _ (by decide) (by decide), hserves]
  · rw [Dev.fld_of_reg (harm (by decide)), Dev.rejoined_status _ _ _ (by decide) (by decide), hrate]
  · rw [harm (by decide), Dev.rejoined_reg _ _ _ (by decide), hepoch]
  · rw [harm (by decide), Dev.rejoined_reg _ _ _ (by decide), hcap]

/-! HOI_CMD (Table 16-8). -/

/-- HOI_CMD answered with its status and reason. -/
def Dev.hoiAnswer (d : Dev) (w : Word) (status reason : Nat) : Dev := d.setReg R.HOI_CMD (cmdWord w 0x30FF status reason)

theorem Dev.hoiAnswer_status (d : Dev) (w : Word) (status reason : Nat) :
    (d.hoiAnswer w status reason).fld R.HOI_CMD 9 8 = bits (BitVec.ofNat 32 (status * 256 + reason * 65536)) 9 8 := by
  rw [Dev.hoiAnswer, Dev.fld_setReg_self]
  exact bits_cmdWord w _ status reason 9 8 (by decide)

theorem Dev.hoiAnswer_reason (d : Dev) (w : Word) (status reason : Nat) :
    (d.hoiAnswer w status reason).fld R.HOI_CMD 23 16 = bits (BitVec.ofNat 32 (status * 256 + reason * 65536)) 23 16 := by
  rw [Dev.hoiAnswer, Dev.fld_setReg_self]
  exact bits_cmdWord w _ status reason 23 16 (by decide)

@[simp] theorem Dev.hoiAnswer_hoi (d : Dev) (w : Word) (status reason : Nat) : (d.hoiAnswer w status reason).hoi = d.hoi := (rfl)
@[simp] theorem Dev.hoiAnswer_flg (d : Dev) (w : Word) (status reason : Nat) : (d.hoiAnswer w status reason).flg = d.flg := (rfl)

theorem Dev.hoiAnswer_reg (d : Dev) (w : Word) (status reason : Nat) {a : Nat} (h : a ≠ R.HOI_CMD) : (d.hoiAnswer w status reason).reg a = d.reg a :=
  Dev.reg_setReg_ne _ _ _ _ h

theorem Dev.hoiCmd_retrain (d : Dev) : d.hoiCmd 1#32 =
    if !d.inState [.armed, .held] then d.hoiAnswer 1#32 2 1
    else if d.hoistFailed && !d.faultCleared d.hoi.failCode then d.hoiAnswer 1#32 2 2
    else match d.hoi.training with
      | some x =>
        if 1 ≤ x.step then (({ d with hoi := { d.hoi with ratePend := some (d.fld R.HOI_CTRL 1 0) } } : Dev).setBit R.HOI_STATUS 7 true).hoiAnswer 1#32 1 0
        else (d.putTraining { x with target := d.fld R.HOI_CTRL 1 0, rate := firstRate (d.fld R.HOI_CTRL 1 0), retrain := true }).hoiAnswer 1#32 1 0
      | none => (d.startTraining (d.fld R.HOI_CTRL 1 0) true).hoiAnswer 1#32 1 0 := rfl

theorem Dev.hoiCmd_retrain_rejected (d : Dev) (h : d.inState [.armed, .held] = false) : d.hoiCmd 1#32 = d.hoiAnswer 1#32 2 1 := by
  rw [Dev.hoiCmd_retrain, h]
  rfl

theorem Dev.hoiCmd_retrain_starts (d : Dev) (h : d.inState [.armed, .held] = true) (hf : d.hoistFailed = false) (ht : d.hoi.training = none) :
    d.hoiCmd 1#32 = (d.startTraining (d.fld R.HOI_CTRL 1 0) true).hoiAnswer 1#32 1 0 := by
  simp only [Dev.hoiCmd_retrain, h, hf, ht, Bool.not_true, Bool.false_and, Bool.false_eq_true, if_false]

/-- The word that names a rank of a channel for a lane test. -/
def laneTestWord (n r : Nat) : Word := BitVec.ofNat 32 (2 + 4096 * (n % 2) + 8192 * (r % 2))

theorem bits_laneTestWord (n r : Nat) : bits (laneTestWord n r) 7 0 = 2 ∧ bits (laneTestWord n r) 12 12 = n % 2 ∧ bits (laneTestWord n r) 13 13 = r % 2 := by
  have hn : n % 2 < 2 := Nat.mod_lt _ (by decide)
  have hr : r % 2 < 2 := Nat.mod_lt _ (by decide)
  simp only [bits, laneTestWord, BitVec.toNat_ofNat]
  omega

theorem Dev.hoiCmd_laneTest (d : Dev) (n r : Nat) : d.hoiCmd (laneTestWord n r) =
    if d.hoi.training.isSome || d.hoi.laneTest.isSome then d.hoiAnswer (laneTestWord n r) 2 3
    else if !d.hoistServing then d.hoiAnswer (laneTestWord n r) 2 1
    else (d.withHoi { d.hoi with laneTest := some (n % 2, r % 2, true) }).hoiAnswer (laneTestWord n r) 3 0 := by
  obtain ⟨hop, hch, hrank⟩ := bits_laneTestWord n r
  simp only [Dev.hoiCmd, hop, hch, hrank]
  rfl

/-! HOI_CTRL (R316, R317). -/

/-- A mask that keeps every bit of a field keeps the field. -/
theorem bits_and_mask (v mask : Word) (m l : Nat) (h : mask.extractLsb' l (m + 1 - l) = BitVec.allOnes (m + 1 - l)) : bits (v &&& mask) m l = bits v m l := by
  rw [bits_eq_extract, bits_eq_extract, BitVec.extractLsb'_and, h, BitVec.and_allOnes]

theorem Dev.hoiCtrlWrite_starts (d : Dev) (v : Word) (hs : d.inState [.armed, .held] = true) (hf : d.hoistFailed = false) (ht : d.hoi.training = none)
    (hv : bits v 1 0 ≠ d.fld R.HOI_CTRL 1 0) : d.hoiCtrlWrite v = (d.setReg R.HOI_CTRL (v &&& 0x1F#32)).startTraining (bits v 1 0) false := by
  have hrate : bits (v &&& 0x1F#32) 1 0 = bits v 1 0 := bits_and_mask v _ 1 0 (by decide)
  have hnotRanging : d.ranging = false := by
    simp only [Dev.inState, List.contains_cons, List.contains_nil, Bool.or_false, Bool.or_eq_true, beq_iff_eq] at hs
    rcases hs with h | h <;> simp [Dev.ranging, h]
  have hs' : (d.setReg R.HOI_CTRL (v &&& 0x1F#32)).inState [.armed, .held] = true := by simpa only [Dev.inState, Dev.setReg_top] using hs
  have hf' : (d.setReg R.HOI_CTRL (v &&& 0x1F#32)).hoistFailed = false := by simpa only [Dev.hoistFailed, Dev.setReg_top] using hf
  simp only [Dev.hoiCtrlWrite, hrate, if_neg hv, hnotRanging, Dev.setReg_hoi, ht, hs', hf', Bool.not_false, Bool.and_self, Bool.false_eq_true, if_false, if_true]

theorem Dev.hoiCtrlWrite_refused (d : Dev) (v : Word) (hs : d.ranging = true) (hv : bits v 1 0 ≠ d.fld R.HOI_CTRL 1 0) :
    d.hoiCtrlWrite v = (d.setReg R.HOI_CTRL (setBits (v &&& 0x1F#32) 1 0 (d.fld R.HOI_CTRL 1 0))).setBit R.HOI_STATUS 4 true := by
  have hrate : bits (v &&& 0x1F#32) 1 0 = bits v 1 0 := bits_and_mask v _ 1 0 (by decide)
  simp only [Dev.hoiCtrlWrite, hrate, if_neg hv, hs, if_true]

/-! The end of a lane test (R332). -/

/-- The register that shows the dead positions of a rank. -/
def deadReg (n r : Nat) : Nat := if r = 0 then R.HOI_CH_DEAD0 n else R.HOI_CH_DEAD1 n

/-- A position newly found dead. -/
def Dev.markedDead (d : Dev) (n r p : Nat) : Dev :=
  ((d.setBit (deadReg n r) p true).setBit R.HOI_STATUS (16 + n) true).raiseD 0x1306 (.dramDevice n r p)

theorem Dev.markDead_new (d : Dev) (n r p : Nat) (h : d.rbit (deadReg n r) p = false) : d.markDead n r p = d.markedDead n r p := by
  have hshown : ¬ d.rbit (if r = 0 then R.HOI_CH_DEAD0 n else R.HOI_CH_DEAD1 n) p = true := by
    intro ht
    exact absurd (ht.symm.trans h) (by decide)
  rw [Dev.markDead]
  exact if_neg hshown

theorem deadReg_facts {n : Nat} (r : Nat) (hn : n < 2) : deadReg n r ∉ logRegs ∧ deadReg n r ≠ R.HOI_STATUS ∧ deadReg n r ≠ R.HOI_CMD := by
  have hbounds : 0x250110 ≤ deadReg n r ∧ deadReg n r < 0x290000 := by
    rw [deadReg]
    split
    · simp only [R.HOI_CH_DEAD0]; omega
    · simp only [R.HOI_CH_DEAD1]; omega
  refine ⟨not_mem_logRegs hbounds.2, ?_, ?_⟩
  · simp only [R.HOI_STATUS]; omega
  · simp only [R.HOI_CMD]; omega

theorem Dev.raiseD_reg (d : Dev) (code : Nat) (u : UnitId) {a : Nat} (h : a ∉ logRegs) : (d.raiseD code u).reg a = d.reg a :=
  d.logFault_reg_of code .d _ _ h

theorem Dev.raiseD_logged (d : Dev) (code : Nat) (u : UnitId) (h : d.faultRoom code = true) : (d.raiseD code u).logged code = true :=
  d.logFault_logged code .d _ _ h

theorem Dev.raiseD_state (d : Dev) (code : Nat) (u : UnitId) : (d.raiseD code u).top.state = d.top.state := d.logFault_top_state code .d _ _

@[simp] theorem Dev.raiseD_hoi (d : Dev) (code : Nat) (u : UnitId) : (d.raiseD code u).hoi = d.hoi := d.logFault_hoi code .d _ _

theorem Dev.markedDead_hoi (d : Dev) (n r p : Nat) : (d.markedDead n r p).hoi = d.hoi := by
  rw [Dev.markedDead, Dev.raiseD_hoi, Dev.setBit_hoi, Dev.setBit_hoi]

/-- What marking a position dead shows and keeps. -/
structure Dev.MarkedDead (d d' : Dev) (n r p : Nat) : Prop where
  shown : d'.rbit (deadReg n r) p = true
  removed : d'.isRemoved (.dramDevice n r p) = true
  logged : d'.logged 0x1306 = true
  state : d'.top.state = d.top.state
  command : d'.fld R.HOI_CMD 9 8 = d.fld R.HOI_CMD 9 8

theorem Dev.markedDead_marked (d : Dev) {n : Nat} (r p : Nat) (hn : n < 2) (hp : p < 20) (h : d.faultRoom 0x1306 = true) :
    d.MarkedDead (d.markedDead n r p) n r p := by
  obtain ⟨hlog, hstatus, hcmd⟩ := deadReg_facts r hn
  have hroom : ((d.setBit (deadReg n r) p true).setBit R.HOI_STATUS (16 + n) true).faultRoom 0x1306 = true := by
    rw [Dev.faultRoom_of_log (d := d) (by rw [Dev.setBit_flg, Dev.setBit_flg]), h]
  refine ⟨?_, Dev.removeUnit_isRemoved _ _, Dev.raiseD_logged _ _ _ hroom, ?_, ?_⟩
  · rw [Dev.markedDead, Dev.rbit_of_reg (Dev.raiseD_reg _ _ _ hlog), Dev.rbit_setBit_ne _ _ _ _ _ _ hstatus, Dev.rbit_setBit_self _ _ _ _ (by omega)]
  · rw [Dev.markedDead, Dev.raiseD_state, Dev.setBit_top, Dev.setBit_top]
  · rw [Dev.markedDead, Dev.fld_of_reg (Dev.raiseD_reg _ _ _ (by decide)), Dev.fld_of_reg (Dev.reg_setBit_ne _ _ _ _ _ (by decide)),
      Dev.fld_of_reg (Dev.reg_setBit_ne _ _ _ _ _ hcmd.symm)]

/-- A commanded lane test that finds one new dead position. -/
theorem State.laneTestDone_one (s : State) (t n r p : Nat) (ha : s.dev.alive = true) (ht : s.dev.hoi.laneTest = some (n, r, true)) (hn : n < 2) (hp : p < 20)
    (hdead : s.dev.rbit (deadReg n r) p = false) (hcmd : s.dev.fld R.HOI_CMD 9 8 = 3) (hroom : s.dev.faultRoom 0x1306 = true) :
    execLaneTestDone t [p] s = .next { s with
      dev := (((s.dev.advanceTo t).withHoi { s.dev.hoi with laneTest := none }).markedDead n r p).setFld R.HOI_CMD 9 8 1 } := by
  have hmark := ((s.dev.advanceTo t).withHoi { s.dev.hoi with laneTest := none }).markDead_new n r p (by rw [Dev.withHoi_rbit, Dev.advanceTo_rbit, hdead])
  have hkept := (((s.dev.advanceTo t).withHoi { s.dev.hoi with laneTest := none }).markedDead_marked r p hn hp
    (by rw [Dev.faultRoom_of_log (d := s.dev) (by rw [Dev.withHoi_flg, Dev.advanceTo_flg]), hroom])).command
  rw [Dev.withHoi_fld, Dev.advanceTo_fld, hcmd] at hkept
  have hdone : (true && (((s.dev.advanceTo t).withHoi { s.dev.hoi with laneTest := none }).markedDead n r p).fld R.HOI_CMD 9 8 == 3) = true := by
    rw [hkept]
    rfl
  have hfold : [p].foldl (fun (d : Dev) p => if p < 20 then d.markDead n r p else d) ((s.dev.advanceTo t).withHoi { s.dev.hoi with laneTest := none }) =
      ((s.dev.advanceTo t).withHoi { s.dev.hoi with laneTest := none }).markedDead n r p := by
    rw [List.foldl_cons, List.foldl_nil, if_pos hp, hmark]
  have hoi : { s.dev.advanceTo t with hoi := { (s.dev.advanceTo t).hoi with laneTest := none } } = (s.dev.advanceTo t).withHoi { s.dev.hoi with laneTest := none } := by
    rw [Dev.withHoi, Dev.advanceTo_hoi]
  refine (State.atTick_alive s t _ ha).trans ?_
  simp only [Dev.advanceTo_hoi, ht]
  simp only [Dev.advanceTo_hoi] at hoi
  rw [hoi, hfold, if_pos hdone]

theorem State.trainingComplete_eq (s : State) (t : Nat) (x : Training) (b : Bool) (ha : s.dev.alive = true) (h : s.dev.hoi.training = some x)
    (hp : s.dev.hoi.ratePend = none) (hs : x.step = 7) : execTrainingComplete t b s = .next { s with dev := (s.dev.advanceTo t).trained x b } := by
  have hlast : ¬ (x.step != 7) = true := by simp [hs]
  refine (State.atTick_alive s t _ ha).trans ?_
  simp only [Dev.advanceTo_hoi, h, hp, if_neg hlast]

/-- Settles O43: training, the rate and the lane test of Hoist run as chapter 16 says. -/
theorem hoistTrainingComplete : Obligations.HoistTrainingComplete := by
  refine ⟨?trainingStepDone, ?trainingStepAgain, ?trainingFails, ?trainingComplete, ?hoiRetrain, ?hoiRetrainRejected, ?hoiRateWrite, ?hoiRateRefused,
    ?laneTest, ?laneTestRejected, ?laneTestDone⟩
  case trainingStepDone =>
    intro s t x halive htraining hpend hfirst hlast
    refine ⟨_, s.trainingStepDone_eq t true x halive htraining, ?_⟩
    rw [Dev.trainStep_gather _ _ x (by rw [Dev.advanceTo_hoi, htraining]) (by rw [Dev.advanceTo_hoi, hpend]) hfirst (by omega), Dev.gatherEnd_passed _ _ hlast]
    have hstep := ((s.dev.advanceTo t).trains { x with step := x.step + 1, again := false }).shows_step { x with step := x.step + 1, again := false }
      (by show x.step + 1 < 16; omega)
    exact ⟨by rw [Dev.shows_hoi, Dev.trains, Dev.withHoi_hoi], hstep, by rw [Dev.shows_top, Dev.trains, Dev.withHoi_top, Dev.advanceTo_top], sameMemory.withDev s _⟩
  case trainingStepAgain =>
    intro s t x halive htraining hpend hfirst hlast hagain
    refine ⟨_, s.trainingStepDone_eq t false x halive htraining, ?_⟩
    rw [Dev.trainStep_gather _ _ x (by rw [Dev.advanceTo_hoi, htraining]) (by rw [Dev.advanceTo_hoi, hpend]) hfirst hlast, Dev.gatherEnd_again _ _ hagain]
    refine ⟨by rw [Dev.shows_hoi, Dev.trains, Dev.withHoi_hoi], ?_,
      by rw [Dev.shows_top, Dev.trains, Dev.withHoi_top, Dev.incSat_top, Dev.advanceTo_top], sameMemory.withDev s _⟩
    rw [Dev.shows_repeats, Dev.trains, Dev.withHoi_fld, Dev.incSat_fld_self _ _ _ _ _ (by decide) (by decide), Dev.advanceTo_fld]
    rfl
  case trainingFails =>
    intro s t x halive htraining hpend hfirst hlast hagain hrate hroom
    refine ⟨_, s.trainingStepDone_eq t false x halive htraining, ?_⟩
    rw [Dev.trainStep_gather _ _ x (by rw [Dev.advanceTo_hoi, htraining]) (by rw [Dev.advanceTo_hoi, hpend]) hfirst hlast, Dev.gatherEnd_failed _ _ hagain hrate]
    obtain ⟨hremoved, hstatus, hcap, hlogged, hhoi⟩ := (s.dev.advanceTo t).failHoist_failed 0x1301
      (by rw [Dev.faultRoom_of_log (d := s.dev) (by rw [Dev.advanceTo_flg]), hroom])
    exact ⟨by rw [hhoi], hremoved, hstatus, hcap, hlogged, sameMemory.withDev s _⟩
  case trainingComplete =>
    intro s t x b halive htraining hpend hstep hrate
    refine ⟨_, s.trainingComplete_eq t x b halive htraining hpend hstep, ?_⟩
    obtain ⟨hnone, hremoved, hdone⟩ := (s.dev.advanceTo t).trained_units x b
    obtain ⟨hserves, hshown, hepoch, hcap⟩ := (s.dev.advanceTo t).trained_shown x b hrate
    dsimp only
    exact ⟨hnone, hremoved, hserves, hshown, by rw [hepoch, Dev.advanceTo_reg], hcap, hdone, sameMemory.withDev s _⟩
  case hoiRetrain =>
    intro s src t hcmd hstate hgood htraining
    refine ⟨_, (s.cmdWrite_taken src t _ _ _ hcmd : execHoiRetrain src t s = _), ?_⟩
    have hctrl : ((s.dev.advanceTo t).accepted src R.HOI_CMD 1#32).fld R.HOI_CTRL 1 0 = s.dev.fld R.HOI_CTRL 1 0 := by
      rw [Dev.accepted_fld _ _ _ _ (by decide), Dev.advanceTo_fld]
    rw [Dev.hoiCmd_retrain_starts _ (by simpa [Dev.inState] using hstate) (by simpa [Dev.hoistFailed] using hgood) (by simpa using htraining), hctrl]
    obtain ⟨hstarted, hstopped, hcap, -, hflg⟩ := ((s.dev.advanceTo t).accepted src R.HOI_CMD 1#32).startTraining_started (s.dev.fld R.HOI_CTRL 1 0) true
    refine ⟨by rw [Dev.onReq_hoi, Dev.hoiAnswer_hoi, hstarted, Dev.accepted_now], ?_, ?_, by rw [Dev.onReq_fld, Dev.hoiAnswer_status]; decide, writeTaken_answer s src _ ?_⟩
    · rw [Dev.onReq_rbit, Dev.rbit_of_reg (Dev.hoiAnswer_reg _ _ _ _ (by decide)), hstopped]
    · rw [Dev.onReq_reg, Dev.hoiAnswer_reg _ _ _ _ (by decide), hcap]
    · rw [Dev.hoiAnswer_flg, hflg, Dev.accepted_jseq, Dev.advanceTo_flg]
  case hoiRetrainRejected =>
    intro s src t hcmd hstate
    refine ⟨_, (s.cmdWrite_taken src t _ _ _ hcmd : execHoiRetrain src t s = _), ?_⟩
    rw [Dev.hoiCmd_retrain_rejected _ (by simpa [Dev.inState] using hstate)]
    exact ⟨by simp, by rw [Dev.onReq_fld, Dev.hoiAnswer_status]; decide, by rw [Dev.onReq_fld, Dev.hoiAnswer_reason]; decide,
      writeTaken_answer s src _ (by simp)⟩
  case hoiRateWrite =>
    intro s src t v halive hstate hgood htraining hrate
    have hhead : s.dev.top.state ≠ .headframe := by
      intro h
      simp [Dev.inState, h] at hstate
    refine ⟨_, (s.regWrite_taken src t _ _ _ halive hhead : execHoiRateWrite src t v s = _), ?_⟩
    have hctrl : ((s.dev.advanceTo t).accepted src R.HOI_CTRL v).fld R.HOI_CTRL 1 0 = s.dev.fld R.HOI_CTRL 1 0 := by
      rw [Dev.accepted_fld _ _ _ _ (by decide), Dev.advanceTo_fld]
    rw [Dev.hoiCtrlWrite_starts _ _ (by simpa [Dev.inState] using hstate) (by simpa [Dev.hoistFailed] using hgood) (by simpa using htraining) (by rwa [hctrl])]
    obtain ⟨hstarted, -, hcap, hkept, hflg⟩ :=
      (((s.dev.advanceTo t).accepted src R.HOI_CTRL v).setReg R.HOI_CTRL (v &&& 0x1F#32)).startTraining_started (bits v 1 0) false
    refine ⟨by rw [Dev.onReq_hoi, hstarted, Dev.setReg_now, Dev.accepted_now], ?_, by rw [Dev.onReq_reg, hcap], writeTaken_answer s src _ ?_⟩
    · rw [Dev.onReq_reg, hkept _ (by decide), Dev.reg_setReg_self]
    · rw [hflg, Dev.setReg_flg, Dev.accepted_jseq, Dev.advanceTo_flg]
  case hoiRateRefused =>
    intro s src t v halive hstate hrate
    refine ⟨_, (s.regWrite_taken src t _ _ _ halive (by rw [hstate]; decide) : execHoiRateWrite src t v s = _), ?_⟩
    have hctrl : ((s.dev.advanceTo t).accepted src R.HOI_CTRL v).fld R.HOI_CTRL 1 0 = s.dev.fld R.HOI_CTRL 1 0 := by
      rw [Dev.accepted_fld _ _ _ _ (by decide), Dev.advanceTo_fld]
    rw [Dev.hoiCtrlWrite_refused _ _ (by simp [Dev.ranging, hstate]) (by rwa [hctrl]), hctrl]
    have hset (m l : Nat) : ((((s.dev.advanceTo t).accepted src R.HOI_CTRL v).setReg R.HOI_CTRL (setBits (v &&& 0x1F#32) 1 0 (s.dev.fld R.HOI_CTRL 1 0))).setBit
        R.HOI_STATUS 4 true).fld R.HOI_CTRL m l = bits (setBits (v &&& 0x1F#32) 1 0 (s.dev.fld R.HOI_CTRL 1 0)) m l := by
      rw [Dev.fld_of_reg (Dev.reg_setBit_ne _ _ _ _ _ (by decide)), Dev.fld_setReg_self]
    refine ⟨by simp, ?_, ?_, ?_, writeTaken_answer s src _ (by simp)⟩
    · rw [Dev.onReq_fld, hset, bits_setBits_self _ _ _ _ (by decide) (by decide)]
      exact Nat.mod_eq_of_lt (s.dev.fld_lt R.HOI_CTRL 1 0)
    · rw [Dev.onReq_fld, hset, bits_setBits_other _ _ _ _ _ _ (by decide) (by decide) (by decide) (by omega), bits_and_mask v _ 4 2 (by decide)]
    · rw [Dev.onReq_rbit, Dev.rbit_setBit_self _ _ _ _ (by decide)]
  case laneTest =>
    intro s src t n r hcmd hn hr htraining htest hserving
    refine ⟨_, (s.cmdWrite_taken src t _ _ _ hcmd : execLaneTest src t n r s = _), ?_⟩
    have hcommand := ((s.dev.advanceTo t).accepted src R.HOI_CMD (laneTestWord n r)).hoiCmd_laneTest n r
    have hserves : ((s.dev.advanceTo t).accepted src R.HOI_CMD (laneTestWord n r)).hoistServing = true := by
      rw [Dev.hoistServing_of_reg (d := s.dev) (by rw [Dev.accepted_reg _ _ _ _ (by decide), Dev.advanceTo_reg]) (by simp), hserving]
    rw [hserves, Dev.accepted_hoi, Dev.advanceTo_hoi, htraining, htest, Nat.mod_eq_of_lt hn, Nat.mod_eq_of_lt hr, if_neg (by decide), if_neg (by decide)] at hcommand
    dsimp only
    rw [laneTestWord] at hcommand
    rw [hcommand]
    exact ⟨by rw [Dev.onReq_hoi, Dev.hoiAnswer_hoi, Dev.withHoi_hoi], by rw [Dev.onReq_fld, Dev.hoiAnswer_status]; decide,
      writeTaken_answer s src _ (by simp)⟩
  case laneTestRejected =>
    intro s src t n r hcmd htraining htest hserving
    refine ⟨_, (s.cmdWrite_taken src t _ _ _ hcmd : execLaneTest src t n r s = _), ?_⟩
    have hcommand := ((s.dev.advanceTo t).accepted src R.HOI_CMD (laneTestWord n r)).hoiCmd_laneTest n r
    have hserves : ((s.dev.advanceTo t).accepted src R.HOI_CMD (laneTestWord n r)).hoistServing = false := by
      rw [Dev.hoistServing_of_reg (d := s.dev) (by rw [Dev.accepted_reg _ _ _ _ (by decide), Dev.advanceTo_reg]) (by simp), hserving]
    rw [hserves, Dev.accepted_hoi, Dev.advanceTo_hoi, htraining, htest, if_neg (by decide), if_pos (by decide)] at hcommand
    dsimp only
    rw [laneTestWord] at hcommand
    rw [hcommand]
    exact ⟨by simp, by rw [Dev.onReq_fld, Dev.hoiAnswer_status]; decide, by rw [Dev.onReq_fld, Dev.hoiAnswer_reason]; decide,
      writeTaken_answer s src _ (by simp)⟩
  case laneTestDone =>
    intro s t n r p halive htest hn hp hdead hcmd hroom
    obtain ⟨hshown, hremoved, hlogged, hstate, -⟩ := ((s.dev.advanceTo t).withHoi { s.dev.hoi with laneTest := none }).markedDead_marked r p hn hp
      (by rw [Dev.faultRoom_of_log (d := s.dev) (by rw [Dev.withHoi_flg, Dev.advanceTo_flg]), hroom])
    obtain ⟨-, -, hne⟩ := deadReg_facts r hn
    refine ⟨_, s.laneTestDone_one t n r p halive htest hn hp hdead hcmd hroom, ?_⟩
    dsimp only
    refine ⟨?_, ?_, ?_, Dev.fld_setFld_self _ _ _ _ _ (by decide) (by decide), ?_, ?_, sameMemory.withDev s _⟩
    · rw [Dev.setFld_hoi, Dev.markedDead_hoi, Dev.withHoi_hoi]
    · exact (Dev.rbit_of_reg (Dev.reg_setFld_ne _ _ _ _ _ _ hne) p).trans hshown
    · rw [Dev.isRemoved, Dev.setFld_top, ← Dev.isRemoved, hremoved]
    · exact (Dev.logged_of_log (by rw [Dev.setFld_flg]) _).trans hlogged
    · rw [Dev.setFld_top, hstate, Dev.withHoi_top, Dev.advanceTo_top]

end Sys2Proof.Machine
end

section
/-! PROOF. O47: CSI-2, Ethernet and MDIO (R354 to R360). -/
namespace Sys2Proof.Machine

/-! Active causes of the fault log (R410). -/

theorem Dev.logFault_active (d : Dev) (code : Nat) (cls : FClass) (r : Bool) (h : d.faultRoom code = true) :
    (d.logFault code cls true r).faultActive code = true := by
  have hany (m : Map LogEntry) (i : Nat) (e : LogEntry) (hc : e.code = code) (ha : e.active = true) :
      (mput m i e).any (fun p => p.2.code == code && p.2.active) = true :=
    List.any_eq_true.2 ⟨(i, e), mem_mput m i e, by simp [hc, ha]⟩
  unfold Dev.logFault
  simp only []
  split
  · next i e he =>
    have hp := List.find?_some (p := fun (p : Nat × LogEntry) => p.2.code == code && !p.2.cleared) he
    simp only [Bool.and_eq_true, beq_iff_eq] at hp
    exact hany _ _ _ hp.1 rfl
  · next hn =>
    split
    · exact hany _ _ _ rfl rfl
    · next hs => simp [Dev.faultRoom, Dev.logged, hn, hs] at h

theorem Dev.causeGone_inactive (d : Dev) (code : Nat) : (d.causeGone code).faultActive code = false := by
  refine List.any_eq_false.2 fun p hp => ?_
  obtain ⟨q, -, rfl⟩ := List.mem_map.1 hp
  by_cases h : q.2.code = code <;> simp [h]

/-! What a plain write stores (R422, R423). -/

/-- A clamp that names the register at `a` leaves bit `i`: its field lies elsewhere and its bounds fit the field. -/
def Clamp.sparesBit (c : Clamp) (a i : Nat) : Bool :=
  !(decide (c.base ≤ a) && strideHit (a - c.base) c.n c.s) ||
    (decide (i < c.lsb ∨ c.msb < i) && decide (i < 32) && decide (c.lsb ≤ c.msb) && decide (c.min < 2 ^ (c.msb + 1 - c.lsb)) && decide (c.max < 2 ^ (c.msb + 1 - c.lsb)))

/-- The value a clamp gives a field. -/
def Clamp.clamped (c : Clamp) (x : Nat) : Nat := if x < c.min then c.min else if c.max < x then c.max else x

theorem Clamp.apply_eq (c : Clamp) (v : Word) (hmin : c.min < 2 ^ (c.msb + 1 - c.lsb)) (hmax : c.max < 2 ^ (c.msb + 1 - c.lsb)) :
    c.apply v = setBits v c.msb c.lsb (c.clamped (bits v c.msb c.lsb)) := by
  have hfits : c.clamped (bits v c.msb c.lsb) < 2 ^ (c.msb + 1 - c.lsb) := by
    unfold Clamp.clamped
    split
    · exact hmin
    · split
      · exact hmax
      · exact Nat.mod_lt _ (Nat.two_pow_pos _)
  rw [setBits, Nat.mod_eq_of_lt hfits]
  rfl

theorem clampWrite_bit (a i : Nat) (v : Word) (h : clampTable.all (fun c => c.sparesBit a i) = true) : bits (clampWrite a v) i i = bits v i i := by
  unfold clampWrite
  generalize clampTable = l at h
  induction l generalizing v with
  | nil => rfl
  | cons c l ih =>
    simp only [List.all_cons, Bool.and_eq_true] at h
    obtain ⟨hc, hl⟩ := h
    rw [List.foldl_cons, ih _ hl]
    split
    · next hhits =>
      simp only [Clamp.sparesBit, hhits, Bool.not_true, Bool.false_or, Bool.and_eq_true, decide_eq_true_eq] at hc
      obtain ⟨⟨⟨⟨hother, hbit⟩, hlsb⟩, hmin⟩, hmax⟩ := hc
      rw [c.apply_eq v hmin hmax, bits_setBits_other _ _ _ _ _ _ hbit (le_refl i) hlsb hother]
    · rfl

theorem bits_eq_getLsbD (w : Word) (i : Nat) : bits w i i = (w.getLsbD i).toNat := by
  rw [bits, BitVec.getLsbD, Nat.testBit_eq_decide_div_mod_eq, show i + 1 - i = 1 by omega, Nat.pow_one]
  have hbit : w.toNat / 2 ^ i % 2 < 2 := Nat.mod_lt _ (by decide)
  interval_cases w.toNat / 2 ^ i % 2 <;> rfl

theorem Dev.rbit_eq_getLsbD (d : Dev) (a i : Nat) : d.rbit a i = (d.reg a).getLsbD i := by
  rw [Dev.rbit, Dev.fld, bits_eq_getLsbD]
  cases (d.reg a).getLsbD i <;> rfl

theorem clampWrite_getLsbD (a i : Nat) (v : Word) (h : clampTable.all (fun c => c.sparesBit a i) = true) : (clampWrite a v).getLsbD i = v.getLsbD i := by
  have hbits := clampWrite_bit a i v h
  rw [bits_eq_getLsbD, bits_eq_getLsbD] at hbits
  revert hbits
  cases (clampWrite a v).getLsbD i <;> cases v.getLsbD i <;> decide

theorem storedWord_csiCtrl (old v : Word) : (storedWord R.CSI_CTRL old v).getLsbD 0 = v.getLsbD 0 := by
  obtain ⟨r, hr, hrw, hw⟩ : ∃ r, findReg R.CSI_CTRL = some r ∧ r.rw = 4095 ∧ r.w1c = 0 := ⟨_, rfl, rfl, rfl⟩
  have hclamp := clampWrite_getLsbD R.CSI_CTRL 0 v (by decide)
  simp only [storedWord, hr, hrw, hw]
  rw [BitVec.getLsbD_and, BitVec.getLsbD_or, BitVec.getLsbD_and, BitVec.getLsbD_and, hclamp]
  simp

/-! CSI-2 (R354). -/

/-- The enabled stream takes its configuration and shows that it runs. -/
def Dev.csiStarts (d : Dev) : Dev :=
  (({ d with net := { d.net with csiCfg := d.reg R.CSI_CTRL, csiWait := false } }).setBit R.CSI_STATUS 0 true).setBit R.CSI_STATUS 1 true

theorem Dev.csiCtrlWrite_eq (d : Dev) (v : Word) : d.csiCtrlWrite v =
    if (d.storeReg R.CSI_CTRL v).rbit R.CSI_CTRL 0 then if d.rbit R.CSI_CTRL 0 then d.storeReg R.CSI_CTRL v else (d.storeReg R.CSI_CTRL v).csiStarts
    else (d.storeReg R.CSI_CTRL v).setFld R.CSI_STATUS 5 0 0 := rfl

theorem Dev.storeReg_csiEnable (d : Dev) (v : Word) : (d.storeReg R.CSI_CTRL v).rbit R.CSI_CTRL 0 = v.getLsbD 0 := by
  rw [Dev.rbit_eq_getLsbD, Dev.storeReg, Dev.reg_setReg_self, storedWord_csiCtrl]

theorem Dev.csiStarts_ctrl (d : Dev) : d.csiStarts.reg R.CSI_CTRL = d.reg R.CSI_CTRL := by
  rw [Dev.csiStarts, Dev.reg_setBit_ne _ _ _ _ _ (by decide), Dev.reg_setBit_ne _ _ _ _ _ (by decide)]
  rfl

theorem Dev.csiStarts_net (d : Dev) : d.csiStarts.net = { d.net with csiCfg := d.reg R.CSI_CTRL, csiWait := false } := by
  rw [Dev.csiStarts, Dev.setBit_net, Dev.setBit_net]

theorem Dev.csiStarts_runs (d : Dev) : d.csiStarts.rbit R.CSI_STATUS 0 = true := by
  rw [Dev.csiStarts, Dev.rbit_setBit_other _ _ _ (by decide) (by decide), Dev.rbit_setBit_self _ _ _ _ (by decide)]

@[simp] theorem Dev.csiStarts_flg (d : Dev) : d.csiStarts.flg = d.flg := (rfl)

@[simp] theorem Dev.accepted_net (d : Dev) (src a : Nat) (w : Word) : (d.accepted src a w).net = d.net := by simp [Dev.accepted]

theorem State.csiEnable_eq (s : State) (src t : Nat) (v : Word) (ha : s.dev.alive = true) (hs : s.dev.top.state ≠ .headframe) (hv : v.getLsbD 0 = true)
    (hoff : s.dev.rbit R.CSI_CTRL 0 = false) : execCsiEnable src t v s =
    .next { s with dev := ((((s.dev.advanceTo t).accepted src R.CSI_CTRL v).storeReg R.CSI_CTRL v).csiStarts).onReq src (fun r => { r with lastStatus := 0 }) } := by
  refine (s.regWrite_taken src t _ _ _ ha hs).trans ?_
  have hwas : ((s.dev.advanceTo t).accepted src R.CSI_CTRL v).rbit R.CSI_CTRL 0 = false := by
    rw [Dev.accepted_rbit _ _ _ _ (by decide), Dev.advanceTo_rbit, hoff]
  rw [Dev.csiCtrlWrite_eq, if_pos (by rw [Dev.storeReg_csiEnable, hv]), hwas, if_neg (by decide)]

theorem State.csiDisable_eq (s : State) (src t : Nat) (v : Word) (ha : s.dev.alive = true) (hs : s.dev.top.state ≠ .headframe) (hv : v.getLsbD 0 = false) :
    execCsiEnable src t v s =
    .next { s with dev := ((((s.dev.advanceTo t).accepted src R.CSI_CTRL v).storeReg R.CSI_CTRL v).setFld R.CSI_STATUS 5 0 0).onReq src (fun r => { r with lastStatus := 0 }) } := by
  refine (s.regWrite_taken src t _ _ _ ha hs).trans ?_
  rw [Dev.csiCtrlWrite_eq, Dev.storeReg_csiEnable, hv, if_neg (by decide)]

/-! Ethernet (R357 to R360). -/

@[simp] theorem Dev.advanceTo_ethUp (d : Dev) (t : Nat) : (d.advanceTo t).ethUp = d.ethUp := by simp [Dev.ethUp]
@[simp] theorem Dev.advanceTo_tagOk (d : Dev) (t : Nat) (vid : Option Nat) : (d.advanceTo t).tagOk vid = d.tagOk vid := by simp [Dev.tagOk]
@[simp] theorem Dev.advanceTo_ownMac (d : Dev) (t : Nat) : (d.advanceTo t).ownMac = d.ownMac := by simp [Dev.ownMac]
@[simp] theorem Dev.advanceTo_ownIp6 (d : Dev) (t : Nat) : (d.advanceTo t).ownIp6 = d.ownIp6 := by simp [Dev.ownIp6]

theorem Dev.ethRx_mine (d : Dev) (vid : Option Nat) (f : Dev → Dev) (hup : d.ethUp = true) (ht : d.tagOk vid = true) : d.ethRx vid true f = f d := by
  rw [Dev.ethRx, hup, ht]
  rfl

theorem Dev.ethRx_foreign (d : Dev) (vid : Option Nat) (mine : Bool) (f : Dev → Dev) (hup : d.ethUp = true) (h : (d.tagOk vid && mine) = false) :
    d.ethRx vid mine f = d.ethDiscard := by
  rw [Dev.ethRx, hup, h]
  rfl

theorem Dev.ethSend_last (d : Dev) (cls src dst : Nat) (p : List Byte) :
    (d.ethSend cls src dst p).net.ethLast.map (fun x => (x.cls, x.payload)) = some (cls, p) := by
  rw [Dev.ethSend, Dev.inc64_net]
  rfl

theorem Dev.ethSend_counts (d : Dev) (cls src dst : Nat) (p : List Byte) : (d.ethSend cls src dst p).reg64 R.ETH_CNT_TX = (d.reg64 R.ETH_CNT_TX + 1) % 2 ^ 64 :=
  Dev.reg64_inc64_self ..

theorem Dev.ethDiscard_counts (d : Dev) (t : Nat) : (d.advanceTo t).ethDiscard.reg64 R.ETH_CNT_RX_DISC = (d.reg64 R.ETH_CNT_RX_DISC + 1) % 2 ^ 64 := by
  rw [Dev.ethDiscard, Dev.reg64_inc64_self, Dev.advanceTo_reg64]

theorem Dev.ethDiscard_net (d : Dev) (t : Nat) : (d.advanceTo t).ethDiscard.net = d.net := by rw [Dev.ethDiscard, Dev.inc64_net, Dev.advanceTo_net]

theorem Dev.ethDiscard_cny (d : Dev) (t : Nat) : (d.advanceTo t).ethDiscard.cny = d.cny := by rw [Dev.ethDiscard, Dev.inc64_cny, Dev.advanceTo_cny]

/-! MDIO (R357, R360). -/

/-- Masking and joining words digit by digit. -/
theorem and_split (i a b c d : Nat) (hb : b < 2 ^ i) (hd : d < 2 ^ i) : (2 ^ i * a + b) &&& (2 ^ i * c + d) = 2 ^ i * (a &&& c) + (b &&& d) := by
  apply Nat.eq_of_testBit_eq
  intro j
  have hbd : b &&& d < 2 ^ i := Nat.and_lt_two_pow _ hd
  rw [Nat.testBit_and, Nat.testBit_two_pow_mul_add _ hb, Nat.testBit_two_pow_mul_add _ hd, Nat.testBit_two_pow_mul_add _ hbd]
  split <;> simp

theorem or_split (i a b c d : Nat) (hb : b < 2 ^ i) (hd : d < 2 ^ i) : (2 ^ i * a + b) ||| (2 ^ i * c + d) = 2 ^ i * (a ||| c) + (b ||| d) := by
  apply Nat.eq_of_testBit_eq
  intro j
  have hbd : b ||| d < 2 ^ i := Nat.or_lt_two_pow hb hd
  rw [Nat.testBit_or, Nat.testBit_two_pow_mul_add _ hb, Nat.testBit_two_pow_mul_add _ hd, Nat.testBit_two_pow_mul_add _ hbd]
  split <;> simp

theorem mdioWord_bound (op phy reg : Nat) (h : op < 8) : op + 1024 * (phy % 32) + 32768 * (reg % 32) < 2 ^ 20 := by omega

/-- ETH_MDIO keeps opcode, PHY and register and shows DONE. -/
theorem cmdWord_mdioDone (op phy reg : Nat) (h : op < 8) :
    cmdWord (mdioWord op phy reg) 0xFFCFF 1 0 = BitVec.ofNat 32 (op + 256 + 1024 * (phy % 32) + 32768 * (reg % 32)) := by
  have hw : op + 1024 * (phy % 32) + 32768 * (reg % 32) = 2 ^ 10 * (phy % 32 + 32 * (reg % 32)) + op := by omega
  have hlow : op &&& 255 = op := by
    have hmod := Nat.and_two_pow_sub_one_eq_mod op 8
    norm_num at hmod
    omega
  have hhigh : (phy % 32 + 32 * (reg % 32)) &&& 1023 = phy % 32 + 32 * (reg % 32) := by
    have hmod := Nat.and_two_pow_sub_one_eq_mod (phy % 32 + 32 * (reg % 32)) 10
    norm_num at hmod
    omega
  have hkeep : (op + 1024 * (phy % 32) + 32768 * (reg % 32)) &&& 0xFFCFF = op + 1024 * (phy % 32) + 32768 * (reg % 32) := by
    rw [hw, show 0xFFCFF = 2 ^ 10 * 1023 + 255 from rfl, and_split _ _ _ _ _ (by omega) (by decide), hlow, hhigh]
  have hdone : (op + 1024 * (phy % 32) + 32768 * (reg % 32)) ||| 256 = op + 256 + 1024 * (phy % 32) + 32768 * (reg % 32) := by
    have hop : op ||| 256 = 256 + op := by
      have hor := or_split 8 0 op 1 0 (by omega) (by decide)
      norm_num at hor
      omega
    have hor := or_split 10 (phy % 32 + 32 * (reg % 32)) op 0 256 (by omega) (by decide)
    rw [hop] at hor
    norm_num at hor
    rw [hw]
    norm_num
    omega
  apply BitVec.eq_of_toNat_eq
  rw [cmdWord, mdioWord, BitVec.toNat_or, BitVec.toNat_and, BitVec.toNat_ofNat, BitVec.toNat_ofNat, BitVec.toNat_ofNat, BitVec.toNat_ofNat,
    Nat.mod_eq_of_lt (show op + 1024 * (phy % 32) + 32768 * (reg % 32) < 2 ^ 32 by omega), Nat.mod_eq_of_lt (show 0xFFCFF < 2 ^ 32 by decide), hkeep, hdone.symm,
    Nat.mod_eq_of_lt (show 1 * 256 + 0 * 65536 < 2 ^ 32 by decide), Nat.mod_eq_of_lt (show (op + 1024 * (phy % 32) + 32768 * (reg % 32)) ||| 256 < 2 ^ 32 from Nat.or_lt_two_pow (by omega) (by decide))]

theorem mdioOp_mdioWord (op phy reg : Nat) (h : op < 8) : mdioOp (mdioWord op phy reg) = op := by
  rw [mdioOp, bits, mdioWord, BitVec.toNat_ofNat]
  omega

/-- ETH_MDIO answered: the word keeps opcode, PHY and register and shows the status. -/
def Dev.mdioShows (d : Dev) (w : Word) (status : Nat) : Dev := d.setReg R.ETH_MDIO (cmdWord w 0xFFCFF status 0)

@[simp] theorem Dev.mdioShows_flg (d : Dev) (w : Word) (status : Nat) : (d.mdioShows w status).flg = d.flg := (rfl)

theorem Dev.mdioShows_data (d : Dev) (w : Word) (status : Nat) : (d.mdioShows w status).reg R.ETH_MDIO_DATA = d.reg R.ETH_MDIO_DATA :=
  Dev.reg_setReg_ne _ _ _ _ (by decide)

theorem Dev.mdioCmd_read (d : Dev) (op phy reg data : Nat) (h : op = 1 ∨ op = 4) :
    d.mdioCmd (mdioWord op phy reg) true data = (d.setReg R.ETH_MDIO_DATA (BitVec.ofNat 32 (data % 65536))).mdioShows (mdioWord op phy reg) 1 := by
  simp only [Dev.mdioCmd, mdioOp_mdioWord op phy reg (by omega), if_neg (show ¬ (op = 0 ∨ 5 < op) by omega), if_pos h]
  rfl

theorem Dev.mdioCmd_write (d : Dev) (op phy reg data : Nat) (h : op = 2 ∨ op = 3 ∨ op = 5) :
    d.mdioCmd (mdioWord op phy reg) true data = d.mdioShows (mdioWord op phy reg) 1 := by
  simp only [Dev.mdioCmd, mdioOp_mdioWord op phy reg (by omega), if_neg (show ¬ (op = 0 ∨ 5 < op) by omega), if_neg (show ¬ (op = 1 ∨ op = 4) by omega)]
  rfl

theorem Dev.mdioCmd_waits (d : Dev) (phy reg data : Nat) :
    d.mdioCmd (mdioWord 1 phy reg) false data = (d.mdioShows (mdioWord 1 phy reg) 3).setBit R.ETH_STATUS 4 true := by
  simp only [Dev.mdioCmd, mdioOp_mdioWord 1 phy reg (by decide)]
  rfl

/-- A read that is answered is DONE with the data. -/
theorem State.mdio_read (s : State) (src t op phy r data : Nat) (h : op = 1 ∨ op = 4) (hcmd : s.dev.takesCmd R.ETH_MDIO = true) :
    ∃ s', s.mdio src t op phy r true data = .next s' ∧ s'.dev.reg R.ETH_MDIO = BitVec.ofNat 32 (op + 256 + 1024 * (phy % 32) + 32768 * (r % 32)) ∧
      s'.dev.reg R.ETH_MDIO_DATA = BitVec.ofNat 32 (data % 65536) ∧ writeTaken src s s' := by
  refine ⟨_, (s.cmdWrite_taken src t _ _ _ hcmd : s.mdio src t op phy r true data = _), ?_⟩
  rw [Dev.mdioCmd_read _ _ _ _ _ h]
  refine ⟨?_, ?_, writeTaken_answer s src _ (by simp)⟩
  · rw [Dev.onReq_reg, Dev.mdioShows, Dev.reg_setReg_self, cmdWord_mdioDone _ _ _ (by omega)]
  · rw [Dev.onReq_reg, Dev.mdioShows_data, Dev.reg_setReg_self]

/-- An access that brings no data is DONE and leaves ETH_MDIO_DATA. -/
theorem State.mdio_write (s : State) (src t op phy r data : Nat) (h : op = 2 ∨ op = 3 ∨ op = 5) (hcmd : s.dev.takesCmd R.ETH_MDIO = true) :
    ∃ s', s.mdio src t op phy r true data = .next s' ∧ s'.dev.reg R.ETH_MDIO = BitVec.ofNat 32 (op + 256 + 1024 * (phy % 32) + 32768 * (r % 32)) ∧
      s'.dev.reg R.ETH_MDIO_DATA = s.dev.reg R.ETH_MDIO_DATA ∧ writeTaken src s s' := by
  refine ⟨_, (s.cmdWrite_taken src t _ _ _ hcmd : s.mdio src t op phy r true data = _), ?_⟩
  rw [Dev.mdioCmd_write _ _ _ _ _ h]
  refine ⟨?_, ?_, writeTaken_answer s src _ (by simp)⟩
  · rw [Dev.onReq_reg, Dev.mdioShows, Dev.reg_setReg_self, cmdWord_mdioDone _ _ _ (by omega)]
  · rw [Dev.onReq_reg, Dev.mdioShows_data, Dev.accepted_reg _ _ _ _ (by decide), Dev.advanceTo_reg]

/-- Settles O47. -/
theorem networkComplete : Obligations.NetworkComplete := by
  unfold Obligations.NetworkComplete
  refine ⟨?csiEnable, ?csiDisable, ?dphyPllUnlock, ?dphyPllRelock, ?ethLinkDown, ?ethernetLinkUp, ?arpRequest, ?neighbourSolicitation, ?frameForeignTag,
    ?safetyDatagramDiscarded, ?safetyDatagram, ?otherFrame, ?c22Read, ?c22Write, ?c45Address, ?c45Read, ?c45Write, ?mdioWaits, ?mdioTimeout⟩
  case csiEnable =>
    intro s src t v halive hstate hv hoff
    refine ⟨_, s.csiEnable_eq src t v halive hstate hv hoff, ?_⟩
    have hctrl := Dev.storeReg_csiEnable ((s.dev.advanceTo t).accepted src R.CSI_CTRL v) v
    refine ⟨?_, ?_, ?_, ?_, writeTaken_answer s src _ (by simp)⟩
    · rw [Dev.onReq_rbit, Dev.rbit_of_reg (Dev.csiStarts_ctrl _), hctrl, hv]
    · rw [Dev.onReq_net, Dev.onReq_reg, Dev.csiStarts_net, Dev.csiStarts_ctrl]
    · rw [Dev.onReq_net, Dev.csiStarts_net]
    · rw [Dev.onReq_rbit, Dev.csiStarts_runs]
  case csiDisable =>
    intro s src t v halive hstate hv
    refine ⟨_, s.csiDisable_eq src t v halive hstate hv, ?_⟩
    have hctrl := Dev.storeReg_csiEnable ((s.dev.advanceTo t).accepted src R.CSI_CTRL v) v
    refine ⟨?_, ?_, ?_, writeTaken_answer s src _ (by simp)⟩
    · rw [Dev.onReq_rbit, Dev.rbit_of_reg (Dev.reg_setFld_ne _ _ _ _ _ _ (by decide)), hctrl, hv]
    · rw [Dev.onReq_fld, Dev.fld_setFld_self _ _ _ _ _ (by decide) (by decide), Nat.zero_mod]
    · rw [Dev.onReq_net, Dev.setFld_net, Dev.storeReg_net, Dev.accepted_net, Dev.advanceTo_net]
  case dphyPllUnlock =>
    intro s t halive hon hruns hroom
    refine ⟨_, (State.atTick_alive s t _ halive : execDphyPllUnlock t s = _), ?_⟩
    rw [if_pos (by simp [hon, hruns])]
    have hroom' : ((s.dev.advanceTo t).setFld R.CSI_STATUS 5 0 0).faultRoom 0x1501 = true := (Dev.faultRoom_of_log (by simp) _).trans hroom
    refine ⟨?_, Dev.logFault_logged _ _ _ _ _ hroom', Dev.logFault_active _ _ _ _ hroom', ?_, sameMemory.withDev s _⟩
    · rw [Dev.logFault_fld _ _ _ _ _ (by decide), Dev.fld_setFld_self _ _ _ _ _ (by decide) (by decide), Nat.zero_mod]
    · rw [Dev.logFault_top_state, Dev.setFld_top, Dev.advanceTo_top]
  case dphyPllRelock =>
    intro s t halive hon hstopped hserial
    refine ⟨_, (State.atTick_alive s t _ halive : execDphyPllRelock t s = _), ?_⟩
    rw [if_pos (by simpa [hon, hstopped, Dev.serialOk, Dev.supplyBad] using hserial)]
    refine ⟨?_, ?_, Dev.causeGone_inactive _ _, sameMemory.withDev s _⟩
    · rw [Dev.rbit_of_reg (Dev.reg_of_regs (Dev.causeGone_regs _ _) _), Dev.rbit_setBit_self _ _ _ _ (by decide)]
    · rw [Dev.causeGone_net, Dev.setBit_net]
  case ethLinkDown =>
    intro s t halive hup hroom
    refine ⟨_, (State.atTick_alive s t _ halive : execEthLinkDown t s = _), ?_⟩
    rw [Dev.advanceTo_ethUp, if_pos hup]
    have hroom' : (((s.dev.advanceTo t).setBit R.ETH_STATUS 0 false).setBit R.ETH_STATUS 3 false).faultRoom 0x1601 = true :=
      (Dev.faultRoom_of_log (by simp) _).trans hroom
    refine ⟨?_, ?_, Dev.logFault_logged _ _ _ _ _ hroom', Dev.logFault_active _ _ _ _ hroom', ?_, sameMemory.withDev s _⟩
    · rw [Dev.logFault_rbit _ _ _ _ _ (by decide), Dev.rbit_setBit_other _ _ _ (by decide) (by decide), Dev.rbit_setBit_self _ _ _ _ (by decide)]
    · rw [Dev.logFault_rbit _ _ _ _ _ (by decide), Dev.rbit_setBit_self _ _ _ _ (by decide)]
    · rw [Dev.logFault_top_state, Dev.setBit_top, Dev.setBit_top, Dev.advanceTo_top]
  case ethernetLinkUp =>
    intro s t x halive hon hserial hdown
    refine ⟨_, (State.atTick_alive s t _ halive : execEthernetLinkUp t x s = _), ?_⟩
    rw [if_pos (by simpa [hon, hdown, Dev.serialOk, Dev.supplyBad] using hserial)]
    refine ⟨?_, ?_, Dev.causeGone_inactive _ _, sameMemory.withDev s _⟩
    · rw [Dev.rbit_of_reg (Dev.reg_of_regs (Dev.causeGone_regs _ _) _), Dev.rbit, Dev.fld_setFld_other _ _ _ _ _ _ _ (by decide) (by decide) (by decide) (by omega),
        ← Dev.rbit, Dev.rbit_setBit_self _ _ _ _ (by decide)]
    · rw [Dev.fld_of_reg (Dev.reg_of_regs (Dev.causeGone_regs _ _) _), Dev.fld_setFld_self _ _ _ _ _ (by decide) (by decide)]
      omega
  case arpRequest =>
    intro s t vid m halive hup htag
    refine ⟨_, (State.atTick_alive s t _ halive : execArpRequest t vid (s.dev.reg R.ETH_IP4) m s = _), ?_⟩
    rw [Dev.advanceTo_reg, beq_self_eq_true, Dev.ethRx_mine _ _ _ (by simpa) (by simpa)]
    refine ⟨?_, ?_, sameMemory.withDev s _⟩
    · rw [Dev.ethSend_last, Dev.advanceTo_ownMac, Dev.advanceTo_reg]
    · rw [Dev.ethSend_counts, Dev.advanceTo_reg64]
  case neighbourSolicitation =>
    intro s t vid halive hup htag
    refine ⟨_, (State.atTick_alive s t _ halive : execNeighbourSolicitation t vid s.dev.ownIp6 s = _), ?_⟩
    rw [Dev.advanceTo_ownIp6, beq_self_eq_true, Dev.ethRx_mine _ _ _ (by simpa) (by simpa)]
    refine ⟨?_, ?_, sameMemory.withDev s _⟩
    · rw [Dev.ethSend_last, Dev.advanceTo_ownMac, Dev.advanceTo_ownIp6]
    · rw [Dev.ethSend_counts, Dev.advanceTo_reg64]
  case frameForeignTag =>
    intro s t vid a m halive hup htag
    refine ⟨_, (State.atTick_alive s t _ halive : execArpRequest t vid a m s = _), ?_⟩
    rw [Dev.ethRx_foreign _ _ _ _ (by simpa) (by simp [htag])]
    exact ⟨s.dev.ethDiscard_net t, s.dev.ethDiscard_counts t, sameMemory.withDev s _⟩
  case safetyDatagramDiscarded =>
    intro s t k vid m halive hup hroutes
    refine ⟨_, (State.atTick_alive s t _ halive : execSafetyDatagram t k vid m s = _), ?_⟩
    have hroutes' : (s.dev.advanceTo t).cnyRoutes = false := by rw [← hroutes]; simp [Dev.cnyRoutes, Dev.safetyMode]
    rw [Dev.ethRx_foreign _ _ _ _ (by simpa) (by simp [hroutes'])]
    exact ⟨s.dev.ethDiscard_cny t, s.dev.ethDiscard_counts t, sameMemory.withDev s _⟩
  case safetyDatagram =>
    intro s t k vid m halive hup htag hroutes hnet hlost hcopies hlen
    refine ⟨_, (State.atTick_alive s t _ halive : execSafetyDatagram t k vid m s = _), ?_⟩
    have hroutes' : (s.dev.advanceTo t).cnyRoutes = true := by rw [← hroutes]; simp [Dev.cnyRoutes, Dev.safetyMode]
    have hnet' : (s.dev.advanceTo t).netB = false := by rw [← hnet]; simp [Dev.netB, Dev.prm]
    have hatRc : (s.dev.atRc t k).cnyRoutes = true := by rw [Dev.atRc_cnyRoutes, hroutes]
    rw [hroutes', hnet', show (true && !false) = true from rfl, Dev.ethRx_mine _ _ _ (by simpa) (by simpa), Dev.advanceTo_cny, hlost, if_neg (by decide), ← Dev.atRc,
      Dev.copyIn_first _ _ _ hatRc hlen (by simp [hcopies])]
    refine ⟨?_, ?_, sameMemory.withDev s _⟩
    · simp [hcopies]
    · simp
  case otherFrame =>
    intro s t halive hup
    refine ⟨_, (State.atTick_alive s t _ halive : execOtherFrame t s = _), ?_⟩
    rw [Dev.advanceTo_ethUp, if_pos hup]
    exact ⟨s.dev.ethDiscard_net t, s.dev.ethDiscard_counts t, sameMemory.withDev s _⟩
  case c22Read => exact fun s src t phy r data hcmd => s.mdio_read src t 1 phy r data (by decide) hcmd
  case c22Write => exact fun s src t phy r hcmd => s.mdio_write src t 2 phy r 0 (by decide) hcmd
  case c45Address => exact fun s src t phy r hcmd => s.mdio_write src t 3 phy r 0 (by decide) hcmd
  case c45Read => exact fun s src t phy r data hcmd => s.mdio_read src t 4 phy r data (by decide) hcmd
  case c45Write => exact fun s src t phy r hcmd => s.mdio_write src t 5 phy r 0 (by decide) hcmd
  case mdioWaits =>
    intro s src t phy r data hcmd
    refine ⟨_, (s.cmdWrite_taken src t _ _ _ hcmd : execC22Read src t phy r false data s = _), ?_⟩
    rw [Dev.mdioCmd_waits]
    refine ⟨?_, ?_, ?_, writeTaken_answer s src _ (by simp)⟩
    · rw [Dev.onReq_fld, Dev.fld_of_reg (Dev.reg_setBit_ne _ _ _ _ _ (by decide)), Dev.mdioShows, Dev.fld_setReg_self, bits_cmdWord _ _ _ _ _ _ (by decide)]
      decide
    · rw [Dev.onReq_rbit, Dev.rbit_setBit_self _ _ _ _ (by decide)]
    · rw [Dev.onReq_reg, Dev.reg_setBit_ne _ _ _ _ _ (by decide), Dev.mdioShows_data, Dev.accepted_reg _ _ _ _ (by decide), Dev.advanceTo_reg]
  case mdioTimeout =>
    intro s t halive hbusy hroom
    refine ⟨_, (State.atTick_alive s t _ halive : execMdioTimeout t s = _), ?_⟩
    rw [Dev.advanceTo_fld, hbusy, if_pos (by decide)]
    refine ⟨?_, ?_, Dev.logFault_logged _ _ _ _ _ ((Dev.faultRoom_of_log (by simp) _).trans hroom), ?_, sameMemory.withDev s _⟩
    · rw [Dev.logFault_fld _ _ _ _ _ (by decide), Dev.fld_of_reg (Dev.reg_setBit_ne _ _ _ _ _ (by decide)), Dev.fld_setFld_self _ _ _ _ _ (by decide) (by decide)]
      decide
    · rw [Dev.logFault_rbit _ _ _ _ _ (by decide), Dev.rbit_setBit_self _ _ _ _ (by decide)]
    · rw [Dev.logFault_top_state, Dev.setBit_top, Dev.setFld_top, Dev.advanceTo_top]

end Sys2Proof.Machine
end

section
/-! PROOF. O25: the steering ports (R111 to R120). -/
namespace Sys2Proof.Machine

@[simp] theorem Dev.port_onPort_self (d : Dev) (p : Nat) (f : StrPort → StrPort) : (d.onPort p f).port p = f (d.port p) := mgetD_mput_self ..
@[simp] theorem Dev.onPort_reg (d : Dev) (p : Nat) (f : StrPort → StrPort) (a : Nat) : (d.onPort p f).reg a = d.reg a := (rfl)
@[simp] theorem Dev.onPort_fld (d : Dev) (p : Nat) (f : StrPort → StrPort) (a m l : Nat) : (d.onPort p f).fld a m l = d.fld a m l := (rfl)
@[simp] theorem Dev.onPort_rbit (d : Dev) (p : Nat) (f : StrPort → StrPort) (a i : Nat) : (d.onPort p f).rbit a i = d.rbit a i := (rfl)
@[simp] theorem Dev.onPort_top (d : Dev) (p : Nat) (f : StrPort → StrPort) : (d.onPort p f).top = d.top := (rfl)
@[simp] theorem Dev.onPort_flg (d : Dev) (p : Nat) (f : StrPort → StrPort) : (d.onPort p f).flg = d.flg := (rfl)
@[simp] theorem Dev.onPort_now (d : Dev) (p : Nat) (f : StrPort → StrPort) : (d.onPort p f).now = d.now := (rfl)

theorem Dev.port_of_str {d d' : Dev} (h : d'.str = d.str) (p : Nat) : d'.port p = d.port p := by rw [Dev.port, h, Dev.port]

@[simp] theorem Dev.accepted_str (d : Dev) (src a : Nat) (w : Word) : (d.accepted src a w).str = d.str := by simp [Dev.accepted]

/-! Filters that take samples (R286). -/

/-- The filter channels, their registers and the free values are all that is changed. -/
def Dev.FiltersOf (d d' : Dev) : Prop :=
  (∃ f r n, d' = { d with flts := f, regs := r, freeCtr := n }) ∧ ∀ a, a < R.FLT_STATUS ∨ 0x231000 ≤ a → d'.reg a = d.reg a

theorem Dev.FiltersOf.refl (d : Dev) : d.FiltersOf d := ⟨⟨_, _, _, rfl⟩, fun _ _ => rfl⟩

theorem Dev.FiltersOf.trans {d e f : Dev} (h : d.FiltersOf e) (h' : e.FiltersOf f) : d.FiltersOf f := by
  obtain ⟨⟨x, r, n, rfl⟩, hreg⟩ := h
  obtain ⟨⟨x', r', n', rfl⟩, hreg'⟩ := h'
  exact ⟨⟨_, _, _, rfl⟩, fun a ha => (hreg' a ha).trans (hreg a ha)⟩

theorem Dev.FiltersOf.ite {d e f : Dev} {c : Prop} [Decidable c] (h : d.FiltersOf e) (h' : d.FiltersOf f) : d.FiltersOf (if c then e else f) := by
  split
  · exact h
  · exact h'

theorem Dev.FiltersOf.foldl {f : Dev → Nat → Dev} {l : List Nat} (hf : ∀ d, ∀ x ∈ l, Dev.FiltersOf d (f d x)) : ∀ d : Dev, d.FiltersOf (l.foldl f d) := by
  induction l with
  | nil => exact .refl
  | cons x l ih => exact fun d => (hf d x List.mem_cons_self).trans (ih (fun e y hy => hf e y (List.mem_cons_of_mem _ hy)) _)

theorem Dev.FiltersOf.onFlt {d e : Dev} (h : d.FiltersOf e) (n : Nat) (f : FltCh → FltCh) : d.FiltersOf (e.onFlt n f) :=
  h.trans ⟨⟨_, _, _, rfl⟩, fun _ _ => rfl⟩

theorem Dev.FiltersOf.setFld {d e : Dev} (h : d.FiltersOf e) (a m l v : Nat) (ha : R.FLT_STATUS ≤ a ∧ a < 0x231000) : d.FiltersOf (e.setFld a m l v) :=
  h.trans ⟨⟨_, _, _, rfl⟩, fun b hb => Dev.reg_setFld_ne _ _ _ _ _ _ (by rintro rfl; omega)⟩

theorem Dev.FiltersOf.drew {d e : Dev} (h : d.FiltersOf e) : d.FiltersOf e.drew := h.trans ⟨⟨_, _, _, rfl⟩, fun _ _ => rfl⟩

theorem Dev.FiltersOf.fltDelay {d e : Dev} (h : d.FiltersOf e) (n fir : Nat) (hn : n < 16) : d.FiltersOf (e.fltDelay n fir) := by
  have hgd : R.FLT_STATUS ≤ R.FLT_GD n ∧ R.FLT_GD n < 0x231000 := by simp only [R.FLT_STATUS, R.FLT_GD]; omega
  have hticks : R.FLT_STATUS ≤ R.FLT_GD_TICKS n ∧ R.FLT_GD_TICKS n < 0x231000 := by simp only [R.FLT_STATUS, R.FLT_GD_TICKS]; omega
  have hshown := (h.setFld (R.FLT_GD n) 15 0 fir hgd).setFld (R.FLT_GD n) 31 16 (e.fltOrder n * (e.fltRatio n - 1)) hgd
  unfold Dev.fltDelay
  exact .ite (.ite (.drew (hshown.setFld _ _ _ _ hticks)) (hshown.setFld _ _ _ _ hticks)) hshown

theorem Dev.FiltersOf.fltClear {d e : Dev} (h : d.FiltersOf e) (n : Nat) (hn : n < 16) : d.FiltersOf (e.fltClear n) := by
  have hstatus : R.FLT_STATUS ≤ R.FLT_CH_STATUS n ∧ R.FLT_CH_STATUS n < 0x231000 := by simp only [R.FLT_STATUS, R.FLT_CH_STATUS]; omega
  unfold Dev.fltClear
  exact .fltDelay (.onFlt (.setFld (h.setFld _ _ _ _ hstatus) _ _ _ _ hstatus) _ _) _ _ hn

theorem Dev.FiltersOf.fltFeed {d e : Dev} (h : d.FiltersOf e) (n : Nat) (x : Int) (hn : n < 16) : d.FiltersOf (e.fltFeed n x) := by
  unfold Dev.fltFeed
  exact .ite h (.onFlt (.ite (h.fltClear n hn) h) _ _)

theorem Dev.fltSource_filters (d : Dev) (src : Nat) (x : Int) : d.FiltersOf (d.fltSource src x) :=
  .foldl (fun f i hi => .ite ((Dev.FiltersOf.refl f).fltFeed _ _ (by have := List.mem_range.1 hi; omega)) (.refl f)) d

theorem Dev.fltConverter_filters (d : Dev) (u e : Nat) (x : Int) : d.FiltersOf (d.fltConverter u e x) :=
  .foldl (fun f i hi => .ite ((Dev.FiltersOf.refl f).fltFeed _ _ (by have := List.mem_range.1 hi; omega)) (.refl f)) d

/-! What the work of a port leaves unchanged. -/

/-- What a port measures: its newest sample and its revolutions. -/
def StrPort.motion (q : StrPort) : Int × Int × Nat × Nat × Nat × Nat := (q.pos, q.vel, q.tick, q.period, q.lastIdx, q.idxSeen)

/-- The registers that the work of port `p` changes, below the filters. -/
def steerRegs (p : Nat) : List Nat := [R.STR_STATUS p, R.STR_ERR p, R.STR_DRV p] ++ inhibitRegs

/-- The work of port `p` on its lock, its drive and its filters: no device state, no sequencer, no measurement, no refused
write of another field. -/
structure Dev.Steers (p : Nat) (d d' : Dev) : Prop where
  state : d'.top.state = d.top.state
  seq : d'.seq = d.seq
  now : d'.now = d.now
  motion : (d'.port p).motion = (d.port p).motion
  reg : ∀ a, a ∉ steerRegs p → a < R.FLT_STATUS → d'.reg a = d.reg a
  rejected : d'.rbit (R.STR_STATUS p) 5 = d.rbit (R.STR_STATUS p) 5

section
variable {p : Nat}

theorem Dev.Steers.refl (d : Dev) : Dev.Steers p d d := ⟨rfl, rfl, rfl, rfl, fun _ _ _ => rfl, rfl⟩

theorem Dev.Steers.trans {d e f : Dev} (h : Dev.Steers p d e) (h' : Dev.Steers p e f) : Dev.Steers p d f :=
  ⟨h'.state.trans h.state, h'.seq.trans h.seq, h'.now.trans h.now, h'.motion.trans h.motion,
    fun a ha hlow => (h'.reg a ha hlow).trans (h.reg a ha hlow), h'.rejected.trans h.rejected⟩

theorem Dev.Steers.motion_at {d d' : Dev} (h : Dev.Steers p d d') : (d'.port p).pos = (d.port p).pos ∧ (d'.port p).vel = (d.port p).vel ∧
    (d'.port p).tick = (d.port p).tick ∧ (d'.port p).period = (d.port p).period ∧ (d'.port p).lastIdx = (d.port p).lastIdx ∧ (d'.port p).idxSeen = (d.port p).idxSeen := by
  have hm := h.motion
  simp only [StrPort.motion, Prod.mk.injEq] at hm
  exact hm

theorem Dev.Steers.ite {d e f : Dev} {c : Prop} [Decidable c] (h : Dev.Steers p d e) (h' : Dev.Steers p d f) : Dev.Steers p d (if c then e else f) := by
  split
  · exact h
  · exact h'

theorem Dev.Steers.onPort {d e : Dev} (h : Dev.Steers p d e) (f : StrPort → StrPort) (hf : ∀ q, (f q).motion = q.motion) : Dev.Steers p d (e.onPort p f) :=
  h.trans ⟨rfl, rfl, rfl, by rw [Dev.port_onPort_self, hf], fun _ _ _ => rfl, rfl⟩

/-- A field of the port's own registers that is not the rejection bit. -/
theorem Dev.setFld_steers (d : Dev) (a m l v : Nat) (ha : a ∈ steerRegs p) (hb : a = R.STR_STATUS p → l ≤ m ∧ (m < 5 ∨ 5 < l)) :
    Dev.Steers p d (d.setFld a m l v) := by
  refine ⟨rfl, rfl, rfl, by rw [Dev.port_of_str (Dev.setFld_str ..)], fun b hmem hlow => Dev.reg_setFld_ne _ _ _ _ _ _ fun hab => hmem (hab ▸ ha), ?_⟩
  · by_cases h : a = R.STR_STATUS p
    · obtain ⟨hle, hother⟩ := hb h
      rw [← h, Dev.rbit, Dev.fld_setFld_other _ _ _ _ _ _ _ (by decide) (le_refl 5) hle (by omega), ← Dev.rbit]
    · exact Dev.rbit_of_reg (Dev.reg_setFld_ne _ _ _ _ _ _ (fun h' => h h'.symm)) 5

theorem Dev.Steers.status {d e : Dev} (h : Dev.Steers p d e) (m l v : Nat) (hl : l ≤ m) (hb : m < 5 ∨ 5 < l) : Dev.Steers p d (e.setFld (R.STR_STATUS p) m l v) :=
  h.trans (e.setFld_steers _ _ _ _ (by simp [steerRegs]) (fun _ => ⟨hl, hb⟩))

theorem Dev.Steers.statusBit {d e : Dev} (h : Dev.Steers p d e) (i : Nat) (b : Bool) (hi : i ≠ 5) : Dev.Steers p d (e.setBit (R.STR_STATUS p) i b) :=
  h.status i i _ (le_refl i) (by omega)

theorem Dev.Steers.own {d e : Dev} (h : Dev.Steers p d e) (a m l v : Nat) (ha : a ∈ [R.STR_ERR p, R.STR_DRV p]) : Dev.Steers p d (e.setFld a m l v) := by
  simp only [List.mem_cons, List.not_mem_nil, or_false] at ha
  refine h.trans (e.setFld_steers _ _ _ _ ?_ fun hs => ?_)
  · rcases ha with rfl | rfl <;> simp [steerRegs]
  · simp only [R.STR_ERR, R.STR_DRV, R.STR_STATUS] at ha hs
    omega

theorem Dev.Steers.inhibit {d e : Dev} (h : Dev.Steers p d e) (i : Nat) (on : Bool) : Dev.Steers p d (e.setInhibit i on) := by
  obtain ⟨⟨r, x, heq⟩, hreg⟩ := e.setInhibit_follow i on
  refine h.trans ⟨by rw [heq], by rw [heq], by rw [heq], by rw [heq]; rfl, fun a ha _ => hreg a fun hmem => ha (by simp [steerRegs, hmem]), ?_⟩
  exact Dev.rbit_of_reg (hreg _ (not_mem_inhibitRegs (by show 0x50008 < 0x60004 + 0x100 * p; omega))) 5

theorem Dev.Steers.logFault {d e : Dev} (h : Dev.Steers p d e) (code : Nat) (cls : FClass) (act ret : Bool) (hp : p < 4) :
    Dev.Steers p d (e.logFault code cls act ret) :=
  h.trans ⟨Dev.logFault_top_state .., Dev.logFault_seq .., Dev.logFault_now .., by rw [Dev.port_of_str (Dev.logFault_str ..)],
    fun a _ hlow => Dev.logFault_reg_of _ _ _ _ _ (not_mem_logRegs (Nat.lt_trans hlow (by decide))),
    Dev.logFault_rbit _ _ _ _ _ (not_mem_logRegs (by show 0x60004 + 0x100 * p < 0x290000; omega))⟩

theorem Dev.Steers.raiseD {d e : Dev} (h : Dev.Steers p d e) (code : Nat) (u : UnitId) (act : Bool) (hp : p < 4) : Dev.Steers p d (e.raiseD code u act) :=
  (h.logFault code .d act false hp).trans ⟨rfl, rfl, rfl, rfl, fun _ _ _ => rfl, rfl⟩

theorem Dev.Steers.filters {d e f : Dev} (h : Dev.Steers p d e) (h' : e.FiltersOf f) (hp : p < 4) : Dev.Steers p d f := by
  obtain ⟨⟨x, r, n, rfl⟩, hreg⟩ := h'
  exact h.trans ⟨rfl, rfl, rfl, rfl, fun a _ hlow => hreg a (.inl hlow),
    Dev.rbit_of_reg (hreg _ (.inl (by show 0x60004 + 0x100 * p < 0x230000; omega))) 5⟩

theorem Dev.Steers.drew {d e : Dev} (h : Dev.Steers p d e) : Dev.Steers p d e.drew := h.trans ⟨rfl, rfl, rfl, rfl, fun _ _ _ => rfl, rfl⟩

/-! The lock, the drive and the removal of a port (R110, R114, R119). -/

/-- The lock as STR_STATUS and the inhibit show it. -/
def Dev.lockShown (d : Dev) (p : Nat) (on : Bool) : Dev := (d.setBit (R.STR_STATUS p) 0 on).setInhibit (8 + p) (!on)

theorem Dev.setLocked_eq (d : Dev) (p : Nat) (on : Bool) : d.setLocked p on =
    if d.rbit (R.STR_STATUS p) 0 && !on then
      (((d.lockShown p on).logFault 0x0701 .n).incSat (R.STR_STATUS p) 31 16 1).onPort p (fun q => { q with
        inTol := 0, outTol := 0, lostAt := some (((d.lockShown p on).logFault 0x0701 .n).incSat (R.STR_STATUS p) 31 16 1).now })
    else if on then (d.lockShown p on).onPort p (fun q => { q with lostAt := none, outTol := 0 })
    else d.lockShown p on := rfl

theorem Dev.Steers.setLocked {d e : Dev} (h : Dev.Steers p d e) (on : Bool) (hp : p < 4) : Dev.Steers p d (e.setLocked p on) := by
  have hshown : Dev.Steers p d (e.lockShown p on) := (h.statusBit 0 on (by decide)).inhibit _ _
  rw [Dev.setLocked_eq]
  refine .ite (.onPort (.status (hshown.logFault _ _ _ _ hp) _ _ _ (by decide) (by decide)) _ fun _ => rfl) (.ite (hshown.onPort _ fun _ => rfl) hshown)

/-- The count of units in tolerance, or out of it, goes on. -/
def Dev.unitCounted (d : Dev) (p : Nat) (ok : Bool) : Dev :=
  if ok then d.onPort p (fun q => { q with inTol := q.inTol + 1, outTol := 0 }) else d.onPort p (fun q => { q with outTol := q.outTol + 1, inTol := 0 })

theorem Dev.Steers.unitCounted {d e : Dev} (h : Dev.Steers p d e) (ok : Bool) : Dev.Steers p d (e.unitCounted p ok) := by
  unfold Dev.unitCounted
  refine .ite ?_ ?_
  · exact h.onPort _ fun _ => rfl
  · exact h.onPort _ fun _ => rfl

theorem Dev.lockUnit_eq (d : Dev) (p : Nat) (ok : Bool) : d.lockUnit p ok =
    if !d.strRuns p then d.setLocked p false
    else if ok then
      if !(d.unitCounted p true).rbit (R.STR_STATUS p) 0 &&
          decide ((d.unitCounted p true).fld (R.STR_CTRL p) 19 16 ≤ ((d.unitCounted p true).port p).inTol) then
        (d.unitCounted p true).setLocked p true else d.unitCounted p true
    else if (d.unitCounted p false).rbit (R.STR_STATUS p) 0 &&
        decide ((d.unitCounted p false).fld (R.STR_CTRL p) 23 20 ≤ ((d.unitCounted p false).port p).outTol) then
      (d.unitCounted p false).setLocked p false else d.unitCounted p false := rfl

theorem Dev.Steers.lockUnit {d e : Dev} (h : Dev.Steers p d e) (ok : Bool) (hp : p < 4) : Dev.Steers p d (e.lockUnit p ok) := by
  rw [Dev.lockUnit_eq]
  exact .ite (h.setLocked false hp) (.ite (.ite ((h.unitCounted true).setLocked true hp) (h.unitCounted true))
    (.ite ((h.unitCounted false).setLocked false hp) (h.unitCounted false)))

theorem Dev.Steers.park {d e : Dev} (h : Dev.Steers p d e) : Dev.Steers p d (e.park p) := h.own _ _ _ _ (by simp)

theorem Dev.Steers.removePort {d e : Dev} (h : Dev.Steers p d e) (code : Nat) (active : Bool) (hp : p < 4) : Dev.Steers p d (e.removePort p code active) := by
  unfold Dev.removePort
  exact .park (.onPort (.statusBit (.raiseD (h.setLocked false hp) _ _ _ hp) 2 true (by decide)) _ fun _ => rfl)

theorem Dev.Steers.fltSource {d e : Dev} (h : Dev.Steers p d e) (src : Nat) (x : Int) (hp : p < 4) : Dev.Steers p d (e.fltSource src x) :=
  h.filters (e.fltSource_filters src x) hp

theorem Dev.Steers.settleSample {d e : Dev} (h : Dev.Steers p d e) : Dev.Steers p d (e.settleSample p) := by
  unfold Dev.settleSample
  dsimp only
  refine .ite h (.ite (.statusBit ?_ 1 true (by decide)) ?_)
  · exact h.onPort _ fun _ => rfl
  · exact h.onPort _ fun _ => rfl

end

/-! Position samples (R111). -/

/-- The sample's code, its difference from the last one and its tick are taken and shown. -/
def Dev.sampleTaken (d : Dev) (p : Nat) (x : Int) (bad : Nat) : Dev :=
  ((d.onPort p (fun q => { q with pos := x, vel := x - (d.port p).pos, tick := d.now, sumBad := bad })).setFld (R.STR_POS p) 15 0 (unsigned 16 x)).setFld
    (R.STR_POS p) 31 16 (unsigned 16 (x - (d.port p).pos))

theorem Dev.positionSample_steers (d : Dev) (p : Nat) (a b : Int) (unitDone unitOk : Bool) (hp : p < 4) :
    ∃ bad, Dev.Steers p (d.sampleTaken p (positionCode a b) bad) (d.positionSample p a b unitDone unitOk) := by
  refine ⟨if decide (a + b < d.fld (R.STR_SNS_LIM p) 15 0) || decide ((d.fld (R.STR_SNS_LIM p) 31 16 : Int) < a + b) then (d.port p).sumBad + 1 else 0, ?_⟩
  unfold Dev.positionSample
  dsimp only
  refine .fltSource (.fltSource (.fltSource (.settleSample ?_) _ _ hp) _ _ hp) _ _ hp
  have hlock {e f : Dev} (h : Dev.Steers p e f) (x : Int) : Dev.Steers p e (if f.strMode p = 0 then (if unitDone then f.lockUnit p unitOk else f)
      else if f.strMode p = 1 then (f.setFld (R.STR_ERR p) 15 0 (unsigned 16 (x - (f.port p).target))).lockUnit p
        (decide ((x - (f.port p).target).natAbs ≤ f.fld (R.STR_TOL p) 15 0)) else f) :=
    .ite (.ite (h.lockUnit _ hp) h) (.ite (.lockUnit (h.own _ _ _ _ (by simp)) _ hp) h)
  refine .ite (.drew (.own (hlock ?_ _) _ _ _ _ (by simp))) (hlock ?_ _) <;>
    exact .ite (.removePort (.statusBit (.refl _) 4 _ (by decide)) _ _ hp) (.statusBit (.refl _) 4 _ (by decide))

theorem Dev.sampleTaken_pos (d : Dev) (p : Nat) (x : Int) (bad : Nat) : (d.sampleTaken p x bad).fld (R.STR_POS p) 15 0 = unsigned 16 x := by
  have hlt : unsigned 16 x < 2 ^ 16 := by
    unfold unsigned
    omega
  rw [Dev.sampleTaken, Dev.fld_setFld_other _ _ _ _ _ _ _ (by decide) (by decide) (by decide) (by omega), Dev.fld_setFld_self _ _ _ _ _ (by decide) (by decide)]
  exact Nat.mod_eq_of_lt hlt

theorem Dev.sampleTaken_port (d : Dev) (p : Nat) (x : Int) (bad : Nat) :
    (d.sampleTaken p x bad).port p = { d.port p with pos := x, vel := x - (d.port p).pos, tick := d.now, sumBad := bad } := by
  rw [Dev.sampleTaken, Dev.port_of_str (Dev.setFld_str ..), Dev.port_of_str (Dev.setFld_str ..), Dev.port_onPort_self]

/-! The fall of the lock (R114). -/

/-- The device with the emission gate's state replaced. -/
def Dev.withEmt (d : Dev) (e : EmtState) : Dev := { d with emt := e }

@[simp] theorem Dev.withEmt_rbit (d : Dev) (e : EmtState) (a i : Nat) : (d.withEmt e).rbit a i = d.rbit a i := (rfl)

theorem Dev.setInhibit_eq (d : Dev) (i : Nat) (on : Bool) : d.setInhibit i on =
    if on then
      if d.rbit R.EMT_STATUS i then d
      else ((d.setBit R.EMT_STATUS i true).setBit R.EMT_INHIBIT_STICKY i true).withEmt { d.emt with capAt := mput d.emt.capAt i (d.now + 2) }
    else d.setBit R.EMT_STATUS i false := rfl

theorem Dev.setInhibit_on (d : Dev) (i : Nat) (hi : i < 32) : (d.setInhibit i true).rbit R.EMT_STATUS i = true := by
  rw [Dev.setInhibit_eq, if_pos rfl]
  split
  · assumption
  · rw [Dev.withEmt_rbit, Dev.rbit_of_reg (Dev.reg_setBit_ne _ _ _ _ _ (by decide)), Dev.rbit_setBit_self _ _ _ _ hi]

theorem Dev.lockShown_status (d : Dev) (p : Nat) (on : Bool) (i : Nat) : (d.lockShown p on).rbit (R.STR_STATUS p) i = (d.setBit (R.STR_STATUS p) 0 on).rbit (R.STR_STATUS p) i :=
  Dev.rbit_of_reg ((Dev.setInhibit_follow _ _ _).2 _ (not_mem_inhibitRegs (by show 0x50008 < 0x60004 + 0x100 * p; omega))) i

theorem Dev.lockShown_flg (d : Dev) (p : Nat) (on : Bool) : (d.lockShown p on).flg = d.flg := by
  obtain ⟨⟨_, _, h⟩, -⟩ := (d.setBit (R.STR_STATUS p) 0 on).setInhibit_follow (8 + p) (!on)
  rw [Dev.lockShown, h, Dev.setBit_flg]

theorem Dev.setLocked_down (d : Dev) (p : Nat) (hp : p < 4) :
    (d.setLocked p false).rbit (R.STR_STATUS p) 0 = false ∧ (d.setLocked p false).rbit R.EMT_STATUS (8 + p) = true := by
  have hstatus : (d.lockShown p false).rbit (R.STR_STATUS p) 0 = false := (d.lockShown_status p false 0).trans (Dev.rbit_setBit_self _ _ _ _ (by decide))
  have hinhibit : (d.lockShown p false).rbit R.EMT_STATUS (8 + p) = true := Dev.setInhibit_on _ _ (by omega)
  have hlog : R.STR_STATUS p ∉ logRegs := not_mem_logRegs (by show 0x60004 + 0x100 * p < 0x290000; omega)
  rw [Dev.setLocked_eq]
  split
  · refine ⟨?_, ?_⟩
    · rw [Dev.onPort_rbit, Dev.incSat, Dev.rbit, Dev.fld_setFld_other _ _ _ _ _ _ _ (by decide) (by decide) (by decide) (by decide), ← Dev.rbit,
        Dev.logFault_rbit _ _ _ _ _ hlog, hstatus]
    · rw [Dev.onPort_rbit, Dev.incSat, Dev.rbit_of_reg (Dev.reg_setFld_ne _ _ _ _ _ _ (by simp only [R.EMT_STATUS, R.STR_STATUS]; omega)),
        Dev.logFault_rbit _ _ _ _ _ (by decide), hinhibit]
  · exact ⟨hstatus, hinhibit⟩

theorem Dev.setLocked_stays (d : Dev) (p : Nat) (h : d.rbit (R.STR_STATUS p) 0 = false) : d.setLocked p false = d.lockShown p false := by
  rw [Dev.setLocked_eq, h]
  rfl

/-! The removal of a port without lock (R119). -/

/-- The port as a removal marks it. -/
def Dev.portMarked (d : Dev) (p code : Nat) : Dev := (d.setBit (R.STR_STATUS p) 2 true).onPort p (fun q => { q with cause := code, settling := false })

theorem Dev.removePort_eq (d : Dev) (p code : Nat) (active : Bool) : d.removePort p code active =
    (((d.setLocked p false).raiseD code (.steering p) active).portMarked p code).park p := rfl

theorem Dev.park_drv (d : Dev) (p : Nat) : (d.park p).fld (R.STR_DRV p) 15 0 = d.fld (R.STR_PARK p) 15 0 := by
  rw [Dev.park, Dev.fld_setFld_self _ _ _ _ _ (by decide) (by decide)]
  exact Nat.mod_eq_of_lt (d.fld_lt _ 15 0)

@[simp] theorem Dev.park_flg (d : Dev) (p : Nat) : (d.park p).flg = d.flg := (rfl)
@[simp] theorem Dev.park_top (d : Dev) (p : Nat) : (d.park p).top = d.top := (rfl)
@[simp] theorem Dev.portMarked_flg (d : Dev) (p code : Nat) : (d.portMarked p code).flg = d.flg := (rfl)
@[simp] theorem Dev.portMarked_top (d : Dev) (p code : Nat) : (d.portMarked p code).top = d.top := (rfl)

theorem Dev.removePort_drv (d : Dev) (p code : Nat) (active : Bool) (hp : p < 4) : (d.removePort p code active).fld (R.STR_DRV p) 15 0 = d.fld (R.STR_PARK p) 15 0 := by
  have hpark : R.STR_PARK p ∉ steerRegs p := by
    simp only [steerRegs, inhibitRegs, R.STR_PARK, R.STR_STATUS, R.STR_ERR, R.STR_DRV, R.EMT_STATUS, R.EMT_INHIBIT_STICKY, List.cons_append, List.nil_append,
      List.mem_cons, List.not_mem_nil, or_false]
    omega
  have hkept : Dev.Steers p d (((d.setLocked p false).raiseD code (.steering p) active).portMarked p code) :=
    .onPort (.statusBit (.raiseD ((Dev.Steers.refl d).setLocked false hp) _ _ _ hp) 2 true (by decide)) _ fun _ => rfl
  rw [Dev.removePort_eq, Dev.park_drv]
  exact Dev.fld_of_reg (hkept.reg _ hpark (by show 0x60028 + 0x100 * p < 0x230000; omega)) _ _

theorem Dev.removePort_removed (d : Dev) (p code : Nat) (active : Bool) : (d.removePort p code active).isRemoved (.steering p) = true := by
  rw [Dev.removePort_eq, Dev.isRemoved, Dev.park_top, Dev.portMarked_top, ← Dev.isRemoved]
  exact Dev.removeUnit_isRemoved _ _

theorem Dev.removePort_logged (d : Dev) (p code : Nat) (active : Bool) (h : d.rbit (R.STR_STATUS p) 0 = false) (hroom : d.faultRoom code = true) :
    (d.removePort p code active).logged code = true := by
  rw [Dev.removePort_eq, Dev.logged_of_log (d := ((d.setLocked p false).raiseD code (.steering p) active)) (by rw [Dev.park_flg, Dev.portMarked_flg]),
    Dev.setLocked_stays _ _ h]
  exact Dev.logFault_logged _ _ _ _ _ ((Dev.faultRoom_of_log (d := d) (by rw [Dev.lockShown_flg]) _).trans hroom)

theorem Dev.removePort_shown (d : Dev) (p code : Nat) (active : Bool) : (d.removePort p code active).rbit (R.STR_STATUS p) 2 = true := by
  rw [Dev.removePort_eq, Dev.park, Dev.rbit_of_reg (Dev.reg_setFld_ne _ _ _ _ _ _ (by simp only [R.STR_STATUS, R.STR_DRV]; omega)), Dev.portMarked,
    Dev.onPort_rbit, Dev.rbit_setBit_self _ _ _ _ (by decide)]

/-! Writes of STR_CTRLp (R116). -/

theorem Dev.Steers.stallLevel {p : Nat} {d e : Dev} (h : Dev.Steers p d e) (on : Bool) (hp : p < 4) : Dev.Steers p d (e.stallLevel p on) := by
  have hshown : Dev.Steers p d ((e.setBit (R.STR_STATUS p) 3 on).setInhibit (4 + p) on) := (h.statusBit 3 on (by decide)).inhibit _ _
  have hlogged : Dev.Steers p d (if on && !e.rbit (R.STR_STATUS p) 3 then ((e.setBit (R.STR_STATUS p) 3 on).setInhibit (4 + p) on).logFault 0x0703 .n
      else (e.setBit (R.STR_STATUS p) 3 on).setInhibit (4 + p) on) := .ite (hshown.logFault _ _ _ _ hp) hshown
  unfold Dev.stallLevel
  dsimp only
  refine .ite (.ite (.park ?_) ?_) hlogged
  · exact hlogged.onPort _ fun _ => rfl
  · exact hlogged.onPort _ fun _ => rfl

/-- The value a write of STR_CTRLp gives, before a refused change of the mode. -/
def strCtrlGiven (p : Nat) (v : Word) : Word := clampWrite (R.STR_CTRL p) v &&& 0xFFFFFF7F#32

/-- The write changes the mode. -/
def Dev.modeChanges (d : Dev) (p : Nat) (v : Word) : Bool := bits (strCtrlGiven p v) 2 1 != d.strMode p

/-- The write changes the mode in RANGING, which is refused. -/
def Dev.modeRefused (d : Dev) (p : Nat) (v : Word) : Bool := d.modeChanges p v && d.ranging

/-- The value STR_CTRLp takes. -/
def Dev.strCtrlTaken (d : Dev) (p : Nat) (v : Word) : Word :=
  if d.modeRefused p v then setBits (strCtrlGiven p v) 2 1 (d.strMode p) else strCtrlGiven p v

/-- The write starts the port. -/
def Dev.portStarts (d : Dev) (p : Nat) (v : Word) : Bool := !d.rbit (R.STR_CTRL p) 0 && bit (d.strCtrlTaken p v) 0

/-- STR_CTRLp after a write, with its rejection. -/
def Dev.strCtrlStored (d : Dev) (p : Nat) (v : Word) : Dev :=
  if d.modeRefused p v then (d.setReg (R.STR_CTRL p) (d.strCtrlTaken p v)).setBit (R.STR_STATUS p) 5 true else d.setReg (R.STR_CTRL p) (d.strCtrlTaken p v)

/-- A start or another mode begins the counts of units anew. -/
def Dev.countsRestarted (d : Dev) (p : Nat) (c : Bool) : Dev := if c then d.onPort p (fun q => { q with inTol := 0, outTol := 0, lostAt := none }) else d

/-- Another mode is out of lock and aims at its setpoint. -/
def Dev.modeEntered (d : Dev) (p : Nat) (c : Bool) : Dev :=
  if c then (d.setLocked p false).onPort p (fun q => { q with target := signed 16 (d.fld (R.STR_SETPOINT p) 15 0) }) else d

/-- A start resets the sense channels. -/
def Dev.senseReset (d : Dev) (p : Nat) (c : Bool) : Dev := if c then (d.fltReset (2 * p)).fltReset (2 * p + 1) else d

/-- A port that does not run parks out of lock. -/
def Dev.parkIfStopped (d : Dev) (p : Nat) : Dev := if d.strRuns p then d else ((d.setLocked p false).onPort p (fun q => { q with lostAt := none })).park p

/-- A written STR_CTRLp, but for the stall interlock and the stop. -/
def Dev.strCtrlTurned (d : Dev) (p : Nat) (v : Word) : Dev :=
  (((d.strCtrlStored p v).countsRestarted p (d.portStarts p v || (d.modeChanges p v && !d.modeRefused p v))).modeEntered p (d.modeChanges p v && !d.modeRefused p v)).senseReset p
    (d.portStarts p v)

theorem Dev.strCtrlWrite_eq (d : Dev) (p : Nat) (v : Word) : d.strCtrlWrite p v =
    ((d.strCtrlTurned p v).stallLevel p ((d.strCtrlTurned p v).flt (bits (d.strCtrlTaken p v) 31 28)).level).parkIfStopped p := rfl

section
variable {p : Nat} {d e : Dev} (h : Dev.Steers p d e)
include h

theorem Dev.Steers.countsRestarted (c : Bool) : Dev.Steers p d (e.countsRestarted p c) := by
  refine .ite ?_ h
  exact h.onPort _ fun _ => rfl

theorem Dev.Steers.modeEntered (c : Bool) (hp : p < 4) : Dev.Steers p d (e.modeEntered p c) := by
  refine .ite ?_ h
  exact (h.setLocked false hp).onPort _ fun _ => rfl

theorem Dev.Steers.senseReset (c : Bool) (hp : p < 4) : Dev.Steers p d (e.senseReset p c) :=
  .ite (h.filters (((Dev.FiltersOf.refl e).onFlt _ _).onFlt _ _) hp) h

theorem Dev.Steers.parkIfStopped (hp : p < 4) : Dev.Steers p d (e.parkIfStopped p) := by
  refine .ite h (.park ?_)
  exact (h.setLocked false hp).onPort _ fun _ => rfl

end

theorem Dev.strCtrlWrite_steers (d : Dev) (p : Nat) (v : Word) (hp : p < 4) : Dev.Steers p (d.strCtrlStored p v) (d.strCtrlWrite p v) := by
  rw [Dev.strCtrlWrite_eq]
  exact ((((Dev.Steers.refl _).countsRestarted _).modeEntered _ hp).senseReset _ hp |>.stallLevel _ hp).parkIfStopped hp

theorem Dev.strCtrlStored_taken (d : Dev) (p : Nat) (v : Word) : (d.strCtrlStored p v).reg (R.STR_CTRL p) = d.strCtrlTaken p v := by
  unfold Dev.strCtrlStored
  split
  · rw [Dev.reg_setBit_ne _ _ _ _ _ (by simp only [R.STR_CTRL, R.STR_STATUS]; omega), Dev.reg_setReg_self]
  · rw [Dev.reg_setReg_self]

theorem Dev.strCtrlStored_top (d : Dev) (p : Nat) (v : Word) : (d.strCtrlStored p v).top = d.top := by
  unfold Dev.strCtrlStored
  split
  · rw [Dev.setBit_top, Dev.setReg_top]
  · rw [Dev.setReg_top]

/-- STR_CTRLp lies outside what the port's work changes. -/
theorem strCtrl_kept {p : Nat} (hp : p < 4) : R.STR_CTRL p ∉ steerRegs p ∧ R.STR_CTRL p < R.FLT_STATUS := by
  simp only [steerRegs, inhibitRegs, R.STR_CTRL, R.STR_STATUS, R.STR_ERR, R.STR_DRV, R.EMT_STATUS, R.EMT_INHIBIT_STICKY, R.FLT_STATUS, List.cons_append, List.nil_append,
    List.mem_cons, List.not_mem_nil, or_false]
  omega

theorem Dev.strCtrlWrite_taken (d : Dev) (p : Nat) (v : Word) (hp : p < 4) : (d.strCtrlWrite p v).reg (R.STR_CTRL p) = d.strCtrlTaken p v := by
  obtain ⟨hout, hlow⟩ := strCtrl_kept hp
  rw [(d.strCtrlWrite_steers p v hp).reg _ hout hlow, Dev.strCtrlStored_taken]

theorem Dev.strCtrlTaken_given (d : Dev) (p : Nat) (v : Word) (h : d.ranging = false) : d.strCtrlTaken p v = strCtrlGiven p v := by
  rw [Dev.strCtrlTaken, Dev.modeRefused, h, Bool.and_false, if_neg (by decide)]

theorem Dev.strCtrlWrite_refused (d : Dev) (p : Nat) (v : Word) (hp : p < 4) (h : d.modeRefused p v = true) :
    (d.strCtrlWrite p v).strMode p = d.strMode p ∧ (d.strCtrlWrite p v).rbit (R.STR_STATUS p) 5 = true := by
  refine ⟨?_, ?_⟩
  · have hmode : d.strMode p < 2 ^ (2 + 1 - 1) := d.fld_lt _ _ _
    rw [Dev.strMode, Dev.fld, Dev.strCtrlWrite_taken _ _ _ hp, Dev.strCtrlTaken, if_pos h, bits_setBits_self _ _ _ _ (by decide) (by decide), Nat.mod_eq_of_lt hmode]
  · rw [(d.strCtrlWrite_steers p v hp).rejected, Dev.strCtrlStored, if_pos h, Dev.rbit_setBit_self _ _ _ _ (by decide)]

/-! Index edges (R117). -/

/-- An index edge is taken. -/
def Dev.indexTaken (d : Dev) (p : Nat) : Dev :=
  d.onPort p (fun q => { q with period := if (d.port p).idxSeen = 0 then 0 else d.now - (d.port p).lastIdx, lastIdx := d.now, idxSeen := q.idxSeen + 1 })

/-- The unit of the speed lock that a revolution of period `x` makes. -/
def Dev.speedUnit (d : Dev) (p x : Nat) : Dev :=
  let f := d.fld (R.STR_FREQ p) 23 0
  let e := ((25600000000 : Int) - f * x).natAbs
  let d := if f * x = 0 then d else d.setFld (R.STR_ERR p) 15 0 (satN 32767 (e * 65536 / (f * x)))
  d.lockUnit p (decide (e * 65536 ≤ d.fld (R.STR_TOL p) 15 0 * (f * x)) && f != 0)

/-- An index edge and the unit it ends. -/
def Dev.indexEdge (d : Dev) (p : Nat) : Dev :=
  if (d.port p).idxSeen = 0 ∨ (d.indexTaken p).strMode p != 2 then d.indexTaken p else (d.indexTaken p).speedUnit p (d.now - (d.port p).lastIdx)

theorem State.polygonIndex_eq (s : State) (t p : Nat) (ha : s.dev.alive = true) : execPolygonIndex t p s = .next { s with dev := (s.dev.advanceTo t).indexEdge p } :=
  State.atTick_alive s t _ ha

theorem Dev.Steers.speedUnit {p : Nat} {d e : Dev} (h : Dev.Steers p d e) (x : Nat) (hp : p < 4) : Dev.Steers p d (e.speedUnit p x) := by
  refine .lockUnit ?_ _ hp
  exact .ite h (h.own _ _ _ _ (by simp))

theorem Dev.indexEdge_steers (d : Dev) (p : Nat) (hp : p < 4) : Dev.Steers p (d.indexTaken p) (d.indexEdge p) :=
  .ite (.refl _) ((Dev.Steers.refl _).speedUnit _ hp)

theorem Dev.indexEdge_port (d : Dev) (p : Nat) (hp : p < 4) : ((d.indexEdge p).port p).lastIdx = d.now ∧ ((d.indexEdge p).port p).idxSeen = (d.port p).idxSeen + 1 ∧
    ((d.indexEdge p).port p).period = if (d.port p).idxSeen = 0 then 0 else d.now - (d.port p).lastIdx := by
  obtain ⟨-, -, -, hperiod, hlast, hseen⟩ := (d.indexEdge_steers p hp).motion_at
  rw [Dev.indexTaken, Dev.port_onPort_self] at hperiod hlast hseen
  exact ⟨hlast, hseen, hperiod⟩

/-! REINSTATE (R119). -/

/-- A port that rejoins. -/
def Dev.portReinstated (d : Dev) (p : Nat) : Dev :=
  ((d.reinstateUnit (.steering p)).setBit (R.STR_STATUS p) 2 false).onPort p (fun q => { q with cause := 0, inTol := 0, outTol := 0, lostAt := none, sumBad := 0 })

theorem Dev.strCmd_eq (d : Dev) (p : Nat) (w : Word) : d.strCmd p w =
    if bits w 7 0 != 1 then d.setReg (R.STR_CMD p) (cmdWord w 0xFF 2 4)
    else if !d.inState [.armed, .ranging] then d.setReg (R.STR_CMD p) (cmdWord w 0xFF 2 1)
    else if !d.isRemoved (.steering p) then d.setReg (R.STR_CMD p) (cmdWord w 0xFF 2 3)
    else if !d.faultCleared (d.port p).cause then d.setReg (R.STR_CMD p) (cmdWord w 0xFF 2 2)
    else (d.setReg (R.STR_CMD p) (cmdWord w 0xFF 1 0)).portReinstated p := rfl

theorem Dev.strCmd_reinstates (d : Dev) (p : Nat) (hin : d.inState [.armed, .ranging] = true) (hr : d.isRemoved (.steering p) = true)
    (hc : d.faultCleared (d.port p).cause = true) : d.strCmd p 1#32 = (d.setReg (R.STR_CMD p) (cmdWord 1#32 0xFF 1 0)).portReinstated p := by
  rw [Dev.strCmd_eq, if_neg (by decide), hin, if_neg (by decide), hr, if_neg (by decide), hc, if_neg (by decide)]

theorem Dev.portReinstated_removed (d : Dev) (p : Nat) : (d.portReinstated p).isRemoved (.steering p) = false := by
  rw [Dev.portReinstated, Dev.isRemoved, Dev.onPort_top, Dev.setBit_top]
  simp [Dev.reinstateUnit]

theorem Dev.portReinstated_reg (d : Dev) (p : Nat) {a : Nat} (h : a ≠ R.STR_STATUS p) : (d.portReinstated p).reg a = d.reg a := by
  rw [Dev.portReinstated, Dev.onPort_reg, Dev.reg_setBit_ne _ _ _ _ _ h]
  rfl

/-- Settles O25. -/
theorem steeringComplete : Obligations.SteeringComplete := by
  unfold Obligations.SteeringComplete
  refine ⟨?positionSample, ?relockTimeout, ?strReinstate, ?polygonIndex, ?indexTimeout, ?strModeWrite, ?strModeRefused⟩
  case positionSample =>
    intro s t p a b unitDone unitOk halive hp
    refine ⟨_, (State.atTick_alive s t _ halive : execPositionSample t p a b unitDone unitOk s = _), ?_⟩
    rw [if_pos hp]
    obtain ⟨bad, h⟩ := (s.dev.advanceTo t).positionSample_steers p a b unitDone unitOk hp
    obtain ⟨hpos, hvel, htick, -, -, -⟩ := h.motion_at
    rw [Dev.sampleTaken_port] at hpos hvel htick
    refine ⟨hpos, hvel.trans (by rw [Dev.port_of_str (Dev.advanceTo_str ..)]), htick, ?_, h.state.trans (by simp [Dev.sampleTaken]), h.seq.trans (by simp [Dev.sampleTaken, Dev.onPort]),
      sameMemory.withDev s _⟩
    rw [Dev.fld_of_reg (h.reg _ (by simp only [steerRegs, inhibitRegs, R.STR_POS, R.STR_STATUS, R.STR_ERR, R.STR_DRV, R.EMT_STATUS, R.EMT_INHIBIT_STICKY, List.cons_append, List.nil_append,
      List.mem_cons, List.not_mem_nil, or_false]; omega) (by show 0x6002C + 0x100 * p < 0x230000; omega)), Dev.sampleTaken_pos]
  case relockTimeout =>
    intro s t p x halive hp hlost hruns hlock hlate hroom
    have hruns' : (s.dev.advanceTo t).strRuns p = true := by rw [← hruns]; simp [Dev.strRuns, Dev.strMode, Dev.isRemoved]
    have hlock' : (s.dev.advanceTo t).rbit (R.STR_STATUS p) 0 = false := by simpa
    have heq : execRelockTimeout t p s = .next { s with dev := ((s.dev.advanceTo t).removePort p 0x0702 false).onPort p (fun q => { q with lostAt := none }) } := by
      refine (State.atTick_alive s t _ halive).trans ?_
      rw [Dev.port_of_str (Dev.advanceTo_str ..), hlost]
      dsimp only
      rw [hruns', hlock', if_pos (by simpa using hlate)]
    refine ⟨_, heq, ?_, ?_, ?_, ?_, ?_, sameMemory.withDev s _⟩
    · rw [Dev.isRemoved, Dev.onPort_top, ← Dev.isRemoved, Dev.removePort_removed]
    · rw [Dev.logged_of_log (d := (s.dev.advanceTo t).removePort p 0x0702 false) (by rw [Dev.onPort_flg])]
      exact Dev.removePort_logged _ _ _ _ hlock' ((Dev.faultRoom_of_log (by simp) _).trans hroom)
    · rw [Dev.onPort_rbit, Dev.removePort_shown]
    · rw [Dev.port_onPort_self]
    · rw [Dev.onPort_fld, Dev.removePort_drv _ _ _ _ hp, Dev.advanceTo_fld]
  case strReinstate =>
    intro s src t p halive hp hstate hbusy hremoved hcleared
    have hcmd : s.dev.takesCmd (R.STR_CMD p) = true := by
      rcases hstate with hs | hs <;> simp [Dev.takesCmd, halive, hs, hbusy]
    have hin : ((s.dev.advanceTo t).accepted src (R.STR_CMD p) 1#32).inState [.armed, .ranging] = true := by
      rcases hstate with hs | hs <;> simp [Dev.inState, hs]
    have hremoved' : ((s.dev.advanceTo t).accepted src (R.STR_CMD p) 1#32).isRemoved (.steering p) = true := by simpa [Dev.isRemoved] using hremoved
    have hport : ((s.dev.advanceTo t).accepted src (R.STR_CMD p) 1#32).port p = s.dev.port p := Dev.port_of_str (by simp) _
    have hcleared' : ((s.dev.advanceTo t).accepted src (R.STR_CMD p) 1#32).faultCleared (s.dev.port p).cause = true := by simpa [Dev.faultCleared] using hcleared
    refine ⟨_, (s.cmdWrite_taken src t _ _ _ hcmd : execStrReinstate src t p s = _), ?_⟩
    rw [Dev.strCmd_reinstates _ _ hin hremoved' (by rw [hport]; exact hcleared')]
    refine ⟨?_, ?_, ?_, ?_, sameMemory.withDev s _⟩
    · rw [Dev.isRemoved, Dev.onReq_top, ← Dev.isRemoved, Dev.portReinstated_removed]
    · rw [Dev.onReq_rbit, Dev.portReinstated, Dev.onPort_rbit, Dev.rbit_setBit_self _ _ _ _ (by decide)]
    · rw [Dev.port_of_str (Dev.onReq_str ..), Dev.portReinstated, Dev.port_onPort_self]
    · rw [Dev.onReq_reg, Dev.portReinstated_reg _ _ (by simp only [R.STR_CMD, R.STR_STATUS]; omega), Dev.reg_setReg_self]
      rfl
  case polygonIndex =>
    intro s t p halive hp
    obtain ⟨hlast, hseen, hperiod⟩ := (s.dev.advanceTo t).indexEdge_port p hp
    have hport : (s.dev.advanceTo t).port p = s.dev.port p := Dev.port_of_str (Dev.advanceTo_str ..) p
    rw [hport] at hseen hperiod
    refine ⟨_, s.polygonIndex_eq t p halive, hlast, hseen, hperiod, ?_, sameMemory.withDev s _⟩
    rw [((s.dev.advanceTo t).indexEdge_steers p hp).state, Dev.indexTaken, Dev.onPort_top, Dev.advanceTo_top]
  case indexTimeout =>
    intro s t p halive hp hmode hperiod hlate
    have hmode' : (s.dev.advanceTo t).strMode p = 2 := by rw [← hmode]; simp [Dev.strMode]
    refine ⟨_, (State.atTick_alive s t _ halive : execIndexTimeout t p s = _), ?_⟩
    dsimp only
    rw [if_pos (by rw [hmode', Dev.port_of_str (Dev.advanceTo_str ..)]; simpa [hperiod] using hlate)]
    obtain ⟨hlock, hinhibit⟩ := (s.dev.advanceTo t).setLocked_down p hp
    exact ⟨hlock, hinhibit, ((Dev.Steers.refl _).setLocked false hp).state.trans (by rw [Dev.advanceTo_top]), sameMemory.withDev s _⟩
  case strModeWrite =>
    intro s src t p v halive hp hstate
    have hrest : s.dev.top.state ≠ .headframe ∧ s.dev.top.state ≠ .ranging := by rcases hstate with hs | hs <;> simp [hs]
    have hranging : ((s.dev.advanceTo t).accepted src (R.STR_CTRL p) v).ranging = false := by simpa [Dev.ranging] using hrest.2
    refine ⟨_, (s.regWrite_taken src t _ _ _ halive hrest.1 : execStrModeWrite src t p v s = _), ?_, ?_, ?_, sameMemory.withDev s _⟩
    · rw [Dev.onReq_reg, Dev.strCtrlWrite_taken _ _ _ hp, Dev.strCtrlTaken_given _ _ _ hranging]
      rfl
    · rw [Dev.req_onReq_self]
    · rw [Dev.onReq_top, (Dev.strCtrlWrite_steers _ p v hp).state, Dev.strCtrlStored_top, Dev.accepted_top, Dev.advanceTo_top]
  case strModeRefused =>
    intro s src t p v halive hp hstate hchange
    have hmode : ((s.dev.advanceTo t).accepted src (R.STR_CTRL p) v).strMode p = s.dev.strMode p := by
      rw [Dev.strMode, Dev.accepted_fld _ _ _ _ (by show 0x60000 + 0x100 * p < 0x2A0104; omega), Dev.advanceTo_fld, ← Dev.strMode]
    have hrefused : ((s.dev.advanceTo t).accepted src (R.STR_CTRL p) v).modeRefused p v = true := by
      rw [Dev.modeRefused, Dev.modeChanges, hmode, Bool.and_eq_true, bne_iff_ne]
      exact ⟨hchange, by simp [Dev.ranging, hstate]⟩
    refine ⟨_, (s.regWrite_taken src t _ _ _ halive (by simp [hstate]) : execStrModeWrite src t p v s = _), ?_⟩
    obtain ⟨hkept, hrej⟩ := Dev.strCtrlWrite_refused _ p v hp hrefused
    exact ⟨hkept.trans hmode, hrej, sameMemory.withDev s _⟩

end Sys2Proof.Machine
end

section
/-! PROOF. O39: the housekeeping converters (R279 to R285). -/
namespace Sys2Proof.Machine

section
variable (d : Dev) (u : Nat) (f : HkaU → HkaU)

@[simp] theorem Dev.hka_onHka_self : (d.onHka u f).hka u = f (d.hka u) := mgetD_mput_self ..
theorem Dev.hka_onHka_ne {v : Nat} (h : v ≠ u) : (d.onHka u f).hka v = d.hka v := mgetD_mput_ne _ _ _ _ _ h
@[simp] theorem Dev.onHka_reg (a : Nat) : (d.onHka u f).reg a = d.reg a := (rfl)
@[simp] theorem Dev.onHka_fld (a m l : Nat) : (d.onHka u f).fld a m l = d.fld a m l := (rfl)
@[simp] theorem Dev.onHka_rbit (a i : Nat) : (d.onHka u f).rbit a i = d.rbit a i := (rfl)
@[simp] theorem Dev.onHka_reg64 (a : Nat) : (d.onHka u f).reg64 a = d.reg64 a := (rfl)
@[simp] theorem Dev.onHka_flg : (d.onHka u f).flg = d.flg := (rfl)
@[simp] theorem Dev.onHka_top : (d.onHka u f).top = d.top := (rfl)
@[simp] theorem Dev.onHka_now : (d.onHka u f).now = d.now := (rfl)

end

theorem Dev.hka_of_hkas {d d' : Dev} (h : d'.hkas = d.hkas) (u : Nat) : d'.hka u = d.hka u := by rw [Dev.hka, h, Dev.hka]

@[simp] theorem Dev.accepted_hkas (d : Dev) (src a : Nat) (w : Word) : (d.accepted src a w).hkas = d.hkas := by simp [Dev.accepted]

/-- The device as an accepted write at the tick finds it. -/
theorem Dev.hka_taken (d : Dev) (src t a : Nat) (w : Word) (u : Nat) : ((d.advanceTo t).accepted src a w).hka u = d.hka u := Dev.hka_of_hkas (by simp) u

/-- Where a device keeps the registers that sense mode, the configuration and the ownership of a converter stand in, it keeps them. -/
theorem Dev.senseMode_of_reg {d d' : Dev} {u : Nat} (h : d'.reg (R.STR_CTRL u) = d.reg (R.STR_CTRL u)) : d'.senseMode u = d.senseMode u := by
  rw [Dev.senseMode, Dev.senseMode, Dev.rbit_of_reg h, Dev.strMode, Dev.fld_of_reg h, ← Dev.strMode]

theorem Dev.scanned_of_reg {d d' : Dev} {u : Nat} (h : d'.reg R.SNS_CTRL = d.reg R.SNS_CTRL) : d'.scanned u = d.scanned u := by
  rw [Dev.scanned, Dev.scanned, Dev.rbit_of_reg h]

/-! HKA_STATUSu (Table 14-8). -/

/-- What HKA_STATUSu shows of a converter. -/
def hkaStatus (q : HkaU) (sense gone : Bool) : Word :=
  BitVec.ofNat 32 (b2n q.run.isSome + 2 * b2n (q.delayEnd.isSome || q.held) + 4 * b2n q.inj.isSome + 8 * b2n q.cal
    + 16 * b2n q.calWait + 32 * b2n sense + 64 * b2n gone + 128 * b2n q.passed + 256 * ((q.run.map (·.1)).getD 0))

theorem Dev.hkaReport_eq (d : Dev) (u : Nat) : d.hkaReport u = d.setReg (R.HKA_STATUS u) (hkaStatus (d.hka u) (d.senseMode u) (d.isRemoved (.converter u))) := rfl

theorem b2n_le_one (b : Bool) : b2n b ≤ 1 := by cases b <;> decide

/-- The low eight bits of a status word are its flags. -/
theorem bits_flags (b0 b1 b2 b3 b4 b5 b6 b7 : Bool) (e : Nat) :
    let w : Word := BitVec.ofNat 32 (b2n b0 + 2 * b2n b1 + 4 * b2n b2 + 8 * b2n b3 + 16 * b2n b4 + 32 * b2n b5 + 64 * b2n b6 + 128 * b2n b7 + 256 * e)
    bits w 0 0 = b2n b0 ∧ bits w 1 1 = b2n b1 ∧ bits w 2 2 = b2n b2 ∧ bits w 3 3 = b2n b3 ∧ bits w 4 4 = b2n b4 ∧ bits w 6 6 = b2n b6 ∧ bits w 7 7 = b2n b7 := by
  have h0 := b2n_le_one b0
  have h1 := b2n_le_one b1
  have h2 := b2n_le_one b2
  have h3 := b2n_le_one b3
  have h4 := b2n_le_one b4
  have h5 := b2n_le_one b5
  have h6 := b2n_le_one b6
  have h7 := b2n_le_one b7
  simp only [bits, BitVec.toNat_ofNat]
  omega

theorem b2n_beq_one (b : Bool) : (b2n b == 1) = b := by cases b <;> decide

theorem Dev.hkaReport_shows (d : Dev) (u : Nat) :
    (d.hkaReport u).rbit (R.HKA_STATUS u) 0 = (d.hka u).run.isSome ∧ (d.hkaReport u).rbit (R.HKA_STATUS u) 1 = ((d.hka u).delayEnd.isSome || (d.hka u).held) ∧
    (d.hkaReport u).rbit (R.HKA_STATUS u) 2 = (d.hka u).inj.isSome ∧ (d.hkaReport u).rbit (R.HKA_STATUS u) 3 = (d.hka u).cal ∧
    (d.hkaReport u).rbit (R.HKA_STATUS u) 4 = (d.hka u).calWait ∧ (d.hkaReport u).rbit (R.HKA_STATUS u) 6 = d.isRemoved (.converter u) ∧
    (d.hkaReport u).rbit (R.HKA_STATUS u) 7 = (d.hka u).passed := by
  have hbit (i : Nat) : (d.hkaReport u).rbit (R.HKA_STATUS u) i = (bits (hkaStatus (d.hka u) (d.senseMode u) (d.isRemoved (.converter u))) i i == 1) := by
    rw [Dev.hkaReport_eq, Dev.rbit, Dev.fld_setReg_self]
  obtain ⟨h0, h1, h2, h3, h4, h6, h7⟩ := bits_flags (d.hka u).run.isSome ((d.hka u).delayEnd.isSome || (d.hka u).held) (d.hka u).inj.isSome (d.hka u).cal
    (d.hka u).calWait (d.senseMode u) (d.isRemoved (.converter u)) (d.hka u).passed (((d.hka u).run.map (·.1)).getD 0)
  simp only [hbit, hkaStatus]
  simp only [h0, h1, h2, h3, h4, h6, h7, b2n_beq_one, and_self]

section
variable (d : Dev) (u : Nat)

@[simp] theorem Dev.hkaReport_hka (v : Nat) : (d.hkaReport u).hka v = d.hka v := (rfl)
@[simp] theorem Dev.hkaReport_flg : (d.hkaReport u).flg = d.flg := (rfl)
@[simp] theorem Dev.hkaReport_top : (d.hkaReport u).top = d.top := (rfl)

theorem Dev.hkaReport_reg {a : Nat} (h : a ≠ R.HKA_STATUS u) : (d.hkaReport u).reg a = d.reg a := Dev.reg_setReg_ne _ _ _ _ h

end

/-! Starts (R282). -/

/-- A start begins the sequence of an idle converter. -/
theorem Dev.hkaBegin_idle (d : Dev) (u : Nat) (q : HkaU) (h : d.hka u = q) (hi : (q.inj.isSome || q.cal || q.calWait) = false) :
    (d.hkaBegin u).hka u = { q with delayEnd := none, held := false, run := some (0, 0) } := by
  rw [Dev.hkaBegin, Dev.hkaReport_hka, Dev.hka_onHka_self, h, hi]
  rfl

theorem Dev.hkaBegin_shows (d : Dev) (u : Nat) (q : HkaU) (h : d.hka u = q) (hi : (q.inj.isSome || q.cal || q.calWait) = false) :
    (d.hkaBegin u).rbit (R.HKA_STATUS u) 0 = true ∧ (d.hkaBegin u).rbit (R.HKA_STATUS u) 1 = false := by
  have hq := d.hkaBegin_idle u q h hi
  rw [Dev.hkaBegin, Dev.hkaReport_hka] at hq
  obtain ⟨h0, h1, -⟩ := Dev.hkaReport_shows (d.onHka u (fun q =>
    if q.inj.isSome || q.cal || q.calWait then { q with delayEnd := none, held := true } else { q with delayEnd := none, held := false, run := some (0, 0) })) u
  rw [hq] at h0 h1
  exact ⟨h0, h1⟩

theorem Dev.hkaBegin_flg (d : Dev) (u : Nat) : (d.hkaBegin u).flg = d.flg := (rfl)

/-- A converter that may take a start: enabled, not owned, not in sense mode and idle. -/
structure Dev.TakesStart (d : Dev) (u : Nat) : Prop where
  enabled : d.rbit (R.HKA_CFG u) 0 = true
  free : d.scanned u = false
  reads : d.senseMode u = false
  idle : d.hka u = {}

theorem Dev.TakesStart.start {d : Dev} {u : Nat} (h : d.TakesStart u) : d.hkaStart u =
    if d.fld (R.HKA_CFG u) 20 5 = 0 then (d.hkaBegin u, true)
    else ((d.onHka u (fun q => { q with delayEnd := some (d.now + 16 * d.fld (R.HKA_CFG u) 20 5) })).hkaReport u, true) := by
  simp only [Dev.hkaStart, h.enabled, h.free, h.reads, h.idle]
  rfl

theorem Dev.TakesStart.taken {d : Dev} {u : Nat} (h : d.TakesStart u) (hu : u < 6) (src t : Nat) (w : Word) : ((d.advanceTo t).accepted src R.HKA_CMD w).TakesStart u := by
  have hreg {a : Nat} (ha : a < 0x2A0104) : ((d.advanceTo t).accepted src R.HKA_CMD w).reg a = d.reg a := by rw [Dev.accepted_reg _ _ _ _ ha, Dev.advanceTo_reg]
  exact ⟨(Dev.rbit_of_reg (hreg (by show 0x238000 + 0x100 * u < 0x2A0104; omega)) 0).trans h.enabled, (Dev.scanned_of_reg (hreg (by decide))).trans h.free,
    (Dev.senseMode_of_reg (hreg (by show 0x60000 + 0x100 * u < 0x2A0104; omega))).trans h.reads, (Dev.hka_taken ..).trans h.idle⟩

/-! HKA_CMD (Table 14-8). -/

theorem bits_hkaWord (op u a code : Nat) (hop : op < 256) (hu : u < 8) (ha : a < 8) :
    bits (hkaWord op u a code) 7 0 = op ∧ bits (hkaWord op u a code) 12 10 = u ∧ bits (hkaWord op u a code) 15 13 = a ∧ bits (hkaWord op u a code) 29 24 = code % 64 := by
  simp only [bits, hkaWord, BitVec.toNat_ofNat]
  omega

/-- HKA_CMD answered. -/
def Dev.hkaAnswer (d : Dev) (w : Word) (st r : Nat) : Dev := d.setReg R.HKA_CMD (cmdWord w 0x3F00FCFF st r)

section
variable (d : Dev) (w : Word) (st r : Nat)

@[simp] theorem Dev.hkaAnswer_hka (u : Nat) : (d.hkaAnswer w st r).hka u = d.hka u := (rfl)
@[simp] theorem Dev.hkaAnswer_flg : (d.hkaAnswer w st r).flg = d.flg := (rfl)

theorem Dev.hkaAnswer_reg {a : Nat} (h : a ≠ R.HKA_CMD) : (d.hkaAnswer w st r).reg a = d.reg a := Dev.reg_setReg_ne _ _ _ _ h

theorem Dev.hkaAnswer_status (h : st < 4) : (d.hkaAnswer w st r).fld R.HKA_CMD 9 8 = st := by
  rw [Dev.hkaAnswer, Dev.fld_setReg_self]
  refine (bits_cmdWord w _ st r 9 8 (by decide)).trans ?_
  rw [bits, BitVec.toNat_ofNat]
  omega

theorem Dev.hkaAnswer_reason (h : st < 4) (hr : r < 256) : (d.hkaAnswer w st r).fld R.HKA_CMD 23 16 = r := by
  rw [Dev.hkaAnswer, Dev.fld_setReg_self]
  refine (bits_cmdWord w _ st r 23 16 (by decide)).trans ?_
  rw [bits, BitVec.toNat_ofNat]
  omega

end

theorem hkaStatus_ne_cmd (u : Nat) (h : u < 6) : R.HKA_STATUS u ≠ R.HKA_CMD := by simp only [R.HKA_STATUS, R.HKA_CMD]; omega

theorem Dev.hkaCmd_inject (d : Dev) (u a code : Nat) (hu : u < 8) (ha : a < 8) : d.hkaCmd (hkaWord 1 u a code) =
    (d.hkaInject u a (code % 64)).1.hkaAnswer (hkaWord 1 u a code) (d.hkaInject u a (code % 64)).2.1 (d.hkaInject u a (code % 64)).2.2 := by
  obtain ⟨hop, hunit, hexp, hcode⟩ := bits_hkaWord 1 u a code (by decide) hu ha
  simp only [Dev.hkaCmd, hop, hunit, hexp, hcode]
  rfl

theorem Dev.hkaCmd_cal (d : Dev) (u : Nat) (hu : u < 8) : d.hkaCmd (hkaWord 2 u 0 0) = (d.hkaCal u).1.hkaAnswer (hkaWord 2 u 0 0) (d.hkaCal u).2.1 (d.hkaCal u).2.2 := by
  obtain ⟨hop, hunit, -, -⟩ := bits_hkaWord 2 u 0 0 (by decide) hu (by decide)
  simp only [Dev.hkaCmd, hop, hunit]
  rfl

theorem Dev.hkaCmd_start (d : Dev) (u : Nat) (hu : u < 8) :
    d.hkaCmd (hkaWord 3 u 0 0) = (d.hkaCmdStart u).1.hkaAnswer (hkaWord 3 u 0 0) (d.hkaCmdStart u).2.1 (d.hkaCmdStart u).2.2 := by
  obtain ⟨hop, hunit, -, -⟩ := bits_hkaWord 3 u 0 0 (by decide) hu (by decide)
  simp only [Dev.hkaCmd, hop, hunit]
  rfl

theorem Dev.hkaCmdStart_taken (d e : Dev) (u : Nat) (hu : u < 6) (h : d.hkaStart u = (e, true)) : d.hkaCmdStart u = (e, 1, 0) := by
  simp only [Dev.hkaCmdStart, if_neg (show ¬ 6 ≤ u by omega), h]
  rfl

theorem Dev.hkaCmdStart_disabled (d : Dev) (u : Nat) (hu : u < 6) (h : d.rbit (R.HKA_CFG u) 0 = false) : d.hkaCmdStart u = (d, 2, 1) := by
  have hstart : d.hkaStart u = (d, false) := by
    simp only [Dev.hkaStart, h]
    rfl
  simp only [Dev.hkaCmdStart, if_neg (show ¬ 6 ≤ u by omega), hstart, h]
  rfl

/-- An injected burst is taken. -/
theorem Dev.hkaInject_taken (d : Dev) (u a code : Nat) (hu : u < 4) (ha : a ≤ 5) (hs : d.senseMode u = false) (hi : d.hka u = {}) :
    d.hkaInject u a code = ((d.onHka u (fun q => { q with inj := some (a, code) })).hkaReport u, 1, 0) := by
  simp only [Dev.hkaInject, if_neg (show ¬ 4 ≤ u by omega), hs, hi, if_neg (show ¬ 5 < a by omega)]
  rfl

theorem Dev.hkaInject_dropped (d : Dev) (u a code : Nat) (hu : 4 ≤ u) (hu' : u < 6) : d.hkaInject u a code = (d.inc64 (R.HKA_CNT_INJ_DROP u) 1, 2, 4) := by
  simp only [Dev.hkaInject, if_pos hu, if_pos hu']

/-- A calibration begins at once, or waits for the sequence. -/
theorem Dev.hkaCal_taken (d : Dev) (u : Nat) (hu : u < 6) (hs : d.senseMode u = false) (hr : d.isRemoved (.converter u) = false) (hi : d.hka u = {}) :
    d.hkaCal u = ((d.onHka u (fun q => { q with cal := true })).hkaReport u, 1, 0) := by
  simp only [Dev.hkaCal, if_neg (show ¬ 6 ≤ u by omega), hs, hr, hi]
  rfl

theorem Dev.hkaCal_waits (d : Dev) (u : Nat) (x : Nat × Nat) (hu : u < 6) (hs : d.senseMode u = false) (hr : d.isRemoved (.converter u) = false)
    (hi : d.hka u = { run := some x }) : d.hkaCal u = ((d.onHka u (fun q => { q with calWait := true })).hkaReport u, 3, 0) := by
  simp only [Dev.hkaCal, if_neg (show ¬ 6 ≤ u by omega), hs, hr, hi]
  rfl

/-! Conversions (R281). -/

/-- The result register of a conversion. -/
def hkaResult (x : Int) (valid unsettled ovl : Bool) : Word :=
  BitVec.ofNat 32 (unsigned 24 x + 2 ^ 24 * b2n valid + 2 ^ 25 * b2n unsettled + 2 ^ 26 * b2n ovl)

theorem unsigned_lt (n : Nat) (x : Int) : unsigned n x < 2 ^ n := by
  have hpos : (0 : Int) < 2 ^ n := by positivity
  have hlt := Int.emod_lt_of_pos x hpos
  have hnonneg := Int.emod_nonneg x hpos.ne'
  unfold unsigned
  omega

theorem bits_hkaResult (x : Int) (valid unsettled ovl : Bool) : bits (hkaResult x valid unsettled ovl) 23 0 = unsigned 24 x ∧ bits (hkaResult x valid unsettled ovl) 24 24 = b2n valid ∧
    bits (hkaResult x valid unsettled ovl) 25 25 = b2n unsettled ∧ bits (hkaResult x valid unsettled ovl) 26 26 = b2n ovl := by
  have hx := unsigned_lt 24 x
  have hv := b2n_le_one valid
  have hu := b2n_le_one unsettled
  have ho := b2n_le_one ovl
  simp only [bits, hkaResult, BitVec.toNat_ofNat]
  omega

/-- No calibration waits. -/
theorem Dev.calBegin_none (d : Dev) (u : Nat) (h : (d.hka u).calWait = false) : d.calBegin u = d := by
  rw [Dev.calBegin, h]
  rfl

/-- A conversion's result is shown, an overload is logged, and a settled valid result reaches the filters. -/
def Dev.resultTaken (d : Dev) (u e : Nat) (x : Int) (valid unsettled ovl : Bool) : Dev :=
  let d := d.setReg (R.HKA_RESULT u e) (hkaResult x valid unsettled ovl)
  let d := if ovl && decide (4 ≤ u) then d.logFault 0x1103 .n else d
  if valid && !unsettled then d.fltConverter u e x else d

/-- The conversion's place in the sequence afterwards. -/
def Dev.nextEntry (d : Dev) (u e c : Nat) (last : Bool) : Option (Nat × Nat) :=
  if d.senseMode u then none else if last then (if e < d.fld (R.HKA_CFG u) 23 21 then some (e + 1, 0) else none) else some (e, c + 1)

/-- More conversions of the entry are unsettled. -/
def Dev.unsettled (d : Dev) (u c : Nat) : Bool := decide (c + 1 < (if u < 4 then 1 else d.fld (R.HKA_CFG u) 25 24 + 1))

theorem Dev.resultTaken_hkas (d : Dev) (u e : Nat) (x : Int) (valid unsettled ovl : Bool) : (d.resultTaken u e x valid unsettled ovl).hkas = d.hkas := by
  have hlogged : (if ovl && decide (4 ≤ u) then (d.setReg (R.HKA_RESULT u e) (hkaResult x valid unsettled ovl)).logFault 0x1103 .n
      else d.setReg (R.HKA_RESULT u e) (hkaResult x valid unsettled ovl)).hkas = d.hkas := by
    split <;> simp
  unfold Dev.resultTaken
  dsimp only
  split
  · obtain ⟨⟨_, _, _, h⟩, -⟩ := Dev.fltConverter_filters (if ovl && decide (4 ≤ u) then (d.setReg (R.HKA_RESULT u e) (hkaResult x valid unsettled ovl)).logFault 0x1103 .n
      else d.setReg (R.HKA_RESULT u e) (hkaResult x valid unsettled ovl)) u e x
    rw [h]
    exact hlogged
  · exact hlogged

theorem Dev.resultTaken_reg (d : Dev) (u e : Nat) (x : Int) (valid unsettled ovl : Bool) {a : Nat} (hf : a < R.FLT_STATUS ∨ 0x231000 ≤ a) (hl : a < R.FLG_STATUS) :
    (d.resultTaken u e x valid unsettled ovl).reg a = (d.setReg (R.HKA_RESULT u e) (hkaResult x valid unsettled ovl)).reg a := by
  have hlogged : (if ovl && decide (4 ≤ u) then (d.setReg (R.HKA_RESULT u e) (hkaResult x valid unsettled ovl)).logFault 0x1103 .n
      else d.setReg (R.HKA_RESULT u e) (hkaResult x valid unsettled ovl)).reg a = (d.setReg (R.HKA_RESULT u e) (hkaResult x valid unsettled ovl)).reg a := by
    split
    · exact Dev.logFault_reg_of _ _ _ _ _ (not_mem_logRegs hl)
    · rfl
  unfold Dev.resultTaken
  dsimp only
  split
  · rw [(Dev.fltConverter_filters _ u e x).2 a hf, hlogged]
  · exact hlogged

/-- The conversion's entry ends, or goes on; a held write of the entry takes effect. -/
def Dev.entryEnd (d : Dev) (u e : Nat) (last : Bool) (next : Option (Nat × Nat)) : Dev := match mget (d.hka u).seqPend e with
  | some w => (d.setReg (R.HKA_SEQ u e) w).onHka u (fun q => { q with seqPend := mdel q.seqPend e, run := if last then next else some (e, 0) })
  | none => d.onHka u (fun q => { q with run := next })

theorem Dev.entryEnd_free (d : Dev) (u e : Nat) (last : Bool) (next : Option (Nat × Nat)) (h : mget (d.hka u).seqPend e = none) :
    d.entryEnd u e last next = d.onHka u (fun q => { q with run := next }) := by
  rw [Dev.entryEnd, h]

/-- The device after a valid conversion's result. -/
def Dev.sampled (d : Dev) (u e c : Nat) (x : Int) (ovl : Bool) : Dev := d.resultTaken u e x true (d.unsettled u c) ovl

/-- A conversion of a working converter without a held write of its entry. -/
theorem Dev.hkaConversion_eq (d : Dev) (u e c : Nat) (x : Int) (ovl : Bool) (hrun : (d.hka u).run = some (e, c)) (hcal : (d.hka u).cal = false)
    (hwait : (d.hka u).calWait = false) (hpend : mget (d.hka u).seqPend e = none) (hgone : d.isRemoved (.converter u) = false)
    (hin : inputOk u (d.fld (R.HKA_SEQ u e) 5 0) = true) : d.hkaConversion u x ovl =
      ((d.sampled u e c x ovl).onHka u (fun q => { q with run := (d.sampled u e c x ovl).nextEntry u e c (decide (d.fld (R.HKA_SEQ u e) 12 9 ≤ c)) })).hkaReport u := by
  have hhka : (d.sampled u e c x ovl).hka u = d.hka u := Dev.hka_of_hkas (d.resultTaken_hkas ..) u
  have hin' : inputOk u (bits (d.reg (R.HKA_SEQ u e)) 5 0) = true := hin
  have hmodel : d.hkaConversion u x ovl = (((d.sampled u e c x ovl).entryEnd u e (decide (d.fld (R.HKA_SEQ u e) 12 9 ≤ c))
      ((d.sampled u e c x ovl).nextEntry u e c (decide (d.fld (R.HKA_SEQ u e) 12 9 ≤ c)))).calBegin u).hkaReport u := by
    simp only [Dev.hkaConversion, hrun, hcal, hgone, hin']
    rfl
  rw [hmodel, Dev.entryEnd_free _ _ _ _ _ (by rw [hhka, hpend]), Dev.calBegin_none _ _ (by rw [Dev.hka_onHka_self, hhka, hwait])]

/-! Timers (R282). -/

/-- A start of another converter leaves converter `u` and the configurations. -/
structure Dev.KeepsUnit (u : Nat) (d d' : Dev) : Prop where
  hka : d'.hka u = d.hka u
  reg : ∀ a, (∀ v < 6, v ≠ u → a ≠ R.HKA_STATUS v ∧ a ≠ R.HKA_CNT_START_DROP v ∧ a ≠ R.HKA_CNT_START_DROP v + 4) → d'.reg a = d.reg a

theorem Dev.KeepsUnit.refl (u : Nat) (d : Dev) : Dev.KeepsUnit u d d := ⟨rfl, fun _ _ => rfl⟩

theorem Dev.KeepsUnit.trans {u : Nat} {d e f : Dev} (h : Dev.KeepsUnit u d e) (h' : Dev.KeepsUnit u e f) : Dev.KeepsUnit u d f :=
  ⟨h'.hka.trans h.hka, fun a ha => (h'.reg a ha).trans (h.reg a ha)⟩

theorem Dev.onHka_report_keeps (d : Dev) {u v : Nat} (f : HkaU → HkaU) (hv : v < 6) (h : v ≠ u) : Dev.KeepsUnit u d ((d.onHka v f).hkaReport v) :=
  ⟨by rw [Dev.hkaReport_hka, Dev.hka_onHka_ne _ _ _ (Ne.symm h)], fun a ha => by rw [Dev.hkaReport_reg _ _ (ha v hv h).1, Dev.onHka_reg]⟩

theorem Dev.hkaStart_keeps (d : Dev) {u v : Nat} (hv : v < 6) (h : v ≠ u) : Dev.KeepsUnit u d (d.hkaStart v).1 := by
  unfold Dev.hkaStart
  dsimp only
  split
  · exact .refl u d
  · split
    · exact ⟨Dev.hka_of_hkas (Dev.inc64_hkas ..) u, fun a ha => Dev.reg_inc64_ne _ _ _ _ (ha v hv h).2.1 (ha v hv h).2.2⟩
    · split
      · exact d.onHka_report_keeps _ hv h
      · exact d.onHka_report_keeps _ hv h

/-- What a converter's start depends on is not among what another's changes. -/
theorem Dev.KeepsUnit.config {u : Nat} {d d' : Dev} (h : Dev.KeepsUnit u d d') {a : Nat} (ha : a ∈ [R.HKA_CFG u, R.HKA_STATUS u, R.STR_CTRL u, R.SNS_CTRL]) :
    d'.reg a = d.reg a := by
  refine h.reg a fun v hv hne => ?_
  simp only [List.mem_cons, List.not_mem_nil, or_false, R.HKA_CFG, R.HKA_STATUS, R.STR_CTRL, R.SNS_CTRL] at ha
  simp only [R.HKA_STATUS, R.HKA_CNT_START_DROP]
  omega

theorem Dev.KeepsUnit.takes {u : Nat} {d d' : Dev} (h : Dev.KeepsUnit u d d') (ht : d.TakesStart u) : d'.TakesStart u :=
  ⟨(Dev.rbit_of_reg (h.config (by simp)) 0).trans ht.enabled, (Dev.scanned_of_reg (h.config (by simp))).trans ht.free,
    (Dev.senseMode_of_reg (h.config (by simp))).trans ht.reads, h.hka.trans ht.idle⟩

/-- A start by source `x`, converter by converter. -/
def Dev.sourceStarts (x : Nat) (d : Dev) (v : Nat) : Dev := if d.fld (R.HKA_CFG v) 4 1 = x then (d.hkaStart v).1 else d

theorem Dev.sourceStarts_keeps (x : Nat) (d : Dev) {u v : Nat} (hv : v < 6) (h : v ≠ u) : Dev.KeepsUnit u d (d.sourceStarts x v) := by
  unfold Dev.sourceStarts
  split
  · exact d.hkaStart_keeps hv h
  · exact .refl u d

theorem Dev.sourceStarts_others (x : Nat) {u : Nat} (l : List Nat) (hl : ∀ v ∈ l, v < 6 ∧ v ≠ u) : ∀ d, Dev.KeepsUnit u d (l.foldl (Dev.sourceStarts x) d) := by
  induction l with
  | nil => exact .refl u
  | cons v l ih =>
    intro d
    obtain ⟨hv, hne⟩ := hl v List.mem_cons_self
    exact (d.sourceStarts_keeps x hv hne).trans (ih (fun w hw => hl w (List.mem_cons_of_mem _ hw)) _)

/-- An idle converter whose source overflows begins its sequence. -/
theorem Dev.sourceStarts_begins (x : Nat) {u : Nat} (l : List Nat) (hmem : u ∈ l) (hnodup : l.Nodup) (hl : ∀ v ∈ l, v < 6) :
    ∀ d : Dev, d.TakesStart u → d.fld (R.HKA_CFG u) 4 1 = x → d.fld (R.HKA_CFG u) 20 5 = 0 →
      ((l.foldl (Dev.sourceStarts x) d).hka u).run = some (0, 0) ∧ (l.foldl (Dev.sourceStarts x) d).rbit (R.HKA_STATUS u) 0 = true := by
  induction l with
  | nil => exact absurd hmem List.not_mem_nil
  | cons v l ih =>
    intro d htakes hsource hdelay
    obtain ⟨hnot, hnodup'⟩ := List.nodup_cons.1 hnodup
    rw [List.foldl_cons]
    by_cases hv : v = u
    · subst hv
      have hothers := Dev.sourceStarts_others x (u := v) l (fun w hw => ⟨hl w (List.mem_cons_of_mem _ hw), fun h => hnot (h ▸ hw)⟩) (d.sourceStarts x v)
      have hstarted : d.sourceStarts x v = d.hkaBegin v := by
        rw [Dev.sourceStarts, if_pos hsource, htakes.start, if_pos hdelay]
      rw [hothers.hka, Dev.rbit_of_reg (hothers.config (by simp)), hstarted]
      exact ⟨by rw [d.hkaBegin_idle v {} htakes.idle rfl], (d.hkaBegin_shows v {} htakes.idle rfl).1⟩
    · have hkeeps := d.sourceStarts_keeps x (hl v List.mem_cons_self) hv
      have hmem' : u ∈ l := (List.mem_cons.1 hmem).resolve_left (Ne.symm hv)
      exact ih hmem' hnodup' (fun w hw => hl w (List.mem_cons_of_mem _ hw)) _ (hkeeps.takes htakes) ((Dev.fld_of_reg (hkeeps.config (by simp)) _ _).trans hsource)
        ((Dev.fld_of_reg (hkeeps.config (by simp)) _ _).trans hdelay)

theorem Dev.hkaSource_eq (d : Dev) (x : Nat) : d.hkaSource x = (List.range 6).foldl (Dev.sourceStarts x) d := rfl

/-! Ends of bursts and of self-calibrations (R283 to R285). -/

theorem Dev.hkaRelease_none (d : Dev) (u : Nat) (h : (d.hka u).held = false) : d.hkaRelease u = d.hkaReport u := by
  rw [Dev.hkaRelease, h]
  rfl

/-- A burst of `2 ^ a` results has ended (R283). -/
def Dev.burstShown (d : Dev) (u a code : Nat) (xs : List Int) : Dev :=
  d.setReg (R.HKA_INJ_RESULT u) (hkaResult (((List.range (2 ^ a)).map (fun i => xs.getD i 0)).sum / ((2 ^ a : Nat) : Int)) (inputOk u code) false false)

theorem State.injectionDone_eq (s : State) (t u a code : Nat) (xs : List Int) (ha : s.dev.alive = true) (hi : s.dev.hka u = { inj := some (a, code) })
    (hg : s.dev.isRemoved (.converter u) = false) : execInjectionDone t u xs s =
    .next { s with dev := ((((s.dev.advanceTo t).burstShown u a code xs).onHka u (fun q => { q with inj := none })).hkaReport u) } := by
  have hhka : (s.dev.advanceTo t).hka u = { inj := some (a, code) } := (Dev.hka_of_hkas (Dev.advanceTo_hkas ..) u).trans hi
  have hgone : (s.dev.advanceTo t).isRemoved (.converter u) = false := by rw [Dev.isRemoved, Dev.advanceTo_top, ← Dev.isRemoved, hg]
  have hafter : (((s.dev.advanceTo t).burstShown u a code xs).onHka u (fun q => { q with inj := none })).hka u = {} := by
    rw [Dev.hka_onHka_self, Dev.burstShown, Dev.hka_of_hkas (Dev.setReg_hkas ..), hhka]
  have hword : BitVec.ofNat 32 (unsigned 24 (((List.range (2 ^ a)).map (fun i => xs.getD i 0)).sum / ((2 ^ a : Nat) : Int)) + 2 ^ 24 * b2n (inputOk u code && !false)) =
      hkaResult (((List.range (2 ^ a)).map (fun i => xs.getD i 0)).sum / ((2 ^ a : Nat) : Int)) (inputOk u code) false false := by
    rw [hkaResult, Bool.not_false, Bool.and_true]
    rfl
  refine (State.atTick_alive s t _ ha).trans ?_
  rw [hhka]
  dsimp only
  rw [hgone, if_neg (by decide), hword, ← Dev.burstShown, Dev.calBegin_none _ _ (by rw [hafter]), Dev.hkaRelease_none _ _ (by rw [hafter])]

/-- A self-calibration has ended with trim codes and its verdict (R284). -/
def Dev.calTaken (d : Dev) (u oc gc : Nat) (pass : Bool) : Dev :=
  (d.onHka u (fun q => { q with cal := false, passed := pass, run := if 4 ≤ u then q.run.map (fun p => (p.1, 0)) else q.run })).setReg (R.HKA_TRIM u)
    (BitVec.ofNat 32 (oc % 256 + 256 * (gc % 256)))

theorem Dev.calResult_eq (d : Dev) (u oc gc : Nat) (off gain : Int) (pass : Bool) (h : (decide (off.natAbs ≤ 64) && decide (gain.natAbs ≤ 20000)) = pass) :
    d.calResult u off gain oc gc = (if pass then (d.calTaken u oc gc pass).reinstateUnit (.converter u)
      else (d.calTaken u oc gc pass).raiseD (if u < 4 then 0x1101 else 0x1102) (.converter u)).hkaRelease u := by
  rw [← h]
  rfl

theorem Dev.calTaken_hka (d : Dev) (u oc gc : Nat) (pass : Bool) (h : d.hka u = { cal := true }) : (d.calTaken u oc gc pass).hka u = { passed := pass } := by
  rw [Dev.calTaken, Dev.hka_of_hkas (Dev.setReg_hkas ..), Dev.hka_onHka_self, h]
  simp

theorem State.selfCalibrationDone_eq (s : State) (t u oc gc : Nat) (off gain : Int) (ha : s.dev.alive = true) (h : s.dev.hka u = { cal := true }) :
    execSelfCalibrationDone t u off gain oc gc s = .next { s with dev := (s.dev.advanceTo t).calResult u off gain oc gc } := by
  refine (State.atTick_alive s t _ ha).trans ?_
  rw [Dev.hka_of_hkas (Dev.advanceTo_hkas ..), h, if_pos rfl]

theorem Dev.calPassed_shows (d : Dev) (u oc gc : Nat) (off gain : Int) (h : d.hka u = { cal := true }) (ho : off.natAbs ≤ 64) (hg : gain.natAbs ≤ 20000) :
    (d.calResult u off gain oc gc).hka u = { passed := true } ∧ (d.calResult u off gain oc gc).isRemoved (.converter u) = false ∧
    (d.calResult u off gain oc gc).reg (R.HKA_TRIM u) = BitVec.ofNat 32 (oc % 256 + 256 * (gc % 256)) ∧ (d.calResult u off gain oc gc).rbit (R.HKA_STATUS u) 7 = true := by
  have hhka : ((d.calTaken u oc gc true).reinstateUnit (.converter u)).hka u = { passed := true } := (Dev.hka_of_hkas rfl u).trans (d.calTaken_hka u oc gc true h)
  rw [d.calResult_eq u oc gc off gain true (by simp [ho, hg]), if_pos rfl, Dev.hkaRelease_none _ _ (by rw [hhka])]
  obtain ⟨-, -, -, -, -, -, h7⟩ := Dev.hkaReport_shows ((d.calTaken u oc gc true).reinstateUnit (.converter u)) u
  refine ⟨by rw [Dev.hkaReport_hka, hhka], ?_, ?_, by rw [h7, hhka]⟩
  · rw [Dev.isRemoved, Dev.hkaReport_top]
    simp [Dev.reinstateUnit]
  · rw [Dev.hkaReport_reg _ _ (by simp only [R.HKA_TRIM, R.HKA_STATUS]; omega)]
    exact Dev.reg_setReg_self _ _ _

theorem Dev.calFailed_shows (d : Dev) (u oc gc : Nat) (off gain : Int) (h : d.hka u = { cal := true }) (hbad : 64 < off.natAbs ∨ 20000 < gain.natAbs)
    (hroom : d.faultRoom (if u < 4 then 0x1101 else 0x1102) = true) :
    (d.calResult u off gain oc gc).hka u = {} ∧ (d.calResult u off gain oc gc).isRemoved (.converter u) = true ∧
    (d.calResult u off gain oc gc).logged (if u < 4 then 0x1101 else 0x1102) = true ∧ (d.calResult u off gain oc gc).rbit (R.HKA_STATUS u) 6 = true := by
  have hfail : (decide (off.natAbs ≤ 64) && decide (gain.natAbs ≤ 20000)) = false := by
    rw [Bool.and_eq_false_iff, decide_eq_false_iff_not, decide_eq_false_iff_not]
    omega
  have hhka : ((d.calTaken u oc gc false).raiseD (if u < 4 then 0x1101 else 0x1102) (.converter u)).hka u = {} :=
    (Dev.hka_of_hkas (Dev.logFault_hkas ..) u).trans (d.calTaken_hka u oc gc false h)
  have hremoved : ((d.calTaken u oc gc false).raiseD (if u < 4 then 0x1101 else 0x1102) (.converter u)).isRemoved (.converter u) = true := Dev.removeUnit_isRemoved _ _
  have hlogged : ((d.calTaken u oc gc false).raiseD (if u < 4 then 0x1101 else 0x1102) (.converter u)).logged (if u < 4 then 0x1101 else 0x1102) = true :=
    Dev.raiseD_logged _ _ _ ((Dev.faultRoom_of_log rfl _).trans hroom)
  rw [d.calResult_eq u oc gc off gain false hfail, if_neg (by decide), Dev.hkaRelease_none _ _ (by rw [hhka])]
  obtain ⟨-, -, -, -, -, h6, -⟩ := Dev.hkaReport_shows ((d.calTaken u oc gc false).raiseD (if u < 4 then 0x1101 else 0x1102) (.converter u)) u
  refine ⟨by rw [Dev.hkaReport_hka, hhka], ?_, ?_, by rw [h6, hremoved]⟩
  · rw [Dev.isRemoved, Dev.hkaReport_top, ← Dev.isRemoved, hremoved]
  · rw [Dev.logged_of_log (d := (d.calTaken u oc gc false).raiseD (if u < 4 then 0x1101 else 0x1102) (.converter u)) (by rw [Dev.hkaReport_flg]), hlogged]

/-- Settles O39. -/
theorem housekeepingComplete : Obligations.HousekeepingComplete := by
  unfold Obligations.HousekeepingComplete
  refine ⟨?hkaConversion, ?hkaStart, ?hkaStartDelayed, ?hkaStartRejected, ?hkaTimerOverflow, ?startDelayEnd, ?inject, ?injectRejected, ?injectionDone, ?hkaCal, ?hkaCalWaits,
    ?selfCalibrationDone, ?selfCalibrationFailed⟩
  case hkaConversion =>
    intro s t u e n x ovl halive hu he hrun hcal hwait hpend hsense hgone hin
    have hhka : (s.dev.advanceTo t).hka u = s.dev.hka u := Dev.hka_of_hkas (Dev.advanceTo_hkas ..) u
    have hgone' : (s.dev.advanceTo t).isRemoved (.converter u) = false := by rw [Dev.isRemoved, Dev.advanceTo_top, ← Dev.isRemoved, hgone]
    have heq := (s.dev.advanceTo t).hkaConversion_eq u e n x ovl (by rw [hhka, hrun]) (by rw [hhka, hcal]) (by rw [hhka, hwait]) (by rw [hhka, hpend]) hgone'
      (by rw [Dev.advanceTo_fld, hin])
    have hunsettled : (s.dev.advanceTo t).unsettled u n = decide (n + 1 < (if u < 4 then 1 else s.dev.fld (R.HKA_CFG u) 25 24 + 1)) := by rw [Dev.unsettled, Dev.advanceTo_fld]
    refine ⟨_, (State.atTick_alive s t _ halive : execHkaConversion t u x ovl s = _), ?_⟩
    dsimp only
    rw [heq, Dev.sampled, Dev.advanceTo_fld, hunsettled]
    generalize decide (n + 1 < (if u < 4 then 1 else s.dev.fld (R.HKA_CFG u) 25 24 + 1)) = unsettled
    have hreg {a : Nat} (ha : a < R.FLT_STATUS ∨ 0x231000 ≤ a) (hl : a < R.FLG_STATUS) (hne : a ≠ R.HKA_RESULT u e) :
        ((s.dev.advanceTo t).resultTaken u e x true unsettled ovl).reg a = s.dev.reg a := by
      rw [Dev.resultTaken_reg _ _ _ _ _ _ _ ha hl, Dev.reg_setReg_ne _ _ _ _ hne, Dev.advanceTo_reg]
    have hresult (f : HkaU → HkaU) : ((((s.dev.advanceTo t).resultTaken u e x true unsettled ovl).onHka u f).hkaReport u).reg (R.HKA_RESULT u e) = hkaResult x true unsettled ovl := by
      rw [Dev.hkaReport_reg _ _ (by simp only [R.HKA_RESULT, R.HKA_STATUS]; omega), Dev.onHka_reg, Dev.resultTaken_reg _ _ _ _ _ _ _ (by simp only [R.HKA_RESULT, R.FLT_STATUS]; omega)
        (by simp only [R.HKA_RESULT, R.FLG_STATUS]; omega), Dev.reg_setReg_self]
    obtain ⟨hvalue, hvalid, hunset, hovl⟩ := bits_hkaResult x true unsettled ovl
    refine ⟨?_, ?_, ?_, ?_, ?_, sameMemory.withDev s _⟩
    · rw [Dev.fld, hresult, hvalue]
    · rw [Dev.rbit, Dev.fld, hresult, hvalid, b2n_beq_one]
    · rw [Dev.rbit, Dev.fld, hresult, hunset, b2n_beq_one]
    · rw [Dev.rbit, Dev.fld, hresult, hovl, b2n_beq_one]
    · have hsense' : ((s.dev.advanceTo t).resultTaken u e x true unsettled ovl).senseMode u = false :=
        (Dev.senseMode_of_reg (hreg (.inl (by simp only [R.STR_CTRL, R.FLT_STATUS]; omega)) (by simp only [R.STR_CTRL, R.FLG_STATUS]; omega) (by simp only [R.STR_CTRL, R.HKA_RESULT]; omega))).trans hsense
      have hcfg := Dev.fld_of_reg (hreg (a := R.HKA_CFG u) (.inr (by simp only [R.HKA_CFG]; omega)) (by simp only [R.HKA_CFG, R.FLG_STATUS]; omega) (by simp only [R.HKA_CFG, R.HKA_RESULT]; omega)) 23 21
      rw [Dev.hkaReport_hka, Dev.hka_onHka_self]
      dsimp only
      rw [Dev.nextEntry, hsense', if_neg (by decide), hcfg]
      simp only [decide_eq_true_eq]
  case hkaStart =>
    intro s src t u hcmd hu hen hfree hsense hdelay hidle
    have htakes := Dev.TakesStart.taken ⟨hen, hfree, hsense, hidle⟩ hu src t (hkaWord 3 u 0 0)
    have hdelay' : ((s.dev.advanceTo t).accepted src R.HKA_CMD (hkaWord 3 u 0 0)).fld (R.HKA_CFG u) 20 5 = 0 := by
      rw [Dev.accepted_fld _ _ _ _ (by simp only [R.HKA_CFG]; omega), Dev.advanceTo_fld, hdelay]
    refine ⟨_, (s.cmdWrite_taken src t _ _ _ hcmd : execHkaStart src t u s = _), ?_⟩
    rw [Dev.hkaCmd_start _ _ (by omega), Dev.hkaCmdStart_taken _ _ _ hu (htakes.start.trans (if_pos hdelay'))]
    refine ⟨?_, ?_, ?_, writeTaken_answer s src _ (by simp [Dev.hkaBegin_flg])⟩
    · rw [Dev.hka_of_hkas (Dev.onReq_hkas ..), Dev.hkaAnswer_hka, Dev.hkaBegin_idle _ _ _ htakes.idle rfl]
    · rw [Dev.onReq_rbit, Dev.rbit_of_reg (Dev.hkaAnswer_reg _ _ _ _ (hkaStatus_ne_cmd u hu)), (Dev.hkaBegin_shows _ _ _ htakes.idle rfl).1]
    · rw [Dev.onReq_fld, Dev.hkaAnswer_status _ _ _ _ (show _ < 4 by simp)]
  case hkaStartDelayed =>
    intro s src t u hcmd hu hen hfree hsense hdelay hidle
    have htakes := Dev.TakesStart.taken ⟨hen, hfree, hsense, hidle⟩ hu src t (hkaWord 3 u 0 0)
    have hfld : ((s.dev.advanceTo t).accepted src R.HKA_CMD (hkaWord 3 u 0 0)).fld (R.HKA_CFG u) 20 5 = s.dev.fld (R.HKA_CFG u) 20 5 := by
      rw [Dev.accepted_fld _ _ _ _ (by simp only [R.HKA_CFG]; omega), Dev.advanceTo_fld]
    refine ⟨_, (s.cmdWrite_taken src t _ _ _ hcmd : execHkaStart src t u s = _), ?_⟩
    rw [Dev.hkaCmd_start _ _ (by omega), Dev.hkaCmdStart_taken _ _ _ hu (htakes.start.trans (if_neg (hfld ▸ hdelay)))]
    obtain ⟨-, h1, -⟩ := Dev.hkaReport_shows (((s.dev.advanceTo t).accepted src R.HKA_CMD (hkaWord 3 u 0 0)).onHka u
      (fun q => { q with delayEnd := some (((s.dev.advanceTo t).accepted src R.HKA_CMD (hkaWord 3 u 0 0)).now + 16 *
        ((s.dev.advanceTo t).accepted src R.HKA_CMD (hkaWord 3 u 0 0)).fld (R.HKA_CFG u) 20 5) })) u
    refine ⟨?_, ?_, ?_, ?_, writeTaken_answer s src _ (by simp)⟩
    · rw [Dev.hka_of_hkas (Dev.onReq_hkas ..), Dev.hkaAnswer_hka, Dev.hkaReport_hka, Dev.hka_onHka_self, hfld, Dev.accepted_now]
    · rw [Dev.hka_of_hkas (Dev.onReq_hkas ..), Dev.hkaAnswer_hka, Dev.hkaReport_hka, Dev.hka_onHka_self, htakes.idle]
    · rw [Dev.onReq_rbit, Dev.rbit_of_reg (Dev.hkaAnswer_reg _ _ _ _ (hkaStatus_ne_cmd u hu)), h1, Dev.hka_onHka_self]
      rfl
    · rw [Dev.onReq_fld, Dev.hkaAnswer_status _ _ _ _ (show _ < 4 by simp)]
  case hkaStartRejected =>
    intro s src t u hcmd hu hoff
    have hoff' : ((s.dev.advanceTo t).accepted src R.HKA_CMD (hkaWord 3 u 0 0)).rbit (R.HKA_CFG u) 0 = false := by
      rw [Dev.accepted_rbit _ _ _ _ (by simp only [R.HKA_CFG]; omega), Dev.advanceTo_rbit, hoff]
    refine ⟨_, (s.cmdWrite_taken src t _ _ _ hcmd : execHkaStart src t u s = _), ?_⟩
    rw [Dev.hkaCmd_start _ _ (by omega), Dev.hkaCmdStart_disabled _ _ hu hoff']
    refine ⟨?_, ?_, ?_, writeTaken_answer s src _ (by simp)⟩
    · rw [Dev.hka_of_hkas (Dev.onReq_hkas ..), Dev.hkaAnswer_hka, Dev.hka_taken]
    · rw [Dev.onReq_fld, Dev.hkaAnswer_status _ _ _ _ (show _ < 4 by simp)]
    · rw [Dev.onReq_fld, Dev.hkaAnswer_reason _ _ _ _ (show _ < 4 by simp) (show _ < 256 by simp)]
  case hkaTimerOverflow =>
    intro s t timer u halive hu htimer hsource hen hfree hsense hdelay hidle
    have htakes : (s.dev.advanceTo t).TakesStart u := ⟨by simpa using hen, (Dev.scanned_of_reg (by simp)).trans hfree, (Dev.senseMode_of_reg (by simp)).trans hsense,
      (Dev.hka_of_hkas (by simp) u).trans hidle⟩
    refine ⟨_, (State.atTick_alive s t _ halive : execHkaTimerOverflow t timer s = _), ?_⟩
    rw [Dev.advanceTo_reg, if_neg (show ¬ s.dev.reg (R.HKA_TIMER timer) = 0 from htimer), Dev.hkaSource_eq]
    obtain ⟨hrun, hstatus⟩ := Dev.sourceStarts_begins (timer + 1) (u := u) (List.range 6) (List.mem_range.2 hu) List.nodup_range (fun v hv => List.mem_range.1 hv) _ htakes
      (by rw [Dev.advanceTo_fld, hsource]) (by rw [Dev.advanceTo_fld, hdelay])
    exact ⟨hrun, hstatus, sameMemory.withDev s _⟩
  case startDelayEnd =>
    intro s t u x halive hhka hdue
    have hhka' : (s.dev.advanceTo t).hka u = { delayEnd := some x } := (Dev.hka_of_hkas (Dev.advanceTo_hkas ..) u).trans hhka
    refine ⟨_, (State.atTick_alive s t _ halive : execStartDelayEnd t u s = _), ?_⟩
    rw [hhka']
    dsimp only
    rw [if_pos hdue]
    obtain ⟨h0, h1⟩ := (s.dev.advanceTo t).hkaBegin_shows u _ hhka' rfl
    exact ⟨by rw [Dev.hkaBegin_idle _ _ _ hhka' rfl], h0, h1, sameMemory.withDev s _⟩
  case inject =>
    intro s src t u a code hcmd hu ha hsense hidle
    have hidle' : ((s.dev.advanceTo t).accepted src R.HKA_CMD (hkaWord 1 u a code)).hka u = {} := (Dev.hka_taken ..).trans hidle
    have hsense' : ((s.dev.advanceTo t).accepted src R.HKA_CMD (hkaWord 1 u a code)).senseMode u = false :=
      (Dev.senseMode_of_reg (by rw [Dev.accepted_reg _ _ _ _ (by simp only [R.STR_CTRL]; omega), Dev.advanceTo_reg])).trans hsense
    refine ⟨_, (s.cmdWrite_taken src t _ _ _ hcmd : execInject src t u a code s = _), ?_⟩
    rw [Dev.hkaCmd_inject _ _ _ _ (by omega) (by omega), Dev.hkaInject_taken _ _ _ _ hu ha hsense' hidle']
    obtain ⟨-, -, h2, -⟩ := Dev.hkaReport_shows (((s.dev.advanceTo t).accepted src R.HKA_CMD (hkaWord 1 u a code)).onHka u (fun q => { q with inj := some (a, code % 64) })) u
    refine ⟨?_, ?_, ?_, writeTaken_answer s src _ (by simp)⟩
    · rw [Dev.hka_of_hkas (Dev.onReq_hkas ..), Dev.hkaAnswer_hka, Dev.hkaReport_hka, Dev.hka_onHka_self, hidle']
    · rw [Dev.onReq_rbit, Dev.rbit_of_reg (Dev.hkaAnswer_reg _ _ _ _ (hkaStatus_ne_cmd u (by omega))), h2, Dev.hka_onHka_self]
      rfl
    · rw [Dev.onReq_fld, Dev.hkaAnswer_status _ _ _ _ (show _ < 4 by simp)]
  case injectRejected =>
    intro s src t u a code hcmd hu hu'
    have hword : hkaWord 1 u a code = hkaWord 1 u (a % 8) code := by rw [hkaWord, hkaWord, Nat.mod_mod]
    refine ⟨_, (s.cmdWrite_taken src t _ _ _ hcmd : execInject src t u a code s = _), ?_⟩
    rw [hword, Dev.hkaCmd_inject _ _ _ _ (by omega) (by omega), Dev.hkaInject_dropped _ _ _ _ hu hu']
    refine ⟨?_, ?_, ?_, ?_, writeTaken_answer s src _ (by simp)⟩
    · rw [Dev.hka_of_hkas (Dev.onReq_hkas ..), Dev.hkaAnswer_hka, Dev.hka_of_hkas (Dev.inc64_hkas ..), Dev.hka_taken]
    · rw [Dev.onReq_fld, Dev.hkaAnswer_status _ _ _ _ (show _ < 4 by simp)]
    · rw [Dev.onReq_fld, Dev.hkaAnswer_reason _ _ _ _ (show _ < 4 by simp) (show _ < 256 by simp)]
    · rw [Dev.reg64_of_reg _ (Dev.onReq_reg ..) (Dev.onReq_reg ..), Dev.reg64_of_reg _ (Dev.hkaAnswer_reg _ _ _ _ (by simp only [R.HKA_CNT_INJ_DROP, R.HKA_CMD]; omega))
        (Dev.hkaAnswer_reg _ _ _ _ (by simp only [R.HKA_CNT_INJ_DROP, R.HKA_CMD]; omega)), Dev.reg64_inc64_self,
        Dev.reg64_of_reg _ (Dev.accepted_reg _ _ _ _ (by simp only [R.HKA_CNT_INJ_DROP]; omega)) (Dev.accepted_reg _ _ _ _ (by simp only [R.HKA_CNT_INJ_DROP]; omega)),
        Dev.advanceTo_reg64]
  case injectionDone =>
    intro s t u a code xs halive hu hhka hgone
    refine ⟨_, s.injectionDone_eq t u a code xs halive hhka hgone, ?_⟩
    have hresult (f : HkaU → HkaU) : ((((s.dev.advanceTo t).burstShown u a code xs).onHka u f).hkaReport u).reg (R.HKA_INJ_RESULT u) =
        hkaResult (((List.range (2 ^ a)).map (fun i => xs.getD i 0)).sum / ((2 ^ a : Nat) : Int)) (inputOk u code) false false := by
      rw [Dev.hkaReport_reg _ _ (by simp only [R.HKA_INJ_RESULT, R.HKA_STATUS]; omega), Dev.onHka_reg, Dev.burstShown, Dev.reg_setReg_self]
    obtain ⟨hvalue, hvalid, -, -⟩ := bits_hkaResult (((List.range (2 ^ a)).map (fun i => xs.getD i 0)).sum / ((2 ^ a : Nat) : Int)) (inputOk u code) false false
    refine ⟨?_, ?_, ?_, sameMemory.withDev s _⟩
    · rw [Dev.hkaReport_hka, Dev.hka_onHka_self, Dev.burstShown, Dev.hka_of_hkas (Dev.setReg_hkas ..), Dev.hka_of_hkas (Dev.advanceTo_hkas ..), hhka]
    · rw [Dev.fld, hresult, hvalue]
    · rw [Dev.rbit, Dev.fld, hresult, hvalid, b2n_beq_one]
  case hkaCal =>
    intro s src t u hcmd hu hsense hgone hidle
    have hidle' : ((s.dev.advanceTo t).accepted src R.HKA_CMD (hkaWord 2 u 0 0)).hka u = {} := (Dev.hka_taken ..).trans hidle
    have hsense' : ((s.dev.advanceTo t).accepted src R.HKA_CMD (hkaWord 2 u 0 0)).senseMode u = false :=
      (Dev.senseMode_of_reg (by rw [Dev.accepted_reg _ _ _ _ (by simp only [R.STR_CTRL]; omega), Dev.advanceTo_reg])).trans hsense
    have hgone' : ((s.dev.advanceTo t).accepted src R.HKA_CMD (hkaWord 2 u 0 0)).isRemoved (.converter u) = false := by simpa [Dev.isRemoved] using hgone
    refine ⟨_, (s.cmdWrite_taken src t _ _ _ hcmd : execHkaCal src t u s = _), ?_⟩
    rw [Dev.hkaCmd_cal _ _ (by omega), Dev.hkaCal_taken _ _ hu hsense' hgone' hidle']
    obtain ⟨-, -, -, h3, -⟩ := Dev.hkaReport_shows (((s.dev.advanceTo t).accepted src R.HKA_CMD (hkaWord 2 u 0 0)).onHka u (fun q => { q with cal := true })) u
    refine ⟨?_, ?_, ?_, writeTaken_answer s src _ (by simp)⟩
    · rw [Dev.hka_of_hkas (Dev.onReq_hkas ..), Dev.hkaAnswer_hka, Dev.hkaReport_hka, Dev.hka_onHka_self, hidle']
    · rw [Dev.onReq_rbit, Dev.rbit_of_reg (Dev.hkaAnswer_reg _ _ _ _ (hkaStatus_ne_cmd u hu)), h3, Dev.hka_onHka_self]
    · rw [Dev.onReq_fld, Dev.hkaAnswer_status _ _ _ _ (show _ < 4 by simp)]
  case hkaCalWaits =>
    intro s src t u e n hcmd hu hsense hgone hrun
    have hrun' : ((s.dev.advanceTo t).accepted src R.HKA_CMD (hkaWord 2 u 0 0)).hka u = { run := some (e, n) } := (Dev.hka_taken ..).trans hrun
    have hsense' : ((s.dev.advanceTo t).accepted src R.HKA_CMD (hkaWord 2 u 0 0)).senseMode u = false :=
      (Dev.senseMode_of_reg (by rw [Dev.accepted_reg _ _ _ _ (by simp only [R.STR_CTRL]; omega), Dev.advanceTo_reg])).trans hsense
    have hgone' : ((s.dev.advanceTo t).accepted src R.HKA_CMD (hkaWord 2 u 0 0)).isRemoved (.converter u) = false := by simpa [Dev.isRemoved] using hgone
    refine ⟨_, (s.cmdWrite_taken src t _ _ _ hcmd : execHkaCal src t u s = _), ?_⟩
    rw [Dev.hkaCmd_cal _ _ (by omega), Dev.hkaCal_waits _ _ _ hu hsense' hgone' hrun']
    obtain ⟨-, -, -, -, h4, -⟩ := Dev.hkaReport_shows (((s.dev.advanceTo t).accepted src R.HKA_CMD (hkaWord 2 u 0 0)).onHka u (fun q => { q with calWait := true })) u
    refine ⟨?_, ?_, ?_, writeTaken_answer s src _ (by simp)⟩
    · rw [Dev.hka_of_hkas (Dev.onReq_hkas ..), Dev.hkaAnswer_hka, Dev.hkaReport_hka, Dev.hka_onHka_self, hrun']
    · rw [Dev.onReq_rbit, Dev.rbit_of_reg (Dev.hkaAnswer_reg _ _ _ _ (hkaStatus_ne_cmd u hu)), h4, Dev.hka_onHka_self]
    · rw [Dev.onReq_fld, Dev.hkaAnswer_status _ _ _ _ (show _ < 4 by simp)]
  case selfCalibrationDone =>
    intro s t u oc gc off gain halive hu hcal ho hg
    have hcal' : (s.dev.advanceTo t).hka u = { cal := true } := (Dev.hka_of_hkas (Dev.advanceTo_hkas ..) u).trans hcal
    obtain ⟨hhka, hremoved, htrim, hpassed⟩ := (s.dev.advanceTo t).calPassed_shows u oc gc off gain hcal' ho hg
    exact ⟨_, s.selfCalibrationDone_eq t u oc gc off gain halive hcal, hhka, hremoved, htrim, hpassed, sameMemory.withDev s _⟩
  case selfCalibrationFailed =>
    intro s t u oc gc off gain halive hu hcal hbad hroom
    have hcal' : (s.dev.advanceTo t).hka u = { cal := true } := (Dev.hka_of_hkas (Dev.advanceTo_hkas ..) u).trans hcal
    obtain ⟨hhka, hremoved, hlogged, hshown⟩ := (s.dev.advanceTo t).calFailed_shows u oc gc off gain hcal' hbad ((Dev.faultRoom_of_log (by simp) _).trans hroom)
    exact ⟨_, s.selfCalibrationDone_eq t u oc gc off gain halive hcal, hhka, hremoved, hlogged, hshown, sameMemory.withDev s _⟩

end Sys2Proof.Machine
end
